-- ==== Sys2Proof/Word.lean ====
section
/-!
DEFINITION. The word types of the device (SCP chapter) and the names of the agents that access its registers.
-/
namespace Sys2Proof

/-- A byte of memory. -/
abbrev Byte := BitVec 8
/-- A register word (Table PAG-1: register width 32 bits). -/
abbrev Word := BitVec 32
/-- A 64-bit word (64-bit registers, program words, scratchpad words). -/
abbrev DWord := BitVec 64

/-- The access sources of Table PAG-4, with the ID field each carries. -/
inductive Source
  | host
  | engine (n : Nat)
  | remote (node : Nat)
  | smbus
  | island
  | jtag
deriving DecidableEq, Repr

/-- The status codes of Table SCP-4 (R11). -/
inductive Status
  | ok | timeoutBest | expired | narResult | noClear | undersampled | superseded | backstop
  | abortHost | dataFault | sat | unitOut | sealed
deriving DecidableEq, Repr

/-- The service states of Table SCP-5 (R13). -/
inductive Svc
  | inService | draining | outOfService | testing | shadow | wearing
deriving DecidableEq, Repr

/-- The units that have a service state (R373): sweep lane groups, solver lane groups, charge arrays, engine clusters, aqueduct
links, and the node itself. -/
inductive SvcUnit
  | lane (g : Fin 8)
  | solver (g : Fin 16)
  | array (a : Fin 256)
  | cluster (c : Fin 4)
  | link (n : Fin 8)
  | node
deriving DecidableEq, Repr

/-- A work item of SHADOW as the shadowing unit has run it (R526): the outcome of its copy of the peer's work, the 16 reference codes of a
dedicated reference slot (R229), whether an item that another unit has compared agreed (R375, R377), or, on a peer node, the node in SHADOW and
the points of the next block of queries for it (R375). -/
inductive ShadowWork
  | copy (vals : List Int)
  | slot (codes : List Nat)
  | generated (same : Bool)
  | block (dst : Nat) (pts : List (Int × Int × Int))
deriving DecidableEq, Repr

/-- What the other port of a bank presents to the same word in the same bank cycle (R307, Table SPD-4): a plain read (0), a plain write
of 8 bytes with its data (1), or an atomic or partial write (2), and for how many cycles it has been presented. -/
structure BankMet where
  kind : Nat
  age  : Nat
  data : Nat
deriving DecidableEq, Repr

/-- A request on a bank port (Table SPD-6): device address, class and ID of the requester (Table SPD-7), tag, bank cycle, for how many
cycles it has been presented before (R307), SECURE context, the error that its read finds (0 none, 1 single-bit, 2 uncorrectable),
what the other port presents to the word, and whether that port presents a plain write to it again in the cycle in which a read that got
BUSY is repeated (R311, R312). -/
structure BankReq where
  addr   : Nat
  cls    : Nat
  id     : Nat
  tag    : Nat
  cyc    : Nat
  age    : Nat
  secure : Bool
  found  : Nat
  met    : Option BankMet
  again  : Bool := false
deriving DecidableEq, Repr

/-- How a request of an engine or of the host meets its bank (R306 to R312): tag, bank cycle, cycles presented before, the error that its
read finds, what the other port presents to the word, and whether a repeat of the read meets a write too. -/
structure BankAt where
  tag   : Nat
  cyc   : Nat
  age   : Nat
  found : Nat
  met   : Option BankMet
  again : Bool := false
deriving DecidableEq, Repr

/-- An Ethernet frame as received (R429): its 802.1Q VLAN, if it is tagged, and the MAC address it comes from. -/
structure Rx where
  tag : Option Nat
  mac : Nat
deriving DecidableEq, Repr

/-- One fine brick that a rehoming copy brings: its octant, its header value and its 1,024 bytes. -/
structure SentFine where
  octant : Nat
  value : Nat
  voxels : List Byte
deriving DecidableEq, Repr

/-- One region of a rehoming copy (R368): the layer, the directory index, the uniform value, the coarse brick's bytes (none for a
uniform region), and its fine bricks. -/
structure SentBrick where
  layer : Nat
  index : Nat
  value : Nat
  voxels : List Byte
  fines : List SentFine
deriving DecidableEq, Repr

end Sys2Proof
end

