-- ==== Sys2Proof/Syntax.lean ====
section
/-!
DEFINITION. The commands of the block: one constructor for every row of spec/opcode_table.json.  The table gives its rows no
operands, so each constructor carries what its rule says the step is about: who asks, which unit, and what the outside delivers.
-/
namespace Sys2Proof

/-- The commands and events of the device, one for each row of spec/opcode_table.json. -/
inductive Instr
  /-- REGISTER_WRITE (R42): A write to a register that has no row of its own takes effect by its access code. -/
  | registerWrite (src : Source) (addr : Nat) (be : Nat) (data : Nat) (wide : Bool)
  /-- LOW_WORD_READ (R39): A read of the low word of a 64-bit register latches the high word for that source. -/
  | lowWordRead (src : Source) (addr n : Nat) (parity : Bool)
  /-- RC_READ (R42): A read of an RC field returns its value and clears it. -/
  | rcRead (src : Source) (addr n : Nat) (parity : Bool)
  /-- PAGE_LOCK_WRITE (R45): A write to PAGE_LOCK sets new lock bits and is rejected if it sets none. -/
  | pageLockWrite (src : Source) (page : Nat) (v : Nat)
  /-- PAGE_REJECT_CNT_WRITE (R46): Any write clears the reject counter, before rejections of the same cycle count. -/
  | pageRejectCntWrite (src : Source) (page : Nat) (v : Nat)
  /-- PAGE_ENABLE_WRITE (R51): A write of PAGE_CTRL.ENABLE starts or stops the block taking new work. -/
  | pageEnableWrite (src : Source) (page : Nat) (v : Nat)
  /-- QUIESCE_REQ_WRITE (R52): A write of QUIESCE_REQ holds new work at the block input or releases it in arrival order. -/
  | quiesceReqWrite (src : Source) (page : Nat) (v : Nat)
  /-- BLOCK_READY (R477): A block finishes its initialisation after reset and its page reports READY. -/
  | blockReady (block : Nat)
  /-- VECTOR_UNMASK (R57): The host unmasks an MSI-X vector and a pending message is sent once. -/
  | vectorUnmask (vector : Fin 2048)
  /-- PASS_OPEN_REQUEST (R77): A pass open from the timer or a towpath event takes effect on a DCLK edge, superseding a running pass. -/
  | passOpenRequest
  /-- GATE_OPEN (R16): A gate opens, pinning the newest epoch, state records, batch and pass configuration. -/
  | gateOpen
  /-- PASS_DEADLINE (R17): The pass deadline passes on wall clock and the gate closes. -/
  | passDeadline
  /-- CLOSE_GATE_REQUEST (R25): A CLOSE_GATE firing takes effect on a DCLK edge and closes the running gate. -/
  | closeGateRequest
  /-- PASS_ABORT (R342): A write of HST_PASS_ABORT aborts the running pass with nothing committed. -/
  | passAbort (src : Source)
  /-- COMMIT (R22): Commit takes the robots in index order and commits each one's best path that passes the check. -/
  | passCommit
  /-- QUAD_TRANSITION (R60): A filtered change of encoder A or B moves the towpath counter. -/
  | quadTransition (tp : Fin 8) (a b : Bool) (stable : Nat)
  /-- ENC_LOSS (R61): The receiver of a quadrature input reports loss of signal and the counter holds. -/
  | encLoss (tp : Fin 8) (stable : Nat)
  /-- ENC_LOSS_END (R61): The signal returns and counting restarts from the current A/B state. -/
  | encLossEnd (tp : Fin 8) (a b : Bool) (stable : Nat)
  /-- SSI_POLL (R62): The SSI poll period expires and a read of the absolute encoder starts. -/
  | ssiPoll (tp : Fin 8)
  /-- SSI_READ_DONE (R62): An SSI read completes and the position is updated or the read is discarded. -/
  | ssiReadDone (tp : Fin 8) (word : Nat) (err busy : Bool)
  /-- INDEX_PULSE (R63): An index rising edge latches the position or makes it jump in SET_ONCE mode. -/
  | indexPulse (tp : Fin 8) (stable : Nat)
  /-- SET_POS_WRITE (R63): A write of TOW_TP_SET_POS loads the jump target and makes the position jump. -/
  | setPosWrite (src : Source) (tp : Fin 9) (v : Nat)
  /-- TP_CFG_WRITE (R85): A write of TOW_TP_CFG sets the mode or is refused for reserved values. -/
  | tpCfgWrite (src : Source) (tp : Fin 9) (v : Nat)
  /-- ENTRY_ARM (R68): A write of W1 with ARM set arms the entry with its staged words and starts its backstop. -/
  | entryArm (src : Source) (e : Fin 512) (w1 : Nat)
  /-- ENTRY_DISARM (R68): A write of W1 with ARM clear disarms the entry. -/
  | entryDisarm (src : Source) (e : Fin 512) (w1 : Nat)
  /-- ENTRY_FIRE (R69): An armed entry fires on its crossing and performs its action on the next tick. -/
  | entryFire (e : Fin 512)
  /-- ENTRY_BACKSTOP (R70): An entry's wall-clock backstop expires and it fires with status BACKSTOP. -/
  | entryBackstop (e : Fin 512)
  /-- PENDING_PULSE_START (R76): A pending pulse starts once the running sequence of its output completes. -/
  | pendingPulseStart (n : Fin 16)
  /-- PULSE_SEQUENCE_END (R75): A pulse sequence ends after its delay, pulse and two-tick gap. -/
  | pulseSequenceEnd (n : Fin 16)
  /-- PASS_TIMER (R79): The pass timer period expires and a pass open is made. -/
  | passTimer
  /-- TIMER_EN_WRITE (R79): A write setting TIMER_EN starts the pass timer one period later. -/
  | timerEnWrite (src : Source) (v : Nat)
  /-- CSI_LONG_PACKET (R89): A CSI-2 long packet is matched to a slot, unpacked and converted into the buffer. -/
  | csiLongPacket (rx : Fin 12) (hdr vc dt : Nat) (data : List Byte) (crcOk : Bool) (phy : Nat)
  /-- FRAME_START (R96): A Frame Start assigns a buffer, takes the stamp and extrinsics, or drops the frame by the trigger rule. -/
  | frameStart (rx : Fin 12) (hdr vc num phy : Nat)
  /-- FRAME_END (R97): A Frame End writes the frame header and hands the frame to fusion or leaves it pending. -/
  | frameEnd (rx : Fin 12) (hdr vc phy : Nat)
  /-- FRAME_TIMEOUT (R99): The Frame End does not arrive within ING_SL_FRAME_TO and the frame is dropped. -/
  | frameTimeout (k : Fin 24)
  /-- SLOT_ENABLE (R101): A write of EN = 1 checks the slot configuration and waits for the next Frame Start. -/
  | slotEnable (src : Source) (k : Fin 24)
  /-- SLOT_DISABLE (R103): A write of EN = 0 drops the open frame of the slot uncounted. -/
  | slotDisable (src : Source) (k : Fin 24)
  /-- REL (R98): A write of REL frees the oldest running buffer of an intensity slot. -/
  | slotRel (src : Source) (k : Fin 24)
  /-- DESKEW_BURST (R87): A deskew burst aligns each lane of a receiver with deskew enabled. -/
  | deskewBurst (rx : Fin 12) (ok : Bool) (phy : Nat)
  /-- FUSION_FRAME_START (R122): Fusion takes the next handed-over frame once the pools hold the reserve. -/
  | fusionFrameStart
  /-- FUSION_FRAME_DONE (R120): Fusion of a frame completes, updating the working epoch and freeing the buffer. -/
  | fusionFrameDone
  /-- LOAD_GO (R118): A write of LOAD_GO starts applying host load packets to the working epoch. -/
  | loadGo (src : Source)
  /-- LOAD_PACKET (R119): One load packet is applied or skipped after its application time. -/
  | loadPacket
  /-- CUT_REQUEST (R125): A cut is requested and fusion stops taking new frames, or the request merges into a running cut. -/
  | cutRequest (src : Source)
  /-- PROPAGATION_DONE (R126): Propagation of the dirty bricks completes after the running frame and load end. -/
  | propagationDone
  /-- EPOCH_PUBLISH (R125): The working epoch is published once at most four epochs stay alive. -/
  | epochPublish
  /-- CUT_DONE (R125): The region table and directories are copied to the new working epoch and fusion resumes. -/
  | cutDone
  /-- PIN_WRITE (R127): A write of WLD_PIN_n pins an alive epoch and releases the previous one. -/
  | pinWrite (src : Source) (n : Fin 4) (v : Nat)
  /-- POOL_INIT (R131): A write of POOL_INIT checks the memory configuration and starts building the pools. -/
  | poolInit (src : Source)
  /-- POOL_INIT_DONE (R131): Pool initialisation completes and working epoch 1 is set up. -/
  | poolInitDone
  /-- CAPTURE (R128): A CAPTURE command copies dynamic bricks in a box into an attached field. -/
  | attCapture (src : Source) (n : Fin 16)
  /-- RELEASE (R128): A RELEASE command frees an attached field's bricks and disables it. -/
  | attRelease (src : Source) (n : Fin 16)
  /-- ATT_DONE (R128): An attached-field command completes and its change waits for the next cut. -/
  | attDone (n : Fin 16)
  /-- BRICK_FETCH_DONE (R129): A brick cache miss is filled from a local or remote slot. -/
  | brickFetchDone (node : Option Nat) (fine : Bool) (slot line eps crc : Nat) (data : List Byte) (bad again : Bool)
  /-- LOAD_DESC (R139): A LOAD_DESC command reads and checks a robot description record. -/
  | loadDesc (src : Source) (r : Fin 4)
  /-- LOAD_TOOL (R139): A LOAD_TOOL command reads and checks a tool set record into a slot. -/
  | loadTool (src : Source) (r : Fin 4) (slot : Fin 8)
  /-- DESC_DONE (R139): A description load completes, staged for the next gate open or refused. -/
  | descDone (r : Fin 4)
  /-- TOOL_DONE (R139): A tool set load completes, staged or refused. -/
  | toolDone (r : Fin 4)
  /-- RS_PUT_WRITE (R140): A write of CND_R_RS_PUT makes a state record the robot's newest. -/
  | rsPutWrite (src : Source) (r : Fin 4) (v : Nat)
  /-- ROBOT_EN_WRITE (R134): A write of ROBOT_EN enables a robot with a valid description from the next gate open. -/
  | robotEnWrite (src : Source) (v : Nat)
  /-- HB_PUB (R149): A write of CND_R_HB_PUB publishes a host candidate batch after its checks. -/
  | hbPub (src : Source) (r : Fin 4) (count : Nat)
  /-- CANDIDATE_COMPLETE (R158): Seeding completes a candidate, from a host slot, a perturbation or a proposal. -/
  | candidateComplete (index : Nat)
  /-- CANDIDATE_SWEPT (R159): A lane group completes the last test of a candidate and takes the next one in rotation. -/
  | candidateSwept (g : Fin 8)
  /-- REDUCTION_FINAL (R176): The best and top-K per robot become final 2 µs after the last sweep or the stop. -/
  | reductionFinal
  /-- SECOND_REDUCTION_FINAL (R177): The second reduction builds each robot's commit list after the re-sweep. -/
  | secondReductionFinal
  /-- KNOWN_ANSWER_TEST (R180): The safety island injects its known-answer test into a lane group and the reduction tree every 1 ms. -/
  | knownAnswerTest (g : Fin 8) (ok : Bool)
  /-- PATH_DROP (R171): A write of SWP_R_PATH.DROP drops the robot's path in force from the next gate open. -/
  | pathDrop (src : Source) (r : Fin 4)
  /-- INSTALL (R186): An INSTALL command checks a problem slot and makes it resident. -/
  | solInstall (src : Source) (p : Fin 8192)
  /-- UNINSTALL (R186): An UNINSTALL command makes a problem not resident. -/
  | solUninstall (src : Source) (p : Fin 8192)
  /-- SOL_ABORT (R197): An ABORT command ends a problem's run with ABORT_HOST. -/
  | solAbort (src : Source) (p : Fin 8192)
  /-- UPD_GO (R187): An UPD_GO command starts applying an update list packet by packet. -/
  | updGo (src : Source)
  /-- UPD_DONE (R187): Application of an update list completes and UPD_DONE is raised. -/
  | updDone
  /-- SOL_LAUNCH (R199): A problem is launched and queued in its class, or completed at once. -/
  | solLaunch (src : Source) (p : Fin 8192) (bg : Bool)
  /-- PROBLEM_START (R199): A free lane group takes the head of the PASS or BACKGROUND queue and starts the run. -/
  | problemStart (g : Fin 16) (pre : Bool)
  /-- RUN_END (R195): A run ends by convergence, cap or ill-posed condition and keeps the best iterate;
  `corr` buffer errors were corrected in it, and `ue` says that one was uncorrectable (R203). -/
  | runEnd (g : Fin 16) (corr : Nat) (ue : Bool)
  /-- SOL_DEADLINE (R200): A problem's deadline passes, ending its run or retiring it unstarted. -/
  | solDeadline (p : Fin 8192)
  /-- RESULT_WRITTEN (R202): A run's result and record are written back to the problem slot. -/
  | resultWritten (p : Fin 8192)
  /-- SOL_INIT (R204): A write of SOL_CTRL.INIT checks the memory configuration and starts initialisation. -/
  | solInit (src : Source)
  /-- SOL_INIT_DONE (R204): Solver initialisation completes with no problem resident. -/
  | solInitDone
  /-- REGISTER (R214): A REGISTER command checks a model descriptor and starts programming its tiles. -/
  | chgRegister (src : Source) (m : Fin 1024)
  /-- RETIRE (R215): A RETIRE command makes a model not resident without writing cells. -/
  | chgRetire (src : Source) (m : Fin 1024)
  /-- SCAN (R227): A SCAN command queues a drift scan of an array. -/
  | chgScan (src : Source) (a : Fin 256)
  /-- REF_NOW (R224): A REF_NOW command makes a dedicated reference slot due on an array. -/
  | refNow (src : Source) (a : Fin 256)
  /-- CHG_REQUEST (R218): An evaluation request for a model is accepted for its arrays. -/
  | chgRequest
  /-- ARRAY_SLOT (R219): An array fills its next 110 ns slot by the first rule that applies. -/
  | arraySlot (a : Fin 256)
  /-- ROW_OPERATION_DONE (R222): A row operation ends when every selected cell verifies or fails. -/
  | rowOperationDone (a : Fin 256) (ok : Bool)
  /-- EVALUATION_COMPLETE (R220): An evaluation's outputs are written and its request may complete. -/
  | evaluationComplete (req idx : Nat) (crcOk : Bool)
  /-- CHG_REQUEST_DEADLINE (R221): An evaluation request's deadline passes and it completes EXPIRED or TIMEOUT_BEST. -/
  | chgRequestDeadline (req : Nat)
  /-- REF_IDLE_DUE (R224): An array runs no valid check for REF_IDLE_US and a dedicated reference slot falls due. -/
  | refIdleDue (a : Fin 256)
  /-- REFRESH_DEFER_END (R228): A die's sensors stay within TWIN for SETTLE seconds and refresh deferral ends. -/
  | refreshDeferEnd (die : Fin 4)
  /-- VPP_FAIL (R230): VPP_CA falls out of range and running row operations stop. -/
  | vppFail
  /-- VPP_RESTORED (R230): VPP_CA returns to range and row operations may start again. -/
  | vppRestored
  /-- TABLE_ECC (R230): An uncorrectable model-table error makes the model not READY. -/
  | tableEcc (m : Fin 1024)
  /-- CAL_WRITE (R237): A WRITE command checks a record image and commits it to its region. -/
  | calWrite (src : Source)
  /-- EXPORT (R241): An EXPORT command copies the whole store to memory. -/
  | calExport (src : Source)
  /-- RESTORE (R242): A RESTORE command writes the valid records of an exported image back. -/
  | calRestore (src : Source)
  /-- CAL_COMMAND_DONE (R237): A calibration store command completes and CMD_DONE is raised. -/
  | calCommandDone (corr : Nat)
  /-- FORCED_APPLY (R247): An array without an empty slot for APPLY_MAX leaves its next slot empty for the apply. -/
  | forcedApply (a : Fin 256)
  /-- CAL_JOB_TRIG (R248): A write of CAL_JOB_TRIG triggers a job step under the trigger rule. -/
  | calJobTrig (src : Source) (j : Fin 8)
  /-- CAL_JOB_STEP_START (R249): A job step starts, copying its template with SEQ and offering it to a basin. -/
  | calJobStepStart (j : Fin 8)
  /-- CAL_JOB_DONE (R249): A write of CAL_JOB_DONE with the step's SEQ ends the step. -/
  | calJobDone (src : Source) (j : Fin 8) (v : Nat)
  /-- CAL_JOB_TIMEOUT (R249): STEP_TO passes before the step ends and the step times out. -/
  | calJobTimeout (j : Fin 8)
  /-- BARGE_OFFER (R257): An offer is checked and accepted into a basin queue or lock list, or refused. -/
  | bargeOffer (osrc : Fin 7) (orig : Nat) (words : List Nat) (sec : Bool)
  /-- BARGE_START (R263): A ready barge is delivered to an engine, pre-empting one if allowed, unless its deadline has passed. -/
  | bargeStart
  /-- QUEUE_HEAD_EXPIRY (R267): A queue head whose deadline has passed is retired EXPIRED. -/
  | queueHeadExpiry (b : Fin 32)
  /-- ENGINE_WATCHDOG (R276): A barge stays in service beyond DSP_WD_US and its engine is wedged. -/
  | engineWatchdog (e : Fin 64)
  /-- FLUSH (R277): A write of FLUSH retires every unstarted barge of a basin with ABORT_HOST. -/
  | basinFlush (src : Source) (b : Fin 32)
  /-- TAKE_TIMEOUT (R265): A blocked TAKE's timeout passes and TAKE returns empty. -/
  | takeTimeout (e : Fin 64)
  /-- PROGRAM_LOAD (R283): A GO write checks a program load and reads its image. -/
  | programLoad (src : Source)
  /-- PROGRAM_LOAD_DONE (R284): A held or checked load writes its image to the program store. -/
  | programLoadDone
  /-- NOP (R288): Does nothing. -/
  | opNop (e : Fin 64) (ue : Bool)
  /-- ADD (R288): Adds two registers. -/
  | opAdd (e : Fin 64) (ue : Bool)
  /-- SUB (R288): Subtracts two registers. -/
  | opSub (e : Fin 64) (ue : Bool)
  /-- AND (R288): Bitwise and of two registers. -/
  | opAnd (e : Fin 64) (ue : Bool)
  /-- OR (R288): Bitwise or of two registers. -/
  | opOr (e : Fin 64) (ue : Bool)
  /-- XOR (R288): Bitwise exclusive or of two registers. -/
  | opXor (e : Fin 64) (ue : Bool)
  /-- SHL (R288): Shifts a register left. -/
  | opShl (e : Fin 64) (ue : Bool)
  /-- SHR (R288): Shifts a register right logically. -/
  | opShr (e : Fin 64) (ue : Bool)
  /-- SAR (R288): Shifts a register right arithmetically. -/
  | opSar (e : Fin 64) (ue : Bool)
  /-- ADDI (R288): Adds a sign-extended immediate. -/
  | opAddi (e : Fin 64) (ue : Bool)
  /-- ANDI (R288): Ands with a zero-extended immediate. -/
  | opAndi (e : Fin 64) (ue : Bool)
  /-- LI (R288): Loads a sign-extended immediate. -/
  | opLi (e : Fin 64) (ue : Bool)
  /-- LIH (R288): Loads the immediate into the high half of a register. -/
  | opLih (e : Fin 64) (ue : Bool)
  /-- LD (R289): Loads a 64-bit word from the scratchpad or, in SECURE context, the sealed pound. -/
  | opLd (e : Fin 64) (ue : Bool) (q : BankAt)
  /-- ST (R289): Stores a 64-bit word. -/
  | opSt (e : Fin 64) (ue : Bool) (q : BankAt)
  /-- REGR (R289): Reads a register word as access source 1. -/
  | opRegr (e : Fin 64) (ue : Bool)
  /-- REGW (R289): Writes a register word as access source 1. -/
  | opRegw (e : Fin 64) (ue : Bool)
  /-- AADD (R288): Atomically adds to a 64-bit word. -/
  | opAadd (e : Fin 64) (ue : Bool) (q : BankAt)
  /-- AADD2 (R288): Atomically adds to each 32-bit half of a word. -/
  | opAadd2 (e : Fin 64) (ue : Bool) (q : BankAt)
  /-- ASWAP (R288): Atomically replaces a word. -/
  | opAswap (e : Fin 64) (ue : Bool) (q : BankAt)
  /-- FADD (R288): Atomically adds and returns the old word. -/
  | opFadd (e : Fin 64) (ue : Bool) (q : BankAt)
  /-- FADD2 (R288): Atomically adds per half and returns the old word. -/
  | opFadd2 (e : Fin 64) (ue : Bool) (q : BankAt)
  /-- FSWAP (R288): Atomically replaces a word and returns the old one. -/
  | opFswap (e : Fin 64) (ue : Bool) (q : BankAt)
  /-- BEQ (R288): Branches if two registers are equal. -/
  | opBeq (e : Fin 64) (ue : Bool)
  /-- BNE (R288): Branches if two registers differ. -/
  | opBne (e : Fin 64) (ue : Bool)
  /-- BLT (R288): Branches if signed less than. -/
  | opBlt (e : Fin 64) (ue : Bool)
  /-- BGE (R288): Branches if signed greater or equal. -/
  | opBge (e : Fin 64) (ue : Bool)
  /-- JMP (R288): Branches always. -/
  | opJmp (e : Fin 64) (ue : Bool)
  /-- BSTAT (R288): Branches on a status bit selected from the immediate. -/
  | opBstat (e : Fin 64) (ue : Bool)
  /-- SETUP_SWP (R291): Reads and checks an SWP descriptor and binds it to a handle. -/
  | opSetupSwp (e : Fin 64) (ue : Bool)
  /-- SETUP_SOL (R291): Reads and checks a SOL descriptor and binds it to a handle. -/
  | opSetupSol (e : Fin 64) (ue : Bool)
  /-- SETUP_CHG (R291): Reads and checks a CHG descriptor and binds it to a handle. -/
  | opSetupChg (e : Fin 64) (ue : Bool)
  /-- SETUP_FUS (R291): Reads and checks a FUS descriptor and binds it to a handle. -/
  | opSetupFus (e : Fin 64) (ue : Bool)
  /-- SETUP_DMA (R291): Reads and checks a DMA descriptor and binds it to a handle. -/
  | opSetupDma (e : Fin 64) (ue : Bool)
  /-- LAUNCH (R291): Starts the work bound to a set handle. -/
  | opLaunch (e : Fin 64) (ue : Bool)
  /-- WAIT (R291): Blocks until a handle completes and returns its completion word. -/
  | opWait (e : Fin 64) (ue : Bool)
  /-- WAITANY (R288): Blocks until any of the named launched handles completes. -/
  | opWaitany (e : Fin 64) (ue : Bool)
  /-- ENQ (R296): Offers a descriptor to the dispatcher as an engine offer. -/
  | opEnq (e : Fin 64) (ue : Bool)
  /-- TAKE (R297): Takes a barge from PULL basins or blocks until one is ready. -/
  | opTake (e : Fin 64) (ue : Bool)
  /-- YIELD (R298): Returns the barge to its basin queue to restart later. -/
  | opYield (e : Fin 64) (ue : Bool)
  /-- POST (R299): Posts the barge's completion after its launched work ends. -/
  | opPost (e : Fin 64) (ue : Bool)
  /-- POSTT (R297): Posts the completion of the barge given by TAKE. -/
  | opPostt (e : Fin 64) (ue : Bool)
  /-- TIME (R288): Reads W64 into a register. -/
  | opTime (e : Fin 64) (ue : Bool)
  /-- SELF (R288): Reads a field of the running barge's identity. -/
  | opSelf (e : Fin 64) (ue : Bool)
  /-- HANDLE_COMPLETE (R295): A launched unit's work ends and its handle becomes done. -/
  | handleComplete (e : Fin 64) (h : Fin 8)
  /-- BANK_READ (R308): A bank takes a read request and returns data two cycles later. -/
  | bankRead (q : BankReq)
  /-- BANK_WRITE (R308): A bank takes a full or partial write. -/
  | bankWrite (q : BankReq) (be data : Nat)
  /-- BANK_ADD (R308): A bank performs an atomic 64-bit add, with or without fetch. -/
  | bankAdd (q : BankReq) (data : Nat) (fetch : Bool)
  /-- BANK_ADD2 (R308): A bank performs an atomic add of two 32-bit halves. -/
  | bankAdd2 (q : BankReq) (data : Nat) (fetch : Bool)
  /-- BANK_SWAP (R308): A bank performs an atomic swap. -/
  | bankSwap (q : BankReq) (data : Nat) (fetch : Bool)
  /-- ECC_WRITEBACK (R304): A corrected word is written back in a cycle when neither port uses it. -/
  | eccWriteback (addr cyc : Nat)
  /-- SCRUB_READ (R314): The scrubber reads a word through port B in an idle cycle or takes one after 64. -/
  | scrubRead (q : BankReq)
  /-- SEAL_OPEN (R318): An OPEN write by the safety island takes the pound to OPEN when no lock reason stands. -/
  | sealOpen (src : Source)
  /-- SEAL_LOCK (R318): A LOCK write sets the CMD lock reason. -/
  | sealLock (src : Source)
  /-- SEAL_UNLOCK (R318): An UNLOCK write clears the CMD lock reason. -/
  | sealUnlock (src : Source)
  /-- SEAL_WIPE (R319): A WIPE write starts a wipe with cause COMMAND. -/
  | sealWipe (src : Source)
  /-- WIPE_DONE (R320): The wipe's compare passes and the pound enters WIPED, or it wipes again or fails. -/
  | wipeDone (failed : Option Nat)
  /-- INLET_DOORBELL (R333): A doorbell write is accepted whole with a basin reservation or refused. -/
  | inletDoorbell (src : Source) (n : Fin 64) (v : Nat)
  /-- INLET_ENTRY_FETCHED (R334): Fetched inlet entries arrive and are offered to the dispatcher. -/
  | inletEntryFetched (n : Fin 64) (entries : List (List Nat)) (failed : Bool)
  /-- INLET_EN_WRITE (R335): A write of inlet EN enables the ring or clears its fault and reservations. -/
  | inletEnWrite (src : Source) (n : Fin 64) (v : Nat)
  /-- CQ_CI_WRITE (R337): A write of a completion ring's CI frees records and drains the overflow store. -/
  | cqCiWrite (src : Source) (n : Fin 64) (v : Nat)
  /-- CQ_COALESCE_TIMER (R338): COAL_US passes since the first unsignalled record and the ring sends its message. -/
  | cqCoalesceTimer (n : Fin 64)
  /-- DMA_DOORBELL (R343): A doorbell on a host DMA channel queues descriptors. -/
  | dmaDoorbell (src : Source) (c : Fin 8) (v : Nat)
  /-- DMA_DESCRIPTOR_DONE (R344): A host DMA transfer ends and its descriptor status is written. -/
  | dmaDescriptorDone (c : Fin 8) (words : List Nat) (data : List Byte) (failed part : Bool)
  /-- POISONED_TLP (R346): A received write with poisoned data is dropped and reported. -/
  | poisonedTlp (failed : Bool)
  /-- HOT_RESET (R347): A hot reset, FLR or link down resets only the host interface. -/
  | hotReset (down : Bool)
  /-- PCIE_LINK_UP (R348): The PCIe link reaches L0 and the HST pages become ready. -/
  | pcieLinkUp (speed width : Nat)
  /-- LINK_ENABLE (R377): A link with EN and FABRIC_EN set enters TESTING and starts training. -/
  | linkEnable (src : Source) (n : Fin 8) (v : Nat)
  /-- LINK_TRAINING_DONE (R353): Link training completes at full or half width, or fails. -/
  | linkTrainingDone (n : Fin 8) (lanes : Nat)
  /-- LINK_TEST_DONE (R377): A link's test pattern period ends and it passes to SHADOW or fails. -/
  | linkTestDone (n : Fin 8) (ok : Bool)
  /-- LINK_DOWN (R354): A link goes down after failed resends or loss of lane lock. -/
  | linkDown (n : Fin 8)
  /-- REMOTE_READ (R361): A remote read request arrives and is performed or refused. -/
  | remoteRead (l : Fin 8) (node : Fin 128) (tag addr len : Nat)
  /-- REMOTE_WRITE (R361): A remote write request arrives and is performed or refused. -/
  | remoteWrite (l : Fin 8) (node : Fin 128) (tag addr : Nat) (data : List Byte)
  /-- REMOTE_OFFER (R364): A remote 64-byte write to the offer window is offered to the dispatcher. -/
  | remoteOffer (l : Fin 8) (node : Fin 128) (tag : Nat) (words : List Nat)
  /-- READ_RESPONSE (R362): A read response ends a remote read, reissued once on failure. -/
  | readResponse (l : Fin 8) (node : Fin 128) (tag status : Nat) (data : List Byte)
  /-- WRITE_RESPONSE (R362): A write or offer response ends the request. -/
  | writeResponse (l : Fin 8) (node : Fin 128) (tag status code : Nat)
  /-- REQUEST_TIMEOUT (R362): A remote request gets no response within AQD_REQ_TO. -/
  | requestTimeout (tag : Nat)
  /-- HELLO (R353): A HELLO message arrives with the peer's identity and topology. -/
  | helloMsg (l : Fin 8) (node : Fin 128) (plink : Fin 8) (ox oy oz corr : Nat)
  /-- LSTATE (R359): An LSTATE message changes the routes within 5 µs. -/
  | lstate (l : Fin 8) (node : Fin 128) (links : Nat) (inSvc : Bool)
  /-- PINSET (R367): A PINSET message updates the epochs a node pins remotely. -/
  | pinset (l : Fin 8) (node : Fin 128) (epochs : List Nat)
  /-- CUT_REQ (R369): A CUT_REQ reaches the coordinator, which merges requests and broadcasts PREPARE. -/
  | cutReq (l : Fin 8) (node : Fin 128)
  /-- PREPARE (R369): A PREPARE makes a node run cut steps 1 and 2 and answer READY or WAITING. -/
  | prepareMsg (l : Fin 8) (node : Fin 128) (epoch : Nat) (merged : Bool)
  /-- READY_MSG (R369): A READY answer reaches the coordinator, which commits once all nodes are ready. -/
  | readyMsg (l : Fin 8) (node : Fin 128) (epoch : Nat)
  /-- WAITING_MSG (R369): A WAITING answer tells the coordinator a node cannot yet publish. -/
  | waitingMsg (l : Fin 8) (node : Fin 128) (epoch : Nat)
  /-- CUT_COMMIT_MSG (R369): A COMMIT makes a node send its deltas. -/
  | cutCommitMsg (l : Fin 8) (node : Fin 128) (epoch : Nat)
  /-- COMMITTED (R370): A COMMITTED answer makes a new coordinator send COMMIT again. -/
  | committedMsg (l : Fin 8) (node : Fin 128) (epoch : Nat)
  /-- DELTA (R369): A DELTA message carries changed directory entries of homed regions. -/
  | deltaMsg (l : Fin 8) (node : Fin 128) (pairs : List (Nat × Nat × Nat))
  /-- DELTA_END (R369): Once DELTA_END has arrived from every home, the node merges and publishes the epoch. -/
  | deltaEnd (l : Fin 8) (node : Fin 128) (epoch : Nat)
  /-- NODE_LOST_MSG (R372): A NODE_LOST message removes a node from the fabric. -/
  | nodeLostMsg (l : Fin 8) (node : Fin 128) (lost : Fin 128)
  /-- SYNC_REQ (R375): A SYNC_REQ makes a home answer with its directory entries. -/
  | syncReq (l : Fin 8) (node : Fin 128) (regions : List Nat)
  /-- SHADOW_Q (R375): A SHADOW_Q block of field queries is evaluated and compared by a rejoining node. -/
  | shadowQ (l : Fin 8) (node : Fin 128) (epoch : Nat) (pts : List (Int × Int × Int)) (res : List Nat)
  /-- NODE_TIMEOUT (R372): No packet arrives from a node for AQD_NODE_TO and it is lost. -/
  | nodeTimeout (node : Fin 128)
  /-- HELLO_TIMER (R372): Every 10 µs a HELLO is sent on each link that is up. -/
  | helloTimer
  /-- PINSET_TIMER (R367): At least every 100 µs a node resends its pin set. -/
  | pinsetTimer
  /-- CUT_TIMEOUT (R370): A node does not answer a PREPARE within CUT_TO and is declared lost. -/
  | cutTimeout (node : Fin 128)
  /-- REHOME_COPY_DONE (R368): A rehomed region's bricks finish copying to the new home. -/
  | rehomeCopyDone (r : Fin 2048) (bricks : List SentBrick)
  /-- NODE_TEST_TIMEOUT (R375): No enabled link reaches service within 10 ms and the node test fails. -/
  | nodeTestTimeout
  /-- SVC_REQUEST (R373): A write of a SVC_REQ register changes a unit's service state where a transition allows. -/
  | svcRequest (src : Source) (u : SvcUnit) (v : Nat)
  /-- UNIT_TEST_DONE (R373): A unit's TESTING test completes and it moves to SHADOW or OUT_OF_SERVICE. -/
  | unitTestDone (u : SvcUnit) (ok : Bool)
  /-- SHADOW_ITEM (R526): A shadow work item completes on both units and is compared and counted. -/
  | shadowItem (u : SvcUnit) (w : ShadowWork)
  /-- ARM (R382): A write of SAF_CTRL.ARM checks the conditions and arms the safety island. -/
  | safArm (src : Source)
  /-- TELEGRAM_SUBMIT (R383): The write of an inbox CRC word submits a mooring telegram for checking. -/
  | telegramSubmit (src : Source) (r : Fin 4) (v : Nat)
  /-- TELEGRAM_CHECK (R384): A submitted telegram is checked and accepted or rejected. -/
  | telegramCheck (r : Fin 4)
  /-- ROBOT_STALE (R385): No telegram is accepted for 3 controller cycles and the robot becomes stale. -/
  | robotStale (r : Fin 4)
  /-- VERIFY_TICK (R391): A verification tick forms the corridors and offers the mooring barge. -/
  | verifyTick
  /-- MOORING_LANE_GO (R391): A write of SAF_ML_CMD by engine 63 launches the mooring lane. -/
  | mooringLaneGo (src : Source)
  /-- MOORING_LANE_DONE (R391): The mooring lane's two passes complete and the island judges the corridors. -/
  | mooringLaneDone (same : Bool)
  /-- SAF_ACK (R398): A write of SAF_ACK with the key starts restart counting. -/
  | safAck (src : Source) (v : Nat)
  /-- TEST_PULSE_START (R395): A stop channel's 20 ms test pulse goes low. -/
  | testPulseStart (c : Fin 2)
  /-- TEST_PULSE_END (R395): A test pulse ends after 300 µs and the channel rises. -/
  | testPulseEnd (c : Fin 2)
  /-- READBACK_CHECK (R395): FB_DLY_US after an edge the readback is checked against the output. -/
  | readbackCheck (c : Fin 2) (fb : Bool)
  /-- ML_KAT (R399): Every 1 ms the mooring lane runs its known corridor test. -/
  | mlKat (ok : Bool)
  /-- RED_KAT (R399): Every 1 ms the reduction tree runs its known-answer test. -/
  | redKat (ok : Bool)
  /-- ENG_WD (R399): The mooring barge does not post within 900 µs and engine 63 is wedged. -/
  | engWd
  /-- ISL_WD (R399): The island firmware fails to service its watchdog and the hardware path stops the channels. -/
  | islWd
  /-- LOCKSTEP (R399): The two island cores disagree and the hardware path stops the channels. -/
  | safLockstep
  /-- SRAM_UE (R399): An uncorrectable island SRAM error is found and the device stops. -/
  | sramUe (ce : Bool)
  /-- XTAL (R399): The crystal and REFCLK disagree beyond ±2 % and the hardware path stops. -/
  | safXtal
  /-- VOLT (R399): A supply window monitor trips and the hardware path stops. -/
  | safVolt
  /-- CLKMON (R399): A datapath clock measures outside ±10 % and the device stops. -/
  | safClkmon
  /-- TEMP (R399): Sensor 47 exceeds 110 °C and the island stops. -/
  | safTemp (reading : Int)
  /-- CONVERSION_CYCLE (R405): Every 100 µs all die sensors are converted and the throttle and trip are judged. -/
  | conversionCycle (raw : List Int) (bad : List Nat)
  /-- THROTTLE_FALL (R410): T_max stays below the fall threshold for 1 ms and the level falls by one. -/
  | throttleFall
  /-- NTC_CONVERSION (R408): Every 10 ms the coolant thermistors are converted and checked. -/
  | ntcConversion (rin rout : Option Nat)
  /-- KEEP_WARM_ADJUST (R414): Every 1 ms each die's heater power is adjusted toward the setpoint. -/
  | keepWarmAdjust
  /-- KW_SHORT (R415): Heaters stand at their limit for 10 s below the setpoint and KW_SHORT is raised. -/
  | kwShort (die : Fin 5)
  /-- RTH_UPDATE (R417): Every 100 ms the thermal-resistance estimate is formed and compared. -/
  | rthUpdate
  /-- COOLING_DEGRADED (R418): HOLD_S × 10 consecutive exceeding updates set DEGRADED. -/
  | coolingDegraded
  /-- DEGRADED_CLEAR (R418): HOLD_S × 10 consecutive non-exceeding updates clear DEGRADED. -/
  | degradedClear
  /-- LOOP_UPDATE (R422): Every 1 ms a loop controller selects its target and adjusts its drive. -/
  | loopUpdate (l : Fin 2) (sense : List Nat) (volts : Nat) (full : Bool)
  /-- LOOP_FAULT (R425): A deviation or unreachable high signal for 50 updates latches a loop fault. -/
  | loopFault (l : Fin 2)
  /-- CLR_FAULT (R425): A write of CLR_FAULT clears a latched loop fault. -/
  | clrFault (src : Source) (l : Fin 2)
  /-- GPIO_SET (R428): A write of FIO_GPIO_SET sets output bits. -/
  | gpioSet (src : Source) (v : Nat)
  /-- GPIO_CLR (R428): A write of FIO_GPIO_CLR clears output bits. -/
  | gpioClr (src : Source) (v : Nat)
  /-- GPIO_EDGE (R428): A filtered edge on a GPIO input raises its interrupt. -/
  | gpioEdge (n : Fin 16) (level : Bool) (stood : Nat)
  /-- ARP_REQUEST (R429): An ARP request for the device's address is answered. -/
  | arpRequest (r : Rx) (from_ ip : Nat)
  /-- ICMP_ECHO (R429): An ICMP echo request is answered. -/
  | icmpEcho (r : Rx) (from_ ip : Nat) (data : List Byte)
  /-- HEARTBEAT (R430): Every HB_S seconds a HEARTBEAT message is sent. -/
  | heartbeat
  /-- MESSAGE_SEND (R432): A queued event message is sent, paced at one per 10 µs. -/
  | messageSend
  /-- RETRANSMIT (R432): RETX_MS passes without an ACK and the message is resent or dropped. -/
  | retransmit (seq : Nat)
  /-- ACK (R433): A received ACK is verified and removes its message from the queue. -/
  | fleetAck (r : Rx) (from_ : Nat) (bytes : List Byte)
  /-- KEY_RELOAD (R434): A write of KEY_RELOAD makes the island reload the fleet report key. -/
  | keyReload (src : Source)
  /-- ARP_RETRY (R435): Every 1 s an unresolved destination is resolved again. -/
  | arpRetry
  /-- SGMII_LINK_CHANGE (R435): The SGMII link goes up or down. -/
  | sgmiiLinkChange (up : Bool) (speed : Nat)
  /-- MDIO_GO (R439): A write of MGT_MDIO.GO runs one clause 22 access. -/
  | mdioGo (src : Source) (v answer : Nat)
  /-- SET_ADDR (R436): An SMBus SET_ADDR sets the register offset. -/
  | setAddr (code addr count : Nat) (pec : Bool)
  /-- SMBUS_READ (R436): An SMBus READ returns a register word and advances the offset. -/
  | smbusRead (count : Nat) (pec : Bool)
  /-- SMBUS_WRITE (R436): An SMBus WRITE writes a register word or is rejected. -/
  | smbusWrite (v count : Nat) (pec : Bool)
  /-- SMBUS_STATUS (R436): An SMBus STATUS read returns the status byte. -/
  | smbusStatus (pec : Bool)
  /-- ALERT_RESPONSE (R437): The device answers the Alert Response Address with its own address. -/
  | alertResponse
  /-- SMBUS_TIMEOUT (R515): SCL held low for 25 to 35 ms resets the SMBus interface. -/
  | smbusTimeout
  /-- BOOT_DONE (R444): Secure boot accepts a slot or fails both slots. -/
  | bootDone (a b : Option (List Byte)) (mooring : Nat)
  /-- LC_ADVANCE (R448): An LC_ADVANCE command moves the life-cycle state forward and wipes the pound. -/
  | lcAdvance (src : Source) (key : Nat)
  /-- IMPORT (R452): An IMPORT command writes an import record's data to the pound. -/
  | secImport (src : Source)
  /-- SEAL (R452): A SEAL command writes a sealed blob of a pound range. -/
  | secSeal (src : Source)
  /-- UNSEAL (R452): An UNSEAL command writes a blob's data to the pound. -/
  | secUnseal (src : Source)
  /-- OTP_WRITE (R441): An OTP_WRITE command programs an OTP field. -/
  | otpWrite (src : Source) (key : Nat)
  /-- SVN_COMMIT (R446): An SVN_COMMIT raises SVN_MIN to the running image's SVN. -/
  | svnCommit (src : Source)
  /-- HU_TEST (R457): An HU_TEST command starts a test discharge. -/
  | huTest (src : Source)
  /-- SEC_COMMAND_DONE (R459): A security command completes and CMD_DONE is raised. -/
  | secCommandDone (otpBad : Bool)
  /-- TAMPER (R450): A mesh, voltage, clock or temperature tamper event is detected. -/
  | tamperEvent (src : Fin 4) (fires live : Bool)
  /-- HOLDUP_JUDGEMENT (R456): Every 100 µs the hold-up gauges are judged and a disagreement locks or wipes. -/
  | holdupJudgement (v charge : Nat)
  /-- TEST_DISCHARGE_DECISION (R457): A test discharge confirms or fails the hold-up energy. -/
  | testDischargeDecision (before after : Nat)
  /-- POWER_LOSS (R458): A supply loss switches to hold-up power and wipes the pound. -/
  | powerLoss
  /-- POWER_ON (R466): All rails stand in tolerance for 2 ms with REFCLK present and power-on reset releases. -/
  | powerOn (node smb : Nat) (bad : List Nat) (corr : Nat) (seq : Option Nat) (testEn : Bool)
  /-- BROWNOUT (R466): A rail stays below 88 % for 5 µs and the device enters power-on reset. -/
  | brownout (r : Fin 13)
  /-- RAIL_OUT_OF_TOLERANCE (R466): A rail leaves its tolerance and its flag is set. -/
  | railOutOfTolerance (r : Fin 13) (high : Bool)
  /-- RAIL_TELEMETRY (R467): Every 100 µs every rail's voltage and current are measured. -/
  | railTelemetry (v cur : List Nat)
  /-- FULL_RST_N (R472): FULL_RST_N low on 10 consecutive samples starts a full reset. -/
  | fullRstN
  /-- SYS_RESET (R472): A write of SYS_RESET with the key starts a full reset. -/
  | sysReset (src : Source) (v : Nat)
  /-- FULL_RESET_RELEASE (R473): 100 µs after the trigger every domain is released and start-up runs. -/
  | fullResetRelease (node smb : Nat) (bad : List Nat) (corr : Nat)
  /-- PLL_LOST (R470): A PLL loses lock and its domains stop or its link goes down. -/
  | pllLost (n : Fin 19)
  /-- REF_LOST (R470): REFCLK is lost and every derived PLL loses lock. -/
  | refLost
  /-- WEDGE (R476): A page stays quiesced and busy for SYS_QUIESCE_TO and is reported as a wedge candidate. -/
  | wedgeReport (t : Nat)
  /-- SYN_TICK (R64): While SYN_RUN is 1, towpath 8 advances by TOW_SYN_STEP / 2^24 counts on every 10 ns tick, which can cross entries and re-arm REARM entries. -/
  | synTick
  /-- SOT_ERR (R105): A receiver finds a start-of-transmission sync error, counts it in ING_RX_SOT_ERR and raises SOT_ERR. -/
  | sotErr (rx : Fin 12) (phy : Nat)
  /-- PACKET_RESEND (R354): A packet that fails its CRC or carries an uncorrectable FEC codeword is sent again from the retry buffer and counted in AQD_L_RETRY. -/
  | packetResend (n : Fin 8) (uncorr : Bool) (acks corr : Nat)
  /-- SYNC_ANSWER (R375): A home's answer to SYNC_REQ arrives, and the rejoining node builds its working directories from the full directory entries. -/
  | syncAnswer (l : Fin 8) (node : Fin 128) (epoch : Nat) (entries : List (Nat × Nat × Nat))
  /-- FEEDBACK_DISAGREE (R395): SAF_FBn disagrees with its output for longer than FB_DLY_US outside a commanded edge, or leaves low while the channels are de-energised, and PULSE is raised. -/
  | feedbackDisagree (c : Fin 2) (fb : Bool)
  /-- REFCLK_RETURN (R470): REFCLK comes back within ±25 % of 10 ns and CLK_REF.PRESENT sets again, and the derived domains stay stopped until a full reset. -/
  | refclkReturn
  /-- RAIL_RETURN (R466): A rail comes back within its tolerance and its LOW or HIGH flag and PWR_STAT.ALL_GOOD return. -/
  | railReturn (r : Fin 13)
  /-- ARP_REPLY (R435): An ARP reply resolves the fleet manager or the gateway, sets MGT_STAT.RESOLVED and lets queued messages be sent. -/
  | arpReply (r : Rx) (ip : Nat)
  /-- UNSUPPORTED_FRAME (R429): A received frame that the port does not support is dropped and counted in MGT_RX_DROP. -/
  | unsupportedFrame
  /-- BAR4_ACCESS (R330): A host read or write through BAR4 reaches HBM at the window offset, or reads zero and drops the write beyond HBM and counts it. -/
  | bar4Access (off : Nat) (wr : Option (List Byte)) (n : Nat) (errs : List (Nat × Bool))
  /-- BAR2_UNMAPPED (R329): A host BAR2 access from 0x0600_8100 to 0x07FF_FFFF reads zero, has no write effect, increments HST_BAR2_UNMAP and records BAR2_UNMAPPED. -/
  | bar2Unmapped (off : Nat) (wr : Option (List Byte)) (n : Nat) (qs : List BankAt)
  /-- SLOT_RELEASE (R124): The background release of a retired epoch's slots returns them to the free lists at up to 64 slots per µs, after their cache lines are invalidated. -/
  | slotRelease (n : Nat)
  /-- TEST_DISCHARGE_START (R457): A test discharge deferred by the 10 ms spacing starts once 10 ms have passed since the last test ended. -/
  | testDischargeStart
deriving DecidableEq, Repr

end Sys2Proof
end

