-- ==== Sys2Proof/Decode.lean ====
section
/-!
DEFINITION. Words to commands.  The rows of spec/opcode_table.json give no bits, so no word spells a command.
-/
namespace Sys2Proof

/-- The command that a word of `nbits` bits spells: none, since no row of the table has bits. -/
def decodeTableWord (_nbits _w : Nat) : Option Instr := none

end Sys2Proof
end

