-- ==== Sys2Proof/Machine/Bits.lean ====
section
/-!
DEFINITION. Bit fields of numbers, two's complement, the sparse canonical tables that hold registers and memory, and the
small list helpers the meanings use.
-/
namespace Sys2Proof.Machine

/-- Bits [lo+len-1 : lo] of a number. -/
def fld (w lo len : Nat) : Nat := (w / 2 ^ lo) % 2 ^ len

/-- Bit `i` of a number. -/
def tbit (w i : Nat) : Bool := (w / 2 ^ i) % 2 == 1

/-- `w` with bits [lo+len-1 : lo] replaced by `v`. -/
def putFld (w lo len v : Nat) : Nat := w - fld w lo len * 2 ^ lo + (v % 2 ^ len) * 2 ^ lo

/-- `w` with bit `i` set to `b`. -/
def putBit (w i : Nat) (b : Bool) : Nat := putFld w i 1 (if b then 1 else 0)

/-- The signed value of the low `n` bits (two's complement). -/
def sgn (n w : Nat) : Int := if tbit w (n - 1) then (w % 2 ^ n : Nat) - (2 ^ n : Nat) else ((w % 2 ^ n : Nat) : Int)

/-- The `n`-bit two's complement code of an integer. -/
def enc (n : Nat) (v : Int) : Nat := (v % (2 ^ n : Nat)).toNat

/-- `v` limited to lie between `lo` and `hi`. -/
def clampI (lo hi v : Int) : Int := if v < lo then lo else if hi < v then hi else v

/-- Addition that stops at `top`. -/
def satAdd (top a b : Nat) : Nat := if top < a + b then top else a + b

/-- Division rounded to the nearest integer, ties away from zero (R9). -/
def divNear (a : Int) (b : Nat) : Int :=
  if 0 ≤ a then (2 * a + b) / (2 * b) else -((-2 * a + b) / (2 * b))

/-- A distance in 1/64 mm as a D16 code: saturated, never UNKNOWN (R8). -/
def d16 (v : Int) : Nat := enc 16 (clampI (-32767) 32767 v)

/-- The signed 48-bit difference `a - b` of two T48 positions (R10). -/
def t48Diff (a b : Nat) : Int := sgn 48 ((a + 2 ^ 48 - b % 2 ^ 48) % 2 ^ 48)

/-- The element `i` of a list, or `d` past its end. -/
def nth {α : Type} (d : α) : List α → Nat → α
  | [], _ => d
  | x :: _, 0 => x
  | _ :: t, i + 1 => nth d t i

/-- A list with element `i` changed by `f` (unchanged past its end). -/
def upd {α : Type} (f : α → α) : List α → Nat → List α
  | [], _ => []
  | x :: t, 0 => f x :: t
  | x :: t, i + 1 => x :: upd f t i

/-- Look up a key in a sparse table; an unlisted key has the value `d` gives it. -/
def Sparse.get {α : Type} (d : Nat → α) : List (Nat × α) → Nat → α
  | [], a => d a
  | (k, v) :: t, a => if k = a then v else Sparse.get d t a

/-- A sparse table without the entries of a key. -/
def Sparse.del {α : Type} (a : Nat) : List (Nat × α) → List (Nat × α)
  | [] => []
  | (k, x) :: t => if k = a then Sparse.del a t else (k, x) :: Sparse.del a t

/-- A sparse table with the entry of a key put at its place. -/
def Sparse.ins {α : Type} (a : Nat) (v : α) : List (Nat × α) → List (Nat × α)
  | [] => [(a, v)]
  | (k, x) :: t => if a < k then (a, v) :: (k, x) :: t else if a = k then (a, v) :: t else (k, x) :: Sparse.ins a v t

/-- Set a key in a sparse table, keeping its canonical form: keys strictly rising, no entry equal to what an unlisted key reads
as. -/
def Sparse.set {α : Type} [DecidableEq α] (d : Nat → α) (l : List (Nat × α)) (a : Nat) (v : α) : List (Nat × α) :=
  if v = d a then Sparse.del a l else Sparse.ins a v l

/-- Every key of the table is above `b`. -/
def Sparse.above {α : Type} (b : Nat) : List (Nat × α) → Bool
  | [] => true
  | (k, _) :: t => b < k && Sparse.above b t

/-- The canonical form: keys strictly rising and no entry equal to the default of its key. -/
def Sparse.wf {α : Type} [DecidableEq α] (d : Nat → α) : List (Nat × α) → Bool
  | [] => true
  | (k, v) :: t => decide (v ≠ d k) && Sparse.above k t && Sparse.wf d t

/-- Insert a number into a strictly rising list of numbers. -/
def setIns (a : Nat) : List Nat → List Nat
  | [] => [a]
  | k :: t => if a < k then a :: k :: t else if a = k then k :: t else k :: setIns a t

/-- One bit of a number. -/
def b2n (p : Bool) (i : Nat) : Nat := if p then 2 ^ i else 0

/-- Remove a number from a list of numbers. -/
def setDel (a : Nat) (l : List Nat) : List Nat := l.filter (fun x => x ≠ a)

/-- The bytes of a number, least significant first (R5). -/
def leBytes : Nat → Nat → List Byte
  | 0, _ => []
  | n + 1, w => BitVec.ofNat 8 w :: leBytes n (w / 256)

/-- The number that little-endian bytes spell (R5). -/
def leNat : List Byte → Nat
  | [] => 0
  | b :: t => b.toNat + 256 * leNat t

/-- Bytes of a list of 32-bit words, each little-endian. -/
def wordsBytes : List Word → List Byte
  | [] => []
  | w :: t => leBytes 4 w.toNat ++ wordsBytes t

/-- Put an element into a list before the first one that does not come before it. -/
def insBy {α : Type} (le : α → α → Bool) (x : α) : List α → List α
  | [] => [x]
  | y :: t => if le x y then x :: y :: t else y :: insBy le x t

/-- A stable sort. -/
def sortBy {α : Type} (le : α → α → Bool) : List α → List α
  | [] => []
  | x :: t => insBy le x (sortBy le t)

/-- `i, i+1, …` for `n` numbers. -/
def rangeFrom (i : Nat) : Nat → List Nat
  | 0 => []
  | n + 1 => i :: rangeFrom (i + 1) n

/-- The greatest `r + x` with `x` below 2^b whose square is at most `n`, bit by bit. -/
def isqrtBits (n : Nat) : Nat → Nat → Nat
  | 0, r => r
  | b + 1, r => isqrtBits n b (if (r + 2 ^ b) * (r + 2 ^ b) ≤ n then r + 2 ^ b else r)

/-- The integer square root, rounded down. -/
def isqrt (n : Nat) : Nat := isqrtBits n (n.log2 / 2 + 1) 0

/-- The code of a status (Table SCP-4). -/
def statusCode : Status → Nat
  | .ok => 0x00 | .timeoutBest => 0x01 | .expired => 0x02 | .narResult => 0x03 | .noClear => 0x04
  | .undersampled => 0x05 | .superseded => 0x06 | .backstop => 0x07 | .abortHost => 0x08
  | .dataFault => 0x09 | .sat => 0x0A | .unitOut => 0x0B | .sealed => 0x0C

/-- The precedence number of a status (Table SCP-4): the lowest applies. -/
def statusPrec : Status → Nat
  | .ok => 13 | .timeoutBest => 12 | .expired => 5 | .narResult => 8 | .noClear => 11
  | .undersampled => 10 | .superseded => 6 | .backstop => 7 | .abortHost => 1
  | .dataFault => 4 | .sat => 9 | .unitOut => 3 | .sealed => 2

/-- Of two conditions that apply, the status the device reports (R11). -/
def statusMin (a b : Status) : Status := if statusPrec b < statusPrec a then b else a

/-- The code of a service state (Table SCP-5). -/
def svcCode : Svc → Nat
  | .inService => 0 | .draining => 1 | .outOfService => 2 | .testing => 3 | .shadow => 4 | .wearing => 5

/-- The SRC code of a source (Table PAG-4). -/
def srcCode : Source → Nat
  | .host => 0 | .engine _ => 1 | .remote _ => 2 | .smbus => 3 | .island => 4 | .jtag => 5

/-- The ID field of a source (Table PAG-4). -/
def srcId : Source → Nat
  | .engine n => n | .remote n => n | _ => 0

end Sys2Proof.Machine
end

