-- ==== Sys2Proof/Machine/Sha.lean ====
section
/-!
DEFINITION. The hashes that the spec names, SHA-256 for the fleet report messages (R433) and SHA-384 for images, tokens and sealing keys
(R442, R449, R451), as one function over what tells the two apart (FIPS 180-4), and HMAC over them (FIPS 198-1).
-/
namespace Sys2Proof.Machine

/-! ## The constants -/

/-- The greatest r below 2^n, grown from `r` by its bits, whose d-th power is at most v. -/
def rootFrom (d v : Nat) : Nat → Nat → Nat
  | 0, r => r
  | n + 1, r => rootFrom d v n (if (r + 2 ^ n) ^ d ≤ v then r + 2 ^ n else r)

/-- The first `w` bits after the point of the d-th root of `p`, a number below 512. -/
def rootBits (d w p : Nat) : Nat := rootFrom d (p * 2 ^ (d * w)) (w + 5) 0 % 2 ^ w

/-- The primes below 410, 80 in number. -/
def primes80 : List Nat := (rangeFrom 2 408).filter (fun n => (rangeFrom 2 19).all (fun k => n ≤ k || n % k ≠ 0))

/-! ## One hash for both word widths -/

/-- What tells SHA-256 and SHA-384 apart: word width, rounds, the prime its first chaining word comes from, words of the digest, and
the amounts of its four mixing functions, whose last is a shift in `near` and `far` and a rotation in `up` and `low`. -/
structure ShaKind where
  w      : Nat
  rounds : Nat
  skip   : Nat
  words  : Nat
  up     : Nat × Nat × Nat
  low    : Nat × Nat × Nat
  near   : Nat × Nat × Nat
  far    : Nat × Nat × Nat

def kind256 : ShaKind := { w := 32, rounds := 64, skip := 0, words := 8, up := (2, 13, 22), low := (6, 11, 25), near := (7, 18, 3), far := (17, 19, 10) }
def kind384 : ShaKind := { w := 64, rounds := 80, skip := 8, words := 6, up := (28, 34, 39), low := (14, 18, 41), near := (1, 8, 7), far := (19, 61, 6) }

/-- The round constants: cube roots of the first primes. -/
def ShaKind.consts (k : ShaKind) : List Nat := (primes80.take k.rounds).map (rootBits 3 k.w)

/-- The first chaining value: square roots of eight primes. -/
def ShaKind.start (k : ShaKind) : List Nat := ((primes80.drop k.skip).take 8).map (rootBits 2 k.w)

/-- A word turned right. -/
def ShaKind.turn (k : ShaKind) (x n : Nat) : Nat := x / 2 ^ n + x % 2 ^ n * 2 ^ (k.w - n)

/-- A word turned by three amounts; by two and shifted by the third. -/
def ShaKind.turns (k : ShaKind) (m : Nat × Nat × Nat) (x : Nat) : Nat := k.turn x m.1 ^^^ k.turn x m.2.1 ^^^ k.turn x m.2.2
def ShaKind.blend (k : ShaKind) (m : Nat × Nat × Nat) (x : Nat) : Nat := k.turn x m.1 ^^^ k.turn x m.2.1 ^^^ x / 2 ^ m.2.2

/-- The word that follows sixteen words of the schedule, oldest first. -/
def ShaKind.next (k : ShaKind) (win : List Nat) : Nat :=
  (k.blend k.far (nth 0 win 14) + nth 0 win 9 + k.blend k.near (nth 0 win 1) + nth 0 win 0) % 2 ^ k.w

/-- The eight working words after a round with `x`, the sum of its constant and its schedule word. -/
def ShaKind.round (k : ShaKind) (v : List Nat) (x : Nat) : List Nat :=
  let at_ (i : Nat) : Nat := nth 0 v i
  let pick := (at_ 4 &&& at_ 5) + (at_ 6 - (at_ 4 &&& at_ 6))
  let most := (at_ 0 &&& at_ 1) ||| ((at_ 0 ||| at_ 1) &&& at_ 2)
  let q := at_ 7 + k.turns k.low (at_ 4) + pick + x
  (q + k.turns k.up (at_ 0) + most) % 2 ^ k.w :: at_ 0 :: at_ 1 :: at_ 2 :: (at_ 3 + q) % 2 ^ k.w :: at_ 4 :: at_ 5 :: [at_ 6]

/-- The rounds: a constant each, on a window of sixteen words that moves over the schedule. -/
def ShaKind.mix (k : ShaKind) : List Nat → List Nat → List Nat → List Nat
  | [], _, v => v
  | c :: t, win, v => k.mix t (win.drop 1 ++ [k.next win]) (k.round v (c + nth 0 win 0))

/-- Words of `w` bits, most significant byte first. -/
def ShaKind.split (k : ShaKind) (bs : List Byte) (n : Nat) : List Nat :=
  (rangeFrom 0 n).map (fun i => leNat ((bs.drop (i * (k.w / 8))).take (k.w / 8)).reverse)

/-- The chaining value after `n` blocks of sixteen words. -/
def ShaKind.chain (k : ShaKind) : Nat → List Byte → List Nat → List Nat
  | 0, _, h => h
  | n + 1, bs, h =>
    k.chain n (bs.drop (2 * k.w)) ((rangeFrom 0 8).map (fun i => (nth 0 h i + nth 0 (k.mix k.consts (k.split bs 16) h) i) % 2 ^ k.w))

/-- The digest of a message: a one bit, zeros and the length in bits fill its last block. -/
def ShaKind.hash (k : ShaKind) (msg : List Byte) : List Byte :=
  let size := 2 * k.w
  let blocks := (msg.length + k.w / 4 + size) / size
  let full := msg ++ 0x80 :: (List.replicate (blocks * size - msg.length - 9) 0 ++ (leBytes 8 (msg.length * 8)).reverse)
  ((k.chain blocks full k.start).take k.words).flatMap (fun x => (leBytes (k.w / 8) x).reverse)

/-- HMAC with a key of at most one block. -/
def ShaKind.hmac (k : ShaKind) (key msg : List Byte) : List Byte :=
  let pad (c : Byte) : List Byte := key.map (· ^^^ c) ++ List.replicate (2 * k.w - key.length) c
  k.hash (pad 0x5C ++ k.hash (pad 0x36 ++ msg))

def sha256 (bs : List Byte) : List Byte := kind256.hash bs
def sha384 (bs : List Byte) : List Byte := kind384.hash bs
def hmac256 (key msg : List Byte) : List Byte := kind256.hmac key msg
def hmac384 (key msg : List Byte) : List Byte := kind384.hmac key msg

end Sys2Proof.Machine
end

