-- ==== Sys2Proof/Machine/Crypto.lean ====
section
/-!
DEFINITION. The cryptographic algorithms that secure boot, return tokens and sealing name (Table SEC-1, R442, R449, R451): HKDF over
SHA-384 (RFC 5869), ECDSA P-384 verification (FIPS 186-5) and AES-256-GCM (FIPS 197, SP 800-38D).
-/
namespace Sys2Proof.Machine

/-! ## Key derivation -/

/-- HKDF-SHA-384 without salt: a key of 32 bytes (log entry 30). -/
def hkdf384 (ikm info : List Byte) : List Byte := (hmac384 (hmac384 (List.replicate 48 0) ikm) (info ++ [1])).take 32

/-! ## ECDSA P-384 -/

def p384P : Nat := 2 ^ 384 - 2 ^ 128 - 2 ^ 96 + 2 ^ 32 - 1
def p384N : Nat := 0xffffffffffffffffffffffffffffffffffffffffffffffffc7634d81f4372ddf581a0db248b0a77aecec196accc52973
def p384B : Nat := 0xb3312fa7e23ee7e4988e056be3f82d19181d9c6efe8141120314088f5013875ac656398d8a2ed19d2a85c8edd3ec2aef
def p384G : Nat × Nat := (
  0xaa87ca22be8b05378eb1c71ef320ad746e1d3b628ba79b9859f741e082542a385502f25dbf55296c3a545e3872760ab7,
  0x3617de4a96262c6f5d9e98bf9292dc29f8f41dbd289a147ce9da3113b5f0b8c00a60b1ce1d7e819d7a431d7c90ea0e5f)

/-- b^e modulo m, over `k` bits of e from the top. -/
def powMod (m b e : Nat) : Nat → Nat
  | 0 => 1
  | k + 1 => let r := powMod m b (e / 2) k; if e % 2 = 1 then r * r % m * b % m else r * r % m

/-- The inverse modulo a prime below 2^384. -/
def invMod (m a : Nat) : Nat := powMod m a (m - 2) 384

/-- A point of the curve; none is the point at infinity. -/
abbrev EcPoint := Option (Nat × Nat)

/-- A point is on the curve. -/
def onCurve (q : Nat × Nat) : Bool :=
  q.1 < p384P && q.2 < p384P && q.2 * q.2 % p384P = (q.1 * q.1 * q.1 + (p384P - 3) * q.1 + p384B) % p384P

/-- The point with slope `l` through points with abscissae x1 and x2. -/
def chord (l x1 y1 x2 : Nat) : EcPoint :=
  let x := (l * l + 2 * p384P - x1 - x2) % p384P
  some (x, (l * (x1 + p384P - x) + p384P - y1) % p384P)

/-- The sum of two points. -/
def ecAdd : EcPoint → EcPoint → EcPoint
  | none, q => q
  | p, none => p
  | some (x1, y1), some (x2, y2) =>
    if x1 = x2 then
      if (y1 + y2) % p384P = 0 then none
      else chord ((3 * x1 * x1 + p384P - 3) * invMod p384P (2 * y1 % p384P) % p384P) x1 y1 x1
    else chord ((y2 + p384P - y1) * invMod p384P ((x2 + p384P - x1) % p384P) % p384P) x1 y1 x2

/-- A multiple of a point, over `k` bits. -/
def ecMul (q : EcPoint) (e : Nat) : Nat → EcPoint
  | 0 => none
  | k + 1 => let r := ecMul q (e / 2) k; if e % 2 = 1 then ecAdd (ecAdd r r) q else ecAdd r r

/-- Big-endian number. -/
def beNat (bs : List Byte) : Nat := leNat bs.reverse

/-- A signature (r then s, 48 bytes each) of a message verifies under a public key (x then y). -/
def ecdsaOk (key msg sig : List Byte) : Bool :=
  let q := (beNat (key.take 48), beNat ((key.drop 48).take 48))
  let r := beNat (sig.take 48)
  let t := beNat ((sig.drop 48).take 48)
  if r = 0 || t = 0 || p384N ≤ r || p384N ≤ t || !onCurve q then false
  else
    let w := invMod p384N t
    let z := beNat (sha384 msg)
    match ecAdd (ecMul (some p384G) (z * w % p384N) 384) (ecMul (some q) (r * w % p384N) 384) with
    | none => false
    | some (x, _) => x % p384N = r

/-! ## AES-256-GCM -/

/-- The S-box of AES, in four parts. -/
def sboxA : List Nat := [
  0x63, 0x7c, 0x77, 0x7b, 0xf2, 0x6b, 0x6f, 0xc5, 0x30, 0x01, 0x67, 0x2b, 0xfe, 0xd7, 0xab, 0x76,
  0xca, 0x82, 0xc9, 0x7d, 0xfa, 0x59, 0x47, 0xf0, 0xad, 0xd4, 0xa2, 0xaf, 0x9c, 0xa4, 0x72, 0xc0,
  0xb7, 0xfd, 0x93, 0x26, 0x36, 0x3f, 0xf7, 0xcc, 0x34, 0xa5, 0xe5, 0xf1, 0x71, 0xd8, 0x31, 0x15,
  0x04, 0xc7, 0x23, 0xc3, 0x18, 0x96, 0x05, 0x9a, 0x07, 0x12, 0x80, 0xe2, 0xeb, 0x27, 0xb2, 0x75]
def sboxB : List Nat := [
  0x09, 0x83, 0x2c, 0x1a, 0x1b, 0x6e, 0x5a, 0xa0, 0x52, 0x3b, 0xd6, 0xb3, 0x29, 0xe3, 0x2f, 0x84,
  0x53, 0xd1, 0x00, 0xed, 0x20, 0xfc, 0xb1, 0x5b, 0x6a, 0xcb, 0xbe, 0x39, 0x4a, 0x4c, 0x58, 0xcf,
  0xd0, 0xef, 0xaa, 0xfb, 0x43, 0x4d, 0x33, 0x85, 0x45, 0xf9, 0x02, 0x7f, 0x50, 0x3c, 0x9f, 0xa8,
  0x51, 0xa3, 0x40, 0x8f, 0x92, 0x9d, 0x38, 0xf5, 0xbc, 0xb6, 0xda, 0x21, 0x10, 0xff, 0xf3, 0xd2]
def sboxC : List Nat := [
  0xcd, 0x0c, 0x13, 0xec, 0x5f, 0x97, 0x44, 0x17, 0xc4, 0xa7, 0x7e, 0x3d, 0x64, 0x5d, 0x19, 0x73,
  0x60, 0x81, 0x4f, 0xdc, 0x22, 0x2a, 0x90, 0x88, 0x46, 0xee, 0xb8, 0x14, 0xde, 0x5e, 0x0b, 0xdb,
  0xe0, 0x32, 0x3a, 0x0a, 0x49, 0x06, 0x24, 0x5c, 0xc2, 0xd3, 0xac, 0x62, 0x91, 0x95, 0xe4, 0x79,
  0xe7, 0xc8, 0x37, 0x6d, 0x8d, 0xd5, 0x4e, 0xa9, 0x6c, 0x56, 0xf4, 0xea, 0x65, 0x7a, 0xae, 0x08]
def sboxD : List Nat := [
  0xba, 0x78, 0x25, 0x2e, 0x1c, 0xa6, 0xb4, 0xc6, 0xe8, 0xdd, 0x74, 0x1f, 0x4b, 0xbd, 0x8b, 0x8a,
  0x70, 0x3e, 0xb5, 0x66, 0x48, 0x03, 0xf6, 0x0e, 0x61, 0x35, 0x57, 0xb9, 0x86, 0xc1, 0x1d, 0x9e,
  0xe1, 0xf8, 0x98, 0x11, 0x69, 0xd9, 0x8e, 0x94, 0x9b, 0x1e, 0x87, 0xe9, 0xce, 0x55, 0x28, 0xdf,
  0x8c, 0xa1, 0x89, 0x0d, 0xbf, 0xe6, 0x42, 0x68, 0x41, 0x99, 0x2d, 0x0f, 0xb0, 0x54, 0xbb, 0x16]

/-- SubBytes of a byte. -/
def subByte (b : Nat) : Nat := nth 0 (if b < 64 then sboxA else if b < 128 then sboxB else if b < 192 then sboxC else sboxD) (b % 64)

/-- Multiplication by x in GF(2^8). -/
def xtime (b : Nat) : Nat := if b < 128 then 2 * b else (2 * b) % 256 ^^^ 0x1B

/-- SubBytes and ShiftRows of a state, column by column. -/
def aesShift (t : List Nat) : List Nat :=
  (rangeFrom 0 16).map (fun i => subByte (nth 0 t ((i + 4 * (i % 4)) % 16)))

/-- MixColumns. -/
def aesMix (t : List Nat) : List Nat :=
  (rangeFrom 0 16).map (fun i =>
    let c (k : Nat) : Nat := nth 0 t (i / 4 * 4 + (i + k) % 4)
    xtime (c 0) ^^^ xtime (c 1) ^^^ c 1 ^^^ c 2 ^^^ c 3)

/-- Exclusive or of byte lists. -/
def xorList (a b : List Nat) : List Nat := List.zipWith (· ^^^ ·) a b

/-- The key schedule: words of four bytes, newest first, extended by `n` words. -/
def aesExpand : Nat → Nat → Nat → List (List Nat) → List (List Nat)
  | 0, _, _, w => w
  | n + 1, i, rc, w =>
    let t := nth [] w 0
    let u :=
      if i % 8 = 0 then xorList ((t.drop 1 ++ t.take 1).map subByte) [rc, 0, 0, 0]
      else if i % 8 = 4 then t.map subByte else t
    aesExpand n (i + 1) (if i % 8 = 0 then xtime rc else rc) (xorList (nth [] w 7) u :: w)

/-- Words of four bytes. -/
def quads : Nat → List Nat → List (List Nat)
  | 0, _ => []
  | n + 1, l => l.take 4 :: quads n (l.drop 4)

/-- The round keys of a 32-byte key. -/
def aesKeys (key : List Byte) : List (List Nat) := (aesExpand 52 8 1 (quads 8 (key.map (·.toNat))).reverse).reverse

/-- Round `r`'s key. -/
def roundKey (ks : List (List Nat)) (r : Nat) : List Nat := (rangeFrom (4 * r) 4).flatMap (fun i => nth [] ks i)

/-- One block of 16 bytes. -/
def aesBlock (ks : List (List Nat)) (t : List Nat) : List Nat :=
  let a := (rangeFrom 1 13).foldl (fun u r => xorList (aesMix (aesShift u)) (roundKey ks r)) (xorList t (roundKey ks 0))
  xorList (aesShift a) (roundKey ks 14)

/-- The product in GF(2^128) of GCM, bit 127 first, over `k` bits of x from the top. -/
def gfMul (x : Nat) : Nat → Nat → Nat → Nat
  | 0, z, _ => z
  | k + 1, z, v =>
    gfMul x k (if tbit x k then z ^^^ v else z) (if v % 2 = 1 then v / 2 ^^^ 0xE1000000000000000000000000000000 else v / 2)

/-- Blocks of 16 bytes, the last one padded with zeros. -/
def blocks16 : Nat → List Byte → List (List Byte)
  | 0, _ => []
  | n + 1, bs => (bs.take 16 ++ List.replicate (16 - (bs.take 16).length) 0) :: blocks16 n (bs.drop 16)

/-- GHASH over padded blocks. -/
def ghash (h : Nat) (l : List (List Byte)) : Nat := l.foldl (fun y b => gfMul (y ^^^ beNat b) 128 0 h) 0

/-- The counter mode of GCM from a counter on. -/
def gcmCtr (ks : List (List Nat)) (iv : List Byte) : Nat → Nat → List Byte → List Byte
  | 0, _, _ => []
  | n + 1, c, bs =>
    let k := aesBlock ks ((iv ++ (leBytes 4 c).reverse).map (·.toNat))
    List.zipWith (fun b x => b ^^^ BitVec.ofNat 8 x) (bs.take 16) k ++ gcmCtr ks iv n (c + 1) (bs.drop 16)

/-- The data after encryption or decryption: the two are one operation. -/
def gcmCrypt (key iv data : List Byte) : List Byte := gcmCtr (aesKeys key) iv ((data.length + 15) / 16) 2 data

/-- The tag over additional data and ciphertext. -/
def gcmTag (key iv aad ct : List Byte) : List Byte :=
  let ks := aesKeys key
  let h := beNat ((aesBlock ks (List.replicate 16 0)).map (BitVec.ofNat 8 ·))
  let l := (leBytes 8 (aad.length * 8)).reverse ++ (leBytes 8 (ct.length * 8)).reverse
  let y := ghash h (blocks16 ((aad.length + 15) / 16) aad ++ blocks16 ((ct.length + 15) / 16) ct ++ [l])
  List.zipWith (fun b x => b ^^^ BitVec.ofNat 8 x) (leBytes 16 y).reverse (aesBlock ks ((iv ++ ([0, 0, 0, 1] : List Byte)).map (fun (b : Byte) => b.toNat)))

end Sys2Proof.Machine
end

