-- ==== Sys2Proof/Machine/Crc.lean ====
section
/-!
DEFINITION. The cyclic redundancy checks of the spec: CRC-32 of IEEE 802.3 and CRC-32C, both reflected, preset to all ones and inverted
at the end; and the packet error code of SMBus 3.1 (R436).
-/
namespace Sys2Proof.Machine

/-- One shift of a reflected CRC register. -/
def crcBit (poly r : Nat) : Nat := if r % 2 = 1 then (r / 2) ^^^ poly else r / 2

/-- `n` shifts of a reflected CRC register. -/
def crcBits (poly : Nat) : Nat → Nat → Nat
  | 0, r => r
  | n + 1, r => crcBits poly n (crcBit poly r)

/-- A reflected CRC register after bytes. -/
def crcBytes (poly : Nat) : List Byte → Nat → Nat
  | [], r => r
  | b :: t, r => crcBytes poly t (crcBits poly 8 (r ^^^ b.toNat))

/-- CRC-32 of IEEE 802.3. -/
def crc32 (bs : List Byte) : Nat := crcBytes 0xEDB88320 bs 0xFFFFFFFF ^^^ 0xFFFFFFFF

/-- CRC-32C. -/
def crc32c (bs : List Byte) : Nat := crcBytes 0x82F63B78 bs 0xFFFFFFFF ^^^ 0xFFFFFFFF

/-- The packet error code of SMBus: CRC-8 by x^8 + x^2 + x + 1 over every byte of the transfer, most significant bit first. -/
def smbPec (bs : List Byte) : Nat :=
  let shift (r : Nat) : Nat := if 128 ≤ r then (2 * r % 256) ^^^ 0x07 else 2 * r
  bs.foldl (fun r b => shift (shift (shift (shift (shift (shift (shift (shift (r ^^^ b.toNat))))))))) 0

end Sys2Proof.Machine
end

