-- ==== Sys2Proof/Config.lean ====
section
/-!
DEFINITION. What one implementation fixes and the values the spec leaves open.  Every constant here has no body: nothing can
evaluate it and no statement can rest on a value of it.
-/
namespace Sys2Proof

/-- Free values: the `k`-th value of `w` bits that the spec leaves open (log entry 1).  A step that needs one reads the
State's counter `freeCnt` and advances it. -/
opaque Config.freeValue (w : Nat) : Nat → BitVec w

/-- The error of the forward kinematics on one coordinate of a sphere centre (R524): deterministic in its inputs, else open. -/
opaque Config.fkError : List Int → BitVec 32

/-- The scalar m · 2^e divided by zero (R191, R193), as the same on every lane group (R202): significand in the low 32 bits,
exponent in the next 16. -/
opaque Config.overZero (m e : Int) : BitVec 48

/-- Which of two limits equally near to x0 a mapped unknown takes (R201): LIM_LO where it is 1. -/
opaque Config.nearTie (x0 lo hi : Int) : BitVec 1

/-- ROOT, the root of the sealing keys (R440). -/
opaque Config.rootKey : List (BitVec 8)

/-- The factory test key hash held in the boot ROM (Table SEC-4). -/
opaque Config.romKeyHash : List (BitVec 8)

/-- The public key of a key slot whose key is not that of the running image, by its hash (R449). -/
opaque Config.slotKey : List (BitVec 8) → List (BitVec 8)

/-- The Finestind vendor ID (R327), which the spec does not give as a number. -/
opaque Config.vendorId : BitVec 16

/-- The built-in equalisation presets (Table CAL-6), which the spec does not give: of aqueduct lane link * 8 + lane, and of PCIe lane
k at 64 + k. -/
opaque Config.builtInPreset : Nat → BitVec 32

/-- WLD_ORIGIN of node 0 on an axis, for a node that no HELLO has told it (R356; log entry 130). -/
opaque Config.nodeZeroOrigin : Nat → Int

end Sys2Proof
end

