-- ==== Sys2Proof/Machine/RegTab.lean ====
section
/-!
DEFINITION. The register tables of every page (spec/02 to spec/20), one list of rows per kind of page: where a register
stands, how often it repeats, its reset value and which of its bits have which access code (Table PAG-5).
-/
namespace Sys2Proof.Machine

/-- Access codes of Table PAG-5 (R42).  `rwl g` belongs to lock group `g`. -/
inductive Acc
  | ro | rw | rwl (group : Nat) | w1c | wo | wos | rc | ws | wc
deriving DecidableEq, Repr

/-- One register of a page: page offset of its first copy, number of copies, distance between copies, reset value, whether it
is a 64-bit register (two words, low word first), and the bits under each access code. -/
structure RegRow where
  off    : Nat
  count  : Nat
  stride : Nat
  reset  : Nat
  wide   : Bool
  masks  : List (Acc × Nat)
deriving DecidableEq, Repr

/-- The kinds of register page (Table PAG-3 and the page lists of the chapters). -/
inductive PageKind
  | sys | pwr | clk | rst | towG | towTrg | towEvt | towLog | towTp | ing | wldG | wldAtt
  | cndG | cndR | swpG | swpLg | solG | solLg | chgG | chgA | dspG | dspE | spd | seal
  | hstG | hstIn | hstCq | aqdN | aqd | saf | thm | fio | mgt | sec | cal | calJob
deriving DecidableEq, Repr

/-- One row of the page map: kind, address of its first page, number of pages at stride 0x1000, block type code and page
index (R34 to R36). -/
structure PageRow where
  kind  : PageKind
  base  : Nat
  count : Nat
  typ   : Nat
  index : Nat
deriving DecidableEq, Repr

/-- The pages the chapters list.  A page of a group's extent that is not listed is unmapped (R34). -/
def pageRows : List PageRow := [
  ⟨.sys, 0x0, 1, 0x01, 0⟩,
  ⟨.pwr, 0x1000, 1, 0x02, 0⟩,
  ⟨.clk, 0x2000, 1, 0x02, 1⟩,
  ⟨.rst, 0x3000, 1, 0x02, 2⟩,
  ⟨.towG, 0x10000, 1, 0x03, 0⟩,
  ⟨.towTrg, 0x11000, 1, 0x03, 1⟩,
  ⟨.towEvt, 0x12000, 4, 0x03, 2⟩,
  ⟨.towLog, 0x16000, 1, 0x03, 6⟩,
  ⟨.towTp, 0x17000, 9, 0x03, 7⟩,
  ⟨.ing, 0x20000, 12, 0x04, 0⟩,
  ⟨.wldG, 0x30000, 1, 0x05, 0⟩,
  ⟨.wldAtt, 0x31000, 1, 0x05, 1⟩,
  ⟨.cndG, 0x40000, 1, 0x06, 0⟩,
  ⟨.cndR, 0x41000, 4, 0x06, 1⟩,
  ⟨.swpG, 0x50000, 1, 0x07, 0⟩,
  ⟨.swpLg, 0x51000, 8, 0x07, 1⟩,
  ⟨.solG, 0x60000, 1, 0x08, 0⟩,
  ⟨.solLg, 0x61000, 16, 0x08, 1⟩,
  ⟨.chgG, 0x80000, 1, 0x09, 0⟩,
  ⟨.chgA, 0x100000, 256, 0x0A, 0⟩,
  ⟨.dspG, 0x200000, 1, 0x0B, 0⟩,
  ⟨.dspE, 0x201000, 64, 0x0B, 1⟩,
  ⟨.spd, 0x300000, 1, 0x0C, 0⟩,
  ⟨.seal, 0x301000, 1, 0x0C, 1⟩,
  ⟨.hstG, 0x310000, 1, 0x0D, 0⟩,
  ⟨.hstIn, 0x311000, 1, 0x0D, 1⟩,
  ⟨.hstCq, 0x312000, 1, 0x0D, 2⟩,
  ⟨.aqdN, 0x320000, 1, 0x0E, 0⟩,
  ⟨.aqd, 0x321000, 7, 0x0E, 0⟩,
  ⟨.saf, 0x330000, 1, 0x0F, 0⟩,
  ⟨.thm, 0x340000, 1, 0x10, 0⟩,
  ⟨.fio, 0x350000, 1, 0x11, 0⟩,
  ⟨.mgt, 0x358000, 1, 0x12, 0⟩,
  ⟨.sec, 0x360000, 1, 0x13, 0⟩,
  ⟨.cal, 0x370000, 1, 0x14, 0⟩,
  ⟨.calJob, 0x371000, 1, 0x14, 1⟩]

/-- Registers of page kind `sys` (Table PWR-8). -/
def rowsSys : List RegRow := [
  /- SYS_ID -/ ⟨0x040, 1, 0, 0xC2000A1, false, [(.ro, 0xFFFF01FF)]⟩,
  /- SYS_STRAPS -/ ⟨0x044, 1, 0, 0x0, false, [(.ro, 0x37F)]⟩,
  /- SYS_READY -/ ⟨0x048, 1, 0, 0x0, false, [(.ro, 0x1FFFFE)]⟩,
  /- SYS_UNMAP_CNT -/ ⟨0x04C, 1, 0, 0x0, false, [(.rc, 0xFFFF)]⟩,
  /- SYS_WEDGE -/ ⟨0x050, 1, 0, 0x0, false, [(.ro, 0x1FFFFE)]⟩,
  /- SYS_QUIESCE_TO -/ ⟨0x054, 1, 0, 0x64, false, [(.rwl 0, 0xFFFF)]⟩,
  /- SYS_RESET -/ ⟨0x060, 1, 0, 0x0, false, [(.wo, 0xFFFF)]⟩]

/-- Registers of page kind `pwr` (Table PWR-9). -/
def rowsPwr : List RegRow := [
  /- PWR_STAT -/ ⟨0x040, 1, 0, 0x1, false, [(.ro, 0xF3)]⟩,
  /- PWR_TOTAL -/ ⟨0x044, 1, 0, 0x0, false, [(.ro, 0xFFFFFFFF)]⟩,
  /- PWR_ENERGY -/ ⟨0x048, 1, 0, 0x0, true, [(.ro, 0xFFFFFFFFFFFFFFFF)]⟩,
  /- PWR_PEAK -/ ⟨0x050, 1, 0, 0x0, false, [(.rc, 0xFFFFFFFF)]⟩,
  /- PWR_R_V -/ ⟨0x100, 13, 16, 0x0, false, [(.ro, 0xFFFF)]⟩,
  /- PWR_R_I -/ ⟨0x104, 13, 16, 0x0, false, [(.ro, 0xFFFFFF)]⟩,
  /- PWR_R_FLAGS -/ ⟨0x108, 13, 16, 0x0, false, [(.ro, 0x3), (.w1c, 0x4)]⟩,
  /- PWR_R_MIN -/ ⟨0x10C, 13, 16, 0xFFFF, false, [(.rc, 0xFFFF)]⟩]

/-- Registers of page kind `clk` (Table PWR-10). -/
def rowsClk : List RegRow := [
  /- CLK_REF -/ ⟨0x040, 1, 0, 0x1, false, [(.ro, 0x1)]⟩,
  /- CLK_REF_PPM -/ ⟨0x044, 1, 0, 0x0, false, [(.ro, 0xFFFF)]⟩,
  /- CLK_PLL_LOCK -/ ⟨0x048, 1, 0, 0x0, false, [(.ro, 0x7FFFF)]⟩,
  /- CLK_PLL_LOST -/ ⟨0x04C, 1, 0, 0x0, false, [(.ro, 0x7FFFF)]⟩,
  /- CLK_DOM_RUN -/ ⟨0x050, 1, 0, 0x0, true, [(.ro, 0xFFFFFFFFFFFFFFF)]⟩,
  /- CLK_MEAS_SEL -/ ⟨0x058, 1, 0, 0x0, false, [(.rw, 0x3F)]⟩,
  /- CLK_MEAS -/ ⟨0x05C, 1, 0, 0x0, false, [(.ro, 0xFFFFFFFF)]⟩]

/-- Registers of page kind `rst` (Table PWR-11). -/
def rowsRst : List RegRow := [
  /- RST_CAUSE -/ ⟨0x040, 1, 0, 0x0, false, [(.ro, 0xF07)]⟩,
  /- RST_FULL_CNT -/ ⟨0x044, 1, 0, 0x0, false, [(.ro, 0xFFFF)]⟩,
  /- RST_HOT_CNT -/ ⟨0x048, 1, 0, 0x0, false, [(.rc, 0xFFFF)]⟩,
  /- RST_BADKEY -/ ⟨0x04C, 1, 0, 0x0, false, [(.rc, 0xFFFF)]⟩,
  /- RST_READY_US -/ ⟨0x050, 1, 0, 0x0, false, [(.ro, 0xFFFFFF)]⟩]

/-- Registers of page kind `towG` (Table TOW-7). -/
def rowsTowG : List RegRow := [
  /- TOW_CTRL -/ ⟨0x040, 1, 0, 0x0, false, [(.rw, 0x3)]⟩,
  /- TOW_PASS_LEN -/ ⟨0x044, 1, 0, 0x3E8, false, [(.rwl 0, 0x3FFF)]⟩,
  /- TOW_PASS_PERIOD -/ ⟨0x048, 1, 0, 0x3E8, false, [(.rwl 0, 0x3FFF)]⟩,
  /- TOW_SYN_STEP -/ ⟨0x04C, 1, 0, 0x0, false, [(.rwl 0, 0xFFFFFFFF)]⟩,
  /- TOW_PASS_OVR -/ ⟨0x050, 1, 0, 0x0, false, [(.rc, 0xFFFF)]⟩,
  /- TOW_SUPERSEDE_CNT -/ ⟨0x054, 1, 0, 0x0, false, [(.rc, 0xFFFFFFFF)]⟩,
  /- TOW_CLOSE_IDLE_CNT -/ ⟨0x058, 1, 0, 0x0, false, [(.rc, 0xFFFF)]⟩,
  /- TOW_INJ_REFUSED -/ ⟨0x05C, 1, 0, 0x0, false, [(.rc, 0xFFFF)]⟩,
  /- TOW_BACKSTOP_CNT -/ ⟨0x060, 1, 0, 0x0, false, [(.rc, 0xFFFFFFFF)]⟩,
  /- TOW_LOG_WR -/ ⟨0x064, 1, 0, 0x0, false, [(.ro, 0x3F)]⟩,
  /- TOW_LOG_RD -/ ⟨0x068, 1, 0, 0x0, false, [(.rw, 0x3F)]⟩,
  /- TOW_LOG_LOST -/ ⟨0x06C, 1, 0, 0x0, false, [(.rc, 0xFFFF)]⟩,
  /- TOW_ARMED_CNT -/ ⟨0x070, 1, 0, 0x0, false, [(.ro, 0x3FF)]⟩]

/-- Registers of page kind `towTrg` (Table TOW-8). -/
def rowsTowTrg : List RegRow := [
  /- TOW_TRG_CFG -/ ⟨0x040, 16, 8, 0x0, false, [(.rwl 0, 0x3)]⟩,
  /- TOW_TRG_DLY -/ ⟨0x044, 16, 8, 0x0, false, [(.rwl 0, 0xFFFF)]⟩,
  /- TOW_TRG_OVR -/ ⟨0x0C0, 16, 4, 0x0, false, [(.rc, 0xFFFF)]⟩,
  /- TOW_TRG_STAT -/ ⟨0x100, 1, 0, 0x0, false, [(.ro, 0xFFFFFFFF)]⟩]

/-- Registers of page kind `towEvt` (Table TOW-2). -/
def rowsTowEvt : List RegRow := [
  /- TOW_EV_W0 -/ ⟨0x040, 128, 16, 0x0, false, [(.rw, 0xFFFFFFFF)]⟩,
  /- TOW_EV_W1 -/ ⟨0x044, 128, 16, 0x0, false, [(.rw, 0x1FFFFFFF)]⟩,
  /- TOW_EV_W2 -/ ⟨0x048, 128, 16, 0x0, false, [(.rw, 0xFFFFFFFF)]⟩,
  /- TOW_EV_W3 -/ ⟨0x04C, 128, 16, 0x0, false, [(.rw, 0xFFFFFFFF)]⟩]

/-- Registers of page kind `towLog` (Table TOW-5, Table TOW-6). -/
def rowsTowLog : List RegRow := [
  /- TOW_LOG_REC -/ ⟨0x040, 512, 4, 0x0, false, [(.ro, 0xFFFFFFFF)]⟩,
  /- TOW_TEMPLATE -/ ⟨0x840, 256, 4, 0x0, false, [(.rwl 0, 0xFFFFFFFF)]⟩]

/-- Registers of page kind `towTp` (Table TOW-9). -/
def rowsTowTp : List RegRow := [
  /- TOW_TP_CFG -/ ⟨0x040, 1, 0, 0x40200, false, [(.rwl 0, 0xFF1F1F)]⟩,
  /- TOW_TP_SSI_CFG -/ ⟨0x044, 1, 0, 0x640459, false, [(.rwl 0, 0xFFFFFFFF)]⟩,
  /- TOW_TP_POS -/ ⟨0x048, 1, 0, 0x0, true, [(.ro, 0xFFFFFFFFFFFF)]⟩,
  /- TOW_TP_SET_POS -/ ⟨0x050, 1, 0, 0x0, true, [(.rwl 1, 0xFFFFFFFFFFFF)]⟩,
  /- TOW_TP_VEL -/ ⟨0x058, 1, 0, 0x0, false, [(.ro, 0xFFFFFFFF)]⟩,
  /- TOW_TP_STAT -/ ⟨0x05C, 1, 0, 0x0, false, [(.ro, 0xF)]⟩,
  /- TOW_TP_ZLATCH -/ ⟨0x060, 1, 0, 0x0, true, [(.ro, 0xFFFFFFFFFFFF)]⟩,
  /- TOW_TP_QERR_CNT -/ ⟨0x068, 1, 0, 0x0, false, [(.rc, 0xFFFF)]⟩,
  /- TOW_TP_SSI_ERR_CNT -/ ⟨0x06C, 1, 0, 0x0, false, [(.rc, 0xFFFF)]⟩,
  /- TOW_TP_REV_CNT -/ ⟨0x070, 1, 0, 0x0, false, [(.rc, 0xFFFF)]⟩,
  /- TOW_TP_SKIP_CNT -/ ⟨0x074, 1, 0, 0x0, false, [(.rc, 0xFFFF)]⟩]

/-- Registers of page kind `ing` (Table ING-5, Table ING-6). -/
def rowsIng : List RegRow := [
  /- ING_RX_CFG -/ ⟨0x040, 1, 0, 0xE400, false, [(.rwl 0, 0x1FFF07)]⟩,
  /- ING_RX_RATE -/ ⟨0x044, 1, 0, 0x3E8, false, [(.rwl 0, 0xFFF)]⟩,
  /- ING_RX_STAT -/ ⟨0x048, 1, 0, 0xF, false, [(.ro, 0x3FF)]⟩,
  /- ING_RX_HDR_CORR -/ ⟨0x04C, 1, 0, 0x0, false, [(.rc, 0xFFFF)]⟩,
  /- ING_RX_HDR_UNCORR -/ ⟨0x050, 1, 0, 0x0, false, [(.rc, 0xFFFF)]⟩,
  /- ING_RX_UNMATCHED -/ ⟨0x054, 1, 0, 0x0, false, [(.rc, 0xFFFF)]⟩,
  /- ING_RX_SOT_ERR -/ ⟨0x058, 1, 0, 0x0, false, [(.rc, 0xFFFF)]⟩,
  /- ING_SL_CFG -/ ⟨0x100, 2, 256, 0x0, false, [(.rwl 0, 0x7FFFFFFF)]⟩,
  /- ING_SL_SIZE -/ ⟨0x104, 2, 256, 0x0, false, [(.rwl 0, 0x1FFF1FFF)]⟩,
  /- ING_SL_DSCALE -/ ⟨0x108, 2, 256, 0x0, false, [(.rwl 0, 0xFFFFFFFF)]⟩,
  /- ING_SL_DCODE -/ ⟨0x10C, 2, 256, 0x0, false, [(.rwl 0, 0xFFFFFFFF)]⟩,
  /- ING_SL_ZRANGE -/ ⟨0x110, 2, 256, 0xFFFF0001, false, [(.rwl 0, 0xFFFFFFFF)]⟩,
  /- ING_SL_CONF -/ ⟨0x114, 2, 256, 0x0, false, [(.rwl 0, 0xFFFF)]⟩,
  /- ING_SL_FX -/ ⟨0x118, 2, 256, 0x0, false, [(.rwl 0, 0xFFFFFFFF)]⟩,
  /- ING_SL_FY -/ ⟨0x11C, 2, 256, 0x0, false, [(.rwl 0, 0xFFFFFFFF)]⟩,
  /- ING_SL_CX -/ ⟨0x120, 2, 256, 0x0, false, [(.rwl 0, 0xFFFFFFFF)]⟩,
  /- ING_SL_CY -/ ⟨0x124, 2, 256, 0x0, false, [(.rwl 0, 0xFFFFFFFF)]⟩,
  /- ING_SL_EXT -/ ⟨0x128, 2, 256, 0x0, false, [(.rwl 0, 0xFF)]⟩,
  /- ING_SL_FRAME_TO -/ ⟨0x12C, 2, 256, 0xC350, false, [(.rwl 0, 0xFFFF)]⟩,
  /- ING_SL_BUF_BASE -/ ⟨0x130, 2, 256, 0x0, true, [(.rwl 0, 0xFFFFFFFFFFFF)]⟩,
  /- ING_SL_BUF_STRIDE -/ ⟨0x138, 2, 256, 0x0, false, [(.rwl 0, 0xFFFFFFFF)]⟩,
  /- ING_SL_CTRL -/ ⟨0x13C, 2, 256, 0x0, false, [(.rw, 0x1), (.wo, 0x2)]⟩,
  /- ING_SL_STAT -/ ⟨0x140, 2, 256, 0x0, false, [(.ro, 0x1F)]⟩,
  /- ING_SL_OVR -/ ⟨0x144, 2, 256, 0x0, false, [(.rc, 0xFFFF)]⟩,
  /- ING_SL_DROP_HDR -/ ⟨0x148, 2, 256, 0x0, false, [(.rc, 0xFFFF)]⟩,
  /- ING_SL_DROP_CRC -/ ⟨0x14C, 2, 256, 0x0, false, [(.rc, 0xFFFF)]⟩,
  /- ING_SL_DROP_SHAPE -/ ⟨0x150, 2, 256, 0x0, false, [(.rc, 0xFFFF)]⟩,
  /- ING_SL_DROP_TO -/ ⟨0x154, 2, 256, 0x0, false, [(.rc, 0xFFFF)]⟩,
  /- ING_SL_DROP_EXT -/ ⟨0x158, 2, 256, 0x0, false, [(.rc, 0xFFFF)]⟩,
  /- ING_SL_STAMP_FB -/ ⟨0x15C, 2, 256, 0x0, false, [(.rc, 0xFFFF)]⟩,
  /- ING_SL_FRAMES -/ ⟨0x160, 2, 256, 0x0, false, [(.ro, 0xFFFFFFFF)]⟩]

/-- Registers of page kind `wldG` (Table WLD-8). -/
def rowsWldG : List RegRow := [
  /- WLD_CTRL -/ ⟨0x040, 1, 0, 0x0, false, [(.rw, 0x1), (.rwl 0, 0x2), (.wo, 0x700)]⟩,
  /- WLD_STAT -/ ⟨0x044, 1, 0, 0x0, false, [(.ro, 0x7F)]⟩,
  /- WLD_MEM_BASE -/ ⟨0x048, 1, 0, 0x0, true, [(.rwl 0, 0xFFFFFFFFFFFF)]⟩,
  /- WLD_CPOOL_CNT -/ ⟨0x050, 1, 0, 0x0, false, [(.rwl 0, 0x7FFFFF)]⟩,
  /- WLD_FPOOL_CNT -/ ⟨0x054, 1, 0, 0x0, false, [(.rwl 0, 0xFFFFFF)]⟩,
  /- WLD_ORIGIN -/ ⟨0x058, 3, 4, 0x0, false, [(.rwl 0, 0xFFFFFFFF)]⟩,
  /- WLD_UNK_CLEAR -/ ⟨0x064, 1, 0, 0x0, false, [(.rwl 1, 0xFFFF)]⟩,
  /- WLD_OUTSIDE -/ ⟨0x068, 1, 0, 0x8001, false, [(.rwl 1, 0xFFFF)]⟩,
  /- WLD_FUSE_CFG -/ ⟨0x06C, 1, 0, 0xA0F, false, [(.rwl 1, 0xFF0F)]⟩,
  /- WLD_FUSE_RESERVE -/ ⟨0x070, 1, 0, 0x10001000, false, [(.rwl 1, 0xFFFFFFFF)]⟩,
  /- WLD_CACHE_OFF -/ ⟨0x074, 1, 0, 0x0, false, [(.rwl 0, 0x7F00000)]⟩,
  /- WLD_CACHE_SIZE -/ ⟨0x078, 1, 0, 0x10, false, [(.rwl 0, 0x3F)]⟩,
  /- WLD_LOAD_ADDR -/ ⟨0x080, 1, 0, 0x0, true, [(.rw, 0xFFFFFFFFFFFF)]⟩,
  /- WLD_LOAD_CNT -/ ⟨0x088, 1, 0, 0x0, false, [(.rw, 0xFFFFF)]⟩,
  /- WLD_LOAD_DONE_CNT -/ ⟨0x08C, 1, 0, 0x0, false, [(.ro, 0xFFFFF)]⟩,
  /- WLD_EPOCH_NEWEST -/ ⟨0x090, 1, 0, 0x0, false, [(.ro, 0xFFFFFFFF)]⟩,
  /- WLD_EPOCH_OLDEST -/ ⟨0x094, 1, 0, 0x0, false, [(.ro, 0xFFFFFFFF)]⟩,
  /- WLD_PIN_PASS -/ ⟨0x098, 1, 0, 0x0, false, [(.ro, 0xFFFFFFFF)]⟩,
  /- WLD_PIN_MOOR -/ ⟨0x09C, 1, 0, 0x0, false, [(.ro, 0xFFFFFFFF)]⟩,
  /- WLD_PIN -/ ⟨0x0A0, 4, 4, 0x0, false, [(.rw, 0xFFFFFFFF)]⟩,
  /- WLD_CPOOL_FREE -/ ⟨0x0B0, 1, 0, 0x0, false, [(.ro, 0x7FFFFF)]⟩,
  /- WLD_FPOOL_FREE -/ ⟨0x0B4, 1, 0, 0x0, false, [(.ro, 0xFFFFFF)]⟩,
  /- WLD_CUT_WAIT_CNT -/ ⟨0x0B8, 1, 0, 0x0, false, [(.rc, 0xFFFF)]⟩,
  /- WLD_CUT_WAIT_US -/ ⟨0x0BC, 1, 0, 0x0, false, [(.rc, 0xFFFFFFFF)]⟩,
  /- WLD_CUT_MERGED -/ ⟨0x0C0, 1, 0, 0x0, false, [(.rc, 0xFFFF)]⟩,
  /- WLD_CUT_LAT -/ ⟨0x0C4, 1, 0, 0x0, false, [(.ro, 0xFFFFFF)]⟩,
  /- WLD_FUSE_CLIP -/ ⟨0x0C8, 1, 0, 0x0, false, [(.rc, 0xFFFF)]⟩,
  /- WLD_FILTERED -/ ⟨0x0CC, 1, 0, 0x0, false, [(.rc, 0xFFFFFFFF)]⟩,
  /- WLD_NO_STATE -/ ⟨0x0D0, 1, 0, 0x0, false, [(.rc, 0xFFFF)]⟩,
  /- WLD_LOAD_REJ -/ ⟨0x0D4, 1, 0, 0x0, false, [(.rc, 0xFFFF)]⟩,
  /- WLD_LOAD_BUSY -/ ⟨0x0D8, 1, 0, 0x0, false, [(.rc, 0xFFFF)]⟩,
  /- WLD_PRED_REJ -/ ⟨0x0DC, 1, 0, 0x0, false, [(.rc, 0xFFFF)]⟩,
  /- WLD_STATIC_UNK -/ ⟨0x0E0, 1, 0, 0x0, false, [(.rc, 0xFFFF)]⟩,
  /- WLD_DIR_BAD -/ ⟨0x0E4, 1, 0, 0x0, false, [(.rc, 0xFFFF)]⟩,
  /- WLD_CACHE_MISS -/ ⟨0x0E8, 1, 0, 0x0, false, [(.rc, 0xFFFFFFFF)]⟩,
  /- WLD_CPOOL_ADDR -/ ⟨0x0F0, 1, 0, 0x0, true, [(.ro, 0xFFFFFFFFFFFFFFFF)]⟩,
  /- WLD_FPOOL_ADDR -/ ⟨0x0F8, 1, 0, 0x0, true, [(.ro, 0xFFFFFFFFFFFFFFFF)]⟩,
  /- WLD_MEM_END -/ ⟨0x100, 1, 0, 0x0, true, [(.ro, 0xFFFFFFFFFFFFFFFF)]⟩]

/-- Registers of page kind `wldAtt` (Table WLD-9). -/
def rowsWldAtt : List RegRow := [
  /- WLD_ATT_CFG -/ ⟨0x040, 16, 32, 0x0, false, [(.rw, 0x3FF)]⟩,
  /- WLD_ATT_BOX_LO -/ ⟨0x044, 16, 32, 0x0, false, [(.rw, 0x1FFFFFFF)]⟩,
  /- WLD_ATT_BOX_HI -/ ⟨0x048, 16, 32, 0x0, false, [(.rw, 0x1FFFFFFF)]⟩,
  /- WLD_ATT_CMD -/ ⟨0x04C, 16, 32, 0x0, false, [(.wo, 0x3)]⟩,
  /- WLD_ATT_STAT -/ ⟨0x050, 16, 32, 0x0, false, [(.ro, 0x31FFF)]⟩]

/-- Registers of page kind `cndG` (Table CND-6). -/
def rowsCndG : List RegRow := [
  /- CND_CTRL -/ ⟨0x040, 1, 0, 0x0, false, [(.rw, 0x10F)]⟩,
  /- CND_PASS_SEQ -/ ⟨0x044, 1, 0, 0x0, false, [(.rw, 0xFFFFFFFF)]⟩,
  /- CND_SEED -/ ⟨0x048, 1, 0, 0x0, true, [(.rwl 0, 0xFFFFFFFFFFFFFFFF)]⟩,
  /- CND_TRUNC -/ ⟨0x050, 1, 0, 0x0, false, [(.ro, 0x3FFFF)]⟩,
  /- CND_BAD_CAND -/ ⟨0x054, 1, 0, 0x0, false, [(.rc, 0xFFFF)]⟩,
  /- CND_PERT_SAT -/ ⟨0x058, 1, 0, 0x0, false, [(.rc, 0xFFFF)]⟩,
  /- CND_COST_SAT -/ ⟨0x05C, 1, 0, 0x0, false, [(.rc, 0xFFFF)]⟩]

/-- Registers of page kind `cndR` (Table CND-7). -/
def rowsCndR : List RegRow := [
  /- CND_R_DESC_ADDR -/ ⟨0x040, 1, 0, 0x0, true, [(.rw, 0xFFFFFFFFFFFF)]⟩,
  /- CND_R_TOOL_ADDR -/ ⟨0x048, 1, 0, 0x0, true, [(.rw, 0xFFFFFFFFFFFF)]⟩,
  /- CND_R_CMD -/ ⟨0x050, 1, 0, 0x0, false, [(.wo, 0x703)]⟩,
  /- CND_R_STAT -/ ⟨0x054, 1, 0, 0x0, false, [(.ro, 0x7FFFF0F)]⟩,
  /- CND_R_RS_ADDR -/ ⟨0x058, 1, 0, 0x0, true, [(.rwl 0, 0xFFFFFFFFFFFF)]⟩,
  /- CND_R_RS_PUT -/ ⟨0x060, 1, 0, 0x0, false, [(.rw, 0xFFFFFFFF)]⟩,
  /- CND_R_HB_STRIDE -/ ⟨0x064, 1, 0, 0x0, false, [(.rw, 0x1FFF)]⟩,
  /- CND_R_HB_ADDR -/ ⟨0x068, 1, 0, 0x0, true, [(.rw, 0xFFFFFFFFFFFF)]⟩,
  /- CND_R_HB_PUB -/ ⟨0x070, 1, 0, 0x0, false, [(.wo, 0x3FFFF)]⟩,
  /- CND_R_HB_SEQ -/ ⟨0x074, 1, 0, 0x0, false, [(.ro, 0xFFFFFFFF)]⟩,
  /- CND_R_HB_PINNED -/ ⟨0x078, 1, 0, 0x0, false, [(.ro, 0xFFFFFFFF)]⟩,
  /- CND_R_RANGE_HB -/ ⟨0x07C, 1, 0, 0x0, false, [(.rw, 0x3FFFF)]⟩,
  /- CND_R_RANGE_PT -/ ⟨0x080, 1, 0, 0x0, false, [(.rw, 0x3FFFF)]⟩,
  /- CND_R_RANGE_LP -/ ⟨0x084, 1, 0, 0x0, false, [(.rw, 0x3FFFF)]⟩,
  /- CND_R_PASS_CFG -/ ⟨0x088, 1, 0, 0x18101010, false, [(.rw, 0x1F7F7F1F)]⟩,
  /- CND_R_SEED_CFG -/ ⟨0x08C, 1, 0, 0x40, false, [(.rw, 0xFF)]⟩,
  /- CND_R_SEED_ADDR -/ ⟨0x090, 1, 0, 0x0, true, [(.rw, 0xFFFFFFFFFFFF)]⟩,
  /- CND_R_COST_CFG -/ ⟨0x098, 1, 0, 0x1000280, false, [(.rw, 0xFFFFFFFF)]⟩,
  /- CND_R_BIAS_PT -/ ⟨0x09C, 1, 0, 0x0, false, [(.rw, 0xFFFFFFFF)]⟩,
  /- CND_R_BIAS_LP -/ ⟨0x0A0, 1, 0, 0x0, false, [(.rw, 0xFFFFFFFF)]⟩,
  /- CND_R_LP_CFG -/ ⟨0x0A4, 1, 0, 0x18000, false, [(.rw, 0x7F3FF3FF)]⟩,
  /- CND_R_LP_IN_ADDR -/ ⟨0x0A8, 1, 0, 0x0, true, [(.rw, 0xFFFFFFFFFFFF)]⟩,
  /- CND_R_LP_IN_LEN -/ ⟨0x0B0, 1, 0, 0x0, false, [(.rw, 0x3FF)]⟩,
  /- CND_R_AMP -/ ⟨0x0C0, 8, 4, 0x0, false, [(.rw, 0xFFFFFFFF)]⟩,
  /- CND_R_W -/ ⟨0x0E0, 8, 4, 0x1000, false, [(.rw, 0xFFFFFFFF)]⟩,
  /- CND_R_LP_CENTRE -/ ⟨0x100, 8, 4, 0x0, false, [(.rw, 0xFFFFFFFF)]⟩,
  /- CND_R_LP_SCALE -/ ⟨0x120, 8, 4, 0x0, false, [(.rw, 0xFFFFFFFF)]⟩]

/-- Registers of page kind `swpG` (Table SWP-4, Table SWP-5). -/
def rowsSwpG : List RegRow := [
  /- SWP_CTRL -/ ⟨0x040, 1, 0, 0x0, false, [(.rw, 0x3)]⟩,
  /- SWP_INFL_CAP -/ ⟨0x044, 1, 0, 0x500, false, [(.rwl 1, 0xFFFF)]⟩,
  /- SWP_XR_CFG -/ ⟨0x048, 1, 0, 0x4E20, false, [(.rwl 1, 0xFFFFFFF)]⟩,
  /- SWP_RES_ADDR -/ ⟨0x050, 1, 0, 0x0, true, [(.rwl 0, 0xFFFFFFFFFFFF)]⟩,
  /- SWP_LIST_ADDR -/ ⟨0x058, 1, 0, 0x0, true, [(.rwl 0, 0xFFFFFFFFFFFF)]⟩,
  /- SWP_RES_CNT -/ ⟨0x060, 1, 0, 0x0, false, [(.ro, 0x3FFFF)]⟩,
  /- SWP_SWEPT -/ ⟨0x064, 1, 0, 0x0, false, [(.ro, 0x3FFFF)]⟩,
  /- SWP_UNSWEPT -/ ⟨0x068, 1, 0, 0x0, false, [(.ro, 0x3FFFF)]⟩,
  /- SWP_SWEEP_TIME -/ ⟨0x06C, 1, 0, 0x0, false, [(.ro, 0xFFFFFF)]⟩,
  /- SWP_STALL -/ ⟨0x070, 1, 0, 0x0, false, [(.rc, 0xFFFFFFFF)]⟩,
  /- SWP_FETCH_FAULT -/ ⟨0x074, 1, 0, 0x0, false, [(.rc, 0xFFFF)]⟩,
  /- SWP_XR_SKIP -/ ⟨0x078, 1, 0, 0x0, false, [(.rc, 0xFFFF)]⟩,
  /- SWP_GROUPS -/ ⟨0x07C, 1, 0, 0x0, false, [(.ro, 0xFF)]⟩,
  /- SWP_PAIR_SKIP -/ ⟨0x080, 1, 0, 0x0, false, [(.rc, 0xFFFF)]⟩,
  /- SWP_R_MARGIN -/ ⟨0x100, 4, 64, 0x1000100, false, [(.rwl 1, 0xFFFFFFFF)]⟩,
  /- SWP_R_PAIR_CNT -/ ⟨0x104, 4, 64, 0x0, false, [(.rw, 0x1FF)]⟩,
  /- SWP_R_PAIR_ADDR -/ ⟨0x108, 4, 64, 0x0, true, [(.rw, 0xFFFFFFFFFFFF)]⟩,
  /- SWP_R_BEST -/ ⟨0x110, 4, 64, 0x0, false, [(.ro, 0xFFFFF)]⟩,
  /- SWP_R_BEST_COST -/ ⟨0x114, 4, 64, 0x0, false, [(.ro, 0xFFFFFFFF)]⟩,
  /- SWP_R_LIST -/ ⟨0x118, 4, 64, 0x0, false, [(.ro, 0x3F)]⟩,
  /- SWP_R_N_OK -/ ⟨0x11C, 4, 64, 0x0, false, [(.ro, 0x3FFFF)]⟩,
  /- SWP_R_N_NOCLR -/ ⟨0x120, 4, 64, 0x0, false, [(.ro, 0x3FFFF)]⟩,
  /- SWP_R_N_UNDER -/ ⟨0x124, 4, 64, 0x0, false, [(.ro, 0x3FFFF)]⟩,
  /- SWP_R_N_FAULT -/ ⟨0x128, 4, 64, 0x0, false, [(.ro, 0x3FFFF)]⟩,
  /- SWP_R_N_UNSWEPT -/ ⟨0x12C, 4, 64, 0x0, false, [(.ro, 0x3FFFF)]⟩,
  /- SWP_R_PATH_T0 -/ ⟨0x130, 4, 64, 0x0, true, [(.ro, 0xFFFFFFFFFFFFFFFF)]⟩,
  /- SWP_R_PATH -/ ⟨0x138, 4, 64, 0x0, false, [(.ro, 0x17F), (.wo, 0x10000)]⟩,
  /- SWP_R_MIN_CLR -/ ⟨0x13C, 4, 64, 0x0, false, [(.ro, 0xFFFF)]⟩,
  /- SWP_ATT_LEV -/ ⟨0x200, 16, 4, 0x0, false, [(.rwl 1, 0xFFFFFFFF)]⟩]

/-- Registers of page kind `swpLg` (Table SWP-6). -/
def rowsSwpLg : List RegRow := [
  /- SWP_G_CAND -/ ⟨0x040, 1, 0, 0x0, false, [(.rc, 0xFFFFFFFF)]⟩,
  /- SWP_G_STALL -/ ⟨0x044, 1, 0, 0x0, false, [(.rc, 0xFFFFFFFF)]⟩,
  /- SWP_G_KAT -/ ⟨0x048, 1, 0, 0x0, false, [(.rc, 0xFFFF)]⟩,
  /- SWP_G_SHADOW_MM -/ ⟨0x04C, 1, 0, 0x0, false, [(.ro, 0xFFFF)]⟩,
  /- SWP_G_SHADOW_CNT -/ ⟨0x050, 1, 0, 0x0, false, [(.ro, 0xFFFFFFFF)]⟩,
  /- SWP_G_SVC_REQ -/ ⟨0x054, 1, 0, 0x0, false, [(.rw, 0x7)]⟩]

/-- Registers of page kind `solG` (Table SOL-10). -/
def rowsSolG : List RegRow := [
  /- SOL_CTRL -/ ⟨0x040, 1, 0, 0x0, false, [(.wo, 0x1)]⟩,
  /- SOL_STAT -/ ⟨0x044, 1, 0, 0x0, false, [(.ro, 0x1F0003)]⟩,
  /- SOL_MEM_BASE -/ ⟨0x048, 1, 0, 0x0, true, [(.rwl 0, 0xFFFFFFFFFFFF)]⟩,
  /- SOL_PROB_CNT -/ ⟨0x050, 1, 0, 0x0, false, [(.rwl 0, 0x3FFF)]⟩,
  /- SOL_CMD -/ ⟨0x054, 1, 0, 0x0, false, [(.wo, 0x71FFF)]⟩,
  /- SOL_UPD_ADDR -/ ⟨0x058, 1, 0, 0x0, true, [(.rw, 0xFFFFFFFFFFFF)]⟩,
  /- SOL_UPD_CNT -/ ⟨0x060, 1, 0, 0x0, false, [(.rw, 0xFFFF)]⟩,
  /- SOL_LAUNCH -/ ⟨0x064, 1, 0, 0x0, false, [(.wo, 0x11FFF)]⟩,
  /- SOL_QUERY -/ ⟨0x068, 1, 0, 0x0, false, [(.rw, 0x1FFF)]⟩,
  /- SOL_QUERY_STAT -/ ⟨0x06C, 1, 0, 0x0, false, [(.ro, 0xFF07)]⟩,
  /- SOL_QUEUED -/ ⟨0x070, 1, 0, 0x0, false, [(.ro, 0x3FFF3FFF)]⟩,
  /- SOL_DONE_CNT -/ ⟨0x074, 1, 0, 0x0, false, [(.ro, 0xFFFFFFFF)]⟩,
  /- SOL_EXPIRED -/ ⟨0x078, 1, 0, 0x0, false, [(.rc, 0xFFFF)]⟩,
  /- SOL_NAR_CNT -/ ⟨0x07C, 1, 0, 0x0, false, [(.rc, 0xFFFF)]⟩,
  /- SOL_SAT_CNT -/ ⟨0x080, 1, 0, 0x0, false, [(.rc, 0xFFFF)]⟩,
  /- SOL_TIMEOUT_CNT -/ ⟨0x084, 1, 0, 0x0, false, [(.rc, 0xFFFF)]⟩,
  /- SOL_RELAUNCH -/ ⟨0x088, 1, 0, 0x0, false, [(.rc, 0xFFFF)]⟩,
  /- SOL_HELD -/ ⟨0x08C, 1, 0, 0x0, false, [(.rc, 0xFFFF)]⟩,
  /- SOL_UPD_REJ -/ ⟨0x090, 1, 0, 0x0, false, [(.rc, 0xFFFF)]⟩,
  /- SOL_UPD_BUSY -/ ⟨0x094, 1, 0, 0x0, false, [(.rc, 0xFFFF)]⟩,
  /- SOL_NO_SOURCE -/ ⟨0x098, 1, 0, 0x0, false, [(.rc, 0xFFFF)]⟩,
  /- SOL_UPD_PAIRS -/ ⟨0x09C, 1, 0, 0x0, false, [(.ro, 0xFFFFFFFF)]⟩]

/-- Registers of page kind `solLg` (Table SOL-11). -/
def rowsSolLg : List RegRow := [
  /- SOL_G_PROB -/ ⟨0x040, 1, 0, 0x0, false, [(.ro, 0x11FFF)]⟩,
  /- SOL_G_NEXT -/ ⟨0x044, 1, 0, 0x0, false, [(.ro, 0x11FFF)]⟩,
  /- SOL_G_RUNS -/ ⟨0x048, 1, 0, 0x0, false, [(.rc, 0xFFFFFFFF)]⟩,
  /- SOL_G_BUSY -/ ⟨0x04C, 1, 0, 0x0, false, [(.rc, 0xFFFFFFFF)]⟩,
  /- SOL_G_ECC_CORR -/ ⟨0x050, 1, 0, 0x0, false, [(.rc, 0xFFFF)]⟩,
  /- SOL_G_SHADOW_MM -/ ⟨0x054, 1, 0, 0x0, false, [(.ro, 0xFFFF)]⟩,
  /- SOL_G_SHADOW_CNT -/ ⟨0x058, 1, 0, 0x0, false, [(.ro, 0xFFFFFFFF)]⟩,
  /- SOL_G_SVC_REQ -/ ⟨0x05C, 1, 0, 0x0, false, [(.rw, 0x7)]⟩]

/-- Registers of page kind `chgG` (Table CHG-7). -/
def rowsChgG : List RegRow := [
  /- CHG_CTRL -/ ⟨0x040, 1, 0, 0x3F, false, [(.rwl 0, 0x3F)]⟩,
  /- CHG_STAT -/ ⟨0x044, 1, 0, 0x0, false, [(.ro, 0x7FF0003)]⟩,
  /- CHG_MODEL_ADDR -/ ⟨0x048, 1, 0, 0x0, true, [(.rw, 0xFFFFFFFFFFFF)]⟩,
  /- CHG_CMD -/ ⟨0x050, 1, 0, 0x0, false, [(.wo, 0xFF0703FF)]⟩,
  /- CHG_CMD_STAT -/ ⟨0x054, 1, 0, 0x0, false, [(.ro, 0x1FFF)]⟩,
  /- CHG_REF_CFG -/ ⟨0x058, 1, 0, 0x6440, false, [(.rwl 0, 0xFFFFFF)]⟩,
  /- CHG_DRIFT_CFG -/ ⟨0x05C, 1, 0, 0xD1808, false, [(.rwl 0, 0xFFFFFF)]⟩,
  /- CHG_REFRESH_CFG -/ ⟨0x060, 1, 0, 0x3C0540, false, [(.rwl 0, 0xFFFFFF)]⟩,
  /- CHG_SHADOW_TOL -/ ⟨0x064, 1, 0, 0x4, false, [(.rwl 0, 0xF)]⟩,
  /- CHG_MT_QUERY -/ ⟨0x068, 1, 0, 0x0, false, [(.rw, 0x3FF)]⟩,
  /- CHG_MT_STAT -/ ⟨0x06C, 1, 0, 0x0, false, [(.ro, 0xF7F03)]⟩,
  /- CHG_EVALS -/ ⟨0x070, 1, 0, 0x0, false, [(.rc, 0xFFFFFFFF)]⟩,
  /- CHG_REF_CHECKS -/ ⟨0x074, 1, 0, 0x0, false, [(.rc, 0xFFFFFFFF)]⟩,
  /- CHG_VOID_CHECKS -/ ⟨0x078, 1, 0, 0x0, false, [(.rc, 0xFFFF)]⟩,
  /- CHG_SCANS -/ ⟨0x07C, 1, 0, 0x0, false, [(.rc, 0xFFFF)]⟩,
  /- CHG_REFRESH_ROWS -/ ⟨0x080, 1, 0, 0x0, false, [(.rc, 0xFFFFFFFF)]⟩,
  /- CHG_CLIP -/ ⟨0x084, 1, 0, 0x0, false, [(.rc, 0xFFFFFFFF)]⟩,
  /- CHG_SAT_OUT -/ ⟨0x088, 1, 0, 0x0, false, [(.rc, 0xFFFF)]⟩,
  /- CHG_NET_ERR -/ ⟨0x08C, 1, 0, 0x0, false, [(.rc, 0xFFFF)]⟩,
  /- CHG_EXPIRED -/ ⟨0x090, 1, 0, 0x0, false, [(.rc, 0xFFFF)]⟩,
  /- CHG_WEAR_SUM -/ ⟨0x094, 1, 0, 0x0, false, [(.ro, 0x1FF01FF)]⟩]

/-- Registers of page kind `chgA` (Table CHG-8). -/
def rowsChgA : List RegRow := [
  /- CHG_A_STAT -/ ⟨0x040, 1, 0, 0x0, false, [(.ro, 0x3FFFF33), (.w1c, 0x8)]⟩,
  /- CHG_A_WEAR -/ ⟨0x044, 1, 0, 0x0, false, [(.ro, 0x1FFFF)]⟩,
  /- CHG_A_WEAR_ROW -/ ⟨0x048, 1, 0, 0x0, false, [(.ro, 0x1FF)]⟩,
  /- CHG_A_WEAR_TOT -/ ⟨0x04C, 1, 0, 0x0, false, [(.ro, 0xFFFFFFFF)]⟩,
  /- CHG_A_ROW_SEL -/ ⟨0x050, 1, 0, 0x0, false, [(.rw, 0x1FF)]⟩,
  /- CHG_A_ROW_WEAR -/ ⟨0x054, 1, 0, 0x0, false, [(.ro, 0x1FFFF)]⟩,
  /- CHG_A_TRIM -/ ⟨0x058, 1, 0, 0x4000, false, [(.ro, 0xFFFF)]⟩,
  /- CHG_A_REF_MAX -/ ⟨0x05C, 1, 0, 0x0, false, [(.ro, 0xF00FF)]⟩,
  /- CHG_A_REF -/ ⟨0x060, 16, 4, 0x0, false, [(.ro, 0x3FF03FF)]⟩,
  /- CHG_A_EVALS -/ ⟨0x0A0, 1, 0, 0x0, false, [(.rc, 0xFFFFFFFF)]⟩,
  /- CHG_A_CLIP -/ ⟨0x0A4, 1, 0, 0x0, false, [(.rc, 0xFFFF)]⟩,
  /- CHG_A_REFRESHED -/ ⟨0x0A8, 1, 0, 0x0, false, [(.rc, 0xFFFFFFFF)]⟩,
  /- CHG_A_SCAN_AGE -/ ⟨0x0AC, 1, 0, 0x0, false, [(.ro, 0xFFFFFF)]⟩,
  /- CHG_A_SHADOW_MM -/ ⟨0x0B0, 1, 0, 0x0, false, [(.ro, 0xFFFF)]⟩,
  /- CHG_A_SHADOW_CNT -/ ⟨0x0B4, 1, 0, 0x0, false, [(.ro, 0xFFFFFFFF)]⟩,
  /- CHG_A_SVC_REQ -/ ⟨0x0B8, 1, 0, 0x0, false, [(.rw, 0xFF07)]⟩]

/-- Registers of page kind `dspG` (Table BPG-11, Table DSP-6, Table DSP-7, Table DSP-8). -/
def rowsDspG : List RegRow := [
  /- DSP_CTRL -/ ⟨0x040, 1, 0, 0x0, false, [(.rw, 0xFF)]⟩,
  /- DSP_STAT -/ ⟨0x044, 1, 0, 0x0, false, [(.ro, 0x7F007F)]⟩,
  /- DSP_WD_US -/ ⟨0x048, 1, 0, 0x2710, false, [(.rwl 0, 0xFFFFFF)]⟩,
  /- DSP_ACCEPTED -/ ⟨0x04C, 1, 0, 0x0, false, [(.rc, 0xFFFFFFFF)]⟩,
  /- DSP_REFUSED -/ ⟨0x050, 1, 0, 0x0, false, [(.rc, 0xFFFFFFFF)]⟩,
  /- DSP_EXPIRED -/ ⟨0x054, 1, 0, 0x0, false, [(.rc, 0xFFFFFFFF)]⟩,
  /- DSP_PREEMPT -/ ⟨0x058, 1, 0, 0x0, false, [(.rc, 0xFFFFFFFF)]⟩,
  /- DSP_PASS_REFUSED -/ ⟨0x05C, 1, 0, 0x0, false, [(.rc, 0xFFFF)]⟩,
  /- DSP_LOCK_QUERY -/ ⟨0x060, 1, 0, 0x0, false, [(.rw, 0xFFFF)]⟩,
  /- DSP_LOCK_STAT -/ ⟨0x064, 1, 0, 0x0, false, [(.ro, 0xFFFF00FF)]⟩,
  /- DSP_WEDGED -/ ⟨0x068, 1, 0, 0x0, true, [(.ro, 0xFFFFFFFFFFFFFFFF)]⟩,
  /- DSP_IDLE_MASK -/ ⟨0x070, 1, 0, 0x0, true, [(.ro, 0xFFFFFFFFFFFFFFFF)]⟩,
  /- DSP_B_CFG -/ ⟨0x100, 32, 32, 0xE000000, false, [(.rwl 0, 0x1FFF0003)]⟩,
  /- DSP_B_CTRL -/ ⟨0x104, 32, 32, 0x0, false, [(.wo, 0x1)]⟩,
  /- DSP_B_HELD -/ ⟨0x108, 32, 32, 0x0, false, [(.ro, 0x1FFF1FFF)]⟩,
  /- DSP_B_CREDIT -/ ⟨0x10C, 32, 32, 0x0, false, [(.ro, 0x1FFF)]⟩,
  /- DSP_B_EXPIRED -/ ⟨0x110, 32, 32, 0x0, false, [(.rc, 0xFFFF)]⟩,
  /- DSP_B_REFUSED -/ ⟨0x114, 32, 32, 0x0, false, [(.rc, 0xFFFF)]⟩,
  /- DSP_B_HWM -/ ⟨0x118, 32, 32, 0x0, false, [(.rc, 0x1FFF)]⟩,
  /- DSP_B_STARTED -/ ⟨0x11C, 32, 32, 0x0, false, [(.rc, 0xFFFFFFFF)]⟩,
  /- DSP_C_SVC_REQ -/ ⟨0x500, 4, 16, 0x0, false, [(.rw, 0x37)]⟩,
  /- DSP_C_SHADOW_MM -/ ⟨0x504, 4, 16, 0x0, false, [(.ro, 0xFFFF)]⟩,
  /- DSP_C_SHADOW_CNT -/ ⟨0x508, 4, 16, 0x0, false, [(.ro, 0xFFFFFFFF)]⟩,
  /- DSP_C_STAT -/ ⟨0x50C, 4, 16, 0x0, false, [(.ro, 0x7)]⟩,
  /- DSP_PASS_TEMPLATE -/ ⟨0x800, 128, 4, 0x0, false, [(.rwl 0, 0xFFFFFFFF)]⟩,
  /- BPG_LOAD_SRC -/ ⟨0xC00, 1, 0, 0x0, true, [(.rwl 1, 0xFFFFFFFFFFFF)]⟩,
  /- BPG_LOAD_DST -/ ⟨0xC08, 1, 0, 0x0, false, [(.rwl 1, 0xFFFFF)]⟩,
  /- BPG_LOAD_LEN -/ ⟨0xC0C, 1, 0, 0x0, false, [(.rwl 1, 0x1FFFF)]⟩,
  /- BPG_LOAD_CRC -/ ⟨0xC10, 1, 0, 0x0, false, [(.rwl 1, 0xFFFFFFFF)]⟩,
  /- BPG_LOAD_CMD -/ ⟨0xC14, 1, 0, 0x0, false, [(.rwl 1, 0x1)]⟩,
  /- BPG_LOAD_STAT -/ ⟨0xC18, 1, 0, 0x0, false, [(.ro, 0xF)]⟩,
  /- BPG_LOADS -/ ⟨0xC1C, 1, 0, 0x0, false, [(.rc, 0xFFFF)]⟩,
  /- BPG_FAULT_CNT -/ ⟨0xC20, 1, 0, 0x0, false, [(.rc, 0xFFFF)]⟩,
  /- BPG_FAULT_INFO -/ ⟨0xC24, 1, 0, 0x0, false, [(.ro, 0x3FFF03F)]⟩,
  /- BPG_FAULT_PROG -/ ⟨0xC28, 1, 0, 0x0, false, [(.ro, 0xFFFFF)]⟩,
  /- BPG_FW_BASE -/ ⟨0xC2C, 1, 0, 0xC0000, false, [(.ro, 0xFFFFF)]⟩,
  /- BPG_YIELDS -/ ⟨0xC30, 1, 0, 0x0, false, [(.rc, 0xFFFFFFFF)]⟩]

/-- Registers of page kind `dspE` (Table DSP-9). -/
def rowsDspE : List RegRow := [
  /- DSP_E_BASINS -/ ⟨0x040, 1, 0, 0x7FFFFFFF, false, [(.rwl 0, 0xFFFFFFFF)]⟩,
  /- DSP_E_STAT -/ ⟨0x044, 1, 0, 0x0, false, [(.ro, 0x3F071F)]⟩,
  /- DSP_E_LOCK -/ ⟨0x048, 1, 0, 0x0, false, [(.ro, 0xFFFF)]⟩,
  /- DSP_E_TAG -/ ⟨0x04C, 1, 0, 0x0, false, [(.ro, 0xFFFFFFFF)]⟩,
  /- DSP_E_RUN_US -/ ⟨0x050, 1, 0, 0x0, false, [(.ro, 0xFFFFFF)]⟩,
  /- DSP_E_DONE -/ ⟨0x054, 1, 0, 0x0, false, [(.rc, 0xFFFFFFFF)]⟩,
  /- DSP_E_SAVES -/ ⟨0x058, 1, 0, 0x0, false, [(.rc, 0xFFFF)]⟩,
  /- DSP_E_BUSY -/ ⟨0x05C, 1, 0, 0x0, false, [(.rc, 0xFFFFFFFF)]⟩]

/-- Registers of page kind `spd` (Table SPD-8). -/
def rowsSpd : List RegRow := [
  /- SPD_CTRL -/ ⟨0x040, 1, 0, 0x1, false, [(.rwl 0, 0x1)]⟩,
  /- SPD_SCRUB_S -/ ⟨0x044, 1, 0, 0xA, false, [(.rwl 0, 0xFFFF)]⟩,
  /- SPD_CE_CNT -/ ⟨0x048, 1, 0, 0x0, false, [(.rc, 0xFFFFFFFF)]⟩,
  /- SPD_UE_CNT -/ ⟨0x04C, 1, 0, 0x0, false, [(.rc, 0xFFFF)]⟩,
  /- SPD_UE_ADDR -/ ⟨0x050, 1, 0, 0x0, true, [(.ro, 0xFFFFFFFFFFFF)]⟩,
  /- SPD_UE_INFO -/ ⟨0x058, 1, 0, 0x0, false, [(.ro, 0xFF07)]⟩,
  /- SPD_COLL_FLAG -/ ⟨0x05C, 1, 0, 0x0, false, [(.rc, 0xFFFFFFFF)]⟩,
  /- SPD_COLL_SILENT -/ ⟨0x060, 1, 0, 0x0, false, [(.rc, 0xFFFF)]⟩,
  /- SPD_COLL_INFO -/ ⟨0x064, 1, 0, 0x0, false, [(.ro, 0xFF07)]⟩,
  /- SPD_COLL_ADDR -/ ⟨0x068, 1, 0, 0x0, true, [(.ro, 0xFFFFFFFFFFFF)]⟩,
  /- SPD_WW_CNT -/ ⟨0x070, 1, 0, 0x0, false, [(.rc, 0xFFFF)]⟩,
  /- SPD_STALL_CNT -/ ⟨0x074, 1, 0, 0x0, false, [(.rc, 0xFFFFFFFF)]⟩,
  /- SPD_SCRUB_PASS -/ ⟨0x078, 1, 0, 0x0, false, [(.ro, 0xFFFFFFFF)]⟩]

/-- Registers of page kind `seal` (Table SPD-9). -/
def rowsSeal : List RegRow := [
  /- SPD_SEAL_STAT -/ ⟨0x040, 1, 0, 0x13, false, [(.ro, 0x173)]⟩,
  /- SPD_SEAL_CTRL -/ ⟨0x044, 1, 0, 0x0, false, [(.wo, 0xF)]⟩,
  /- SPD_SEAL_CAUSE -/ ⟨0x048, 1, 0, 0xA, false, [(.ro, 0xF)]⟩,
  /- SPD_WIPE_CNT -/ ⟨0x04C, 1, 0, 0x1, false, [(.ro, 0xFFFF)]⟩,
  /- SPD_WIPE_TIME -/ ⟨0x050, 1, 0, 0x0, false, [(.ro, 0xFFFF)]⟩,
  /- SPD_SEAL_DENIED -/ ⟨0x054, 1, 0, 0x0, false, [(.rc, 0xFFFF)]⟩,
  /- SPD_SEAL_MERGED -/ ⟨0x058, 1, 0, 0x0, false, [(.rc, 0xFFFF)]⟩,
  /- SPD_SEAL_T -/ ⟨0x060, 1, 0, 0x0, true, [(.ro, 0xFFFFFFFFFFFFFFFF)]⟩]

/-- Registers of page kind `hstG` (Table HST-7). -/
def rowsHstG : List RegRow := [
  /- HST_LINK -/ ⟨0x040, 1, 0, 0x0, false, [(.ro, 0x101F7)]⟩,
  /- HST_BAR4_WIN -/ ⟨0x048, 1, 0, 0x0, true, [(.rwl 0, 0x7FFFFFFFF)]⟩,
  /- HST_PASS_ABORT -/ ⟨0x050, 1, 0, 0x0, false, [(.wo, 0x1)]⟩,
  /- HST_W64 -/ ⟨0x058, 1, 0, 0x0, true, [(.ro, 0xFFFFFFFFFFFFFFFF)]⟩,
  /- HST_BAR2_UNMAP -/ ⟨0x060, 1, 0, 0x0, false, [(.rc, 0xFFFF)]⟩,
  /- HST_POISON -/ ⟨0x064, 1, 0, 0x0, false, [(.rc, 0xFFFF)]⟩,
  /- HST_CPL_ERR -/ ⟨0x068, 1, 0, 0x0, false, [(.rc, 0xFFFF)]⟩,
  /- HST_PR_BASE -/ ⟨0x080, 4, 32, 0x0, true, [(.rw, 0xFFFFFFFFFFFFFFFF)]⟩,
  /- HST_PR_SHADOW -/ ⟨0x088, 4, 32, 0x0, true, [(.rw, 0xFFFFFFFFFFFFFFFF)]⟩,
  /- HST_PR_CFG -/ ⟨0x090, 4, 32, 0x0, false, [(.rw, 0x7FF3F)]⟩,
  /- HST_PR_CI -/ ⟨0x094, 4, 32, 0x0, false, [(.rw, 0xFFFFFFFF)]⟩,
  /- HST_PR_PI -/ ⟨0x098, 4, 32, 0x0, false, [(.ro, 0xFFFFFFFF)]⟩,
  /- HST_PR_OVERRUN -/ ⟨0x09C, 4, 32, 0x0, false, [(.rc, 0xFFFF)]⟩,
  /- HST_DMA_BASE -/ ⟨0x100, 8, 32, 0x0, true, [(.rw, 0xFFFFFFFFFFFFFFFF)]⟩,
  /- HST_DMA_CFG -/ ⟨0x108, 8, 32, 0x0, false, [(.rw, 0x7FFF3)]⟩,
  /- HST_DMA_DB -/ ⟨0x10C, 8, 32, 0x0, false, [(.wo, 0xFFFFFFFF)]⟩,
  /- HST_DMA_CI -/ ⟨0x110, 8, 32, 0x0, false, [(.ro, 0xFFFFFFFF)]⟩,
  /- HST_DMA_STAT -/ ⟨0x114, 8, 32, 0x0, false, [(.ro, 0x3FF)]⟩]

/-- Registers of page kind `hstIn` (Table HST-8). -/
def rowsHstIn : List RegRow := [
  /- HST_IN_BASE -/ ⟨0x040, 64, 32, 0x0, true, [(.rw, 0xFFFFFFFFFFFFFFFF)]⟩,
  /- HST_IN_CFG -/ ⟨0x048, 64, 32, 0x0, false, [(.rw, 0x1FF1)]⟩,
  /- HST_IN_DB -/ ⟨0x04C, 64, 32, 0x0, false, [(.wo, 0xFFFFFFFF)]⟩,
  /- HST_IN_STAT -/ ⟨0x050, 64, 32, 0x0, false, [(.ro, 0x1F)]⟩,
  /- HST_IN_CI -/ ⟨0x054, 64, 32, 0x0, false, [(.ro, 0xFFFFFFFF)]⟩,
  /- HST_IN_PI -/ ⟨0x058, 64, 32, 0x0, false, [(.ro, 0xFFFFFFFF)]⟩,
  /- HST_IN_REF -/ ⟨0x05C, 64, 32, 0x0, false, [(.rc, 0xFFFFFFFF)]⟩]

/-- Registers of page kind `hstCq` (Table HST-9). -/
def rowsHstCq : List RegRow := [
  /- HST_CQ_BASE -/ ⟨0x040, 64, 48, 0x0, true, [(.rw, 0xFFFFFFFFFFFFFFFF)]⟩,
  /- HST_CQ_SHADOW -/ ⟨0x048, 64, 48, 0x0, true, [(.rw, 0xFFFFFFFFFFFFFFFF)]⟩,
  /- HST_CQ_CFG -/ ⟨0x050, 64, 48, 0x0, false, [(.rw, 0xFF07FF7F)]⟩,
  /- HST_CQ_COAL -/ ⟨0x054, 64, 48, 0x0, false, [(.rw, 0xFFFF)]⟩,
  /- HST_CQ_CI -/ ⟨0x058, 64, 48, 0x0, false, [(.rw, 0xFFFFFFFF)]⟩,
  /- HST_CQ_PI -/ ⟨0x05C, 64, 48, 0x0, false, [(.ro, 0xFFFFFFFF)]⟩,
  /- HST_CQ_HELD -/ ⟨0x060, 64, 48, 0x0, false, [(.ro, 0x7F)]⟩,
  /- HST_CQ_LOST -/ ⟨0x064, 64, 48, 0x0, false, [(.rc, 0xFFFF)]⟩]

/-- Registers of page kind `aqdN` (Table AQD-10). -/
def rowsAqdN : List RegRow := [
  /- AQD_NODE -/ ⟨0x400, 1, 0, 0x0, false, [(.rwl 1, 0x7F), (.rw, 0x300)]⟩,
  /- AQD_TOPO -/ ⟨0x404, 1, 0, 0x0, false, [(.rwl 1, 0x1F77F3)]⟩,
  /- AQD_NODE_STAT -/ ⟨0x408, 1, 0, 0x2, false, [(.ro, 0xFF1F)]⟩,
  /- AQD_NODES_UP -/ ⟨0x410, 4, 4, 0x0, false, [(.ro, 0xFFFFFFFF)]⟩,
  /- AQD_RACL -/ ⟨0x420, 1, 0, 0x5, false, [(.rwl 1, 0x7)]⟩,
  /- AQD_REQ_TO -/ ⟨0x424, 1, 0, 0x14, false, [(.rw, 0xFFFF)]⟩,
  /- AQD_NODE_TO -/ ⟨0x428, 1, 0, 0x64, false, [(.rw, 0xFFFF)]⟩,
  /- AQD_CUT_CFG -/ ⟨0x42C, 1, 0, 0x1F40000, false, [(.rwl 1, 0xFFFF007F)]⟩,
  /- AQD_SVC_CFG -/ ⟨0x430, 1, 0, 0x1000, false, [(.rw, 0xFFFF)]⟩,
  /- AQD_SVC_REQ -/ ⟨0x434, 1, 0, 0x0, false, [(.rw, 0x7F07)]⟩,
  /- AQD_SYNC_BW -/ ⟨0x438, 1, 0, 0x14, false, [(.rw, 0xFF)]⟩,
  /- AQD_EPOCH_FAB -/ ⟨0x43C, 1, 0, 0x0, false, [(.ro, 0xFFFFFFFF)]⟩,
  /- AQD_CUT_LAT -/ ⟨0x440, 1, 0, 0x0, false, [(.ro, 0xFFFFFF)]⟩,
  /- AQD_RD_RETRY -/ ⟨0x444, 1, 0, 0x0, false, [(.rc, 0xFFFF)]⟩,
  /- AQD_REQ_FAIL -/ ⟨0x448, 1, 0, 0x0, false, [(.rc, 0xFFFF)]⟩,
  /- AQD_FUSE_FOREIGN -/ ⟨0x44C, 1, 0, 0x0, false, [(.rc, 0xFFFFFFFF)]⟩,
  /- AQD_LOST_REGIONS -/ ⟨0x450, 1, 0, 0x0, false, [(.ro, 0xFFF)]⟩,
  /- AQD_OFFER_REF -/ ⟨0x454, 1, 0, 0x0, false, [(.rc, 0xFFFF)]⟩,
  /- AQD_REMOTE_DENIED -/ ⟨0x458, 1, 0, 0x0, false, [(.rc, 0xFFFF)]⟩,
  /- AQD_SVC_IGNORED -/ ⟨0x45C, 1, 0, 0x0, false, [(.rc, 0xFFFF)]⟩,
  /- AQD_NODE_SHADOW_MM -/ ⟨0x460, 1, 0, 0x0, false, [(.ro, 0xFFFF)]⟩,
  /- AQD_NODE_SHADOW_CNT -/ ⟨0x464, 1, 0, 0x0, false, [(.ro, 0xFFFFFFFF)]⟩,
  /- AQD_OFFER -/ ⟨0x800, 16, 4, 0x0, false, [(.wo, 0xFFFFFFFF)]⟩]

/-- Registers of page kind `aqd` (Table AQD-9). -/
def rowsAqd : List RegRow := [
  /- AQD_L_CFG -/ ⟨0x040, 1, 0, 0x2, false, [(.rwl 0, 0x3)]⟩,
  /- AQD_L_STAT -/ ⟨0x044, 1, 0, 0x0, false, [(.ro, 0xFF077F07)]⟩,
  /- AQD_L_TX -/ ⟨0x048, 1, 0, 0x0, false, [(.rc, 0xFFFFFFFF)]⟩,
  /- AQD_L_RX -/ ⟨0x04C, 1, 0, 0x0, false, [(.rc, 0xFFFFFFFF)]⟩,
  /- AQD_L_FEC_CORR -/ ⟨0x050, 1, 0, 0x0, false, [(.rc, 0xFFFFFFFF)]⟩,
  /- AQD_L_FEC_UNCORR -/ ⟨0x054, 1, 0, 0x0, false, [(.rc, 0xFFFF)]⟩,
  /- AQD_L_RETRY -/ ⟨0x058, 1, 0, 0x0, false, [(.rc, 0xFFFF)]⟩,
  /- AQD_L_DOWN_CNT -/ ⟨0x05C, 1, 0, 0x0, false, [(.rc, 0xFFFF)]⟩,
  /- AQD_L_TEST_US -/ ⟨0x060, 1, 0, 0x3E8, false, [(.rwl 0, 0xFFFFFF)]⟩,
  /- AQD_L_SVC_REQ -/ ⟨0x064, 1, 0, 0x0, false, [(.rw, 0x7)]⟩,
  /- AQD_L_SHADOW_MM -/ ⟨0x068, 1, 0, 0x0, false, [(.ro, 0xFFFF)]⟩,
  /- AQD_L_SHADOW_CNT -/ ⟨0x06C, 1, 0, 0x0, false, [(.ro, 0xFFFFFFFF)]⟩,
  /- AQD_L_STALL -/ ⟨0x070, 1, 0, 0x0, false, [(.rc, 0xFFFFFFFF)]⟩]

/-- Registers of page kind `saf` (Table SAF-3, Table SAF-5, Table SAF-6). -/
def rowsSaf : List RegRow := [
  /- SAF_CTRL -/ ⟨0x040, 1, 0, 0x0, false, [(.wo, 0x1)]⟩,
  /- SAF_STAT -/ ⟨0x044, 1, 0, 0x4, false, [(.ro, 0x1FF)]⟩,
  /- SAF_CFG -/ ⟨0x048, 1, 0, 0x0, false, [(.rwl 0, 0xF)]⟩,
  /- SAF_PERIOD_US -/ ⟨0x04C, 1, 0, 0x3E8, false, [(.rwl 0, 0x3FF)]⟩,
  /- SAF_LAG_US -/ ⟨0x050, 1, 0, 0x3E8, false, [(.rwl 0, 0xFFFF)]⟩,
  /- SAF_TSAMP -/ ⟨0x054, 1, 0, 0x4E20, false, [(.rwl 0, 0xFFFFFFF)]⟩,
  /- SAF_RESTART_N -/ ⟨0x058, 1, 0, 0x4, false, [(.rwl 0, 0xF)]⟩,
  /- SAF_CH_CFG -/ ⟨0x05C, 1, 0, 0x64, false, [(.rwl 0, 0xFFFF)]⟩,
  /- SAF_LEAD_US -/ ⟨0x060, 1, 0, 0x0, false, [(.ro, 0xFFFFFF)]⟩,
  /- SAF_PARAM_CRC -/ ⟨0x064, 1, 0, 0x0, false, [(.ro, 0xFFFFFFFF)]⟩,
  /- SAF_ACK -/ ⟨0x068, 1, 0, 0x0, false, [(.wo, 0xFFFF)]⟩,
  /- SAF_ITIME -/ ⟨0x070, 1, 0, 0x0, true, [(.ro, 0xFFFFFFFFFFFFFFFF)]⟩,
  /- SAF_CH_STAT -/ ⟨0x078, 1, 0, 0x0, false, [(.ro, 0xF)]⟩,
  /- SAF_DIAG -/ ⟨0x07C, 1, 0, 0x0, false, [(.ro, 0xFFFF)]⟩,
  /- SAF_VERIFY -/ ⟨0x080, 1, 0, 0x0, false, [(.ro, 0xFFFFFFFF)]⟩,
  /- SAF_WARN_CNT -/ ⟨0x084, 1, 0, 0x0, false, [(.rc, 0xFFFF)]⟩,
  /- SAF_LOG_WR -/ ⟨0x088, 1, 0, 0x0, false, [(.ro, 0x3F)]⟩,
  /- SAF_LOG_RD -/ ⟨0x08C, 1, 0, 0x0, false, [(.rw, 0x3F)]⟩,
  /- SAF_LOG_LOST -/ ⟨0x090, 1, 0, 0x0, false, [(.rc, 0xFFFF)]⟩,
  /- SAF_ML_CMD -/ ⟨0x0C0, 1, 0, 0x0, false, [(.wo, 0x1)]⟩,
  /- SAF_ML_STAT -/ ⟨0x0C4, 1, 0, 0x0, false, [(.ro, 0x3)]⟩,
  /- SAF_R_CFG -/ ⟨0x100, 4, 64, 0x0, false, [(.rwl 0, 0xF)]⟩,
  /- SAF_R_CONN -/ ⟨0x104, 4, 64, 0x0, false, [(.rwl 0, 0xFFFF)]⟩,
  /- SAF_R_CYCLE_US -/ ⟨0x108, 4, 64, 0x3E8, false, [(.rwl 0, 0x1FFF)]⟩,
  /- SAF_R_MARGIN -/ ⟨0x10C, 4, 64, 0x1000100, false, [(.rwl 0, 0xFFFFFFFF)]⟩,
  /- SAF_R_DESC_CRC -/ ⟨0x110, 4, 64, 0x0, false, [(.rwl 0, 0xFFFFFFFF)]⟩,
  /- SAF_R_TOOL_CRC -/ ⟨0x114, 4, 64, 0x0, false, [(.rwl 0, 0xFFFFFFFF)]⟩,
  /- SAF_R_STAT -/ ⟨0x118, 4, 64, 0x1, false, [(.ro, 0x3F3F07)]⟩,
  /- SAF_R_TG_SEQ -/ ⟨0x11C, 4, 64, 0x0, false, [(.ro, 0xFFFFFFFF)]⟩,
  /- SAF_R_TG_REJ -/ ⟨0x120, 4, 64, 0x0, false, [(.ro, 0xF), (.rc, 0xFFFF0000)]⟩,
  /- SAF_R_TG_LOST -/ ⟨0x124, 4, 64, 0x0, false, [(.rc, 0xFFFF)]⟩,
  /- SAF_R_MINCLR -/ ⟨0x128, 4, 64, 0x0, false, [(.ro, 0x3FFFFFF)]⟩,
  /- SAF_R_LAG -/ ⟨0x12C, 4, 64, 0x0, false, [(.ro, 0xFFFF)]⟩,
  /- SAF_R_TRACK -/ ⟨0x200, 32, 4, 0x0, false, [(.rwl 0, 0xFFFFFFFF)]⟩,
  /- SAF_INBOX -/ ⟨0x400, 24, 4, 0x0, false, [(.rw, 0xFFFFFFFF)]⟩,
  /- SAF_INBOX -/ ⟨0x480, 24, 4, 0x0, false, [(.rw, 0xFFFFFFFF)]⟩,
  /- SAF_INBOX -/ ⟨0x500, 24, 4, 0x0, false, [(.rw, 0xFFFFFFFF)]⟩,
  /- SAF_INBOX -/ ⟨0x580, 24, 4, 0x0, false, [(.rw, 0xFFFFFFFF)]⟩,
  /- SAF_LOG_REC -/ ⟨0x800, 256, 4, 0x0, false, [(.ro, 0xFFFFFFFF)]⟩]

/-- Registers of page kind `thm` (Table THM-5). -/
def rowsThm : List RegRow := [
  /- THM_CTRL -/ ⟨0x040, 1, 0, 0x3, false, [(.rwl 0, 0x3)]⟩,
  /- THM_STAT -/ ⟨0x044, 1, 0, 0x0, false, [(.ro, 0x3F0FFF)]⟩,
  /- THM_TMAX -/ ⟨0x048, 1, 0, 0x0, false, [(.ro, 0xFFFF)]⟩,
  /- THM_KW_SET -/ ⟨0x04C, 1, 0, 0x37, false, [(.rwl 0, 0x7F)]⟩,
  /- THM_KW_PMAX -/ ⟨0x050, 1, 0, 0xAC8, false, [(.rwl 0, 0xFFF)]⟩,
  /- THM_KW_POWER -/ ⟨0x054, 1, 0, 0x0, false, [(.ro, 0xFFFF)]⟩,
  /- THM_RTH_CFG -/ ⟨0x058, 1, 0, 0x640A50, false, [(.rwl 0, 0xFFFFFFF)]⟩,
  /- THM_RTH -/ ⟨0x05C, 1, 0, 0x0, false, [(.ro, 0xFFFFFFFF)]⟩,
  /- THM_POWER -/ ⟨0x060, 1, 0, 0x0, false, [(.ro, 0xFFFFFFFF)]⟩,
  /- THM_T_IN -/ ⟨0x064, 1, 0, 0x0, false, [(.ro, 0xFFFF)]⟩,
  /- THM_T_OUT -/ ⟨0x068, 1, 0, 0x0, false, [(.ro, 0xFFFF)]⟩,
  /- THM_NTC_CFG -/ ⟨0x06C, 1, 0, 0xD6B03E8, false, [(.rwl 0, 0xFFFFFFFF)]⟩,
  /- THM_SENS_VALID -/ ⟨0x070, 1, 0, 0x0, true, [(.ro, 0xFFFFFFFFFFFFFFFF)]⟩,
  /- THM_THR_US -/ ⟨0x078, 1, 0, 0x0, false, [(.rc, 0xFFFFFFFF)]⟩,
  /- THM_TRIP_OPENS -/ ⟨0x07C, 1, 0, 0x0, false, [(.rc, 0xFFFF)]⟩,
  /- THM_DEG_CNT -/ ⟨0x080, 1, 0, 0x0, false, [(.rc, 0xFFFF)]⟩,
  /- THM_S -/ ⟨0x100, 64, 4, 0x0, false, [(.ro, 0x1FFFF)]⟩]

/-- Registers of page kind `fio` (Table FIO-7). -/
def rowsFio : List RegRow := [
  /- FIO_GPIO_DIR -/ ⟨0x040, 1, 0, 0x0, false, [(.rwl 0, 0xFFFF)]⟩,
  /- FIO_GPIO_OUT -/ ⟨0x044, 1, 0, 0x0, false, [(.rw, 0xFFFF)]⟩,
  /- FIO_GPIO_SET -/ ⟨0x048, 1, 0, 0x0, false, [(.wo, 0xFFFF)]⟩,
  /- FIO_GPIO_CLR -/ ⟨0x04C, 1, 0, 0x0, false, [(.wo, 0xFFFF)]⟩,
  /- FIO_GPIO_IN -/ ⟨0x050, 1, 0, 0x0, false, [(.ro, 0xFFFF)]⟩,
  /- FIO_GPIO_EDGE -/ ⟨0x054, 1, 0, 0x0, false, [(.rwl 0, 0xFFFFFFFF)]⟩,
  /- FIO_GPIO_FILT -/ ⟨0x058, 1, 0, 0x1, false, [(.rwl 0, 0xF)]⟩,
  /- FIO_L_CFG -/ ⟨0x100, 2, 32, 0x27103200, false, [(.rwl 0, 0xFFFFFF0F)]⟩,
  /- FIO_L_CMD -/ ⟨0x104, 2, 32, 0xDAC, false, [(.rw, 0x7FFF)]⟩,
  /- FIO_L_FAIL -/ ⟨0x108, 2, 32, 0x53FC0DAC, false, [(.rwl 0, 0xFFFFFFFF)]⟩,
  /- FIO_L_CTRL -/ ⟨0x10C, 2, 32, 0x0, false, [(.wo, 0x1)]⟩,
  /- FIO_L_STAT -/ ⟨0x110, 2, 32, 0x40, false, [(.ro, 0x37F)]⟩,
  /- FIO_L_TARGET -/ ⟨0x114, 2, 32, 0xDAC, false, [(.ro, 0x7FFF)]⟩,
  /- FIO_L_ACT -/ ⟨0x118, 2, 32, 0x0, false, [(.ro, 0x7FFF)]⟩,
  /- FIO_L_VLOOP -/ ⟨0x11C, 2, 32, 0x0, false, [(.ro, 0xFFFF)]⟩]

/-- Registers of page kind `mgt` (Table FIO-8). -/
def rowsMgt : List RegRow := [
  /- MGT_CTRL -/ ⟨0x040, 1, 0, 0x0, false, [(.wo, 0x1)]⟩,
  /- MGT_STAT -/ ⟨0x044, 1, 0, 0x8, false, [(.ro, 0x7F1F)]⟩,
  /- MGT_MAC -/ ⟨0x048, 1, 0, 0x0, true, [(.ro, 0xFFFFFFFFFFFF)]⟩,
  /- MGT_IP -/ ⟨0x050, 1, 0, 0x0, false, [(.rwl 0, 0xFFFFFFFF)]⟩,
  /- MGT_MASK -/ ⟨0x054, 1, 0, 0x0, false, [(.rwl 0, 0xFFFFFFFF)]⟩,
  /- MGT_GW -/ ⟨0x058, 1, 0, 0x0, false, [(.rwl 0, 0xFFFFFFFF)]⟩,
  /- MGT_DST_IP -/ ⟨0x05C, 1, 0, 0x0, false, [(.rwl 0, 0xFFFFFFFF)]⟩,
  /- MGT_PORTS -/ ⟨0x060, 1, 0, 0xB86AB86A, false, [(.rwl 0, 0xFFFFFFFF)]⟩,
  /- MGT_NET_CFG -/ ⟨0x064, 1, 0, 0x0, false, [(.rwl 0, 0x1FFF)]⟩,
  /- MGT_CFG -/ ⟨0x068, 1, 0, 0xA640101, false, [(.rwl 0, 0xFFF03FF)]⟩,
  /- MGT_KEY_ID -/ ⟨0x06C, 1, 0, 0x0, false, [(.ro, 0xFFFFFFFF)]⟩,
  /- MGT_SEQ -/ ⟨0x070, 1, 0, 0x0, false, [(.ro, 0xFFFFFFFF)]⟩,
  /- MGT_NONCE -/ ⟨0x074, 1, 0, 0x0, true, [(.ro, 0xFFFFFFFFFFFFFFFF)]⟩,
  /- MGT_TX -/ ⟨0x07C, 1, 0, 0x0, false, [(.rc, 0xFFFFFFFF)]⟩,
  /- MGT_LOST -/ ⟨0x080, 1, 0, 0x0, false, [(.rc, 0xFFFF)]⟩,
  /- MGT_UNACKED -/ ⟨0x084, 1, 0, 0x0, false, [(.rc, 0xFFFF)]⟩,
  /- MGT_AUTH_FAIL -/ ⟨0x088, 1, 0, 0x0, false, [(.rc, 0xFFFF)]⟩,
  /- MGT_RX_DROP -/ ⟨0x08C, 1, 0, 0x0, false, [(.rc, 0xFFFF)]⟩,
  /- MGT_MDIO -/ ⟨0x090, 1, 0, 0x0, false, [(.rw, 0x87FFFFFF)]⟩,
  /- MGT_SMB_CFG -/ ⟨0x094, 1, 0, 0x2, false, [(.rwl 0, 0xFF03)]⟩,
  /- MGT_SMB_ERR -/ ⟨0x098, 1, 0, 0x0, false, [(.rc, 0xFFFF)]⟩]

/-- Registers of page kind `sec` (Table SEC-11). -/
def rowsSec : List RegRow := [
  /- SEC_LC -/ ⟨0x040, 1, 0, 0x0, false, [(.ro, 0x7)]⟩,
  /- SEC_BOOT -/ ⟨0x044, 1, 0, 0x0, false, [(.ro, 0xFFFF7737)]⟩,
  /- SEC_OTP_STAT -/ ⟨0x048, 1, 0, 0x0, false, [(.ro, 0x3FF)]⟩,
  /- SEC_CMD -/ ⟨0x04C, 1, 0, 0x0, false, [(.wo, 0xFFFF000F)]⟩,
  /- SEC_ARG0 -/ ⟨0x050, 1, 0, 0x0, false, [(.rw, 0xFFFFFFFF)]⟩,
  /- SEC_ARG1 -/ ⟨0x054, 1, 0, 0x0, false, [(.rw, 0xFFFFFFFF)]⟩,
  /- SEC_XFER_ADDR -/ ⟨0x058, 1, 0, 0x0, true, [(.rw, 0xFFFFFFFFFFFF)]⟩,
  /- SEC_CMD_STAT -/ ⟨0x060, 1, 0, 0x0, false, [(.ro, 0x71F)]⟩,
  /- SEC_TAMPER -/ ⟨0x064, 1, 0, 0x0, false, [(.w1c, 0xF), (.ro, 0xF0)]⟩,
  /- SEC_NONCE -/ ⟨0x068, 1, 0, 0x0, true, [(.ro, 0xFFFFFFFFFFFFFFFF)]⟩,
  /- SEC_HU_CFG -/ ⟨0x070, 1, 0, 0xA01D6, false, [(.rwl 0, 0xFFFFFFFF)]⟩,
  /- SEC_HU_EMIN -/ ⟨0x074, 1, 0, 0x3E8, false, [(.rwl 0, 0xFFFF)]⟩,
  /- SEC_HU_STAT -/ ⟨0x078, 1, 0, 0x0, false, [(.ro, 0x7F)]⟩,
  /- SEC_HU_V -/ ⟨0x07C, 1, 0, 0x0, false, [(.ro, 0xFFFF)]⟩,
  /- SEC_HU_E -/ ⟨0x080, 1, 0, 0x0, false, [(.ro, 0xFFFFFFFF)]⟩,
  /- SEC_HU_TEST -/ ⟨0x084, 1, 0, 0x0, false, [(.ro, 0xFFFFFFFF)]⟩,
  /- SEC_HU_DIS_CNT -/ ⟨0x088, 1, 0, 0x0, false, [(.rc, 0xFFFF)]⟩,
  /- SEC_TAMPER_CNT -/ ⟨0x08C, 1, 0, 0x0, false, [(.rc, 0xFFFFFFFF)]⟩,
  /- SEC_LOG_WR -/ ⟨0x090, 1, 0, 0x0, false, [(.ro, 0x3F)]⟩,
  /- SEC_LOG_RD -/ ⟨0x094, 1, 0, 0x0, false, [(.rw, 0x3F)]⟩,
  /- SEC_LOG_LOST -/ ⟨0x098, 1, 0, 0x0, false, [(.rc, 0xFFFF)]⟩,
  /- SEC_LOG_REC -/ ⟨0x800, 256, 4, 0x0, false, [(.ro, 0xFFFFFFFF)]⟩]

/-- Registers of page kind `cal` (Table CAL-9). -/
def rowsCal : List RegRow := [
  /- CAL_CTRL -/ ⟨0x040, 1, 0, 0x1, false, [(.rwl 0, 0x1)]⟩,
  /- CAL_WMASK -/ ⟨0x044, 1, 0, 0x1C0, false, [(.rwl 0, 0x1FE)]⟩,
  /- CAL_XFER_ADDR -/ ⟨0x048, 1, 0, 0x0, true, [(.rw, 0xFFFFFFFFFFFF)]⟩,
  /- CAL_CMD -/ ⟨0x050, 1, 0, 0x0, false, [(.wo, 0x7)]⟩,
  /- CAL_CMD_STAT -/ ⟨0x054, 1, 0, 0x0, false, [(.ro, 0x73F070F)]⟩,
  /- CAL_VALID -/ ⟨0x058, 1, 0, 0x0, true, [(.ro, 0xFFFFFFFFFFFFFFFF)]⟩,
  /- CAL_PEND -/ ⟨0x060, 1, 0, 0x0, true, [(.ro, 0xFFFFFFFFFFFFFFFF)]⟩,
  /- CAL_FACTORY -/ ⟨0x068, 1, 0, 0x0, true, [(.ro, 0xFFFFFFFFFFFFFFFF)]⟩,
  /- CAL_BW -/ ⟨0x070, 1, 0, 0x3E80004, false, [(.rwl 0, 0xFFFF001F)]⟩,
  /- CAL_QUERY -/ ⟨0x074, 1, 0, 0x0, false, [(.rw, 0x3F)]⟩,
  /- CAL_QUERY_STAT -/ ⟨0x078, 1, 0, 0x0, false, [(.ro, 0xFF0FFFFF)]⟩,
  /- CAL_WRITES -/ ⟨0x07C, 1, 0, 0x0, false, [(.ro, 0xFFFFFFFF)]⟩,
  /- CAL_ECC_CORR -/ ⟨0x080, 1, 0, 0x0, false, [(.rc, 0xFFFF)]⟩,
  /- CAL_FORCED -/ ⟨0x084, 1, 0, 0x0, false, [(.rc, 0xFFFF)]⟩,
  /- CAL_UID -/ ⟨0x088, 1, 0, 0x0, true, [(.ro, 0xFFFFFFFFFFFFFFFF)]⟩]

/-- Registers of page kind `calJob` (Table CAL-10). -/
def rowsCalJob : List RegRow := [
  /- CAL_JOB_CFG -/ ⟨0x040, 8, 32, 0x0, false, [(.rw, 0xFFFF0001)]⟩,
  /- CAL_JOB_GAP -/ ⟨0x044, 8, 32, 0x0, false, [(.rw, 0xFFFFFF)]⟩,
  /- CAL_JOB_TRIG -/ ⟨0x048, 8, 32, 0x0, false, [(.wo, 0x1)]⟩,
  /- CAL_JOB_DONE -/ ⟨0x04C, 8, 32, 0x0, false, [(.wo, 0xFFFF)]⟩,
  /- CAL_JOB_STAT -/ ⟨0x050, 8, 32, 0x0, false, [(.ro, 0xFFFF0003)]⟩,
  /- CAL_JOB_OVR -/ ⟨0x054, 8, 32, 0x0, false, [(.rc, 0xFFFF)]⟩,
  /- CAL_JOB_TO -/ ⟨0x058, 8, 32, 0x0, false, [(.rc, 0xFFFFFFFF)]⟩,
  /- CAL_JOB_STALE -/ ⟨0x05C, 8, 32, 0x0, false, [(.rc, 0xFFFF)]⟩,
  /- CAL_JOB_TEMPLATE -/ ⟨0x200, 128, 4, 0x0, false, [(.rwl 0, 0xFFFFFFFF)]⟩]

/-- The block registers of a page.  The link 0 page carries the node registers beside its link registers (Table AQD-10). -/
def rowsOf : PageKind → List RegRow
  | .sys => rowsSys
  | .pwr => rowsPwr
  | .clk => rowsClk
  | .rst => rowsRst
  | .towG => rowsTowG
  | .towTrg => rowsTowTrg
  | .towEvt => rowsTowEvt
  | .towLog => rowsTowLog
  | .towTp => rowsTowTp
  | .ing => rowsIng
  | .wldG => rowsWldG
  | .wldAtt => rowsWldAtt
  | .cndG => rowsCndG
  | .cndR => rowsCndR
  | .swpG => rowsSwpG
  | .swpLg => rowsSwpLg
  | .solG => rowsSolG
  | .solLg => rowsSolLg
  | .chgG => rowsChgG
  | .chgA => rowsChgA
  | .dspG => rowsDspG
  | .dspE => rowsDspE
  | .spd => rowsSpd
  | .seal => rowsSeal
  | .hstG => rowsHstG
  | .hstIn => rowsHstIn
  | .hstCq => rowsHstCq
  | .aqdN => rowsAqd ++ rowsAqdN
  | .aqd => rowsAqd
  | .saf => rowsSaf
  | .thm => rowsThm
  | .fio => rowsFio
  | .mgt => rowsMgt
  | .sec => rowsSec
  | .cal => rowsCal
  | .calJob => rowsCalJob

end Sys2Proof.Machine
end

