-- ==== Sys2Proof/Machine/Addr.lean ====
section
/-!
DEFINITION. The register-space address of every register by the name its chapter gives it: a page argument `n` where like
pages repeat (R35), then an index where a register repeats within its page.
-/
namespace Sys2Proof.Machine.A

/-- SYS_ID -/ abbrev sysId : Nat := 0x40
/-- SYS_STRAPS -/ abbrev sysStraps : Nat := 0x44
/-- SYS_READY -/ abbrev sysReady : Nat := 0x48
/-- SYS_UNMAP_CNT -/ abbrev sysUnmapCnt : Nat := 0x4C
/-- SYS_WEDGE -/ abbrev sysWedge : Nat := 0x50
/-- SYS_QUIESCE_TO -/ abbrev sysQuiesceTo : Nat := 0x54
/-- SYS_RESET -/ abbrev sysReset : Nat := 0x60
/-- PWR_STAT -/ abbrev pwrStat : Nat := 0x1040
/-- PWR_TOTAL -/ abbrev pwrTotal : Nat := 0x1044
/-- PWR_ENERGY -/ abbrev pwrEnergy : Nat := 0x1048
/-- PWR_PEAK -/ abbrev pwrPeak : Nat := 0x1050
/-- PWR_R_V -/ abbrev pwrRV (k : Nat) : Nat := 0x1100 + k * 0x10
/-- PWR_R_I -/ abbrev pwrRI (k : Nat) : Nat := 0x1104 + k * 0x10
/-- PWR_R_FLAGS -/ abbrev pwrRFlags (k : Nat) : Nat := 0x1108 + k * 0x10
/-- PWR_R_MIN -/ abbrev pwrRMin (k : Nat) : Nat := 0x110C + k * 0x10
/-- CLK_REF -/ abbrev clkRef : Nat := 0x2040
/-- CLK_REF_PPM -/ abbrev clkRefPpm : Nat := 0x2044
/-- CLK_PLL_LOCK -/ abbrev clkPllLock : Nat := 0x2048
/-- CLK_PLL_LOST -/ abbrev clkPllLost : Nat := 0x204C
/-- CLK_DOM_RUN -/ abbrev clkDomRun : Nat := 0x2050
/-- CLK_MEAS_SEL -/ abbrev clkMeasSel : Nat := 0x2058
/-- CLK_MEAS -/ abbrev clkMeas : Nat := 0x205C
/-- RST_CAUSE -/ abbrev rstCause : Nat := 0x3040
/-- RST_FULL_CNT -/ abbrev rstFullCnt : Nat := 0x3044
/-- RST_HOT_CNT -/ abbrev rstHotCnt : Nat := 0x3048
/-- RST_BADKEY -/ abbrev rstBadkey : Nat := 0x304C
/-- RST_READY_US -/ abbrev rstReadyUs : Nat := 0x3050
/-- TOW_CTRL -/ abbrev towCtrl : Nat := 0x10040
/-- TOW_PASS_LEN -/ abbrev towPassLen : Nat := 0x10044
/-- TOW_PASS_PERIOD -/ abbrev towPassPeriod : Nat := 0x10048
/-- TOW_SYN_STEP -/ abbrev towSynStep : Nat := 0x1004C
/-- TOW_PASS_OVR -/ abbrev towPassOvr : Nat := 0x10050
/-- TOW_SUPERSEDE_CNT -/ abbrev towSupersedeCnt : Nat := 0x10054
/-- TOW_CLOSE_IDLE_CNT -/ abbrev towCloseIdleCnt : Nat := 0x10058
/-- TOW_INJ_REFUSED -/ abbrev towInjRefused : Nat := 0x1005C
/-- TOW_BACKSTOP_CNT -/ abbrev towBackstopCnt : Nat := 0x10060
/-- TOW_LOG_WR -/ abbrev towLogWr : Nat := 0x10064
/-- TOW_LOG_RD -/ abbrev towLogRd : Nat := 0x10068
/-- TOW_LOG_LOST -/ abbrev towLogLost : Nat := 0x1006C
/-- TOW_ARMED_CNT -/ abbrev towArmedCnt : Nat := 0x10070
/-- TOW_TRG_CFG -/ abbrev towTrgCfg (k : Nat) : Nat := 0x11040 + k * 0x8
/-- TOW_TRG_DLY -/ abbrev towTrgDly (k : Nat) : Nat := 0x11044 + k * 0x8
/-- TOW_TRG_OVR -/ abbrev towTrgOvr (k : Nat) : Nat := 0x110C0 + k * 0x4
/-- TOW_TRG_STAT -/ abbrev towTrgStat : Nat := 0x11100
/-- TOW_EV_W -/ abbrev towEvW (n k : Nat) : Nat := 0x12040 + n * 0x1000 + k * 0x4
/-- TOW_LOG_REC -/ abbrev towLogRec (k : Nat) : Nat := 0x16040 + k * 0x4
/-- TOW_TEMPLATE -/ abbrev towTemplate (k : Nat) : Nat := 0x16840 + k * 0x4
/-- TOW_TP_CFG -/ abbrev towTpCfg (n : Nat) : Nat := 0x17040 + n * 0x1000
/-- TOW_TP_SSI_CFG -/ abbrev towTpSsiCfg (n : Nat) : Nat := 0x17044 + n * 0x1000
/-- TOW_TP_POS -/ abbrev towTpPos (n : Nat) : Nat := 0x17048 + n * 0x1000
/-- TOW_TP_SET_POS -/ abbrev towTpSetPos (n : Nat) : Nat := 0x17050 + n * 0x1000
/-- TOW_TP_VEL -/ abbrev towTpVel (n : Nat) : Nat := 0x17058 + n * 0x1000
/-- TOW_TP_STAT -/ abbrev towTpStat (n : Nat) : Nat := 0x1705C + n * 0x1000
/-- TOW_TP_ZLATCH -/ abbrev towTpZlatch (n : Nat) : Nat := 0x17060 + n * 0x1000
/-- TOW_TP_QERR_CNT -/ abbrev towTpQerrCnt (n : Nat) : Nat := 0x17068 + n * 0x1000
/-- TOW_TP_SSI_ERR_CNT -/ abbrev towTpSsiErrCnt (n : Nat) : Nat := 0x1706C + n * 0x1000
/-- TOW_TP_REV_CNT -/ abbrev towTpRevCnt (n : Nat) : Nat := 0x17070 + n * 0x1000
/-- TOW_TP_SKIP_CNT -/ abbrev towTpSkipCnt (n : Nat) : Nat := 0x17074 + n * 0x1000
/-- ING_RX_CFG -/ abbrev ingRxCfg (n : Nat) : Nat := 0x20040 + n * 0x1000
/-- ING_RX_RATE -/ abbrev ingRxRate (n : Nat) : Nat := 0x20044 + n * 0x1000
/-- ING_RX_STAT -/ abbrev ingRxStat (n : Nat) : Nat := 0x20048 + n * 0x1000
/-- ING_RX_HDR_CORR -/ abbrev ingRxHdrCorr (n : Nat) : Nat := 0x2004C + n * 0x1000
/-- ING_RX_HDR_UNCORR -/ abbrev ingRxHdrUncorr (n : Nat) : Nat := 0x20050 + n * 0x1000
/-- ING_RX_UNMATCHED -/ abbrev ingRxUnmatched (n : Nat) : Nat := 0x20054 + n * 0x1000
/-- ING_RX_SOT_ERR -/ abbrev ingRxSotErr (n : Nat) : Nat := 0x20058 + n * 0x1000
/-- ING_SL_CFG -/ abbrev ingSlCfg (n k : Nat) : Nat := 0x20100 + n * 0x1000 + k * 0x100
/-- ING_SL_SIZE -/ abbrev ingSlSize (n k : Nat) : Nat := 0x20104 + n * 0x1000 + k * 0x100
/-- ING_SL_DSCALE -/ abbrev ingSlDscale (n k : Nat) : Nat := 0x20108 + n * 0x1000 + k * 0x100
/-- ING_SL_DCODE -/ abbrev ingSlDcode (n k : Nat) : Nat := 0x2010C + n * 0x1000 + k * 0x100
/-- ING_SL_ZRANGE -/ abbrev ingSlZrange (n k : Nat) : Nat := 0x20110 + n * 0x1000 + k * 0x100
/-- ING_SL_CONF -/ abbrev ingSlConf (n k : Nat) : Nat := 0x20114 + n * 0x1000 + k * 0x100
/-- ING_SL_FX -/ abbrev ingSlFx (n k : Nat) : Nat := 0x20118 + n * 0x1000 + k * 0x100
/-- ING_SL_FY -/ abbrev ingSlFy (n k : Nat) : Nat := 0x2011C + n * 0x1000 + k * 0x100
/-- ING_SL_CX -/ abbrev ingSlCx (n k : Nat) : Nat := 0x20120 + n * 0x1000 + k * 0x100
/-- ING_SL_CY -/ abbrev ingSlCy (n k : Nat) : Nat := 0x20124 + n * 0x1000 + k * 0x100
/-- ING_SL_EXT -/ abbrev ingSlExt (n k : Nat) : Nat := 0x20128 + n * 0x1000 + k * 0x100
/-- ING_SL_FRAME_TO -/ abbrev ingSlFrameTo (n k : Nat) : Nat := 0x2012C + n * 0x1000 + k * 0x100
/-- ING_SL_BUF_BASE -/ abbrev ingSlBufBase (n k : Nat) : Nat := 0x20130 + n * 0x1000 + k * 0x100
/-- ING_SL_BUF_STRIDE -/ abbrev ingSlBufStride (n k : Nat) : Nat := 0x20138 + n * 0x1000 + k * 0x100
/-- ING_SL_CTRL -/ abbrev ingSlCtrl (n k : Nat) : Nat := 0x2013C + n * 0x1000 + k * 0x100
/-- ING_SL_STAT -/ abbrev ingSlStat (n k : Nat) : Nat := 0x20140 + n * 0x1000 + k * 0x100
/-- ING_SL_OVR -/ abbrev ingSlOvr (n k : Nat) : Nat := 0x20144 + n * 0x1000 + k * 0x100
/-- ING_SL_DROP_HDR -/ abbrev ingSlDropHdr (n k : Nat) : Nat := 0x20148 + n * 0x1000 + k * 0x100
/-- ING_SL_DROP_CRC -/ abbrev ingSlDropCrc (n k : Nat) : Nat := 0x2014C + n * 0x1000 + k * 0x100
/-- ING_SL_DROP_SHAPE -/ abbrev ingSlDropShape (n k : Nat) : Nat := 0x20150 + n * 0x1000 + k * 0x100
/-- ING_SL_DROP_TO -/ abbrev ingSlDropTo (n k : Nat) : Nat := 0x20154 + n * 0x1000 + k * 0x100
/-- ING_SL_DROP_EXT -/ abbrev ingSlDropExt (n k : Nat) : Nat := 0x20158 + n * 0x1000 + k * 0x100
/-- ING_SL_STAMP_FB -/ abbrev ingSlStampFb (n k : Nat) : Nat := 0x2015C + n * 0x1000 + k * 0x100
/-- ING_SL_FRAMES -/ abbrev ingSlFrames (n k : Nat) : Nat := 0x20160 + n * 0x1000 + k * 0x100
/-- WLD_CTRL -/ abbrev wldCtrl : Nat := 0x30040
/-- WLD_STAT -/ abbrev wldStat : Nat := 0x30044
/-- WLD_MEM_BASE -/ abbrev wldMemBase : Nat := 0x30048
/-- WLD_CPOOL_CNT -/ abbrev wldCpoolCnt : Nat := 0x30050
/-- WLD_FPOOL_CNT -/ abbrev wldFpoolCnt : Nat := 0x30054
/-- WLD_ORIGIN -/ abbrev wldOrigin (k : Nat) : Nat := 0x30058 + k * 0x4
/-- WLD_UNK_CLEAR -/ abbrev wldUnkClear : Nat := 0x30064
/-- WLD_OUTSIDE -/ abbrev wldOutside : Nat := 0x30068
/-- WLD_FUSE_CFG -/ abbrev wldFuseCfg : Nat := 0x3006C
/-- WLD_FUSE_RESERVE -/ abbrev wldFuseReserve : Nat := 0x30070
/-- WLD_CACHE_OFF -/ abbrev wldCacheOff : Nat := 0x30074
/-- WLD_CACHE_SIZE -/ abbrev wldCacheSize : Nat := 0x30078
/-- WLD_LOAD_ADDR -/ abbrev wldLoadAddr : Nat := 0x30080
/-- WLD_LOAD_CNT -/ abbrev wldLoadCnt : Nat := 0x30088
/-- WLD_LOAD_DONE_CNT -/ abbrev wldLoadDoneCnt : Nat := 0x3008C
/-- WLD_EPOCH_NEWEST -/ abbrev wldEpochNewest : Nat := 0x30090
/-- WLD_EPOCH_OLDEST -/ abbrev wldEpochOldest : Nat := 0x30094
/-- WLD_PIN_PASS -/ abbrev wldPinPass : Nat := 0x30098
/-- WLD_PIN_MOOR -/ abbrev wldPinMoor : Nat := 0x3009C
/-- WLD_PIN -/ abbrev wldPin (k : Nat) : Nat := 0x300A0 + k * 0x4
/-- WLD_CPOOL_FREE -/ abbrev wldCpoolFree : Nat := 0x300B0
/-- WLD_FPOOL_FREE -/ abbrev wldFpoolFree : Nat := 0x300B4
/-- WLD_CUT_WAIT_CNT -/ abbrev wldCutWaitCnt : Nat := 0x300B8
/-- WLD_CUT_WAIT_US -/ abbrev wldCutWaitUs : Nat := 0x300BC
/-- WLD_CUT_MERGED -/ abbrev wldCutMerged : Nat := 0x300C0
/-- WLD_CUT_LAT -/ abbrev wldCutLat : Nat := 0x300C4
/-- WLD_FUSE_CLIP -/ abbrev wldFuseClip : Nat := 0x300C8
/-- WLD_FILTERED -/ abbrev wldFiltered : Nat := 0x300CC
/-- WLD_NO_STATE -/ abbrev wldNoState : Nat := 0x300D0
/-- WLD_LOAD_REJ -/ abbrev wldLoadRej : Nat := 0x300D4
/-- WLD_LOAD_BUSY -/ abbrev wldLoadBusy : Nat := 0x300D8
/-- WLD_PRED_REJ -/ abbrev wldPredRej : Nat := 0x300DC
/-- WLD_STATIC_UNK -/ abbrev wldStaticUnk : Nat := 0x300E0
/-- WLD_DIR_BAD -/ abbrev wldDirBad : Nat := 0x300E4
/-- WLD_CACHE_MISS -/ abbrev wldCacheMiss : Nat := 0x300E8
/-- WLD_CPOOL_ADDR -/ abbrev wldCpoolAddr : Nat := 0x300F0
/-- WLD_FPOOL_ADDR -/ abbrev wldFpoolAddr : Nat := 0x300F8
/-- WLD_MEM_END -/ abbrev wldMemEnd : Nat := 0x30100
/-- WLD_ATT_CFG -/ abbrev wldAttCfg (k : Nat) : Nat := 0x31040 + k * 0x20
/-- WLD_ATT_BOX_LO -/ abbrev wldAttBoxLo (k : Nat) : Nat := 0x31044 + k * 0x20
/-- WLD_ATT_BOX_HI -/ abbrev wldAttBoxHi (k : Nat) : Nat := 0x31048 + k * 0x20
/-- WLD_ATT_CMD -/ abbrev wldAttCmd (k : Nat) : Nat := 0x3104C + k * 0x20
/-- WLD_ATT_STAT -/ abbrev wldAttStat (k : Nat) : Nat := 0x31050 + k * 0x20
/-- CND_CTRL -/ abbrev cndCtrl : Nat := 0x40040
/-- CND_PASS_SEQ -/ abbrev cndPassSeq : Nat := 0x40044
/-- CND_SEED -/ abbrev cndSeed : Nat := 0x40048
/-- CND_TRUNC -/ abbrev cndTrunc : Nat := 0x40050
/-- CND_BAD_CAND -/ abbrev cndBadCand : Nat := 0x40054
/-- CND_PERT_SAT -/ abbrev cndPertSat : Nat := 0x40058
/-- CND_COST_SAT -/ abbrev cndCostSat : Nat := 0x4005C
/-- CND_R_DESC_ADDR -/ abbrev cndRDescAddr (n : Nat) : Nat := 0x41040 + n * 0x1000
/-- CND_R_TOOL_ADDR -/ abbrev cndRToolAddr (n : Nat) : Nat := 0x41048 + n * 0x1000
/-- CND_R_CMD -/ abbrev cndRCmd (n : Nat) : Nat := 0x41050 + n * 0x1000
/-- CND_R_STAT -/ abbrev cndRStat (n : Nat) : Nat := 0x41054 + n * 0x1000
/-- CND_R_RS_ADDR -/ abbrev cndRRsAddr (n : Nat) : Nat := 0x41058 + n * 0x1000
/-- CND_R_RS_PUT -/ abbrev cndRRsPut (n : Nat) : Nat := 0x41060 + n * 0x1000
/-- CND_R_HB_STRIDE -/ abbrev cndRHbStride (n : Nat) : Nat := 0x41064 + n * 0x1000
/-- CND_R_HB_ADDR -/ abbrev cndRHbAddr (n : Nat) : Nat := 0x41068 + n * 0x1000
/-- CND_R_HB_PUB -/ abbrev cndRHbPub (n : Nat) : Nat := 0x41070 + n * 0x1000
/-- CND_R_HB_SEQ -/ abbrev cndRHbSeq (n : Nat) : Nat := 0x41074 + n * 0x1000
/-- CND_R_HB_PINNED -/ abbrev cndRHbPinned (n : Nat) : Nat := 0x41078 + n * 0x1000
/-- CND_R_RANGE_HB -/ abbrev cndRRangeHb (n : Nat) : Nat := 0x4107C + n * 0x1000
/-- CND_R_RANGE_PT -/ abbrev cndRRangePt (n : Nat) : Nat := 0x41080 + n * 0x1000
/-- CND_R_RANGE_LP -/ abbrev cndRRangeLp (n : Nat) : Nat := 0x41084 + n * 0x1000
/-- CND_R_PASS_CFG -/ abbrev cndRPassCfg (n : Nat) : Nat := 0x41088 + n * 0x1000
/-- CND_R_SEED_CFG -/ abbrev cndRSeedCfg (n : Nat) : Nat := 0x4108C + n * 0x1000
/-- CND_R_SEED_ADDR -/ abbrev cndRSeedAddr (n : Nat) : Nat := 0x41090 + n * 0x1000
/-- CND_R_COST_CFG -/ abbrev cndRCostCfg (n : Nat) : Nat := 0x41098 + n * 0x1000
/-- CND_R_BIAS_PT -/ abbrev cndRBiasPt (n : Nat) : Nat := 0x4109C + n * 0x1000
/-- CND_R_BIAS_LP -/ abbrev cndRBiasLp (n : Nat) : Nat := 0x410A0 + n * 0x1000
/-- CND_R_LP_CFG -/ abbrev cndRLpCfg (n : Nat) : Nat := 0x410A4 + n * 0x1000
/-- CND_R_LP_IN_ADDR -/ abbrev cndRLpInAddr (n : Nat) : Nat := 0x410A8 + n * 0x1000
/-- CND_R_LP_IN_LEN -/ abbrev cndRLpInLen (n : Nat) : Nat := 0x410B0 + n * 0x1000
/-- CND_R_AMP -/ abbrev cndRAmp (n k : Nat) : Nat := 0x410C0 + n * 0x1000 + k * 0x4
/-- CND_R_W -/ abbrev cndRW (n k : Nat) : Nat := 0x410E0 + n * 0x1000 + k * 0x4
/-- CND_R_LP_CENTRE -/ abbrev cndRLpCentre (n k : Nat) : Nat := 0x41100 + n * 0x1000 + k * 0x4
/-- CND_R_LP_SCALE -/ abbrev cndRLpScale (n k : Nat) : Nat := 0x41120 + n * 0x1000 + k * 0x4
/-- SWP_CTRL -/ abbrev swpCtrl : Nat := 0x50040
/-- SWP_INFL_CAP -/ abbrev swpInflCap : Nat := 0x50044
/-- SWP_XR_CFG -/ abbrev swpXrCfg : Nat := 0x50048
/-- SWP_RES_ADDR -/ abbrev swpResAddr : Nat := 0x50050
/-- SWP_LIST_ADDR -/ abbrev swpListAddr : Nat := 0x50058
/-- SWP_RES_CNT -/ abbrev swpResCnt : Nat := 0x50060
/-- SWP_SWEPT -/ abbrev swpSwept : Nat := 0x50064
/-- SWP_UNSWEPT -/ abbrev swpUnswept : Nat := 0x50068
/-- SWP_SWEEP_TIME -/ abbrev swpSweepTime : Nat := 0x5006C
/-- SWP_STALL -/ abbrev swpStall : Nat := 0x50070
/-- SWP_FETCH_FAULT -/ abbrev swpFetchFault : Nat := 0x50074
/-- SWP_XR_SKIP -/ abbrev swpXrSkip : Nat := 0x50078
/-- SWP_GROUPS -/ abbrev swpGroups : Nat := 0x5007C
/-- SWP_PAIR_SKIP -/ abbrev swpPairSkip : Nat := 0x50080
/-- SWP_R_MARGIN -/ abbrev swpRMargin (k : Nat) : Nat := 0x50100 + k * 0x40
/-- SWP_R_PAIR_CNT -/ abbrev swpRPairCnt (k : Nat) : Nat := 0x50104 + k * 0x40
/-- SWP_R_PAIR_ADDR -/ abbrev swpRPairAddr (k : Nat) : Nat := 0x50108 + k * 0x40
/-- SWP_R_BEST -/ abbrev swpRBest (k : Nat) : Nat := 0x50110 + k * 0x40
/-- SWP_R_BEST_COST -/ abbrev swpRBestCost (k : Nat) : Nat := 0x50114 + k * 0x40
/-- SWP_R_LIST -/ abbrev swpRList (k : Nat) : Nat := 0x50118 + k * 0x40
/-- SWP_R_N_OK -/ abbrev swpRNOk (k : Nat) : Nat := 0x5011C + k * 0x40
/-- SWP_R_N_NOCLR -/ abbrev swpRNNoclr (k : Nat) : Nat := 0x50120 + k * 0x40
/-- SWP_R_N_UNDER -/ abbrev swpRNUnder (k : Nat) : Nat := 0x50124 + k * 0x40
/-- SWP_R_N_FAULT -/ abbrev swpRNFault (k : Nat) : Nat := 0x50128 + k * 0x40
/-- SWP_R_N_UNSWEPT -/ abbrev swpRNUnswept (k : Nat) : Nat := 0x5012C + k * 0x40
/-- SWP_R_PATH_T0 -/ abbrev swpRPathT0 (k : Nat) : Nat := 0x50130 + k * 0x40
/-- SWP_R_PATH -/ abbrev swpRPath (k : Nat) : Nat := 0x50138 + k * 0x40
/-- SWP_R_MIN_CLR -/ abbrev swpRMinClr (k : Nat) : Nat := 0x5013C + k * 0x40
/-- SWP_ATT_LEV -/ abbrev swpAttLev (k : Nat) : Nat := 0x50200 + k * 0x4
/-- SWP_G_CAND -/ abbrev swpGCand (n : Nat) : Nat := 0x51040 + n * 0x1000
/-- SWP_G_STALL -/ abbrev swpGStall (n : Nat) : Nat := 0x51044 + n * 0x1000
/-- SWP_G_KAT -/ abbrev swpGKat (n : Nat) : Nat := 0x51048 + n * 0x1000
/-- SWP_G_SHADOW_MM -/ abbrev swpGShadowMm (n : Nat) : Nat := 0x5104C + n * 0x1000
/-- SWP_G_SHADOW_CNT -/ abbrev swpGShadowCnt (n : Nat) : Nat := 0x51050 + n * 0x1000
/-- SWP_G_SVC_REQ -/ abbrev swpGSvcReq (n : Nat) : Nat := 0x51054 + n * 0x1000
/-- SOL_CTRL -/ abbrev solCtrl : Nat := 0x60040
/-- SOL_STAT -/ abbrev solStat : Nat := 0x60044
/-- SOL_MEM_BASE -/ abbrev solMemBase : Nat := 0x60048
/-- SOL_PROB_CNT -/ abbrev solProbCnt : Nat := 0x60050
/-- SOL_CMD -/ abbrev solCmd : Nat := 0x60054
/-- SOL_UPD_ADDR -/ abbrev solUpdAddr : Nat := 0x60058
/-- SOL_UPD_CNT -/ abbrev solUpdCnt : Nat := 0x60060
/-- SOL_LAUNCH -/ abbrev solLaunch : Nat := 0x60064
/-- SOL_QUERY -/ abbrev solQuery : Nat := 0x60068
/-- SOL_QUERY_STAT -/ abbrev solQueryStat : Nat := 0x6006C
/-- SOL_QUEUED -/ abbrev solQueued : Nat := 0x60070
/-- SOL_DONE_CNT -/ abbrev solDoneCnt : Nat := 0x60074
/-- SOL_EXPIRED -/ abbrev solExpired : Nat := 0x60078
/-- SOL_NAR_CNT -/ abbrev solNarCnt : Nat := 0x6007C
/-- SOL_SAT_CNT -/ abbrev solSatCnt : Nat := 0x60080
/-- SOL_TIMEOUT_CNT -/ abbrev solTimeoutCnt : Nat := 0x60084
/-- SOL_RELAUNCH -/ abbrev solRelaunch : Nat := 0x60088
/-- SOL_HELD -/ abbrev solHeld : Nat := 0x6008C
/-- SOL_UPD_REJ -/ abbrev solUpdRej : Nat := 0x60090
/-- SOL_UPD_BUSY -/ abbrev solUpdBusy : Nat := 0x60094
/-- SOL_NO_SOURCE -/ abbrev solNoSource : Nat := 0x60098
/-- SOL_UPD_PAIRS -/ abbrev solUpdPairs : Nat := 0x6009C
/-- SOL_G_PROB -/ abbrev solGProb (n : Nat) : Nat := 0x61040 + n * 0x1000
/-- SOL_G_NEXT -/ abbrev solGNext (n : Nat) : Nat := 0x61044 + n * 0x1000
/-- SOL_G_RUNS -/ abbrev solGRuns (n : Nat) : Nat := 0x61048 + n * 0x1000
/-- SOL_G_BUSY -/ abbrev solGBusy (n : Nat) : Nat := 0x6104C + n * 0x1000
/-- SOL_G_ECC_CORR -/ abbrev solGEccCorr (n : Nat) : Nat := 0x61050 + n * 0x1000
/-- SOL_G_SHADOW_MM -/ abbrev solGShadowMm (n : Nat) : Nat := 0x61054 + n * 0x1000
/-- SOL_G_SHADOW_CNT -/ abbrev solGShadowCnt (n : Nat) : Nat := 0x61058 + n * 0x1000
/-- SOL_G_SVC_REQ -/ abbrev solGSvcReq (n : Nat) : Nat := 0x6105C + n * 0x1000
/-- CHG_CTRL -/ abbrev chgCtrl : Nat := 0x80040
/-- CHG_STAT -/ abbrev chgStat : Nat := 0x80044
/-- CHG_MODEL_ADDR -/ abbrev chgModelAddr : Nat := 0x80048
/-- CHG_CMD -/ abbrev chgCmd : Nat := 0x80050
/-- CHG_CMD_STAT -/ abbrev chgCmdStat : Nat := 0x80054
/-- CHG_REF_CFG -/ abbrev chgRefCfg : Nat := 0x80058
/-- CHG_DRIFT_CFG -/ abbrev chgDriftCfg : Nat := 0x8005C
/-- CHG_REFRESH_CFG -/ abbrev chgRefreshCfg : Nat := 0x80060
/-- CHG_SHADOW_TOL -/ abbrev chgShadowTol : Nat := 0x80064
/-- CHG_MT_QUERY -/ abbrev chgMtQuery : Nat := 0x80068
/-- CHG_MT_STAT -/ abbrev chgMtStat : Nat := 0x8006C
/-- CHG_EVALS -/ abbrev chgEvals : Nat := 0x80070
/-- CHG_REF_CHECKS -/ abbrev chgRefChecks : Nat := 0x80074
/-- CHG_VOID_CHECKS -/ abbrev chgVoidChecks : Nat := 0x80078
/-- CHG_SCANS -/ abbrev chgScans : Nat := 0x8007C
/-- CHG_REFRESH_ROWS -/ abbrev chgRefreshRows : Nat := 0x80080
/-- CHG_CLIP -/ abbrev chgClip : Nat := 0x80084
/-- CHG_SAT_OUT -/ abbrev chgSatOut : Nat := 0x80088
/-- CHG_NET_ERR -/ abbrev chgNetErr : Nat := 0x8008C
/-- CHG_EXPIRED -/ abbrev chgExpired : Nat := 0x80090
/-- CHG_WEAR_SUM -/ abbrev chgWearSum : Nat := 0x80094
/-- CHG_A_STAT -/ abbrev chgAStat (n : Nat) : Nat := 0x100040 + n * 0x1000
/-- CHG_A_WEAR -/ abbrev chgAWear (n : Nat) : Nat := 0x100044 + n * 0x1000
/-- CHG_A_WEAR_ROW -/ abbrev chgAWearRow (n : Nat) : Nat := 0x100048 + n * 0x1000
/-- CHG_A_WEAR_TOT -/ abbrev chgAWearTot (n : Nat) : Nat := 0x10004C + n * 0x1000
/-- CHG_A_ROW_SEL -/ abbrev chgARowSel (n : Nat) : Nat := 0x100050 + n * 0x1000
/-- CHG_A_ROW_WEAR -/ abbrev chgARowWear (n : Nat) : Nat := 0x100054 + n * 0x1000
/-- CHG_A_TRIM -/ abbrev chgATrim (n : Nat) : Nat := 0x100058 + n * 0x1000
/-- CHG_A_REF_MAX -/ abbrev chgARefMax (n : Nat) : Nat := 0x10005C + n * 0x1000
/-- CHG_A_REF -/ abbrev chgARef (n k : Nat) : Nat := 0x100060 + n * 0x1000 + k * 0x4
/-- CHG_A_EVALS -/ abbrev chgAEvals (n : Nat) : Nat := 0x1000A0 + n * 0x1000
/-- CHG_A_CLIP -/ abbrev chgAClip (n : Nat) : Nat := 0x1000A4 + n * 0x1000
/-- CHG_A_REFRESHED -/ abbrev chgARefreshed (n : Nat) : Nat := 0x1000A8 + n * 0x1000
/-- CHG_A_SCAN_AGE -/ abbrev chgAScanAge (n : Nat) : Nat := 0x1000AC + n * 0x1000
/-- CHG_A_SHADOW_MM -/ abbrev chgAShadowMm (n : Nat) : Nat := 0x1000B0 + n * 0x1000
/-- CHG_A_SHADOW_CNT -/ abbrev chgAShadowCnt (n : Nat) : Nat := 0x1000B4 + n * 0x1000
/-- CHG_A_SVC_REQ -/ abbrev chgASvcReq (n : Nat) : Nat := 0x1000B8 + n * 0x1000
/-- DSP_CTRL -/ abbrev dspCtrl : Nat := 0x200040
/-- DSP_STAT -/ abbrev dspStat : Nat := 0x200044
/-- DSP_WD_US -/ abbrev dspWdUs : Nat := 0x200048
/-- DSP_ACCEPTED -/ abbrev dspAccepted : Nat := 0x20004C
/-- DSP_REFUSED -/ abbrev dspRefused : Nat := 0x200050
/-- DSP_EXPIRED -/ abbrev dspExpired : Nat := 0x200054
/-- DSP_PREEMPT -/ abbrev dspPreempt : Nat := 0x200058
/-- DSP_PASS_REFUSED -/ abbrev dspPassRefused : Nat := 0x20005C
/-- DSP_LOCK_QUERY -/ abbrev dspLockQuery : Nat := 0x200060
/-- DSP_LOCK_STAT -/ abbrev dspLockStat : Nat := 0x200064
/-- DSP_WEDGED -/ abbrev dspWedged : Nat := 0x200068
/-- DSP_IDLE_MASK -/ abbrev dspIdleMask : Nat := 0x200070
/-- DSP_B_CFG -/ abbrev dspBCfg (k : Nat) : Nat := 0x200100 + k * 0x20
/-- DSP_B_CTRL -/ abbrev dspBCtrl (k : Nat) : Nat := 0x200104 + k * 0x20
/-- DSP_B_HELD -/ abbrev dspBHeld (k : Nat) : Nat := 0x200108 + k * 0x20
/-- DSP_B_CREDIT -/ abbrev dspBCredit (k : Nat) : Nat := 0x20010C + k * 0x20
/-- DSP_B_EXPIRED -/ abbrev dspBExpired (k : Nat) : Nat := 0x200110 + k * 0x20
/-- DSP_B_REFUSED -/ abbrev dspBRefused (k : Nat) : Nat := 0x200114 + k * 0x20
/-- DSP_B_HWM -/ abbrev dspBHwm (k : Nat) : Nat := 0x200118 + k * 0x20
/-- DSP_B_STARTED -/ abbrev dspBStarted (k : Nat) : Nat := 0x20011C + k * 0x20
/-- DSP_C_SVC_REQ -/ abbrev dspCSvcReq (k : Nat) : Nat := 0x200500 + k * 0x10
/-- DSP_C_SHADOW_MM -/ abbrev dspCShadowMm (k : Nat) : Nat := 0x200504 + k * 0x10
/-- DSP_C_SHADOW_CNT -/ abbrev dspCShadowCnt (k : Nat) : Nat := 0x200508 + k * 0x10
/-- DSP_C_STAT -/ abbrev dspCStat (k : Nat) : Nat := 0x20050C + k * 0x10
/-- DSP_PASS_TEMPLATE -/ abbrev dspPassTemplate (k : Nat) : Nat := 0x200800 + k * 0x4
/-- BPG_LOAD_SRC -/ abbrev bpgLoadSrc : Nat := 0x200C00
/-- BPG_LOAD_DST -/ abbrev bpgLoadDst : Nat := 0x200C08
/-- BPG_LOAD_LEN -/ abbrev bpgLoadLen : Nat := 0x200C0C
/-- BPG_LOAD_CRC -/ abbrev bpgLoadCrc : Nat := 0x200C10
/-- BPG_LOAD_CMD -/ abbrev bpgLoadCmd : Nat := 0x200C14
/-- BPG_LOAD_STAT -/ abbrev bpgLoadStat : Nat := 0x200C18
/-- BPG_LOADS -/ abbrev bpgLoads : Nat := 0x200C1C
/-- BPG_FAULT_CNT -/ abbrev bpgFaultCnt : Nat := 0x200C20
/-- BPG_FAULT_INFO -/ abbrev bpgFaultInfo : Nat := 0x200C24
/-- BPG_FAULT_PROG -/ abbrev bpgFaultProg : Nat := 0x200C28
/-- BPG_FW_BASE -/ abbrev bpgFwBase : Nat := 0x200C2C
/-- BPG_YIELDS -/ abbrev bpgYields : Nat := 0x200C30
/-- DSP_E_BASINS -/ abbrev dspEBasins (n : Nat) : Nat := 0x201040 + n * 0x1000
/-- DSP_E_STAT -/ abbrev dspEStat (n : Nat) : Nat := 0x201044 + n * 0x1000
/-- DSP_E_LOCK -/ abbrev dspELock (n : Nat) : Nat := 0x201048 + n * 0x1000
/-- DSP_E_TAG -/ abbrev dspETag (n : Nat) : Nat := 0x20104C + n * 0x1000
/-- DSP_E_RUN_US -/ abbrev dspERunUs (n : Nat) : Nat := 0x201050 + n * 0x1000
/-- DSP_E_DONE -/ abbrev dspEDone (n : Nat) : Nat := 0x201054 + n * 0x1000
/-- DSP_E_SAVES -/ abbrev dspESaves (n : Nat) : Nat := 0x201058 + n * 0x1000
/-- DSP_E_BUSY -/ abbrev dspEBusy (n : Nat) : Nat := 0x20105C + n * 0x1000
/-- SPD_CTRL -/ abbrev spdCtrl : Nat := 0x300040
/-- SPD_SCRUB_S -/ abbrev spdScrubS : Nat := 0x300044
/-- SPD_CE_CNT -/ abbrev spdCeCnt : Nat := 0x300048
/-- SPD_UE_CNT -/ abbrev spdUeCnt : Nat := 0x30004C
/-- SPD_UE_ADDR -/ abbrev spdUeAddr : Nat := 0x300050
/-- SPD_UE_INFO -/ abbrev spdUeInfo : Nat := 0x300058
/-- SPD_COLL_FLAG -/ abbrev spdCollFlag : Nat := 0x30005C
/-- SPD_COLL_SILENT -/ abbrev spdCollSilent : Nat := 0x300060
/-- SPD_COLL_INFO -/ abbrev spdCollInfo : Nat := 0x300064
/-- SPD_COLL_ADDR -/ abbrev spdCollAddr : Nat := 0x300068
/-- SPD_WW_CNT -/ abbrev spdWwCnt : Nat := 0x300070
/-- SPD_STALL_CNT -/ abbrev spdStallCnt : Nat := 0x300074
/-- SPD_SCRUB_PASS -/ abbrev spdScrubPass : Nat := 0x300078
/-- SPD_SEAL_STAT -/ abbrev spdSealStat : Nat := 0x301040
/-- SPD_SEAL_CTRL -/ abbrev spdSealCtrl : Nat := 0x301044
/-- SPD_SEAL_CAUSE -/ abbrev spdSealCause : Nat := 0x301048
/-- SPD_WIPE_CNT -/ abbrev spdWipeCnt : Nat := 0x30104C
/-- SPD_WIPE_TIME -/ abbrev spdWipeTime : Nat := 0x301050
/-- SPD_SEAL_DENIED -/ abbrev spdSealDenied : Nat := 0x301054
/-- SPD_SEAL_MERGED -/ abbrev spdSealMerged : Nat := 0x301058
/-- SPD_SEAL_T -/ abbrev spdSealT : Nat := 0x301060
/-- HST_LINK -/ abbrev hstLink : Nat := 0x310040
/-- HST_BAR4_WIN -/ abbrev hstBar4Win : Nat := 0x310048
/-- HST_PASS_ABORT -/ abbrev hstPassAbort : Nat := 0x310050
/-- HST_W64 -/ abbrev hstW64 : Nat := 0x310058
/-- HST_BAR2_UNMAP -/ abbrev hstBar2Unmap : Nat := 0x310060
/-- HST_POISON -/ abbrev hstPoison : Nat := 0x310064
/-- HST_CPL_ERR -/ abbrev hstCplErr : Nat := 0x310068
/-- HST_PR_BASE -/ abbrev hstPrBase (k : Nat) : Nat := 0x310080 + k * 0x20
/-- HST_PR_SHADOW -/ abbrev hstPrShadow (k : Nat) : Nat := 0x310088 + k * 0x20
/-- HST_PR_CFG -/ abbrev hstPrCfg (k : Nat) : Nat := 0x310090 + k * 0x20
/-- HST_PR_CI -/ abbrev hstPrCi (k : Nat) : Nat := 0x310094 + k * 0x20
/-- HST_PR_PI -/ abbrev hstPrPi (k : Nat) : Nat := 0x310098 + k * 0x20
/-- HST_PR_OVERRUN -/ abbrev hstPrOverrun (k : Nat) : Nat := 0x31009C + k * 0x20
/-- HST_DMA_BASE -/ abbrev hstDmaBase (k : Nat) : Nat := 0x310100 + k * 0x20
/-- HST_DMA_CFG -/ abbrev hstDmaCfg (k : Nat) : Nat := 0x310108 + k * 0x20
/-- HST_DMA_DB -/ abbrev hstDmaDb (k : Nat) : Nat := 0x31010C + k * 0x20
/-- HST_DMA_CI -/ abbrev hstDmaCi (k : Nat) : Nat := 0x310110 + k * 0x20
/-- HST_DMA_STAT -/ abbrev hstDmaStat (k : Nat) : Nat := 0x310114 + k * 0x20
/-- HST_IN_BASE -/ abbrev hstInBase (k : Nat) : Nat := 0x311040 + k * 0x20
/-- HST_IN_CFG -/ abbrev hstInCfg (k : Nat) : Nat := 0x311048 + k * 0x20
/-- HST_IN_DB -/ abbrev hstInDb (k : Nat) : Nat := 0x31104C + k * 0x20
/-- HST_IN_STAT -/ abbrev hstInStat (k : Nat) : Nat := 0x311050 + k * 0x20
/-- HST_IN_CI -/ abbrev hstInCi (k : Nat) : Nat := 0x311054 + k * 0x20
/-- HST_IN_PI -/ abbrev hstInPi (k : Nat) : Nat := 0x311058 + k * 0x20
/-- HST_IN_REF -/ abbrev hstInRef (k : Nat) : Nat := 0x31105C + k * 0x20
/-- HST_CQ_BASE -/ abbrev hstCqBase (k : Nat) : Nat := 0x312040 + k * 0x30
/-- HST_CQ_SHADOW -/ abbrev hstCqShadow (k : Nat) : Nat := 0x312048 + k * 0x30
/-- HST_CQ_CFG -/ abbrev hstCqCfg (k : Nat) : Nat := 0x312050 + k * 0x30
/-- HST_CQ_COAL -/ abbrev hstCqCoal (k : Nat) : Nat := 0x312054 + k * 0x30
/-- HST_CQ_CI -/ abbrev hstCqCi (k : Nat) : Nat := 0x312058 + k * 0x30
/-- HST_CQ_PI -/ abbrev hstCqPi (k : Nat) : Nat := 0x31205C + k * 0x30
/-- HST_CQ_HELD -/ abbrev hstCqHeld (k : Nat) : Nat := 0x312060 + k * 0x30
/-- HST_CQ_LOST -/ abbrev hstCqLost (k : Nat) : Nat := 0x312064 + k * 0x30
/-- AQD_NODE -/ abbrev aqdNode : Nat := 0x320400
/-- AQD_TOPO -/ abbrev aqdTopo : Nat := 0x320404
/-- AQD_NODE_STAT -/ abbrev aqdNodeStat : Nat := 0x320408
/-- AQD_NODES_UP -/ abbrev aqdNodesUp (k : Nat) : Nat := 0x320410 + k * 0x4
/-- AQD_RACL -/ abbrev aqdRacl : Nat := 0x320420
/-- AQD_REQ_TO -/ abbrev aqdReqTo : Nat := 0x320424
/-- AQD_NODE_TO -/ abbrev aqdNodeTo : Nat := 0x320428
/-- AQD_CUT_CFG -/ abbrev aqdCutCfg : Nat := 0x32042C
/-- AQD_SVC_CFG -/ abbrev aqdSvcCfg : Nat := 0x320430
/-- AQD_SVC_REQ -/ abbrev aqdSvcReq : Nat := 0x320434
/-- AQD_SYNC_BW -/ abbrev aqdSyncBw : Nat := 0x320438
/-- AQD_EPOCH_FAB -/ abbrev aqdEpochFab : Nat := 0x32043C
/-- AQD_CUT_LAT -/ abbrev aqdCutLat : Nat := 0x320440
/-- AQD_RD_RETRY -/ abbrev aqdRdRetry : Nat := 0x320444
/-- AQD_REQ_FAIL -/ abbrev aqdReqFail : Nat := 0x320448
/-- AQD_FUSE_FOREIGN -/ abbrev aqdFuseForeign : Nat := 0x32044C
/-- AQD_LOST_REGIONS -/ abbrev aqdLostRegions : Nat := 0x320450
/-- AQD_OFFER_REF -/ abbrev aqdOfferRef : Nat := 0x320454
/-- AQD_REMOTE_DENIED -/ abbrev aqdRemoteDenied : Nat := 0x320458
/-- AQD_SVC_IGNORED -/ abbrev aqdSvcIgnored : Nat := 0x32045C
/-- AQD_NODE_SHADOW_MM -/ abbrev aqdNodeShadowMm : Nat := 0x320460
/-- AQD_NODE_SHADOW_CNT -/ abbrev aqdNodeShadowCnt : Nat := 0x320464
/-- AQD_OFFER -/ abbrev aqdOffer (k : Nat) : Nat := 0x320800 + k * 0x4
/-- AQD_L_CFG -/ abbrev aqdLCfg (n : Nat) : Nat := 0x320040 + n * 0x1000
/-- AQD_L_STAT -/ abbrev aqdLStat (n : Nat) : Nat := 0x320044 + n * 0x1000
/-- AQD_L_TX -/ abbrev aqdLTx (n : Nat) : Nat := 0x320048 + n * 0x1000
/-- AQD_L_RX -/ abbrev aqdLRx (n : Nat) : Nat := 0x32004C + n * 0x1000
/-- AQD_L_FEC_CORR -/ abbrev aqdLFecCorr (n : Nat) : Nat := 0x320050 + n * 0x1000
/-- AQD_L_FEC_UNCORR -/ abbrev aqdLFecUncorr (n : Nat) : Nat := 0x320054 + n * 0x1000
/-- AQD_L_RETRY -/ abbrev aqdLRetry (n : Nat) : Nat := 0x320058 + n * 0x1000
/-- AQD_L_DOWN_CNT -/ abbrev aqdLDownCnt (n : Nat) : Nat := 0x32005C + n * 0x1000
/-- AQD_L_TEST_US -/ abbrev aqdLTestUs (n : Nat) : Nat := 0x320060 + n * 0x1000
/-- AQD_L_SVC_REQ -/ abbrev aqdLSvcReq (n : Nat) : Nat := 0x320064 + n * 0x1000
/-- AQD_L_SHADOW_MM -/ abbrev aqdLShadowMm (n : Nat) : Nat := 0x320068 + n * 0x1000
/-- AQD_L_SHADOW_CNT -/ abbrev aqdLShadowCnt (n : Nat) : Nat := 0x32006C + n * 0x1000
/-- AQD_L_STALL -/ abbrev aqdLStall (n : Nat) : Nat := 0x320070 + n * 0x1000
/-- SAF_CTRL -/ abbrev safCtrl : Nat := 0x330040
/-- SAF_STAT -/ abbrev safStat : Nat := 0x330044
/-- SAF_CFG -/ abbrev safCfg : Nat := 0x330048
/-- SAF_PERIOD_US -/ abbrev safPeriodUs : Nat := 0x33004C
/-- SAF_LAG_US -/ abbrev safLagUs : Nat := 0x330050
/-- SAF_TSAMP -/ abbrev safTsamp : Nat := 0x330054
/-- SAF_RESTART_N -/ abbrev safRestartN : Nat := 0x330058
/-- SAF_CH_CFG -/ abbrev safChCfg : Nat := 0x33005C
/-- SAF_LEAD_US -/ abbrev safLeadUs : Nat := 0x330060
/-- SAF_PARAM_CRC -/ abbrev safParamCrc : Nat := 0x330064
/-- SAF_ACK -/ abbrev safAck : Nat := 0x330068
/-- SAF_ITIME -/ abbrev safItime : Nat := 0x330070
/-- SAF_CH_STAT -/ abbrev safChStat : Nat := 0x330078
/-- SAF_DIAG -/ abbrev safDiag : Nat := 0x33007C
/-- SAF_VERIFY -/ abbrev safVerify : Nat := 0x330080
/-- SAF_WARN_CNT -/ abbrev safWarnCnt : Nat := 0x330084
/-- SAF_LOG_WR -/ abbrev safLogWr : Nat := 0x330088
/-- SAF_LOG_RD -/ abbrev safLogRd : Nat := 0x33008C
/-- SAF_LOG_LOST -/ abbrev safLogLost : Nat := 0x330090
/-- SAF_ML_CMD -/ abbrev safMlCmd : Nat := 0x3300C0
/-- SAF_ML_STAT -/ abbrev safMlStat : Nat := 0x3300C4
/-- SAF_R_CFG -/ abbrev safRCfg (k : Nat) : Nat := 0x330100 + k * 0x40
/-- SAF_R_CONN -/ abbrev safRConn (k : Nat) : Nat := 0x330104 + k * 0x40
/-- SAF_R_CYCLE_US -/ abbrev safRCycleUs (k : Nat) : Nat := 0x330108 + k * 0x40
/-- SAF_R_MARGIN -/ abbrev safRMargin (k : Nat) : Nat := 0x33010C + k * 0x40
/-- SAF_R_DESC_CRC -/ abbrev safRDescCrc (k : Nat) : Nat := 0x330110 + k * 0x40
/-- SAF_R_TOOL_CRC -/ abbrev safRToolCrc (k : Nat) : Nat := 0x330114 + k * 0x40
/-- SAF_R_STAT -/ abbrev safRStat (k : Nat) : Nat := 0x330118 + k * 0x40
/-- SAF_R_TG_SEQ -/ abbrev safRTgSeq (k : Nat) : Nat := 0x33011C + k * 0x40
/-- SAF_R_TG_REJ -/ abbrev safRTgRej (k : Nat) : Nat := 0x330120 + k * 0x40
/-- SAF_R_TG_LOST -/ abbrev safRTgLost (k : Nat) : Nat := 0x330124 + k * 0x40
/-- SAF_R_MINCLR -/ abbrev safRMinclr (k : Nat) : Nat := 0x330128 + k * 0x40
/-- SAF_R_LAG -/ abbrev safRLag (k : Nat) : Nat := 0x33012C + k * 0x40
/-- SAF_R_TRACK -/ abbrev safRTrack (k : Nat) : Nat := 0x330200 + k * 0x4
/-- SAF_INBOX -/ abbrev safInbox (k : Nat) : Nat := 0x330400 + k * 0x4
/-- SAF_LOG_REC -/ abbrev safLogRec (k : Nat) : Nat := 0x330800 + k * 0x4
/-- THM_CTRL -/ abbrev thmCtrl : Nat := 0x340040
/-- THM_STAT -/ abbrev thmStat : Nat := 0x340044
/-- THM_TMAX -/ abbrev thmTmax : Nat := 0x340048
/-- THM_KW_SET -/ abbrev thmKwSet : Nat := 0x34004C
/-- THM_KW_PMAX -/ abbrev thmKwPmax : Nat := 0x340050
/-- THM_KW_POWER -/ abbrev thmKwPower : Nat := 0x340054
/-- THM_RTH_CFG -/ abbrev thmRthCfg : Nat := 0x340058
/-- THM_RTH -/ abbrev thmRth : Nat := 0x34005C
/-- THM_POWER -/ abbrev thmPower : Nat := 0x340060
/-- THM_T_IN -/ abbrev thmTIn : Nat := 0x340064
/-- THM_T_OUT -/ abbrev thmTOut : Nat := 0x340068
/-- THM_NTC_CFG -/ abbrev thmNtcCfg : Nat := 0x34006C
/-- THM_SENS_VALID -/ abbrev thmSensValid : Nat := 0x340070
/-- THM_THR_US -/ abbrev thmThrUs : Nat := 0x340078
/-- THM_TRIP_OPENS -/ abbrev thmTripOpens : Nat := 0x34007C
/-- THM_DEG_CNT -/ abbrev thmDegCnt : Nat := 0x340080
/-- THM_S -/ abbrev thmS (k : Nat) : Nat := 0x340100 + k * 0x4
/-- FIO_GPIO_DIR -/ abbrev fioGpioDir : Nat := 0x350040
/-- FIO_GPIO_OUT -/ abbrev fioGpioOut : Nat := 0x350044
/-- FIO_GPIO_SET -/ abbrev fioGpioSet : Nat := 0x350048
/-- FIO_GPIO_CLR -/ abbrev fioGpioClr : Nat := 0x35004C
/-- FIO_GPIO_IN -/ abbrev fioGpioIn : Nat := 0x350050
/-- FIO_GPIO_EDGE -/ abbrev fioGpioEdge : Nat := 0x350054
/-- FIO_GPIO_FILT -/ abbrev fioGpioFilt : Nat := 0x350058
/-- FIO_L_CFG -/ abbrev fioLCfg (k : Nat) : Nat := 0x350100 + k * 0x20
/-- FIO_L_CMD -/ abbrev fioLCmd (k : Nat) : Nat := 0x350104 + k * 0x20
/-- FIO_L_FAIL -/ abbrev fioLFail (k : Nat) : Nat := 0x350108 + k * 0x20
/-- FIO_L_CTRL -/ abbrev fioLCtrl (k : Nat) : Nat := 0x35010C + k * 0x20
/-- FIO_L_STAT -/ abbrev fioLStat (k : Nat) : Nat := 0x350110 + k * 0x20
/-- FIO_L_TARGET -/ abbrev fioLTarget (k : Nat) : Nat := 0x350114 + k * 0x20
/-- FIO_L_ACT -/ abbrev fioLAct (k : Nat) : Nat := 0x350118 + k * 0x20
/-- FIO_L_VLOOP -/ abbrev fioLVloop (k : Nat) : Nat := 0x35011C + k * 0x20
/-- MGT_CTRL -/ abbrev mgtCtrl : Nat := 0x358040
/-- MGT_STAT -/ abbrev mgtStat : Nat := 0x358044
/-- MGT_MAC -/ abbrev mgtMac : Nat := 0x358048
/-- MGT_IP -/ abbrev mgtIp : Nat := 0x358050
/-- MGT_MASK -/ abbrev mgtMask : Nat := 0x358054
/-- MGT_GW -/ abbrev mgtGw : Nat := 0x358058
/-- MGT_DST_IP -/ abbrev mgtDstIp : Nat := 0x35805C
/-- MGT_PORTS -/ abbrev mgtPorts : Nat := 0x358060
/-- MGT_NET_CFG -/ abbrev mgtNetCfg : Nat := 0x358064
/-- MGT_CFG -/ abbrev mgtCfg : Nat := 0x358068
/-- MGT_KEY_ID -/ abbrev mgtKeyId : Nat := 0x35806C
/-- MGT_SEQ -/ abbrev mgtSeq : Nat := 0x358070
/-- MGT_NONCE -/ abbrev mgtNonce : Nat := 0x358074
/-- MGT_TX -/ abbrev mgtTx : Nat := 0x35807C
/-- MGT_LOST -/ abbrev mgtLost : Nat := 0x358080
/-- MGT_UNACKED -/ abbrev mgtUnacked : Nat := 0x358084
/-- MGT_AUTH_FAIL -/ abbrev mgtAuthFail : Nat := 0x358088
/-- MGT_RX_DROP -/ abbrev mgtRxDrop : Nat := 0x35808C
/-- MGT_MDIO -/ abbrev mgtMdio : Nat := 0x358090
/-- MGT_SMB_CFG -/ abbrev mgtSmbCfg : Nat := 0x358094
/-- MGT_SMB_ERR -/ abbrev mgtSmbErr : Nat := 0x358098
/-- SEC_LC -/ abbrev secLc : Nat := 0x360040
/-- SEC_BOOT -/ abbrev secBoot : Nat := 0x360044
/-- SEC_OTP_STAT -/ abbrev secOtpStat : Nat := 0x360048
/-- SEC_CMD -/ abbrev secCmd : Nat := 0x36004C
/-- SEC_ARG0 -/ abbrev secArg0 : Nat := 0x360050
/-- SEC_ARG1 -/ abbrev secArg1 : Nat := 0x360054
/-- SEC_XFER_ADDR -/ abbrev secXferAddr : Nat := 0x360058
/-- SEC_CMD_STAT -/ abbrev secCmdStat : Nat := 0x360060
/-- SEC_TAMPER -/ abbrev secTamper : Nat := 0x360064
/-- SEC_NONCE -/ abbrev secNonce : Nat := 0x360068
/-- SEC_HU_CFG -/ abbrev secHuCfg : Nat := 0x360070
/-- SEC_HU_EMIN -/ abbrev secHuEmin : Nat := 0x360074
/-- SEC_HU_STAT -/ abbrev secHuStat : Nat := 0x360078
/-- SEC_HU_V -/ abbrev secHuV : Nat := 0x36007C
/-- SEC_HU_E -/ abbrev secHuE : Nat := 0x360080
/-- SEC_HU_TEST -/ abbrev secHuTest : Nat := 0x360084
/-- SEC_HU_DIS_CNT -/ abbrev secHuDisCnt : Nat := 0x360088
/-- SEC_TAMPER_CNT -/ abbrev secTamperCnt : Nat := 0x36008C
/-- SEC_LOG_WR -/ abbrev secLogWr : Nat := 0x360090
/-- SEC_LOG_RD -/ abbrev secLogRd : Nat := 0x360094
/-- SEC_LOG_LOST -/ abbrev secLogLost : Nat := 0x360098
/-- SEC_LOG_REC -/ abbrev secLogRec (k : Nat) : Nat := 0x360800 + k * 0x4
/-- CAL_CTRL -/ abbrev calCtrl : Nat := 0x370040
/-- CAL_WMASK -/ abbrev calWmask : Nat := 0x370044
/-- CAL_XFER_ADDR -/ abbrev calXferAddr : Nat := 0x370048
/-- CAL_CMD -/ abbrev calCmd : Nat := 0x370050
/-- CAL_CMD_STAT -/ abbrev calCmdStat : Nat := 0x370054
/-- CAL_VALID -/ abbrev calValid : Nat := 0x370058
/-- CAL_PEND -/ abbrev calPend : Nat := 0x370060
/-- CAL_FACTORY -/ abbrev calFactory : Nat := 0x370068
/-- CAL_BW -/ abbrev calBw : Nat := 0x370070
/-- CAL_QUERY -/ abbrev calQuery : Nat := 0x370074
/-- CAL_QUERY_STAT -/ abbrev calQueryStat : Nat := 0x370078
/-- CAL_WRITES -/ abbrev calWrites : Nat := 0x37007C
/-- CAL_ECC_CORR -/ abbrev calEccCorr : Nat := 0x370080
/-- CAL_FORCED -/ abbrev calForced : Nat := 0x370084
/-- CAL_UID -/ abbrev calUid : Nat := 0x370088
/-- CAL_JOB_CFG -/ abbrev calJobCfg (k : Nat) : Nat := 0x371040 + k * 0x20
/-- CAL_JOB_GAP -/ abbrev calJobGap (k : Nat) : Nat := 0x371044 + k * 0x20
/-- CAL_JOB_TRIG -/ abbrev calJobTrig (k : Nat) : Nat := 0x371048 + k * 0x20
/-- CAL_JOB_DONE -/ abbrev calJobDone (k : Nat) : Nat := 0x37104C + k * 0x20
/-- CAL_JOB_STAT -/ abbrev calJobStat (k : Nat) : Nat := 0x371050 + k * 0x20
/-- CAL_JOB_OVR -/ abbrev calJobOvr (k : Nat) : Nat := 0x371054 + k * 0x20
/-- CAL_JOB_TO -/ abbrev calJobTo (k : Nat) : Nat := 0x371058 + k * 0x20
/-- CAL_JOB_STALE -/ abbrev calJobStale (k : Nat) : Nat := 0x37105C + k * 0x20
/-- CAL_JOB_TEMPLATE -/ abbrev calJobTemplate (k : Nat) : Nat := 0x371200 + k * 0x4

end Sys2Proof.Machine.A
end

