-- ==== Sys2Proof/Machine/Parts.lean ====
section
/-!
DEFINITION. The parts of the state that no register shows: one structure a block, all plain data.  What a register shows
lives in the register store of State and nowhere else.
-/
namespace Sys2Proof.Machine

/-- What leaves the device: every message, edge and write to the outside, in order. -/
inductive Out
  /-- An MSI-X message (R55, R345): the vector, and the address and data of its entry of the MSI-X table (R329). -/
  | msix (vector addr data : Nat)
  /-- The data a register read returns to its source (R37, R39, R42): the address read, and the addressed bytes. -/
  | readData (src : Source) (addr : Nat) (data : Word)
  /-- A posted write to host memory. -/
  | hostWrite (addr : Nat) (data : List Byte)
  /-- A posted write of DMA data with the relaxed-ordering attribute (R326). -/
  | hostRelaxed (addr : Nat) (data : List Byte)
  /-- An error message to the root complex (R346): 1 non-fatal, 2 fatal. -/
  | errMsg (kind : Nat)
  /-- A read request to host memory: address and bytes (R334, R343). -/
  | hostRead (addr len : Nat)
  /-- What a bank answers on a port (R308, Table SPD-6): port B, bank and row (8 banks of the pound from 128 on), tag, STALL, read data
where RVALID is 1, DONE, BUSY, CE and UE. -/
  | bank (portB : Bool) (bank row tag : Nat) (stall : Bool) (rdata : Option DWord) (done busy ce ue : Bool)
  /-- A UDP datagram of the management port: the VLAN of its frame, its MAC addresses and IP addresses (source and destination), the DF bit,
MGT_PORTS, and its payload (R429, R430). -/
  | datagram (tag : Option Nat) (macs ips : Nat × Nat) (df : Bool) (ports : Nat) (bytes : List Byte)
  /-- An ARP request sent for an address with the port's own addresses (MAC, IP), an ARP answer to a MAC and IP address with them, or an ICMP
echo reply from and to a MAC and IP address (R429, R435). -/
  | arpAsk (tag : Option Nat) (own : Nat × Nat) (ip : Nat)
  | arpAnswer (tag : Option Nat) (own peer : Nat × Nat)
  | icmpReply (tag : Option Nat) (own peer : Nat × Nat) (data : List Byte)
  /-- The bytes the SMBus target returns, its byte count and packet error code among them, its own address in answer to the Alert Response
Address, or a NACK at the command byte or the count byte (R436, R437). -/
  | smbusData (bytes : List Byte)
  | smbusNack
  /-- The levels the GPIO outputs drive: direction bits and output bits (R428). -/
  | gpio (dir out : Nat)
  /-- An MDIO access on the management bus (R439): PHY, register, write data if it is a write. -/
  | mdio (phy reg : Nat) (data : Option Nat)
  /-- A pulse sequence of trigger output `n` that has run (R75): the time of its active edge in ns and its width in ticks.  The level of
  the pin itself follows POL and OE at every moment (`State.trgPin`). -/
  | trigger (n edge width : Nat)
  /-- The clock of one read on ENCe_SCLK (R62, R491, R511): input, half period in ns, rising edges; the level at every moment is
  `State.encSclk`. -/
  | ssiClock (e half rises : Nat)
  /-- A configuration request at an offset ends with Configuration Request Retry Status (R478). -/
  | cfgRetry (off : Nat)
  /-- The data of a host read through a BAR other than the register window: BAR, offset, bytes (R329 to R331). -/
  | barData (bar off : Nat) (data : List Byte)
  /-- A packet sent on an aqueduct link: link, the four words of its header (Table AQD-3), and what it carries. -/
  | packet (link : Nat) (header payload : List Nat)
deriving DecidableEq, Repr

/-- Output and bidirectional balls whose state before release Table PKG-9 gives (R494). -/
inductive Ball
  | safStop (c : Fin 2) | trig (t : Fin 16) | gpio (t : Fin 16) | encSclk (e : Fin 8) | loopGate (l : Fin 2) | thermTrip | smbAlert | smbSda
  | boot | mdc | trace | mdio | tdo | linkTx (n : Fin 8) | pcieTx | sgTx
deriving DecidableEq, Repr

/-- What a ball shows: a driven level, released or an input, high impedance, electrical idle, or what its owning block does with it beyond
the model's state. -/
inductive Level
  | low | high | released | highZ | idle | owner
deriving DecidableEq, Repr

/-- A range of device memory whose unlisted bytes repeat a 32-bit pattern: a directory as pool initialisation or a cut leaves it
(R131). -/
structure Fill where
  lo  : Nat
  hi  : Nat
  pat : Nat
deriving DecidableEq, Repr

/-- A pulse sequence running on a trigger output (R75): its start tick in ns, the delay read on that tick and the width. -/
structure PulseSeq where
  start : Nat
  delay : Nat
  width : Nat
deriving DecidableEq, Repr

/-- One trigger output (R75, R76): the running sequence, the width of the pending pulse, and the latest active edge that is
over, with the nine towpath positions of its tick (R94). -/
structure TrgOut where
  running  : Option PulseSeq := none
  pending  : Option Nat := none
  edge     : Option (Nat × List Nat) := none
deriving DecidableEq, Repr

/-- One towpath (R60 to R64) beside its registers. -/
structure TowPath where
  /-- The filtered levels of A and B, the reference of the quadrature decoder. DESIGN CHOICE: both low at reset (log 203). -/
  refAB    : Bool × Bool := (false, false)
  /-- The previous good SSI word; absent until the first good read after the mode was set. -/
  ssiPrev  : Option Nat := none
  /-- An SSI read is under way. -/
  ssiBusy  : Bool := false
  /-- When the last poll started, in ns. -/
  ssiPoll  : Nat := 0
  /-- ZMODE SET_ONCE stands and no index has come since it was written. -/
  zFirst   : Bool := false
  /-- The 24-bit fraction of towpath 8 (R64). -/
  frac     : Nat := 0
  /-- The last counted movement was reverse; absent until one has been counted. -/
  lastRev  : Option Bool := none
  /-- Recent changes of the position, newest first: time in ns, position before, counts moved (0 for a jump). -/
  hist     : List (Nat × Nat × Int) := []
deriving DecidableEq, Repr

/-- The armed contents of an event-table entry (Table TOW-2, R68 to R72). -/
structure TowEntry where
  armed    : Bool := false
  pos      : Nat := 0
  tp       : Nat := 0
  dir      : Nat := 0
  rearm    : Bool := false
  action   : Nat := 0
  log      : Bool := false
  backstop : Nat := 0
  arg0     : Nat := 0
  step     : Nat := 0
  arg1     : Nat := 0
  /-- When it was armed, in ns. -/
  armedAt  : Nat := 0
  /-- When a crossing of its direction was seen, in ns: the entry fires on the next tick (R69). -/
  crossed  : Option Nat := none
  /-- A one-shot entry with REARM has fired and waits to re-arm (R72). -/
  waitRearm : Bool := false
deriving DecidableEq, Repr

/-- Towpath time (chapter 3) beside its registers. -/
structure TowState where
  paths   : List TowPath := List.replicate 9 {}
  trg     : List TrgOut := List.replicate 16 {}
  /-- Entries by index; one not listed has never been armed. -/
  entries : List (Nat × TowEntry) := []
  /-- The SEQ of the next log record (R81). -/
  logSeq  : Nat := 0
  /-- When the pass timer next opens a pass, in ns (R79). -/
  timerAt : Nat := 0
deriving DecidableEq, Repr

/-- Pass opens and gate closes that have been asked for and have not yet met their DCLK edge: the times of their causes, oldest
first (R29, R75, R77). -/
structure PassReq where
  opens  : List Nat := []
  closes : List Nat := []
  /-- When an event-table entry last asked for a pass open, in ns (R73, R77). -/
  event  : Option Nat := none
deriving DecidableEq, Repr

/-- An epoch (R123 to R125, R130): its number, its directory set and its own copy of the region table. -/
structure Epoch where
  num     : Nat
  set     : Nat
  regions : List Nat
deriving DecidableEq, Repr

/-- A sphere of a robot (Table CND-2): centre in its link frame, radius, link, and its lever bound for each of eight joints. -/
structure Sphere where
  centre : Int × Int × Int
  radius : Nat
  link   : Nat
  levers : List Nat
deriving DecidableEq, Repr

/-- A joint (Table CND-2): 0 fixed, 1 revolute, 2 prismatic; its fixed transform as nine rotation entries and a translation; its
axis. -/
structure Joint where
  typ   : Nat
  trans : List Int
  axis  : List Int
deriving DecidableEq, Repr

/-- A robot description (R136). -/
structure Desc where
  base    : List Int
  joints  : List Joint
  spheres : List Sphere
  crc     : Nat := 0
deriving DecidableEq, Repr

/-- A tool set (Table CND-4): its spheres and the CRC of its record. -/
structure ToolSet where
  spheres : List Sphere
  crc     : Nat
deriving DecidableEq, Repr

/-- A load command of a robot page (R139): whether a description load and a tool set load (slot) are still to do, whether the
read of the next one has started, and what it has read; absent when it failed. -/
structure LoadCmd where
  desc    : Bool
  tool    : Option Nat
  started : Bool
  gotD    : Option Desc := none
  gotT    : Option ToolSet := none
deriving DecidableEq, Repr

/-- A published batch (R149): address, stride, count, CND_R_HB_SEQ. -/
structure Batch where
  addr   : Nat
  stride : Nat
  count  : Nat
  seq    : Nat
deriving DecidableEq, Repr

/-- A robot beside its registers (R139, R140, R149). -/
structure CndRobot where
  desc    : Option Desc := none
  descNew : Option Desc := none
  tools   : List (Option ToolSet) := List.replicate 8 none
  toolNew : List (Option ToolSet) := List.replicate 8 none
  load    : Option LoadCmd := none
  rsPut   : Bool := false
  batch   : Option Batch := none
deriving DecidableEq, Repr

/-- A candidate (R141): pass-wide index, robot, source (0 host, 1 perturbation, 2 learned, 3 refined), form, bias, tag, control
points and samples as raw joint values, and for a refined path the cost of its source. -/
structure Cand where
  index : Nat
  robot : Nat
  src   : Nat
  form  : Nat
  anchor : Bool
  bias  : Nat
  tag   : Nat
  cps   : List (List Int)
  smp   : List (List Int)
  orig  : Nat := 0
deriving DecidableEq, Repr

/-- A result record (Table SWP-3) with its candidate. -/
structure Res where
  cand   : Cand
  status : Nat
  minclr : Int
  sample : Nat
  sphere : Nat
  kind   : Nat
  cost   : Nat
deriving DecidableEq, Repr

/-- A path that a robot committed (R171): its result, t_c, and the description and sphere set it was committed with. -/
structure PathRec where
  res : Res
  tc  : Nat
  desc : Desc
  set : List (Nat × Sphere)
deriving DecidableEq, Repr

/-- A pair entry (Table SWP-2): own sphere, other sphere, other robot of a cross entry. -/
structure PairEntry where
  a  : Nat
  b  : Nat
  rb : Option Nat
deriving DecidableEq, Repr

/-- A robot taking part in a pass (R134, R140, R149, R160): what gate open fixed, then what the pass has brought. -/
structure PassRobot where
  robot  : Nat
  desc   : Desc
  /-- Joint and goal values and SEQ of the pinned state record; absent without one. -/
  state  : Option (List Int × List Int × Nat)
  /-- Sphere numbers and spheres of the pass. -/
  set    : List (Nat × Sphere)
  tool   : Bool
  /-- The words 0x07C to 0x13C of the robot page at gate open. -/
  cfg    : List Nat
  batch  : Option Batch
  /-- First index, configured total, and the host, perturbation and learned ranges after truncation. -/
  first  : Nat
  total  : Nat
  ranges : Nat × Nat × Nat
  seeds  : Bool
  lpOk   : Bool
  pairs  : List PairEntry := []
  pairBad : Bool := false
  /-- Indices seeded, OK records in rank order, the first reduction, eligible refined paths, records by status, candidates
  swept. -/
  seeded : List Nat := []
  ranked : List Res := []
  top    : List Res := []
  refok  : List Res := []
  counts : Nat × Nat × Nat × Nat := (0, 0, 0, 0)
  swept  : Nat := 0
deriving DecidableEq, Repr

/-- The pass steps of R294. -/
inductive StepKind
  | sweep | resweep (first count : Nat) | commit
deriving DecidableEq, Repr

/-- A pass step with the barge and handle that launched it; absent for the commit that follows a gate close. -/
structure PassStep where
  kind : StepKind
  by_  : Option (Nat × Nat)
deriving DecidableEq, Repr

/-- A pass from gate open until its results are delivered (R15, R25, R294). -/
structure PassRun where
  num     : Nat
  seq     : Nat
  epoch   : Option Epoch
  gate    : Nat
  len     : Nat
  /-- The words 0x040 to 0x23C of the SWP global page, and the attached-field settings, at gate open. -/
  swp     : List Nat
  att     : List Nat
  groups  : List Nat
  robots  : List PassRobot
  /-- CND_SEED and the paths in force at gate open (R149, R169, R170). -/
  seed    : Nat := 0
  paths   : List (Option PathRec) := []
  /-- The cause that closed the gate, as a status. -/
  closed  : Option Status := none
  swept   : Bool := false
  running : Option PassStep := none
  waiting : List PassStep := []
  jobs    : List (Option Cand) := List.replicate 8 none
  queue   : List Cand := []
  refq    : List Cand := []
  rot     : Nat := 0
  records : Nat := 0
  faulted : Bool := false
  reswept : Nat := 0
  lastAt  : Option Nat := none
  /-- Outputs of learned-proposal evaluations: robot, evaluation, outputs (R147). -/
  learned : List (Nat × Nat × List Int) := []
  /-- Refined paths of this pass by solver problem, in the order in which they came (R177, R201). -/
  refined : List (Nat × Cand) := []
  /-- The commit lists of this pass have been written (R178). -/
  listed  : Bool := false
  decided : List (Nat × Option Res) := []
  /-- Robots whose decided path a stop has dropped since (R387). -/
  gone    : List Nat := []
  /-- What each decided robot's next path was before, so that an abort can withdraw it. -/
  undo    : List (Nat × Option (Option PathRec)) := []
deriving DecidableEq, Repr

/-- A loaded problem (Tables SOL-2, SOL-3 and SOL-5) after its binding fill: structure, entries by row as (column, value), elements,
saturations of the fill, and for a bound problem the mapped unknowns (unknown, point, joint, fraction bits), the source candidate
and its cost. -/
structure SolProb where
  method : Nat
  n      : Nat
  m      : Nat
  qn     : Nat
  tol    : Int
  cap    : Nat
  floor  : Nat
  blow   : Nat
  lam    : Int
  lq     : Nat
  qx     : List Nat
  qr     : List Nat
  qa     : List Nat
  qg     : List Nat
  rows   : List (List (Nat × Int))
  b      : List Int
  lo     : List Int
  hi     : List Int
  x0     : List Int
  sat0   : Nat := 0
  maps   : List (Nat × Nat × Nat × Nat) := []
  src    : Option (Cand × Nat) := none
deriving DecidableEq, Repr

/-- What a run has brought: cause of an ill-posed end (0 without one), flags, counts, norms (absent for NaR), returned iterate and
residual vector. -/
structure SolRes where
  cause  : Nat := 0
  conv   : Bool := false
  capHit : Bool := false
  cut    : Bool := false
  iters  : Nat := 0
  best   : Nat := 0
  res2   : Option Nat := none
  res20  : Option Nat := none
  sat    : Nat := 0
  x      : List Int := []
  r      : List Int := []
deriving DecidableEq, Repr

/-- What loading a problem has brought (R201, R203): nothing yet, a problem that is not resident, uncorrectable or unusable slot
data, no source candidate, a preloaded problem that is bound to a rank of a robot when its group takes it, with its variable
entries, or the problem. -/
inductive SolLoad
  | none | absent | bad | noSource | toBind (p : SolProb) (robot rank : Nat) (vars : List (List Nat)) | good (p : SolProb)
deriving DecidableEq, Repr

/-- Where a launched problem stands (R199): queued, preloaded or running on a lane group, or its result being written. -/
inductive SolPlace
  | queued | preloaded (g : Nat) | running (g : Nat) | writing (g : Nat)
deriving DecidableEq, Repr

/-- A launched problem (R199, R200): number, class, the barge and handle it answers (absent for SOL_LAUNCH), the gate of its pass,
its backstop in ns, its place, what its load brought, T_START, the start of its computation in thirds of a ns, and its end: status,
result and refined path. -/
structure SolItem where
  prob   : Nat
  bg     : Bool
  by_    : Option (Nat × Nat)
  gate   : Option Nat
  dl     : Option Nat
  place  : SolPlace := .queued
  load   : SolLoad := .none
  tStart : Nat := 0
  from3  : Nat := 0
  status : Status := .ok
  res    : Option SolRes := none
  path   : Option Cand := none
deriving DecidableEq, Repr

/-- The problems of one handle (R295): barge and handle, problems left, the status of lowest precedence so far, problems that ended
OK or TIMEOUT_BEST. -/
structure SolBatch where
  by_    : Nat × Nat
  left   : Nat
  status : Status
  good   : Nat
deriving DecidableEq, Repr

/-- A change to a problem that is held until its run has ended (R188): an install, or an update packet with its list's number, its
place in the list and its bytes. -/
inductive SolChange
  | install
  | packet (list place : Nat) (bytes : List Byte)
deriving DecidableEq, Repr

/-- The solver arrays (chapter 8) beside their registers and slots: problems launched and not complete in launch order, the
handles they answer, held changes in issue order, resident problems, status of each problem's last run, update lists being applied,
lists issued so far, those with a recorded rejection, the slot area that INIT took and the one a running INIT takes. -/
structure SolState where
  items    : List SolItem := []
  batches  : List SolBatch := []
  held     : List (Nat × SolChange) := []
  resident : List Nat := []
  last     : List (Nat × Nat) := []
  lists    : Nat := 0
  listNo   : Nat := 0
  listBad  : List Nat := []
  base     : Nat := 0
  cnt      : Nat := 0
  initRun  : Option (Nat × Nat) := none
deriving DecidableEq, Repr

/-- A layer of a model (Tables CHG-3 and CHG-5): sizes, gain, activation, shifts, clips, SCALE and BIAS of each output, and its
activation table. -/
structure ChgLayer where
  inN  : Nat
  outN : Nat
  gsel : Nat
  act  : Nat
  sh   : Nat
  osh  : Nat
  clo  : Int
  chi  : Int
  sb   : List (Int × Int)
  tab  : List Int := []
deriving DecidableEq, Repr

/-- A tile of a model (Table CHG-4) with its weights row by row. -/
structure ChgTile where
  array : Nat
  layer : Nat
  rt    : Nat
  ct    : Nat
  r0    : Nat
  rn    : Nat
  c0    : Nat
  cn    : Nat
  w     : List (List Int)
deriving DecidableEq, Repr

/-- A resident model (R214, R216): its layers and tiles, and whether it is READY. -/
structure ChgModel where
  layers : List ChgLayer
  tiles  : List ChgTile
  ready  : Bool := false
deriving DecidableEq, Repr

/-- A row operation that runs (R222): its row, the selected cells as column and level, and the model it programs (absent for a
refresh). -/
structure RowOp where
  row   : Nat
  cells : List (Nat × Nat)
  model : Option Nat
deriving DecidableEq, Repr

/-- A REGISTER that runs: its model and the row operations still to start, as array, row, and cells. -/
structure ChgProg where
  model : Nat
  rows  : List (Nat × Nat × List (Nat × Nat))
deriving DecidableEq, Repr

/-- A charge array beside its registers (R222 to R228): wear by row, row operations in its life, marked rows with their marked
columns, the next row of a scan, the row operation that runs, whether a dedicated reference slot is due, traffic slots since the
last check and since the last valid one, whether the next traffic slot carries a check, times of the last valid check, completed
scan, empty slot and refresh start in ns, whether a row operation was cut by a reset and no scan has completed since (R231), and the number of
its slots, of which the throttle leaves some empty (R411). -/
structure ChgArray where
  wear    : List (Nat × Nat) := []
  total   : Nat := 0
  marks   : List (Nat × List Nat) := []
  scan    : Option Nat := none
  rowop   : Option RowOp := none
  refDue  : Bool := false
  duty    : Nat := 0
  since   : Nat := 0
  carry   : Bool := false
  checked : Nat := 0
  scanned : Nat := 0
  empty   : Nat := 0
  refresh : Option Nat := none
  cut     : Bool := false
  slots   : Nat := 0
deriving DecidableEq, Repr

/-- Who a request answers (R218): a barge's handle, or the learned range of a robot. -/
inductive ChgBy
  | handle (acc h : Nat)
  | learned (robot : Nat)
deriving DecidableEq, Repr

/-- An evaluation request (R218, R221): number, requester, class, gate of its pass, model, count, input and output places,
deadline; whether it has been accepted, with the model as it then was; evaluations started and completed; whether a clip or
saturation occurred; the status that ends it once its started evaluations are over. -/
structure ChgReq where
  num    : Nat
  by_    : ChgBy
  bg     : Bool
  gate   : Option Nat
  model  : Nat
  count  : Nat
  inA    : Nat
  inS    : Nat
  outA   : Nat
  outS   : Nat
  dl     : Option Nat
  taken  : Option ChgModel := none
  next   : Nat := 0
  done   : Nat := 0
  sat    : Bool := false
  stop   : Option Status := none
deriving DecidableEq, Repr

/-- A started evaluation: request, index, current layer, its inputs, tiles of the layer that have not run, sums of its outputs so
far, and the outputs of the last layer once they are formed. -/
structure ChgEval where
  req   : Nat
  idx   : Nat
  layer : Nat
  x     : List Int
  todo  : List Nat
  acc   : List Int
  fin   : Option (List Int) := none
deriving DecidableEq, Repr

/-- The charge arrays (chapter 9) beside their registers: programmed levels of cells (key array × 2^17 + row × 2^8 + column; an
unlisted cell is 0), resident models, arrays, the running REGISTER, requests in order, started evaluations in order, requests
issued so far, whether VPP_CA is in range, and for each die since when its sensors have stood within TWIN and whether they have
settled. -/
structure ChgState where
  levels : List (Nat × Nat) := []
  models : List (Nat × ChgModel) := []
  arrays : List ChgArray := List.replicate 256 {}
  prog   : Option ChgProg := none
  reqs   : List ChgReq := []
  evals  : List ChgEval := []
  reqNo  : Nat := 0
  vppOk  : Bool := true
  within : List (Option Nat) := List.replicate 4 none
  settled : List Bool := List.replicate 4 false
deriving DecidableEq, Repr

/-- The planning pass (chapters 1, 6 and 7) beside its registers. -/
structure PassState where
  /-- A gate is open, and the number of gates opened so far. -/
  isOpen  : Bool := false
  num     : Nat := 0
  cur     : Option PassRun := none
  /-- A pass open waits for the running pass to deliver (R77). -/
  waiting : Bool := false
  /-- The delivered passes in which SWEEP was launched that a PASS_BOUND barge still names (R294). -/
  sweptIn : List Nat := []
  robots  : List CndRobot := List.replicate 4 {}
  /-- Paths in force, and the change each robot's path makes at the next gate open (R171). -/
  paths   : List (Option PathRec) := List.replicate 4 none
  next    : List (Option (Option PathRec)) := List.replicate 4 none
  /-- The newest committed path handed to the safety island and not yet in force there, with the W64 of its handover and the
  island time of it in ns (R23, R387). -/
  handed  : List (Option (PathRec × Nat × Nat)) := List.replicate 4 none
deriving DecidableEq, Repr

/-- A completion ring beside its registers (R337, R338): records in the overflow store, oldest first; records written since the
last message; when the first of them was written, in ns. -/
structure CqRing where
  held    : List (List Byte) := []
  unsig   : Nat := 0
  firstAt : Nat := 0
deriving DecidableEq, Repr

/-- The host interface (chapter 14) beside its registers. -/
structure HstState where
  cq      : List CqRing := List.replicate 64 {}
  /-- Accepted producer index of each host DMA channel (R343). -/
  dmaPi   : List Nat := List.replicate 8 0
  /-- IRQ of the descriptor that each channel runs, once it has been fetched, and the bytes it has moved so far (R344). -/
  dmaCur  : List (Option (Bool × Nat)) := List.replicate 8 none
  /-- log2 of the BAR4 size (R330). -/
  bar4Log : Nat := 30
  /-- Configuration space (R326 to R328): the power state of the function (0 D0, 3 D3hot), and the uncorrectable error status of
  AER. -/
  power   : Nat := 0
  aer     : Nat := 0
  /-- The base addresses of BAR0, BAR2 and BAR4. -/
  bars    : List Nat := [0, 0, 0]
  /-- Device control (log entry 205): error enables [3:0], relaxed ordering [4], Max Payload Size [7:5], Max Read Request Size [14:12]; and
  the errors detected, device status [3:0]. -/
  devCtl  : Nat := 0x2010
  devSta  : Nat := 0
  /-- ASPM L1 enabled. -/
  aspmL1  : Bool := false
  /-- AER: the errors masked, those that are fatal, and whether ECRC is generated and checked. -/
  aerMask : Nat := 0
  aerSev  : Nat := 0x00462030
  ecrcGen : Bool := false
  ecrcChk : Bool := false
deriving DecidableEq, Repr

/-- An accepted barge (R255): the 16 words of its descriptor, its source (Table DSP-3) and the ring, engine or node it came from,
its acceptance number, the gate open at acceptance, and whether it has been saved. -/
structure Barge where
  words : List Nat
  osrc  : Nat
  orig  : Nat
  acc   : Nat
  gate  : Option Nat
  saved : Bool := false
  /-- The engine that has run it, for a barge that has started and left service by YIELD (R268, R298). -/
  ran   : Option Nat := none
deriving DecidableEq, Repr

/-- The states of a unit handle (R291). -/
inductive HState
  | free | set | launched | done
deriving DecidableEq, Repr

/-- A unit handle (R291): the descriptor bound to it, and its completion. -/
structure Handle where
  st     : HState := .free
  desc   : List Nat := []
  status : Nat := 0
  result : Nat := 0
deriving DecidableEq, Repr

/-- What a barge in service waits for (R286): nothing, a handle, one of several, a TAKE (destination, buffer, basin mask, time left
of its timeout, since when, and its place in the order of waiting), or the end of its launched work after POST or a program
fault (status, result, and the result of a barge held by TAKE, which ends with it). -/
inductive Wait
  | none
  | handle (rd h : Nat)
  | any (rd mask : Nat)
  | take (rd buf mask : Nat) (left : Option Nat) (since order : Nat)
  | ending (status result given : Nat)
deriving DecidableEq, Repr

/-- A barge in service with its architectural state (R285, R286): g0 to g15, program counter, handles, the barge given by TAKE
and since when it is in service, what it waits for, and the ns in service before the present stretch and its start. -/
structure Ctx where
  barge   : Barge
  regs    : List DWord
  pc      : Nat := 0
  handles : List Handle := List.replicate 8 {}
  given   : Option (Barge × Nat) := none
  wait    : Wait := .none
  spent   : Nat := 0
  since   : Nat
  /-- The operands of what has acted on the device, kept while a cluster in SHADOW runs a copy of the barge (R275). -/
  trace   : Option (List Int) := none
deriving DecidableEq, Repr

/-- A barge engine (R262 to R264, R276): its running barge, its saved barges, newest first, since when it is idle, the basin it
last took from, whether it is wedged, and since when it counts busy cycles. -/
structure Engine where
  run       : Option Ctx := none
  saved     : List Ctx := []
  idleSince : Nat := 0
  lastBasin : Nat := 31
  wedged    : Bool := false
  busyFrom  : Nat := 0
deriving DecidableEq, Repr

/-- A unit's work that has ended for a handle (R295): acceptance number of the barge, handle, status and result. -/
structure UnitEnd where
  acc    : Nat
  h      : Nat
  status : Nat
  result : Nat
deriving DecidableEq, Repr

/-- A program load that has passed its checks (R283, R284): target offset and image. -/
structure ProgLoad where
  dst   : Nat
  image : List Byte
deriving DecidableEq, Repr

/-- The dispatcher (chapter 11) and the program store (chapter 12) beside their registers. -/
structure DspState where
  /-- Ready barges in the order in which they entered their queues. -/
  ready   : List Barge := []
  /-- Barges in lock lists, in acceptance order. -/
  waiting : List Barge := []
  engines : List Engine := List.replicate 64 {}
  /-- The next acceptance number and the next place in the order of TAKE waiting. -/
  accNo   : Nat := 0
  takeNo  : Nat := 0
  /-- Ended unit work that its handle has not yet taken. -/
  ended   : List UnitEnd := []
  /-- The program store by byte offset; an unlisted byte is zero (R281, R301). -/
  store   : List Host.Cell := []
  load    : Option ProgLoad := none
deriving DecidableEq, Repr

/-- A frame whose Frame Start has come and whose Frame End has not (R94 to R99): its buffer, the 15 descriptor words it keeps,
stamp, flags, frame number, start, extrinsics record (number, write counter, payload; absent when it is not valid), the lines
received and not yet paired, the counts of lines, rows converted, valid pixels, and what is wrong with it. -/
structure RxFrame where
  buf      : Nat
  desc     : List Nat
  time     : Nat
  pos      : Nat
  fb       : Bool
  corr     : Bool
  num      : Nat
  start    : Nat
  ext      : Option (Nat × List Byte)
  pri      : List (List Nat) := []
  aux      : List (List Nat) := []
  priN     : Nat := 0
  auxN     : Nat := 0
  row      : Nat := 0
  valid    : Nat := 0
  badHdr   : Bool := false
  badCrc   : Bool := false
  badShape : Bool := false
  /-- It started while fusion of the slot's other buffer ran (R96, R97). -/
  pended   : Bool := false
deriving DecidableEq, Repr

/-- A frame buffer: 0 free, 1 receiving, 2 pending, 3 running; with the descriptor, stamp position and extrinsics of the frame it
holds, its place in the order in which buffers became running, and when it was handed over, in ns. -/
structure RxBuf where
  st    : Nat := 0
  desc  : List Nat := []
  pos   : Nat := 0
  ext   : List Byte := []
  order : Nat := 0
  handed : Nat := 0
deriving DecidableEq, Repr

/-- A stream slot beside its registers (R89 to R103): the descriptor words in effect, the open frame, the two buffers, and when
the last Frame Start came. -/
structure RxSlot where
  desc   : List Nat := []
  frame  : Option RxFrame := none
  bufs   : List RxBuf := [{}, {}]
  lastFs : Option Nat := none
deriving DecidableEq, Repr

/-- Sensor ingress (chapter 4): the 24 slots, the frames handed to fusion in handover order as slot and buffer (R97), and the
next place in the order of running buffers. -/
structure IngState where
  slots    : List RxSlot := List.replicate 24 {}
  handover : List (Nat × Nat) := []
  runNo    : Nat := 0
deriving DecidableEq, Repr

/-- Where a running cut stands (R125): waiting for the running frame and load, propagation due, ready to publish, or copying the
directories. -/
inductive CutStep
  | drain | propagated | publishing | copying
deriving DecidableEq, Repr

/-- A running cut: its step, when it was requested and, while it waits, since when, in ns; and whether a fabric commit lets it
publish (R369). -/
structure CutRun where
  step  : CutStep
  asked : Nat
  wait  : Option Nat := none
deriving DecidableEq, Repr

/-- A load that runs or waits (R118, R293): the first packet, their number, the next one, how many were applied, whether one has
been recorded as BAD_PACKET, whether any was skipped, and the barge and handle of a FUS launch. -/
structure LoadRun where
  addr    : Nat
  cnt     : Nat
  idx     : Nat := 0
  applied : Nat := 0
  noted   : Bool := false
  failed  : Bool := false
  fus     : Option (Nat × Nat) := none
deriving DecidableEq, Repr

/-- A line of the brick cache (R129): node of the brick (absent: this one), whether it is a fine brick, slot, which KiB of it, the line
of the cache that holds it, and for a brick of another node EPS, the bytes as they were fetched and whether the fetch found uncorrectable
data (R179, R366). -/
structure CacheLine where
  node : Option Nat
  fine : Bool
  slot : Nat
  line : Nat
  place : Nat
  eps  : Nat := 0
  /-- CRC of the slot header, which the mooring lane checks (R392). -/
  crc  : Nat := 0
  data : List Byte := []
  bad  : Bool := false
deriving DecidableEq, Repr

/-- An attached field beside its registers (R128): half words staged for the next cut, newest first, the fine slots in force and
those taken since, the anchor pose and low corner recorded by a capture (in force, and staged), whether a command runs (1 capture,
2 release), and whether the field is given up at the cut. -/
structure AttField where
  staged  : List (Nat × Nat) := []
  fine    : List Nat := []
  taken   : List Nat := []
  anchor  : List Int := []
  anchor2 : Option (List Int) := none
  cmd     : Nat := 0
  drop    : Bool := false
deriving DecidableEq, Repr

/-- The world map (chapter 5) beside its registers and its data in memory. -/
structure WldState where
  initRun  : Bool := false
  /-- WLD_MEM_BASE, C and F as pool initialisation took them (R130). -/
  base     : Nat := 0
  cCnt     : Nat := 0
  fCnt     : Nat := 0
  /-- Published epochs that are alive, oldest first, and the working epoch. -/
  alive    : List Epoch := []
  working  : Option Epoch := none
  /-- Reference counts of the slots in use, and the slots whose background release has not come yet (R124). -/
  refC     : List (Nat × Nat) := []
  refF     : List (Nat × Nat) := []
  relC     : List Nat := []
  relF     : List Nat := []
  /-- Dirty coarse bricks of the working epoch, and the slots written in it. -/
  dirty    : List Nat := []
  wroteC   : List Nat := []
  wroteF   : List Nat := []
  cut      : Option CutRun := none
  load     : Option LoadRun := none
  /-- FUS launches and a host load that wait. -/
  loadQ    : List LoadRun := []
  /-- The frame in fusion: slot and buffer. -/
  fusing   : Option (Nat × Nat) := none
  /-- The lines of the brick cache. -/
  lines    : List CacheLine := []
  /-- Lines of other nodes' bricks that a propagation or a capture under way has been sent (R126, R128; log entry 254). -/
  held     : List CacheLine := []
  /-- Epochs pinned by other nodes: node and its latest pin set (R367). -/
  pinsets  : List (Nat × List Nat) := []
  att      : List AttField := List.replicate 16 {}
deriving DecidableEq, Repr

/-- A wipe of the sealed pound that runs (R320): when its cause fell, in ns, and whether a row has already failed once. -/
structure WipeRun where
  start : Nat
  /-- How long it ran before a release restarted W64, in ns (R320, R473). -/
  ran   : Nat := 0
  retry : Bool
deriving DecidableEq, Repr

/-- A word that a port of a bank has reserved (R308, R309): word address, port B, and the last bank cycle of the reservation. -/
structure Resv where
  addr  : Nat
  portB : Bool
  last  : Nat
deriving DecidableEq, Repr

/-- The latest request of a port of a bank (R306, R314): bank, port B, its word, its cycle, how many cycles in a row the port has
presented one, whether it is the scrubber's, and word, class and ID of a stalled request, which the port presents until it is taken (R309). -/
structure PortUse where
  bank  : Nat
  portB : Bool
  addr  : Nat
  last  : Nat
  run   : Nat
  scrub : Bool
  kept  : Option (Nat × Nat × Nat) := none
deriving DecidableEq, Repr

/-- Scratchpad, HBM and sealed pound (chapter 13) beside their contents and registers. -/
structure SpdState where
  /-- 8-byte words that hold an uncorrectable error (R304, R525). -/
  ue    : List Nat := []
  /-- 8-byte words read with a single-bit error whose corrected value waits to be written back (R304). -/
  ce    : List Nat := []
  resv  : List Resv := []
  wipe  : Option WipeRun := none
  ports : List PortUse := []
  /-- Words the scrubber has read in this pass, and when the latest pass began, in ns (R314). -/
  scrubbed : List Nat := []
  scrubAt  : Option Nat := none
deriving DecidableEq, Repr

/-- One loop controller (R422 to R425): consecutive updates that count towards DEVIATION and HI_UNREACH, and the current that its converter
is set to, in nA after the DAC trims. -/
structure LoopCtl where
  devCnt : Nat := 0
  hiCnt  : Nat := 0
  drive  : Int := 0
deriving DecidableEq, Repr

/-- A message of the fleet report queue (R431, R432): type, sequence number, W64 of the event, payload bytes, sends so far and
when it was last sent, in ns; and whether it waits at the input of the quiesced port (R52). -/
structure FleetMsg where
  typ      : Nat
  seq      : Nat
  time     : Nat
  payload  : List Byte
  sends    : Nat := 0
  lastSend : Nat := 0
  held     : Bool := false
deriving DecidableEq, Repr

/-- Field I/O and management (chapter 18) beside its registers. -/
structure FioState where
  loops     : List LoopCtl := List.replicate 2 {}
  /-- A GPIO level has changed since the last heartbeat. -/
  gpioMoved : Bool := false
  queue     : List FleetMsg := []
  /-- The fleet report key while one is loaded (R434). -/
  key       : Option (List Byte) := none
  /-- When the last first send left, in ns (R432). -/
  lastFirst : Option Nat := none
  /-- When the last heartbeat fell due, in ns. -/
  lastBeat  : Nat := 0
  /-- The register-space offset of the next SMBus READ or WRITE (R436). -/
  smbAddr   : Nat := 0
  /-- SMB_ALERT_N is asserted and no STATUS read has shown the enabled bits 0 since (R437). -/
  smbAlert  : Bool := false
  /-- Direction and output bits of the GPIO pins as they are driven; while ENABLE is 0 they stand (R428). -/
  drv       : Nat × Nat := (0, 0)
  /-- The MAC address that ARP has resolved for the destination or the gateway (R429). -/
  peerMac   : Nat := 0
deriving DecidableEq, Repr

/-- A remote request of this node (R360, R362): tag, target, kind (0 read, 1 write, 2 offer), local address at the target, bytes,
the DMA it serves as barge and handle, where the data of a read goes, when it was issued, whether it has been issued again, and the
engine of the DMA. -/
structure FabReq where
  tag    : Nat
  dst    : Nat
  kind   : Nat
  addr   : Nat
  len    : Nat
  data   : List Byte
  by_    : Nat × Nat
  put    : Nat
  issued : Nat
  again  : Bool := false
  eng    : Nat := 0
deriving DecidableEq, Repr

/-- A DMA that waits for its remote requests: barge and handle, requests left, status so far. -/
structure DmaJob where
  by_    : Nat × Nat
  left   : Nat
  status : Nat
deriving DecidableEq, Repr

/-- A fabric cut on this node (R369, R370): its epoch, when its PREPARE came, whether READY has been sent, whether COMMIT has come,
the nodes whose DELTA_END has come, and the entries received as layer, brick and entry. -/
structure FabCut where
  epoch  : Nat
  since  : Nat
  ready  : Bool := false
  commit : Bool := false
  ends   : List Nat := []
  deltas : List (Nat × Nat × Nat) := []
deriving DecidableEq, Repr

/-- The coordinator's view of a cut: its epoch, the nodes that are READY, and the PREPARE in ns of each node that has not answered it yet. -/
structure CoordCut where
  epoch  : Nat
  ready  : List Nat
  answer : List (Nat × Nat)
deriving DecidableEq, Repr

/-- The aqueduct fabric (chapter 15) beside its registers. -/
structure AqdState where
  /-- Links that have gone down with EN at 1 (R377). -/
  fallen  : List Nat := []
  /-- How often the packet that a link sends again has been sent again, by link (R354). -/
  resent  : List (Nat × Nat) := []
  /-- When the test patterns of a link began, in ns. -/
  testFrom : List (Nat × Nat) := []
  /-- SHADOW_N as each unit in SHADOW read it, by page (R373). -/
  shadowN : List (Nat × Nat) := []
  /-- What work of peers has given, for the units in SHADOW that took a copy and have not compared it yet, oldest first (R526). -/
  copies  : List (SvcUnit × List Int) := []
  /-- Packets sent and not acknowledged yet, oldest first: link, header, payload (R354). -/
  retry   : List (Nat × List Nat × List Nat) := []
  /-- The peer in use of each unit in SHADOW, and of the node (R374). -/
  peers   : List (SvcUnit × SvcUnit) := []
  nodePeer : Option Nat := none
  /-- WLD_ORIGIN of other nodes, as HELLO has brought it (R356). -/
  views   : List (Nat × Int × Int × Int) := []
  /-- Regions that are UNKNOWN because their node was lost (R372). -/
  lostReg : List Nat := []
  /-- Links up by node, as LSTATE has reported them (R359). -/
  reports : List (Nat × Nat) := []
  /-- When a packet of a node last came, in ns (R372). -/
  heard   : List (Nat × Nat) := []
  /-- When the cut request of this node that is with the coordinator was made, in ns. -/
  asked   : Option Nat := none
  cut     : Option FabCut := none
  coord   : Option CoordCut := none
  /-- PREPARE of the last cut, in ns, until its CUT_DONE. -/
  prepAt  : Option Nat := none
  /-- Nodes lost whose regions are UNKNOWN from the next cut (R372). -/
  lost    : List Nat := []
  /-- The entries of the homed regions have been published since HOME_EN was set (R375). -/
  homeOut : Bool := false
  /-- Regions whose bricks are being copied here, with the old home (R368). -/
  rehome  : List (Nat × Nat) := []
  /-- The node test (R375): when it began, and the homes whose answer is awaited once SYNC_REQ has been sent. -/
  testAt  : Nat := 0
  sync    : Option (List Nat) := none
  reqs    : List FabReq := []
  reqQ    : List FabReq := []
  tagNo   : Nat := 0
  jobs    : List DmaJob := []
  /-- The pin set last sent (R367). -/
  pinSent : List Nat := []
deriving DecidableEq, Repr

/-- Work that a block holds at its input while its page is disabled or quiesced (R51, R52), in arrival order. -/
inductive Work
  /-- World map: initialise, start a load, request a cut, apply a FUS launch (address, packets, barge, handle), an attached-field
  command (field, value written). -/
  | poolInit
  | loadGo
  | cut
  | fus (addr cnt acc h : Nat)
  | att (n v : Nat)
  /-- Towpath time: a TRIGGER firing (output, width) at the quiesced trigger page, a pass open of the timer at the quiesced global page. -/
  | pulse (n width : Nat)
  | passOpen
  /-- Sensor ingress, of a slot whose receiver page is quiesced: a Frame Start (slot, number, corrected header, when, stamp: time, position,
  fallen back), a line (slot, data type, bytes, CRC right, corrected header), a Frame End (slot, corrected header, when), and an
  uncorrectable header of the receiver that damages the slot's frame. -/
  | frameStart (k num : Nat) (corr : Bool) (at_ : Nat) (stamp : Nat × Nat × Bool)
  | frameLine (k dt : Nat) (data : List Byte) (crcOk corr : Bool)
  | frameEnd (k hdr at_ : Nat)
  | frameBad (k : Nat)
  /-- Commands of quiesced pages: SEC_CMD and CAL_CMD as written, a doorbell of an inlet ring or of a host DMA channel. -/
  | sec (v : Nat)
  | cal (src : Source) (v : Nat)
  | inlet (n v : Nat)
  | dma (c v : Nat)
  /-- Aqueduct, over the link whose page is quiesced: a remote read (node, tag, address, words), a remote write, a remote offer. -/
  | remoteRead (node tag addr len : Nat)
  | remoteWrite (node tag addr : Nat) (data : List Byte)
  | remoteOffer (node tag : Nat) (words : List Nat)
  /-- Safety: the verification of a tick. -/
  | verify
deriving DecidableEq, Repr

/-- A request of another node. -/
def Work.remote : Work → Bool
  | .remoteRead _ _ _ _ => true
  | .remoteWrite _ _ _ _ => true
  | .remoteOffer _ _ _ => true
  | _ => false

/-- MSI-X (R57, R329, R345; log entry 9): the vectors that the host has unmasked, the vectors with a message pending (the PBA), the
function mask, and the address and data words of the table by 4 * vector + word; a word not listed is 0. -/
structure MsixState where
  unmasked : List Nat := []
  pend     : List Nat := []
  funcMask : Bool := false
  table    : List (Nat × Word) := []
deriving DecidableEq, Repr

/-- Word `k` (0 and 1 address, 2 data) of the table entry of a vector. -/
def MsixState.word (m : MsixState) (v k : Nat) : Nat := (Sparse.get (fun _ => (0 : Word)) m.table (4 * v + k)).toNat

/-- The message of a vector, as its table entry gives it. -/
def MsixState.msg (m : MsixState) (v : Nat) : Out := .msix v (m.word v 0 + m.word v 1 * 2 ^ 32) (m.word v 2)

/-- A message on a vector goes out at once: neither the vector nor the function is masked. -/
def MsixState.isOpen (m : MsixState) (v : Nat) : Bool := m.unmasked.contains v && !m.funcMask

/-- A 64-bit read latch (R39): page, source, offset of the register's low word, the high word latched. -/
structure Latch where
  page : Nat
  src  : Source
  off  : Nat
  high : Word
deriving DecidableEq, Repr

/-- A staged low word (R40): page, source, offset of the register's low word, the word. -/
structure Stage where
  page : Nat
  src  : Source
  off  : Nat
  low  : Word
deriving DecidableEq, Repr

/-- A security command that runs (R459): its operation, the result its checks have given, its arguments, its transfer address, the
state or slot or field it concerns, the data it writes, and its source. -/
structure SecRun where
  op     : Nat
  result : Nat
  arg0   : Nat
  arg1   : Nat
  addr   : Nat
  data   : List Byte := []
deriving DecidableEq, Repr

/-- The image that secure boot accepted (R442): key slot, SVN, public key, and the payload that island SRAM holds (R444). -/
structure BootImage where
  keySlot : Nat
  svn     : Nat
  key     : List Byte
  island  : List Byte
deriving DecidableEq, Repr

/-- Security and life cycle (chapter 19) beside its registers: the log number and the boot count (MRAM, R460), the OTP fields
(R440), the running image, the place of the mooring service in it, the command that runs, the charge of the hold-up bank in fC with
the time up to which leakage is drawn, the test discharge that runs since when, when the last one ended, one that is deferred, and
whether the last judgement found the gauges disagreeing. -/
structure SecState where
  logSeq  : Nat := 0
  boots   : Nat := 0
  /-- The life-cycle state of Table SEC-5 as OTP holds it. -/
  lc      : Nat := 0
  keyHash : List (Option (List Byte)) := List.replicate 4 none
  revoke  : Nat := 0
  svnMin  : Nat := 0
  strict  : Bool := false
  otk     : Option (List Byte) := none
  /-- The OPTION fuse: PGZM2-F. -/
  optF    : Bool := false
  image   : Option BootImage := none
  mooringProg : Nat := 0
  run     : Option SecRun := none
  charge  : Nat := 0
  chargeAt : Nat := 0
  test    : Option Nat := none
  testEnd : Option Nat := none
  deferred : Bool := false
  disNow  : Bool := false
deriving DecidableEq, Repr

/-- A monitored robot on the island (R382 to R389): its copies of description and sphere set, submitted telegrams with their
island time in µs, the newest accepted telegram's joint values and STOP bounds, when it was accepted in ns, whether continuity is
waived, SEQ and TIME last accepted, the recent values of submission less TIME, and the path in force with its W64 of handover and
island time of it. -/
structure SafRobot where
  desc   : Option Desc := none
  set    : List (Nat × Sphere) := []
  inbox  : List (List Byte × Nat) := []
  newest : Option (List Int × List Int) := none
  accAt  : Nat := 0
  waive  : Bool := false
  last   : Option (Nat × Nat) := none
  offs   : List Int := []
  path   : Option (PathRec × Nat × Nat) := none
deriving DecidableEq, Repr

/-- A stopping corridor (R389): robot, telegram (absent without a fresh one), path in force, and the window of its samples. -/
structure Corridor where
  robot : Nat
  tele  : Option (List Int × List Int)
  path  : Option PathRec
  ja    : Nat
  jb    : Nat
deriving DecidableEq, Repr

/-- A verification that runs (R391): its tick in ns of island time, its corridors, its epoch, whether the mooring lane has been
started for it. -/
structure SafRun where
  tick  : Nat
  cors  : List Corridor
  epoch : Option Nat := none
  lane  : Bool := false
deriving DecidableEq, Repr

/-- The safety island (chapter 16) beside its registers: log number, robots, next tick and running verification, mooring barges by
acceptance number and time, whether SAF_ACK has come since the last stop cause, and for each channel when its next test pulse is
due, since when one runs, and its last edge. -/
structure SafState where
  logSeq : Nat := 0
  robots : List SafRobot := List.replicate 4 {}
  tickAt : Nat := 0
  run    : Option SafRun := none
  barges : List (Nat × Nat) := []
  acked  : Bool := false
  due    : List Nat := [0, 0]
  pulse  : List (Option Nat) := [none, none]
  edge   : List Nat := [0, 0]
deriving DecidableEq, Repr

/-- A die sensor beside its register (R406): no conversion yet, its valid conversions in a row, and its reading in 1/256 °C, which above
127.996 °C is more than its register can show. -/
structure ThmSens where
  fresh : Bool := true
  good  : Nat := 0
  t     : Int := 0
deriving DecidableEq, Repr

/-- Thermal sensing and cooling (chapter 17) beside its registers: sensors; whether a conversion cycle has ended; the hold of R413;
for levels 1 to 4 since when T_max is below the fall threshold; heater power by die in 1/16 W (Ebras 0 to 3, planner), since when at
its limit and cold, KW_SHORT by die; thermistors found bad; sums and counts of the window of the estimate, and the latest T_max as comparisons take it; updates in a row that
exceed, and that are formed and do not; when the heaters were last adjusted (R502). -/
structure ThmState where
  sens    : List ThmSens := List.replicate 64 {}
  cycled  : Bool := false
  hold    : Bool := false
  below   : List (Option Nat) := List.replicate 4 none
  heat    : List Nat := List.replicate 5 0
  limitAt : List (Option Nat) := List.replicate 5 none
  short   : List Bool := List.replicate 5 false
  ntcBad  : List Bool := [false, false]
  tSum    : Int := 0
  tN      : Nat := 0
  tLast   : Int := 0
  inSum   : Int := 0
  inN     : Nat := 0
  pSum    : Int := 0
  pN      : Nat := 0
  cnt     : Nat := 0
  clr     : Nat := 0
  adjusted : Option Nat := none
deriving DecidableEq, Repr

/-- Power, clocks and reset (chapter 20) beside its registers: the reset that holds the device, as the island time of its trigger
and whether it is a power-on reset; the part of a mJ not yet counted in PWR_ENERGY, in 10^-7 mJ; and the pages that are
quiesced and busy, since when (R476). -/
structure PwrState where
  held   : Option (Nat × Bool) := some (0, true)
  /-- When the last rail came back within its tolerance, by the island's time in ns (R466). -/
  goodAt : Nat := 0
  /-- HBM is zero-filled after this release, as power-on does (Table PWR-6). -/
  cold   : Bool := true
  energy : Nat := 0
  stuck  : List (Nat × Nat) := []
  /-- The block types whose wedge candidate has been reported in SYS_WEDGE and has not broken off since (R476). -/
  told   : List Nat := []
deriving DecidableEq, Repr

/-- A calibration store command that runs (R239): its OP, its source, and what its end will show: result, failed check, region
field of CAL_CMD_STAT, and the regions it wrote. -/
structure CalRun where
  op      : Nat
  src     : Source
  result  : Nat
  check   : Nat
  region  : Nat
  written : List Nat
deriving DecidableEq, Repr

/-- One calibration job (R248, R249): when the last step started, in ns. -/
structure CalJob where
  lastStart : Option Nat := none
deriving DecidableEq, Repr

/-- The calibration store (chapter 10): 32 KiB of MRAM, and the copy of each record that its consumer uses.  A device without a
valid record has no applied copy of it. -/
structure CalState where
  store   : List Host.Cell
  /-- The records as applied, at their store offsets (R246). -/
  applied : List Host.Cell := []
  /-- Regions of which a valid record is applied. -/
  inUse   : List Nat := []
  /-- Regions with an uncorrectable word, found at the load and not written since (R235, R244). -/
  bad     : List Nat := []
  /-- Links 0 to 7, and 8 for the PCIe lanes, that have not trained since the SERDES record was last committed (R246). -/
  serWait : List Nat := []
  /-- The presets that each link, or 8 for the PCIe lanes, last trained from (R327, R352). -/
  presets : List (Nat × List Nat) := []
  /-- Arrays that wait for the apply of their die's CHG record (R247), with the time of its commit in ns. -/
  chgWait : List (Nat × Nat) := []
  /-- Each source's CAL_XFER_ADDR (R239). -/
  xfer    : List (Source × Nat) := []
  run     : Option CalRun := none
  jobs    : List CalJob := List.replicate 8 {}
deriving DecidableEq, Repr

end Sys2Proof.Machine
end

