-- ==== Sys2Proof/Machine/State.lean ====
section
/-!
DEFINITION. The state of the device, the reasons a step can stop, and the state after reset.
-/
namespace Sys2Proof.Machine

/-- The state of the device.  `regs` holds every register of every page (the sparse table of values that differ from their
reset value); the structures hold what no register shows; `out` holds what has left the device; `pending` is the queue of
commands that wait. -/
structure State where
  /-- W64 in ns (R471). -/
  now      : Nat
  /-- The island's time in ns (R401). -/
  itime    : Nat
  /-- Every register word that differs from its reset value, by register-space address. -/
  regs     : List (Nat × Word)
  latches  : List Latch
  staged   : List Stage
  /-- Addresses of WOS registers already written (R42, R49). -/
  wosDone  : List Nat
  /-- Scratchpad, sealed pound and HBM by device address; an unlisted byte reads as the fill that covers it, else zero (R131,
  R322, Table PWR-6). -/
  mem      : List Host.Cell
  fills    : List Fill
  /-- What has left the device, oldest first. -/
  out      : List Out
  /-- The number of free values drawn so far: the model's own field. -/
  freeCnt  : Nat
  /-- Work held at the input of a block, with the page that holds it (R51, R52). -/
  waitIn   : List (Nat × Work)
  msix     : MsixState
  tow      : TowState
  req      : PassReq
  pass     : PassState
  sol      : SolState
  chg      : ChgState
  hst      : HstState
  dsp      : DspState
  ing      : IngState
  wld      : WldState
  spd      : SpdState
  fio      : FioState
  sec      : SecState
  saf      : SafState
  cal      : CalState
  aqd      : AqdState
  thm      : ThmState
  pwr      : PwrState
  /-- The commands that wait, first in, first out. -/
  pending  : List Instr
deriving DecidableEq, Repr

/-- Why a step stops with a fault. -/
inductive Fault
  /-- Raised by no command of the table: reserved for an operand that no access on the device could carry.  Safe. -/
  | illFormed
deriving DecidableEq, Repr

/-- Why a step is refused. -/
inductive Refusal
  /-- Raised by an arm of exec whose command has no meaning yet.  Safe. -/
  | notModelled (mnemonic : String)
deriving DecidableEq, Repr

/-- A store header as factory test writes it (Table CAL-3), of a device whose UID is zero (log entry 20): MAGIC, VERSION,
STEPPING and CRC.  Every region is absent. -/
def calHeader : List Host.Cell :=
  [(0x00, 0x53), (0x01, 0x43), (0x02, 0x01), (0x10, 0xA1), (0x3C, 0x63), (0x3D, 0xD3), (0x3E, 0x34), (0x3F, 0x2E)]

/-- The device in power-on reset (R51, R58, R322, R466, Table PWR-6): every register at its reset value, no page READY, and the
release still to come. -/
def State.reset : State where
  now := 0
  itime := 0
  regs := []
  latches := []
  staged := []
  wosDone := []
  mem := []
  fills := []
  out := []
  freeCnt := 0
  waitIn := []
  msix := {}
  tow := {}
  req := {}
  pass := {}
  sol := {}
  chg := {}
  hst := {}
  dsp := {}
  ing := {}
  wld := {}
  spd := {}
  fio := {}
  sec := {}
  saf := {}
  cal := { store := calHeader }
  aqd := {}
  thm := {}
  pwr := {}
  pending := []

end Sys2Proof.Machine
end

