-- ==== Sys2Proof/Machine/Ops.lean ====
section
/-!
DEFINITION. The named operations over registers, the page header, interrupts and memory that every meaning goes through
(chapter 2).
-/
namespace Sys2Proof.Machine

/-! ## Pages -/

/-- The row of the page map that holds an address, searched from a list. -/
def pageRowIn : List PageRow → Nat → Option PageRow
  | [], _ => none
  | r :: t, a => if r.base ≤ a && a < r.base + r.count * 0x1000 then some r else pageRowIn t a

/-- The page row of a register-space address; none outside every page (R33, R34). -/
def pageRow (a : Nat) : Option PageRow := pageRowIn pageRows a

/-- The base address of the page an address lies in. -/
def pageBase (a : Nat) : Nat := a / 0x1000 * 0x1000

/-- The instance of a page: its number among like pages (R35, R36).  The link 0 page stands apart in the page map, and the event
pages are not instances. -/
def pageInst (r : PageRow) (a : Nat) : Nat :=
  match r.kind with
  | .towEvt => 0
  | .aqd => (a - r.base) / 0x1000 + 1
  | _ => if r.count ≤ 1 then 0 else (a - r.base) / 0x1000

/-- PAGE_ID of the page an address lies in (R36). -/
def pageId (r : PageRow) (a : Nat) : Nat :=
  let idx := match r.kind with
    | .towEvt => r.index + (a - r.base) / 0x1000
    | _ => r.index
  r.typ * 2 ^ 24 + pageInst r a * 2 ^ 12 + idx

/-- Pages whose ENABLE is fixed at 1 (R51). -/
def enableFixed (r : PageRow) : Bool :=
  r.typ == 0x01 || r.typ == 0x02 || r.typ == 0x0D || r.typ == 0x0F || r.typ == 0x10 || r.typ == 0x13 || r.typ == 0x14

/-- The register row that holds a page offset, with the distance of the offset from the start of its copy. -/
def findRow : List RegRow → Nat → Option (RegRow × Nat)
  | [], _ => none
  | r :: t, o =>
    let size := if r.wide then 8 else 4
    let d := o - r.off
    let k := if r.stride = 0 then 0 else d / r.stride
    if r.off ≤ o && k < r.count && d - k * r.stride < size then some (r, d - k * r.stride) else findRow t o

/-- Reset value of a header word (Table PAG-7). -/
def headerReset (r : PageRow) (a : Nat) : Nat :=
  match a % 0x1000 with
  | 0x000 => pageId r a
  | 0x004 => 0x0100
  | 0x008 => if enableFixed r then 1 else 0
  | 0x00C => if r.typ = 0x0E then 2 * 4 else 0
  | _ => 0

/-- The reset value of the register word at an address.  DSP_E_BASINS of engine 63 is fixed at 0x8000_0000 (Table DSP-9). -/
def resetWord (a : Nat) : Word :=
  match pageRow a with
  | none => 0
  | some r =>
    let o := a % 0x1000
    if o < 0x40 then BitVec.ofNat 32 (headerReset r a)
    else if a = A.dspEBasins 63 then 0x80000000
    else match findRow (rowsOf r.kind) o with
      | none => 0
      | some (row, d) => if d < 4 then BitVec.ofNat 32 row.reset else BitVec.ofNat 32 (row.reset / 2 ^ 32)

/-! ## Registers -/

/-- The stored value of the register word at an address. -/
def State.rd (s : State) (a : Nat) : Nat := (Sparse.get resetWord s.regs a).toNat

/-- Store a register word. -/
def State.wr (s : State) (a v : Nat) : State := { s with regs := Sparse.set resetWord s.regs a (BitVec.ofNat 32 v) }

/-- A 64-bit register, low word first. -/
def State.rd64 (s : State) (a : Nat) : Nat := s.rd a + s.rd (a + 4) * 2 ^ 32

/-- Store a 64-bit register. -/
def State.wr64 (s : State) (a v : Nat) : State := (s.wr a v).wr (a + 4) (v / 2 ^ 32)

/-- A field of a register. -/
def State.rdf (s : State) (a lo len : Nat) : Nat := fld (s.rd a) lo len

/-- One bit of a register. -/
def State.rdb (s : State) (a i : Nat) : Bool := tbit (s.rd a) i

/-- Store a field of a register. -/
def State.wrf (s : State) (a lo len v : Nat) : State := s.wr a (putFld (s.rd a) lo len v)

/-- Store one bit of a register. -/
def State.wrb (s : State) (a i : Nat) (b : Bool) : State := s.wr a (putBit (s.rd a) i b)

/-- Count one more in a 16-bit counter, which saturates. -/
def State.bump (s : State) (a : Nat) : State := s.wr a (satAdd 0xFFFF (s.rd a) 1)

/-- Count `n` more in a 16-bit counter, which saturates. -/
def State.bumpBy (s : State) (a n : Nat) : State := s.wr a (satAdd 0xFFFF (s.rd a) n)

/-- Count `n` more in a 32-bit counter, which wraps. -/
def State.bump32 (s : State) (a n : Nat) : State := s.wr a ((s.rd a + n) % 2 ^ 32)

/-- Count one more in a 16-bit counter that lies at bit `lo` of its register. -/
def State.bumpF (s : State) (a lo : Nat) : State := s.wrf a lo 16 (satAdd 0xFFFF (s.rdf a lo 16) 1)

/-- Send something out of the device. -/
def State.emit (s : State) (o : Out) : State := { s with out := s.out ++ [o] }

/-- A free value of `w` bits (log entry 1), and the state with the counter advanced. -/
def State.draw (s : State) (w : Nat) : BitVec w × State := (Config.freeValue w s.freeCnt, { s with freeCnt := s.freeCnt + 1 })

/-! ## The page header -/

/-- PAGE_CTRL.ENABLE of the page at `p` (R51). -/
def State.enabled (s : State) (p : Nat) : Bool := s.rdb (p + 0x008) 0

/-- PAGE_CTRL.QUIESCE_REQ of the page at `p` (R52). -/
def State.quiesced (s : State) (p : Nat) : Bool := s.rdb (p + 0x008) 1

/-- A page takes new work (R51, R52). -/
def State.pageOpen (s : State) (p : Nat) : Bool := s.enabled p && !s.quiesced p

/-- PAGE_STAT.READY of the page at `p` (R50). -/
def State.ready (s : State) (p : Nat) : Bool := s.rdb (p + 0x00C) 0

/-- The device is tripped, or held hot after a reset (R412, R413). -/
def State.tripped (s : State) : Bool := s.rdb A.thmStat 3

/-- A clock domain of Table PWR-4 runs. -/
def State.runs (s : State) (d : Nat) : Bool := if d < 32 then s.rdb A.clkDomRun d else s.rdb (A.clkDomRun + 4) (d - 32)

/-- The clocks of both HBM stacks run: a unit whose data lie in the pools and slots of HBM makes progress (R470; log entry 260). -/
def State.hbmRuns (s : State) : Bool := [4, 5, 6, 7].all s.runs

/-- The units that a trip stops and PLL_A clocks may work (R412, R470). -/
def State.datapath (s : State) : Bool := !s.tripped && s.runs 0

/-- The same for a unit that reads or writes HBM. -/
def State.poolpath (s : State) : Bool := s.datapath && s.hbmRuns

/-- Fusion and the load unit work: WCLK and the clocks of HBM run (R470). -/
def State.loadpath (s : State) : Bool := s.runs 57 && s.hbmRuns

/-! ## Keep-warm heaters (R414, R502) -/

/-- Change the thermal block's own state. -/
def State.setThm (s : State) (f : ThmState → ThmState) : State := { s with thm := f s.thm }

/-- The heaters of every die that `f` picks go off. -/
def State.heatOff (s : State) (f : Nat → Bool) : State :=
  let h := (rangeFrom 0 5).map (fun d => if f d then 0 else nth 0 s.thm.heat d)
  let lim := (rangeFrom 0 5).map (fun d => if f d then none else nth none s.thm.limitAt d)
  ((s.setThm (fun x => { x with heat := h, limitAt := lim })).wr A.thmKwPower h.sum).wrb A.thmStat 5 (h.any (fun p => p ≠ 0))

/-- A datapath unit starts work: the heaters go off, within the 5 µs that R502 allows. -/
def State.heatCut (s : State) : State := if s.thm.heat.any (fun p => p ≠ 0) then s.heatOff (fun _ => true) else s

/-- PAGE_STAT.SVC of the page at `p` (R53). -/
def State.svc (s : State) (p : Nat) : Nat := s.rdf (p + 0x00C) 2 3

/-- A link trains or is tested (R353, R371). -/
def State.linkTries (s : State) (n : Nat) : Bool := s.rdf (A.aqdLStat n) 0 2 = 1 || s.rdf (A.aqdLStat n) 0 2 = 2

/-- A unit accepts new work in the states IN_SERVICE and WEARING, and in SHADOW with its results discarded (Table SCP-5). -/
def svcTakes (v : Nat) : Bool := v == 0 || v == 5

/-- PAGE_IRQ_STAT of the page at `p` (R55). -/
def State.irqStat (s : State) (p : Nat) : Nat := s.rd (p + 0x01C) &&& s.rd (p + 0x020)

/-- Send the message of a vector's table entry, or hold it pending while the vector or the function is masked (R57, R329, R345; log
entry 9). -/
def State.sendMsix (s : State) (vector : Nat) : State :=
  if !s.msix.isOpen vector then
    { s with msix := { s.msix with pend := setIns vector s.msix.pend } }
  else s.emit (s.msix.msg vector)

/-- Send the page's message when PAGE_IRQ_STAT has left zero (R55). -/
def State.irqEdge (s : State) (p : Nat) (before : Nat) : State :=
  if before = 0 && s.irqStat p ≠ 0 then s.sendMsix (s.rdf (p + 0x028) 0 11) else s

/-- Set bits of PAGE_IRQ_RAW of the page at `p` (R55, R56). -/
def State.raiseMask (s : State) (p m : Nat) : State :=
  (s.wr (p + 0x01C) (s.rd (p + 0x01C) ||| m)).irqEdge p (s.irqStat p)

/-- Set one bit of PAGE_IRQ_RAW of the page at `p`. -/
def State.raise (s : State) (p i : Nat) : State := s.raiseMask p (2 ^ i)

/-- Record an error on the page at `p` (R54): the first one is held, later ones set MORE. -/
def State.pageErr (s : State) (p code info : Nat) : State :=
  let s1 :=
    if s.rdb (p + 0x00C) 9 then s.wrb (p + 0x02C) 31 true
    else ((s.wrb (p + 0x00C) 9 true).wr (p + 0x02C) code).wr (p + 0x030) info
  s1.raise p 1

/-- PAGE_ERR_INFO of the common errors: the address and the source (Table PAG-6). -/
def errInfo (src : Source) (a : Nat) : Nat := a % 2 ^ 26 + srcCode src * 2 ^ 28

/-- An access outside every page group, recorded on the SYS page (R33). -/
def State.unmapped (s : State) (src : Source) (a : Nat) : State :=
  (s.bump A.sysUnmapCnt).pageErr 0x0 0x0001 (errInfo src a)

/-- Work that the block of a page holds and that its state shows (R52): trigger pulses that run or wait and pass opens on their way,
open frames, barges in service, a wipe of the pound, transfers and entries on their way from the host, a link that trains or is tested and remote
requests, a verification, messages not yet acknowledged and an MDIO access, a security command, a command of the calibration store. -/
def State.holds (s : State) (p : Nat) : Bool :=
  if p = 0x10000 then !s.req.opens.isEmpty || !s.req.closes.isEmpty
  else if p = 0x11000 then s.tow.trg.any (fun x => x.running.isSome || x.pending.isSome)
  else if 0x20000 ≤ p && p < 0x2C000 then
    (rangeFrom ((p - 0x20000) / 0x1000 * 2) 2).any (fun k => match s.ing.slots[k]? with | some x => x.frame.isSome | none => false)
  else if p = 0x200000 then
    s.dsp.load.isSome || s.dsp.engines.any (fun x => x.run.isSome || !x.saved.isEmpty)
  else if p = 0x301000 then s.spd.wipe.isSome
  else if p = 0x300000 then !s.spd.ce.isEmpty
  else if p = 0x310000 then (rangeFrom 0 8).any (fun c => s.rdb (A.hstDmaStat c) 9)
  else if p = 0x311000 then (rangeFrom 0 64).any (fun n => s.rdb (A.hstInCfg n) 0 && !s.rdb (A.hstInStat n) 3 && s.rd (A.hstInPi n) ≠ s.rd (A.hstInCi n))
  else if p = 0x312000 then s.hst.cq.any (fun r => !r.held.isEmpty)
  else if p = 0x320000 then s.linkTries 0 || !s.aqd.reqs.isEmpty || !s.aqd.reqQ.isEmpty || s.aqd.cut.isSome || !s.aqd.rehome.isEmpty
  else if 0x321000 ≤ p && p < 0x328000 then s.linkTries ((p - 0x320000) / 0x1000)
  else if p = 0x330000 then s.saf.run.isSome
  else if p = 0x358000 then s.fio.queue.any (fun m => !m.held) || s.rdb A.mgtMdio 31
  else if p = 0x360000 then s.sec.run.isSome
  else if p = 0x370000 then s.cal.run.isSome
  else false

/-- PAGE_STAT.BUSY of the page at `p`: it reads 1 while the block holds work (R52). -/
def State.busy (s : State) (p : Nat) : Bool := s.rdb (p + 0x00C) 1 || s.holds p

/-- A page of a block type has been quiesced and busy for SYS_QUIESCE_TO (R476). -/
def State.wedged (s : State) (t : Nat) : Bool :=
  s.pwr.stuck.any (fun x => s.busy x.1 && x.2 + max 1 (s.rdf A.sysQuiesceTo 0 16) * 1000000 ≤ s.now &&
    (match pageRow x.1 with | some r => r.typ = t | none => false))

/-- SYS_WEDGE: the reported bits whose block is a candidate still. -/
def State.sysWedgeLive (s : State) : Nat := ((rangeFrom 1 20).map (fun t => b2n (s.pwr.told.contains t && s.wedged t) t)).sum

/-- The page at `p` is quiesced and busy, or no longer is (R476); at a break the block types that no page holds any more are no longer
reported, so that a second candidate of the block is reported again. -/
def State.stuckUpd (s : State) (p : Nat) : State :=
  let l := s.pwr.stuck
  let on : Bool := s.quiesced p && s.busy p
  let l2 := if !on then l.filter (fun x => x.1 ≠ p) else if l.any (fun x => x.1 = p) then l else (p, s.now) :: l
  let s1 : State := { s with pwr := { s.pwr with stuck := l2 } }
  { s1 with pwr := { s1.pwr with told := s1.pwr.told.filter s1.wedged } }

/-- `f` may give a page work while it is quiesced: the watch for a wedge starts afresh where it was idle (R476). -/
def State.starting (s : State) (p : Nat) (f : State → State) : State := (f (s.stuckUpd p)).stuckUpd p

/-- Work of a page may have begun or ended: the wedge watch follows (R476), and the end of the last work raises QUIESCED while QUIESCE_REQ
is 1 (R52, Table PAG-7).  `before` says that the page was busy before. -/
def State.quietEdge (s : State) (p : Nat) (before : Bool) : State :=
  if !s.quiesced p then s else if before && !s.busy p then (s.stuckUpd p).raise p 3 else s.stuckUpd p

/-- Change PAGE_STAT.BUSY of the page at `p`; its fall during quiesce raises QUIESCED (R52). -/
def State.setBusy (s : State) (p : Nat) (b : Bool) : State :=
  let was := s.rdb (p + 0x00C) 1
  let s1 := (s.wrb (p + 0x00C) 1 b).stuckUpd p
  if was && !b && s.quiesced p then s1.raise p 3 else s1

/-! ## Work held at an input (R51, R52) -/

/-- Offer work to the block of a page: it is taken at once, or held at the block's input. -/
def State.offerWork (s : State) (p : Nat) (w : Work) (f : State → State) : State :=
  if s.pageOpen p then f s else { s with waitIn := s.waitIn ++ [(p, w)] }

/-! ## The fleet report queue (R431, R432) -/

/-- Remove the oldest message that satisfies `f`; none does: nothing is removed. -/
def dropFirst (f : FleetMsg → Bool) : List FleetMsg → Option (List FleetMsg)
  | [] => none
  | m :: t => if f m then some t else (dropFirst f t).map (m :: ·)

/-- Put a message into the full or free queue; the flag says that one was displaced, the Option that the new one had no place.
A SAFETY_EVENT is never displaced by another type (R432). -/
def fleetPut (q : List FleetMsg) (m : FleetMsg) : List FleetMsg × Bool :=
  if q.length < 64 then (q ++ [m], false)
  else match dropFirst (fun x => x.typ ≠ 4) q with
    | some q' => (q' ++ [m], true)
    | none => if m.typ = 4 then (q.drop 1 ++ [m], true) else (q, true)

/-- Take an event message of the fleet report protocol: it gets its SEQ and W64 and is queued (R431, R432). -/
def State.fleetEvent (s : State) (typ : Nat) (payload : List Byte) : State :=
  let seq := s.rd A.mgtSeq
  let (q, lost) := fleetPut s.fio.queue { typ := typ, seq := seq, time := s.now, payload := payload, held := s.quiesced 0x358000 }
  let s1 := { s with fio := { s.fio with queue := q } }
  let s2 := (s1.wr A.mgtSeq ((seq + 1) % 2 ^ 32)).wrf A.mgtStat 8 7 q.length
  if lost then (s2.bump A.mgtLost).raise 0x358000 9 else s2

/-- Bytes of a number, most significant first (R430). -/
def beBytes (n w : Nat) : List Byte := (leBytes n w).reverse

/-- Change the service state of the unit whose state the page at `p` shows (R13, R53, R58); each change raises SVC and queues a
SERVICE_STATE message (Table FIO-4).  `cause` is 0 for a request and 1 for the device. -/
def State.setSvc (s : State) (p new cause : Nat) : State :=
  let old := s.svc p
  if old = new then s
  else
    let id := (resetWord p).toNat
    ((s.wrf (p + 0x00C) 2 3 new).raise p 4).fleetEvent 5
      ([BitVec.ofNat 8 (id / 2 ^ 24), 0] ++ beBytes 2 (fld id 12 12) ++
        [BitVec.ofNat 8 old, BitVec.ofNat 8 new, BitVec.ofNat 8 cause, 0])

/-! ## The event logs -/

/-- The rings of R81: write index, read index, lost counter, first record, words a record.  Gives the index to write, or none
when the ring is full. -/
def ringSlot (wrIdx rdIdx : Nat) : Option Nat := if (wrIdx + 1) % 64 = rdIdx then none else some wrIdx

/-- Store the words of a record in registers from an address on. -/
def State.wrWords (s : State) (a : Nat) : List Nat → State
  | [] => s
  | w :: t => (s.wr a w).wrWords (a + 4) t

/-- Enter a record in the security event log (R460, Table SEC-10). -/
def State.secLog (s : State) (code detail : Nat) : State :=
  let seq := s.sec.logSeq
  let s1 := { s with sec := { s.sec with logSeq := (seq + 1) % 2 ^ 32 } }
  match ringSlot (s1.rdf A.secLogWr 0 6) (s1.rdf A.secLogRd 0 6) with
  | none => s1.bump A.secLogLost
  | some i =>
    ((s1.wrWords (A.secLogRec (i * 4))
      [seq, code + s1.sec.boots % 256 * 2 ^ 8 + detail % 2 ^ 16 * 2 ^ 16, s1.now % 2 ^ 32, s1.now / 2 ^ 32]).wr
        A.secLogWr ((i + 1) % 64)).raise 0x360000 12

/-- Enter a record in the safety event log (R401, Table SAF-5).  A warning is counted and raises WARN; a stop record goes to
the fleet manager, and so does a warning while SAF_WARN is 1 (Table FIO-4). -/
def State.safLog (s : State) (code robot : Nat) (stop : Bool) (detail : Nat) : State :=
  let seq := s.saf.logSeq
  let us := s.itime / 1000
  let s1 := { s with saf := { s.saf with logSeq := (seq + 1) % 2 ^ 32 } }
  let s2 :=
    match ringSlot (s1.rdf A.safLogWr 0 6) (s1.rdf A.safLogRd 0 6) with
    | none => s1.bump A.safLogLost
    | some i =>
      ((s1.wrWords (A.safLogRec (i * 4))
        [seq, code + robot % 4 * 2 ^ 8 + (if stop then 2 ^ 10 else 0) + detail % 2 ^ 16 * 2 ^ 16, us % 2 ^ 32, us / 2 ^ 32]).wr
          A.safLogWr ((i + 1) % 64)).raise 0x330000 11
  let s3 := if stop then s2 else (s2.bump A.safWarnCnt).raise 0x330000 10
  if stop || s3.rdb A.mgtCfg 9 then
    s3.fleetEvent 4 (beBytes 4 seq ++ [BitVec.ofNat 8 code, BitVec.ofNat 8 robot, if stop then 1 else 0, 0] ++
      beBytes 2 detail ++ [0, 0] ++ beBytes 8 us)
  else s3

/-- A rejected register write (R44): no effect on the register, LOCKV, the counter, the address and the interrupt; on the SAF
and SEC pages also a log record (R47), and for SPD_SEAL_CTRL one in the security log ("When things meet" of chapter 13). -/
def State.reject (s : State) (src : Source) (a : Nat) : State :=
  let p := pageBase a
  let s1 := (s.wrb (p + 0x00C) 8 true).bump (p + 0x014)
  let s2 := (s1.wr (p + 0x018) (a % 0x1000 + srcCode src * 2 ^ 16 + srcId src * 2 ^ 24)).raise p 0
  if p = 0x330000 then s2.safLog 0x20 0 false (a % 0x1000)
  else if p = 0x360000 || a = A.spdSealCtrl then s2.secLog 0x40 (a % 0x1000)
  else s2

/-! ## Memory -/

/-- The byte of the scratchpad, pound or HBM at an address; an unlisted byte is zero. -/
def Memory.get (m : List Host.Cell) (a : Nat) : Byte := Sparse.get (fun _ => 0) m a

/-- Store one byte. -/
def Memory.set (m : List Host.Cell) (a : Nat) (b : Byte) : List Host.Cell := Sparse.set (fun _ => 0) m a b

/-- The canonical form of a memory. -/
def Memory.wf (m : List Host.Cell) : Bool := Sparse.wf (fun _ => (0 : Byte)) m

/-- `n` bytes from an address on. -/
def Memory.read (m : List Host.Cell) (a : Nat) : Nat → List Byte
  | 0 => []
  | n + 1 => Memory.get m a :: Memory.read m (a + 1) n

/-- Store bytes from an address on. -/
def Memory.write (m : List Host.Cell) (a : Nat) : List Byte → List Host.Cell
  | [] => m
  | b :: t => Memory.write (Memory.set m a b) (a + 1) t

/-- The byte of a fill pattern at an address: the first fill that holds it, else zero. -/
def fillByte : List Fill → Nat → Byte
  | [], _ => 0
  | f :: t, a => if f.lo ≤ a && a < f.hi then BitVec.ofNat 8 (f.pat / 256 ^ ((a - f.lo) % 4)) else fillByte t a

/-- What an unlisted byte of device memory reads as: the fill that covers it, else zero. -/
def State.unlisted (s : State) (a : Nat) : Byte := fillByte s.fills a

/-- The byte of device memory at an address. -/
def State.memGet (s : State) (a : Nat) : Byte := Sparse.get s.unlisted s.mem a

/-- `n` bytes of device memory. -/
def State.readMem (s : State) (a : Nat) : Nat → List Byte
  | 0 => []
  | n + 1 => s.memGet a :: s.readMem (a + 1) n

/-- The canonical form of device memory. -/
def State.memWf (s : State) : Bool := Sparse.wf s.unlisted s.mem

/-- Fill [lo, hi) with a 32-bit pattern: nothing in the range is listed any more. -/
def State.fill (s : State) (lo hi pat : Nat) : State :=
  { s with
    mem := s.mem.filter (fun c => c.1 < lo || hi ≤ c.1)
    fills := { lo := lo, hi := hi, pat := pat } :: s.fills.filter (fun f => !(f.lo = lo && f.hi = hi)) }

/-- Zero every byte of [a, b). -/
def Memory.clear (m : List Host.Cell) (a b : Nat) : List Host.Cell := m.filter (fun c => c.1 < a || b ≤ c.1)

end Sys2Proof.Machine
end

