-- ==== Sys2Proof/Machine/Shadow.lean ====
section
/-!
DEFINITION. The units that have a service state: their pages and registers, the peer of a unit in SHADOW, and the copies it takes of
the peer's work (R181, R203, R229, R275, R373, R374, R526).
-/
namespace Sys2Proof.Machine

/-! ## Pages and registers of units -/

def lgPage (g : Nat) : Nat := 0x51000 + g * 0x1000
def solPage (g : Nat) : Nat := 0x61000 + g * 0x1000
def chgPage (a : Nat) : Nat := 0x100000 + a * 0x1000
def enginePage (e : Nat) : Nat := 0x201000 + e * 0x1000
def linkPage (n : Nat) : Nat := 0x320000 + n * 0x1000

/-- The cluster of an engine (R274). -/
def clusterOf (e : Nat) : Nat := e / 16

/-- The page that shows a unit's state; of a cluster the page of its first engine, of the node the link 0 page. -/
def unitPage : SvcUnit → Nat
  | .lane g => lgPage g
  | .solver g => solPage g
  | .array a => chgPage a
  | .cluster c => enginePage (c * 16)
  | .link n => linkPage n
  | .node => 0x320000

/-- The register with the mismatches, and with the items, of the current SHADOW run. -/
def unitMm : SvcUnit → Nat
  | .lane g => A.swpGShadowMm g
  | .solver g => A.solGShadowMm g
  | .array a => A.chgAShadowMm a
  | .cluster c => A.dspCShadowMm c
  | .link n => A.aqdLShadowMm n
  | .node => A.aqdNodeShadowMm
def unitCnt : SvcUnit → Nat
  | .lane g => A.swpGShadowCnt g
  | .solver g => A.solGShadowCnt g
  | .array a => A.chgAShadowCnt a
  | .cluster c => A.dspCShadowCnt c
  | .link n => A.aqdLShadowCnt n
  | .node => A.aqdNodeShadowCnt

/-- The register that requests a unit's state. -/
def unitReq : SvcUnit → Nat
  | .lane g => A.swpGSvcReq g
  | .solver g => A.solGSvcReq g
  | .array a => A.chgASvcReq a
  | .cluster c => A.dspCSvcReq c
  | .link n => A.aqdLSvcReq n
  | .node => A.aqdSvcReq

/-! ## Peers (R374) -/

/-- The units of a kind in this device, lowest first; links need no peer, and the peer of a node is another node (R375, R377). -/
def kindUnits : SvcUnit → List SvcUnit
  | .lane _ => (List.finRange 8).map .lane
  | .solver _ => (List.finRange 16).map .solver
  | .array _ => (List.finRange 256).map .array
  | .cluster _ => (List.finRange 4).map .cluster
  | .link _ => []
  | .node => []

/-- A unit that may be a peer is IN_SERVICE or WEARING; a disabled array counts as not in service (R229). -/
def State.peerMay (s : State) (u : SvcUnit) : Bool :=
  svcTakes (s.svc (unitPage u)) && (match u with | .array a => s.enabled (chgPage a) | _ => true)

/-- The unit that the PEER field of a unit's SVC_REQ register names. -/
def State.peerNamed (s : State) (u : SvcUnit) : Option SvcUnit :=
  match u with
  | .array a => some (.array (Fin.ofNat 256 (s.rdf (A.chgASvcReq a) 8 8)))
  | .cluster c => some (.cluster (Fin.ofNat 4 (s.rdf (A.dspCSvcReq c) 4 2)))
  | _ => none

/-- The peer that is chosen for a unit: the one named if it qualifies, else the lowest other unit of the kind that does. -/
def State.peerPick (s : State) (u : SvcUnit) : Option SvcUnit :=
  ((s.peerNamed u).toList ++ kindUnits u).find? (fun x => x ≠ u && s.peerMay x)

/-- The peer of a unit: the one in use while it qualifies, else one chosen afresh. -/
def State.peerOf (s : State) (u : SvcUnit) : Option SvcUnit :=
  match (s.aqd.peers.find? (fun x => x.1 = u)).map (·.2) with
  | some p => if p ≠ u && s.peerMay p then some p else s.peerPick u
  | none => s.peerPick u

/-- The own node ID, which HOME and NODE fields carry. -/
def State.ownNode (s : State) : Nat := s.rdf A.aqdNode 0 7

/-- The node is known to be in service. -/
def State.nodeUp (s : State) (n : Nat) : Bool := s.rdb (A.aqdNodesUp (n / 32)) (n % 32)

/-- The nodes in service. -/
def State.nodesUp (s : State) : List Nat := (rangeFrom 0 128).filter (fun n => s.nodeUp n)

/-- The node that is chosen as the peer of this one: the one that AQD_SVC_REQ.PEER names if it is in service, else the lowest other one. -/
def State.nodePick (s : State) : Option Nat :=
  (s.rdf A.aqdSvcReq 8 7 :: s.nodesUp).find? (fun n => n ≠ s.ownNode && s.nodeUp n)

/-- The peer of this node: the one in use while it is in service. -/
def State.nodePeerOf (s : State) : Option Nat :=
  match s.aqd.nodePeer with
  | some n => if n ≠ s.ownNode && s.nodeUp n then some n else s.nodePick
  | none => s.nodePick

/-- A unit that is compared with a peer has one; links need none (R377). -/
def State.hasPeer (s : State) (u : SvcUnit) : Bool :=
  match u with
  | .link _ => true
  | .node => s.nodePeerOf.isSome
  | u => (s.peerOf u).isSome

/-- The peer of a unit is the one in use from now on. -/
def State.peerKeep (s : State) (u : SvcUnit) : State :=
  match u with
  | .node => { s with aqd := { s.aqd with nodePeer := s.nodePeerOf } }
  | u => { s with aqd := { s.aqd with peers := ((s.peerOf u).map (fun p => (u, p))).toList ++ s.aqd.peers.filter (fun x => x.1 ≠ u) } }

/-- A peer in use that has stopped qualifying is replaced, for every unit in SHADOW (R374). -/
def State.peersFollow (s : State) : State :=
  let l := s.aqd.peers.filter (fun x => s.svc (unitPage x.1) = 4)
  let s1 := (l.map (·.1)).foldl (fun t u => t.peerKeep u) { s with aqd := { s.aqd with peers := l } }
  if s.rdf A.aqdNodeStat 0 3 = 4 then s1.peerKeep .node else s1

/-! ## Copies (R526) -/

/-- The units in SHADOW whose peer is `own`. -/
def State.shadowers (s : State) (own : SvcUnit) : List SvcUnit :=
  (kindUnits own).filter (fun x => s.svc (unitPage x) = 4 && s.peerOf x = some own)

/-- A unit in SHADOW takes a copy of work whose outcome on the peer is `vals`; the copy completes on it later. -/
def State.shadowPut (s : State) (u : SvcUnit) (vals : List Int) : State :=
  let s1 := s.peerKeep u
  { s1 with aqd := { s1.aqd with copies := s1.aqd.copies ++ [(u, vals)] } }

/-- Every unit in SHADOW whose peer is `own` takes a copy. -/
def State.shadowCopy (s : State) (own : SvcUnit) (vals : List Int) : State :=
  (s.shadowers own).foldl (fun t u => t.shadowPut u vals) s

/-- The oldest copy that a unit has taken and not compared yet, and the copies that remain. -/
def takeCopy (u : SvcUnit) : List (SvcUnit × List Int) → Option (List Int × List (SvcUnit × List Int))
  | [] => none
  | x :: t => if x.1 = u then some (x.2, t) else (takeCopy u t).map (fun y => (y.1, x :: y.2))

end Sys2Proof.Machine
end

