-- ==== Sys2Proof/Machine/Pages.lean ====
section
/-!
DEFINITION. How every register is read and written: access codes, locks, rejected writes, 64-bit registers, the page header
(R37 to R58).  What the write of one register sets going is given by the functions of a `Bus`, which Machine/RegBus.lean fills
in.
-/
namespace Sys2Proof.Machine

/-- What the blocks add to plain register access. -/
structure Bus where
  /-- The value a register shows to a source, where it is not the stored one. -/
  live    : State → Source → Nat → Nat
  /-- The bits of a word that refuse a write because of an enable (R527). -/
  gate    : State → Nat → Nat
  /-- Whether a source may write a register (R48). -/
  allowed : State → Source → Nat → Bool
  /-- What the write of a register sets going: source, address, value before, value written; the state has the value stored. -/
  hook    : Source → Nat → Nat → Nat → State → State
  /-- What a change of PAGE_CTRL sets going: page, value before. -/
  ctrl    : Nat → Nat → State → State
  /-- What a register that a read has cleared holds at once again. -/
  after   : Nat → State → State

/-- The effect of a write on one word: value after, bits that refuse, bits that accept. -/
structure WordEffect where
  value  : Nat
  refuse : Nat
  accept : Nat
deriving DecidableEq, Repr

/-- Bits of `m` that are not in `x`. -/
def maskOut (m x : Nat) : Nat := m ^^^ (m &&& x)

/-- Apply a write to one group of bits under one access code (Table PAG-5). -/
def applyMask (lock gate v : Nat) (acc : Acc) (m : Nat) (e : WordEffect) : WordEffect :=
  let take (bits : Nat) : WordEffect :=
    { e with value := maskOut e.value bits ||| (v &&& bits), accept := e.accept ||| bits, refuse := e.refuse ||| maskOut m bits }
  match acc with
  | .ro | .rc => e
  | .rw => take (maskOut m gate)
  | .rwl g => if tbit lock g then { e with refuse := e.refuse ||| m } else take (maskOut m gate)
  | .w1c => { e with value := maskOut e.value (v &&& m), accept := e.accept ||| m }
  | .wo => { e with accept := e.accept ||| m }
  | .wos => take m
  | .ws => { e with value := e.value ||| (v &&& m), accept := e.accept ||| m }
  | .wc => { e with value := maskOut e.value m, accept := e.accept ||| m }

/-- Apply a write to a word through every access code of its register; `half` is 0 for the low word and 1 for the high one. -/
def applyMasks (lock gate v half : Nat) : List (Acc × Nat) → WordEffect → WordEffect
  | [], e => e
  | (acc, m) :: t, e => applyMasks lock gate v half t (applyMask lock gate v acc (m / 2 ^ (32 * half) % 2 ^ 32) e)

/-- The bits of a word under the codes that `f` picks. -/
def maskWhere (f : Acc → Bool) (half : Nat) : List (Acc × Nat) → Nat
  | [] => 0
  | (acc, m) :: t => (if f acc then m / 2 ^ (32 * half) % 2 ^ 32 else 0) ||| maskWhere f half t

/-- A write that refuses counts as rejected when a refusing field would have changed, or when no field accepts (R527). -/
def rejects (old v : Nat) (e : WordEffect) : Bool :=
  if e.refuse = 0 then false else if e.accept = 0 then true else (old ^^^ v) &&& e.refuse ≠ 0

/-- Find the latch of a page and source (R39). -/
def findLatch (p : Nat) (src : Source) (l : List Latch) : Option Latch := l.find? (fun x => x.page = p && x.src = src)

/-- Find the staged word of a page and source (R40). -/
def findStage (p : Nat) (src : Source) (l : List Stage) : Option Stage := l.find? (fun x => x.page = p && x.src = src)

/-- Remove the staged word of a page and source. -/
def State.unstage (s : State) (p : Nat) (src : Source) : State :=
  { s with staged := s.staged.filter (fun x => !(x.page = p && x.src = src)) }

/-- A write of another register of the page by the same source drops its staged low word (R40). -/
def State.dropStage (s : State) (src : Source) (a regOff : Nat) : State :=
  let p := pageBase a
  match findStage p src s.staged with
  | none => s
  | some st => if st.off = regOff then s else (s.unstage p src).pageErr p 0x0004 (errInfo src a)

/-- A write of a header word drops the staged low word as well (R40); the error comes in the cycle of the write, so it stands where the
write clears FAULT or the interrupt bit (R43, R54). -/
def State.headerDrop (s : State) (src : Source) (a : Nat) (f : State → State) : State :=
  let p := pageBase a
  match findStage p src s.staged with
  | none => f s
  | some _ => (f (s.unstage p src)).pageErr p 0x0004 (errInfo src a)

/-- The offset at which the register that holds an offset of a page begins; 0x1000 for a word of the header, which is never staged. -/
def regStart (r : PageRow) (o : Nat) : Nat :=
  if o < 0x40 then 0x1000 else match findRow (rowsOf r.kind) o with | some (_, d) => o - d | none => o

/-- A write that no register of the page takes from its source: it is a write of the register all the same, which drops a staged low word
(R40), and it is rejected (R44). -/
def State.refuseWrite (s : State) (src : Source) (r : PageRow) (a : Nat) : State :=
  (s.dropStage src a (regStart r (a % 0x1000))).reject src a

/-- The header words (Table PAG-7) as a read shows them. -/
def State.readHeader (s : State) (a : Nat) : Nat :=
  let p := pageBase a
  if a % 0x1000 = 0x024 then s.irqStat p
  else if a % 0x1000 = 0x00C then putBit (s.rd a) 1 (s.busy p)
  else if 0x034 ≤ a % 0x1000 then 0 else s.rd a

/-- Read one register word (R33, R38, R39, R42, R50): the value and the state after. -/
def Bus.read (b : Bus) (src : Source) (a : Nat) (s : State) : Nat × State :=
  let p := pageBase a
  match pageRow a with
  | none => (0, s.unmapped src a)
  | some r =>
    let o := a % 0x1000
    if o < 0x40 then (s.readHeader a, s)
    else if !s.ready p then (0, s)
    else match findRow (rowsOf r.kind) o with
      | none => (0, s)
      | some (row, d) =>
        let half := if d < 4 then 0 else 1
        let v := b.live s src a
        let rc := maskWhere (fun x => x = .rc) half row.masks
        let s1 := if rc = 0 then s else b.after a (s.wr a (maskOut (s.rd a) rc))
        if !row.wide then (v, s1)
        else if half = 0 then
          let rest := s1.latches.filter (fun x => !(x.page = p && x.src = src))
          (v, { s1 with latches := { page := p, src := src, off := o, high := BitVec.ofNat 32 (b.live s src (a + 4)) } :: rest })
        else match findLatch p src s1.latches with
          | some l => if l.off + 4 = o then (l.high.toNat, s1) else (v, s1)
          | none => (v, s1)

/-- Write a header word (Table PAG-7).  A write to PAGE_IRQ_EN that itself takes PAGE_IRQ_STAT from zero to non-zero meets both
triggers of R55, the change and the write; the spec does not say whether one or two messages go out, and the model sends one (log entry
204). -/
def Bus.writeHeader (b : Bus) (src : Source) (r : PageRow) (a v : Nat) (s : State) : State :=
  let p := pageBase a
  match a % 0x1000 with
  | 0x008 =>
    let old := s.rd a
    let en := if enableFixed r then 1 else v % 2
    b.ctrl p old (s.wr a (en + fld v 1 1 * 2))
  | 0x00C =>
    let s1 := s.wr a (maskOut (s.rd a) (v &&& 0x300))
    if tbit v 9 then (s1.wr (p + 0x02C) 0).wr (p + 0x030) 0 else s1
  | 0x010 => if maskOut v (s.rd a) = 0 then s.reject src a else s.wr a (s.rd a ||| v)
  | 0x014 => s.wr a 0
  | 0x01C =>
    let s1 := s.wr a (maskOut (s.rd a) v)
    if s1.irqStat p ≠ 0 then s1.sendMsix (s1.rdf (p + 0x028) 0 11) else s1
  | 0x020 =>
    let s1 := s.wr a v
    if s1.irqStat p ≠ 0 then s1.sendMsix (s1.rdf (p + 0x028) 0 11) else s1
  | 0x028 => s.wr a (v % 2 ^ 11)
  | _ => s

/-- Write one word of a block register that is ready and that the source may write. -/
def Bus.writeBlock (b : Bus) (src : Source) (row : RegRow) (d a v : Nat) (s : State) : State :=
  let p := pageBase a
  let half := if d < 4 then 0 else 1
  let lock := s.rd (p + 0x010)
  let old := s.rd a
  let wos := maskWhere (fun x => x = .wos) half row.masks
  if wos ≠ 0 && s.wosDone.contains a then s.reject src a
  else
    let e := applyMasks lock (b.gate s a) v half row.masks { value := old, refuse := 0, accept := 0 }
    let s1 := if wos ≠ 0 then { s with wosDone := setIns a s.wosDone } else s
    let s2 := if rejects old v e then s1.reject src a else s1
    if e.accept = 0 then s2
    else if !row.wide then b.hook src a old v (s2.wr a e.value)
    else if half = 0 then
      let st : Stage := { page := p, src := src, off := a % 0x1000, low := BitVec.ofNat 32 e.value }
      let s3 := s2.unstage p src
      { s3 with staged := st :: s3.staged }
    else
      let low := match findStage p src s2.staged with
        | some st => if st.off + 4 = a % 0x1000 then st.low.toNat else b.live s2 src (a - 4)
        | none => b.live s2 src (a - 4)
      let old64 := s2.rd64 (a - 4)
      b.hook src (a - 4) old64 (low + e.value * 2 ^ 32) ((s2.unstage p src).wr64 (a - 4) (low + e.value * 2 ^ 32))

/-- Write one 32-bit word of the register space (R33, R37, R38, R40, R42, R48, R50).  `be` is the byte enables. -/
def Bus.write (b : Bus) (src : Source) (a be v : Nat) (s : State) : State :=
  let p := pageBase a
  match pageRow a with
  | none => s.unmapped src a
  | some r =>
    let o := a % 0x1000
    if 0x34 ≤ o && o < 0x40 then s
    else if o < 0x40 then
      if be ≠ 15 then s.pageErr p 0x0002 (errInfo src a)
      else s.headerDrop src a (b.writeHeader src r a v)
    else match findRow (rowsOf r.kind) o with
      | none => s
      | some (row, d) =>
        if !s.ready p then s.pageErr p 0x0003 (errInfo src a)
        else if be ≠ 15 then s.pageErr p 0x0002 (errInfo src a)
        else
          let s1 := s.dropStage src a (o - d)
          if !b.allowed s1 src (a - d) then s1.reject src a
          else b.writeBlock src row d a v s1

/-- An aligned 8-byte write: the low word, then at once the high word (R37). -/
def Bus.write64 (b : Bus) (src : Source) (a be v : Nat) (s : State) : State :=
  b.write src (a + 4) (be / 16 % 16) (v / 2 ^ 32) (b.write src a (be % 16) (v % 2 ^ 32) s)

/-! ## Readiness (R50, R477) -/

/-- The base addresses of the pages of a block type. -/
def typePages (t : Nat) : List Nat :=
  (pageRows.filter (fun r => r.typ = t)).flatMap (fun r => (rangeFrom 0 r.count).map (fun k => r.base + k * 0x1000))

/-- Every page of a block type reports READY. -/
def State.typeReady (s : State) (t : Nat) : Bool := (typePages t).all s.ready

/-- The pages of a block type report READY; RST_READY_US shows the time since release once they are the last ones. -/
def State.makeReady (s : State) (t : Nat) : State :=
  let s1 := (typePages t).foldl (fun (u : State) p => if u.ready p then u else (u.wrb (p + 0x00C) 0 true).raise p 2) s
  if s1.rd A.rstReadyUs = 0 && (rangeFrom 1 20).all s1.typeReady then s1.wr A.rstReadyUs (min 0xFFFFFF (s1.itime / 1000)) else s1

/-! ## The SMBus status byte and the tick (R436, R437, R471) -/

/-- The STATUS byte of Table FIO-6. -/
def State.smbStatus (s : State) : Nat :=
  let b (p : Bool) (i : Nat) : Nat := if p then 2 ^ i else 0
  b (!(rangeFrom 1 20).all s.typeReady) 0 + b (s.rdb A.thmStat 3) 1 + b (s.rdb A.thmStat 4) 2 + b (s.rdb A.safStat 1) 3 +
    b (s.rdb A.safStat 3) 4 + b (s.rdb A.mgtStat 3) 5 + b (s.rdb (A.fioLStat 0) 3 || s.rdb (A.fioLStat 1) 3) 6 + b s.tripped 7

/-- A STATUS bit that MGT_SMB_CFG.ALERT_EN enables is 1 (R437). -/
def State.smbAlerts (s : State) : Bool := (s.smbStatus &&& s.rdf A.mgtSmbCfg 8 8) ≠ 0

/-- 10 ns pass and no command comes: W64 advances while the TPS domain runs (R471), the island's time in every case (R380), and
SMB_ALERT_N falls while an enabled STATUS bit is 1. -/
def State.idle (s : State) : State :=
  { s with
    now := if s.rdb (A.clkDomRun + 4) 19 then s.now + 10 else s.now
    itime := s.itime + 10
    fio := { s.fio with smbAlert := s.fio.smbAlert || s.smbAlerts } }

end Sys2Proof.Machine
end

