-- ==== Sys2Proof/Machine/Spd.lean ====
section
/-!
DEFINITION. The address map beyond registers, ECC, the banks of the scratchpad and the sealed pound (R31 to R33, R303 to R322,
R523, R525), and the fleet report key that leaves with the pound (R434).
-/
namespace Sys2Proof.Machine

/-! ## The address map (Table PAG-2) -/

/-- What a device address names. -/
inductive Region
  | registers | scratchpad | pound | hbm | fabric | unmapped
deriving DecidableEq, Repr

/-- Decode a device address (R31). -/
def regionOf (a : Nat) : Region :=
  if tbit a 47 then .fabric
  else if a < 0x04000000 then .registers
  else if 0x0100000000 ≤ a && a < 0x0106000000 then .scratchpad
  else if 0x0108000000 ≤ a && a < 0x0108400000 then .pound
  else if 0x1000000000 ≤ a && a < 0x1800000000 then .hbm
  else .unmapped

/-- The clocks of the memory that holds an address run: of its HBM stack's controller and PHY, of the scratchpad and the pound (R470). -/
def State.clocked (s : State) (a : Nat) : Bool :=
  match regionOf a with
  | .hbm => let k := if a < 0x1400000000 then 0 else 1; s.runs (4 + k) && s.runs (6 + k)
  | .scratchpad => s.runs 2
  | .pound => s.runs 2
  | _ => true

/-- An access to `n` bytes from `a` can be carried out; one that meets a stopped clock stays where it is, and so does its requester (R470;
log entry 260). -/
def State.memRuns (s : State) (a n : Nat) : Bool := s.clocked a && s.clocked (a + (n - 1))

/-- `n` bytes from `a` lie wholly in a half-open range. -/
def spanIn (lo hi a n : Nat) : Bool := lo ≤ a && a + n ≤ hi

/-- Wholly in local HBM (R32). -/
def inHbm (a n : Nat) : Bool := spanIn 0x1000000000 0x1800000000 a n
/-- Wholly in the scratchpad. -/
def inSpd (a n : Nat) : Bool := spanIn 0x0100000000 0x0106000000 a n
/-- Wholly in the sealed pound. -/
def inPound (a n : Nat) : Bool := spanIn 0x0108000000 0x0108400000 a n
/-- "Wholly in local HBM or the scratchpad" (R32). -/
def inLocal (a n : Nat) : Bool := inHbm a n || inSpd a n

/-- The bank of a scratchpad or pound word (R303, R315); the 8 banks of the pound stand from 128 on. -/
def bankOf (a : Nat) : Nat :=
  if regionOf a = .pound then 128 + fld (a - 0x0108000000) 3 3 else fld (a - 0x0100000000) 3 7

/-- The row of a word in its bank (R303, R315). -/
def rowOf (a : Nat) : Nat := if regionOf a = .pound then fld (a - 0x0108000000) 6 16 else fld (a - 0x0100000000) 10 17

/-! ## ECC (R304, R523, R525) -/

/-- The address of the 8-byte word that holds a byte. -/
def wordAddr (a : Nat) : Nat := a / 8 * 8

/-- The uncorrectable words of a list that touch `n` bytes from `a`. -/
def wordsIn (l : List Nat) (a n : Nat) : List Nat := l.filter (fun w => w < a + n && a < w + 8)

/-- Record an uncorrectable word that requester (class, ID) of Table SPD-7 has read. -/
def State.recordUe (s : State) (cls id w : Nat) : State :=
  let info :=
    match regionOf w with
    | .pound => 2 ^ 31 + (w - 0x0108000000) % 2 ^ 27
    | .hbm => 2 ^ 30 + fld (w - 0x1000000000) 5 30
    | _ => (w - 0x0100000000) % 2 ^ 27
  ((((s.bump A.spdUeCnt).wr64 A.spdUeAddr w).wr A.spdUeInfo (cls % 8 + id % 256 * 2 ^ 8)).pageErr 0x300000 0x0100 info).raise 0x300000 8

/-- Words with a single-bit error have been read: they are counted; in HBM they are written back at once (R525), in a bank they wait for a
write-back (R304). -/
def State.corrected (s : State) (ws : List Nat) : State :=
  let s1 := s.bump32 A.spdCeCnt ws.length
  { s1 with spd := { s1.spd with ce := s1.spd.ce.filter (fun w => !(ws.contains w && regionOf w = .hbm)) } }

/-- Read bytes as a unit that checks them (R523): the data, or none when a word of them is uncorrectable, which is recorded. -/
def State.fetch (s : State) (cls id a n : Nat) : Option (List Byte) × State :=
  let s1 := s.corrected (wordsIn s.spd.ce a n)
  match wordsIn s.spd.ue a n with
  | [] => (some (s1.readMem a n), s1)
  | w :: _ => (none, s1.recordUe cls id w)

/-- Read bytes to their end, whatever is found in them: every word read is counted, and every uncorrectable one recorded (R304, R525). -/
def State.readAll (s : State) (cls id a n : Nat) : State :=
  (wordsIn s.spd.ue a n).foldl (fun t w => t.recordUe cls id w) (s.corrected (wordsIn s.spd.ce a n))

/-- A word covered wholly by a write becomes clean; a partial write of an uncorrectable word is dropped (R304, R305). -/
def storeBytes (d : Nat → Byte) (ue : List Nat) (lo hi : Nat) (m : List Host.Cell) (a : Nat) : List Byte → List Host.Cell
  | [] => m
  | b :: t =>
    let w := wordAddr a
    let whole := lo ≤ w && w + 8 ≤ hi
    let m1 := if ue.contains w && !whole then m else Sparse.set d m a b
    storeBytes d ue lo hi m1 (a + 1) t

/-- Write bytes to memory. -/
def State.store (s : State) (a : Nat) (bs : List Byte) : State :=
  let hi := a + bs.length
  let clean (l : List Nat) : List Nat := l.filter (fun w => !(a ≤ w && w + 8 ≤ hi))
  { s with
    mem := storeBytes s.unlisted s.spd.ue a hi s.mem a bs
    spd := { s.spd with ue := clean s.spd.ue, ce := clean s.spd.ce } }

/-- The words of a list that a write of `n` bytes covers only in part. -/
def partWords (l : List Nat) (a n : Nat) : List Nat := (wordsIn l a n).filter (fun w => !(a ≤ w && w + 8 ≤ a + n))

/-- Bytes of a requester stored.  A word that the write covers only in part is read and merged (R308): one with a single-bit error is
counted and clean afterwards, an uncorrectable one is recorded and keeps its content (R304, R305). -/
def State.storeAs (s : State) (cls id a : Nat) (bs : List Byte) : State :=
  let ces := partWords s.spd.ce a bs.length
  let s1 := (s.store a bs).bump32 A.spdCeCnt ces.length
  (partWords s.spd.ue a bs.length).foldl (fun t w => t.recordUe cls id w)
    { s1 with spd := { s1.spd with ce := s1.spd.ce.filter (fun w => !ces.contains w) } }

/-- Bytes stored for a requester that is told of a dropped partial write: whether there was one, and the state. -/
def State.storeTold (s : State) (cls id a : Nat) (bs : List Byte) : Bool × State :=
  (!(partWords s.spd.ue a bs.length).isEmpty, s.storeAs cls id a bs)

/-- A 32-bit little-endian word of memory, without ECC. -/
def State.peek32 (s : State) (a : Nat) : Nat := leNat (s.readMem a 4)
/-- A 64-bit little-endian word of memory, without ECC. -/
def State.peek64 (s : State) (a : Nat) : Nat := leNat (s.readMem a 8)
/-- Write a 32-bit word. -/
def State.poke32 (s : State) (a v : Nat) : State := s.store a (leBytes 4 v)
/-- Write a 64-bit word. -/
def State.poke64 (s : State) (a v : Nat) : State := s.store a (leBytes 8 v)

/-! ## The fleet report key (R434) -/

/-- The key leaves the authentication unit. -/
def State.keyErase (s : State) : State :=
  match s.fio.key with
  | none => s
  | some _ => (({ s with fio := { s.fio with key := none } }).wrb A.mgtStat 3 true).raise 0x358000 12

/-- Whether 64 bytes are a valid key record. -/
def keyRecordOk (bs : List Byte) : Bool :=
  leNat ((bs.drop 0x24).take 2) = 0x464B && ((bs.drop 0x28).take 0x14).all (· = 0) &&
    leNat ((bs.drop 0x3C).take 4) = crc32 (bs.take 0x3C)

/-- The pound's state (Table SPD-9): 0 OPEN, 1 LOCKED, 2 WIPING, 3 WIPED. -/
def State.sealState (s : State) : Nat := s.rdf A.spdSealStat 0 2

/-- The safety island reads the key record (R434); an inaccessible pound is only a warning (R401). -/
def State.keyReload (s : State) : State :=
  if s.sealState ≠ 0 then s.safLog 0x23 0 false 0
  else
    match s.fetch 3 0 0x0108000000 0x40 with
    | (some bs, s1) =>
      if keyRecordOk bs then
        (((({ s1 with fio := { s1.fio with key := some (bs.take 32) } }).wr A.mgtKeyId (leNat ((bs.drop 0x20).take 4))).wrb
          A.mgtStat 3 false).raise 0x358000 12)
      else s1.keyErase.pageErr 0x358000 0x0100 0
    | (none, s1) => s1.keyErase.pageErr 0x358000 0x0100 0

/-! ## The state of the sealed pound (R316 to R321) -/

/-- A refused access by a requester that may not reach the pound (R316). -/
def State.sealDenied (s : State) (cls : Nat) : State :=
  (((s.bump A.spdSealDenied).pageErr 0x301000 0x0102 0).raise 0x301000 10).secLog 0x19 cls

/-- A wipe cause ends a running IMPORT, SEAL or UNSEAL with SEALED (R459). -/
def State.secPoison (s : State) : State :=
  { s with sec := { s.sec with run := s.sec.run.map (fun r => if 2 ≤ r.op && r.op ≤ 4 && r.result = 0 then { r with result := 5 } else r) } }

/-- Start a wipe with a cause of Table SPD-5; a running wipe absorbs it (R319 to R321). -/
def State.startWipe (s : State) (cause : Nat) : State :=
  let u := s.secPoison
  if u.sealState = 2 then u.bump A.spdSealMerged
  else
    u.starting 0x301000 (fun u =>
    let s1 := (((u.wrf A.spdSealStat 0 2 2).wr A.spdSealCause cause).wr64 A.spdSealT s.now).keyErase
    (({ s1 with spd := { s1.spd with wipe := some { start := s.now, retry := false } } }).raise 0x301000 8).secLog 0x18 cause)

/-- Set a lock reason: bit 4 BOOT, 5 HOLDUP, 6 CMD (R318); an OPEN pound is locked and the key leaves. -/
def State.lockPound (s : State) (bit : Nat) : State :=
  let s1 := s.wrb A.spdSealStat bit true
  if s.sealState = 0 then (s1.wrf A.spdSealStat 0 2 1).keyErase else s1

/-- Some lock reason stands. -/
def State.lockStands (s : State) : Bool := s.rdf A.spdSealStat 4 3 ≠ 0

/-- The pound becomes OPEN and the island reads the key record. -/
def State.openPound (s : State) : State := (s.wrf A.spdSealStat 0 2 0).keyReload

/-- A cleared HOLDUP reason returns a LOCKED pound to OPEN unless another reason stands (R318). -/
def State.clearHoldup (s : State) : State :=
  let s1 := s.wrb A.spdSealStat 5 false
  if s1.sealState = 1 && !s1.lockStands then s1.openPound else s1

/-- The write of SPD_SEAL_CTRL (Table SPD-9): OPEN counts from the island only; with several bits set WIPE is taken before LOCK,
UNLOCK and OPEN (log entry 12). -/
def State.sealCtrl (s : State) (src : Source) (v : Nat) : State :=
  let s1 := if tbit v 1 then s.startWipe 9 else s
  let s2 := if tbit v 2 then s1.lockPound 6 else s1
  let s3 := if tbit v 3 then s2.wrb A.spdSealStat 6 false else s2
  if tbit v 0 && src = .island then
    if s3.lockStands then s3.raise 0x301000 10
    else if s3.sealState = 1 || s3.sealState = 3 then s3.openPound else s3
  else s3

/-- SPD-7 classes that may reach the pound: engines and DMA in SECURE context, and the safety island (R316). -/
def poundMay (cls : Nat) (secure : Bool) : Bool := cls == 3 || ((cls == 1 || cls == 4) && secure)

/-! ## Bank accesses (R306 to R312) -/

/-- The port of a requester class (R306): A for barge engines and datapath units, B for every other. -/
def onPortB (cls : Nat) : Bool := !(cls == 1 || cls == 5)

/-- What becomes of a request before the bank takes it: `waits` says that the port presents another request in that cycle. -/
inductive Gate
  | taken | stalled | denied | refused | waits
deriving DecidableEq, Repr

/-- The latest request of a port of a bank. -/
def State.portUse (s : State) (bank : Nat) (b : Bool) : Option PortUse := s.spd.ports.find? (fun x => x.bank = bank && x.portB = b)

/-- A request ranks first in its bank cycle (R307): it is older, or of equal age and on port A. -/
def bankFirst (q : BankReq) : Bool :=
  match q.met with
  | none => true
  | some m => m.age < q.age || (m.age = q.age && !onPortB q.cls)

/-- The word of a plain write that a request meets. -/
def writeMet (q : BankReq) : Option Nat := match q.met with | some m => if m.kind = 1 then some (m.data % 2 ^ 64) else none | none => none

/-- The data of a read is undefined and nobody is told (R310, R312): it ranks before a plain write, or its repeat meets another one. -/
def untold (q : BankReq) : Bool := (writeMet q).isSome && (bankFirst q || q.again)

/-- Two requests of one word do not go together when one is an atomic or a partial write (Table SPD-4); `k` is the kind of the
request, as in BankMet. -/
def bankClash (q : BankReq) (k : Nat) : Bool :=
  match q.met with
  | none => false
  | some m => !(bankFirst q) && (k = 2 || m.kind = 2)

/-- A port of a bank does not take a request to a word: the other port has the word reserved, or an atomic or partial write is in the
way (R309, Table SPD-4). -/
def State.wordHeld (s : State) (q : BankReq) (k : Nat) : Bool :=
  s.spd.resv.any (fun r => r.addr = wordAddr q.addr && r.portB ≠ onPortB q.cls && q.cyc ≤ r.last) || bankClash q k

/-- A port still presents a stalled request in a cycle, one other than `x` (R306, R309).  A reservation is over in two cycles: a request
that has not been taken then has been withdrawn (log entry 64). -/
def PortUse.keeps (u : PortUse) (cyc : Nat) (x : Option (Nat × Nat × Nat)) : Bool := u.kept.isSome && u.kept ≠ x && cyc ≤ u.last + 2

/-- Whether a bank takes a request: the start-up fill, the pound's permission and state, the port and the order of its requests, the
reservation of the other port, and an atomic or partial write that it meets (R306, R309, R316, R317, R322).  A cycle that the scrubber has
taken from a port without a free one for 64 cycles stalls the request (R314). -/
def State.bankGate (s : State) (q : BankReq) (k : Nat) : Gate :=
  let w := wordAddr q.addr
  let b := onPortB q.cls
  if !s.runs 2 || !s.ready 0x300000 then .refused
  else if regionOf w = .pound && !poundMay q.cls q.secure then .denied
  else if regionOf w = .pound && s.sealState ≠ 0 then .refused
  else if !(regionOf w = .pound || regionOf w = .scratchpad) then .refused
  else
    match s.portUse (bankOf w) b with
    | some u => if u.last = q.cyc && !u.scrub then .waits
        else if u.keeps q.cyc (some (w, q.cls, q.id)) then .waits
        else if u.last = q.cyc && 64 ≤ u.run then .stalled
        else if s.wordHeld q k then .stalled else .taken
    | none => if s.wordHeld q k then .stalled else .taken

/-- A port presents a request in a cycle; a stalled one is kept. -/
def State.present (s : State) (w : Nat) (b : Bool) (cyc : Nat) (scrub : Bool) (kept : Option (Nat × Nat × Nat)) : State :=
  let run := match s.portUse (bankOf w) b with | some u => if u.last + 1 = cyc then u.run + 1 else 1 | none => 1
  let u : PortUse := ⟨bankOf w, b, w, cyc, if scrub then run - 1 else run, scrub, kept⟩
  { s with spd := { s.spd with ports := u :: s.spd.ports.filter (fun x => !(x.bank = bankOf w && x.portB = b)) } }

/-- The answer of a bank to a request. -/
def bankAnswer (q : BankReq) (stall : Bool) (rdata : Option DWord) (done busy ce ue : Bool) : Out :=
  .bank (onPortB q.cls) (bankOf (wordAddr q.addr)) (rowOf (wordAddr q.addr)) q.tag stall rdata done busy ce ue

/-- A stalled request: counted, told to its port, and kept by it (R309). -/
def State.bankStall (s : State) (q : BankReq) (scrub : Bool) : State :=
  ((s.bump32 A.spdStallCnt 1).present (wordAddr q.addr) (onPortB q.cls) q.cyc scrub (some (wordAddr q.addr, q.cls, q.id))).emit
    (bankAnswer q true none false false false false)

/-- What a bank does with a request it does not take; a read that is refused for want of permission returns zero (R316).  The island's
log notes that the pound it asked for is not open (R401). -/
def State.bankRefuse (s : State) (g : Gate) (q : BankReq) (reads : Bool) : State :=
  match g with
  | .stalled => s.bankStall q false
  | .denied =>
    let s1 := s.sealDenied q.cls
    if reads then s1.emit (bankAnswer q false (some 0) false false false false) else s1
  | .refused => if q.cls = 3 && regionOf (wordAddr q.addr) = .pound && s.sealState ≠ 0 then s.safLog 0x23 0 false 0 else s
  | _ => s

/-- Errors found in a word enter the state when it is read: 1 a single-bit error, 2 or more an uncorrectable one (log entry
13). -/
def State.found (s : State) (w n : Nat) : State :=
  if n = 0 then s
  else if n = 1 then (if s.spd.ue.contains w then s else s.starting 0x300000 (fun t => { t with spd := { t.spd with ce := setIns w t.spd.ce } }))
  else { s with spd := { s.spd with ue := setIns w s.spd.ue, ce := setDel w s.spd.ce } }

/-- Reserve a word for two cycles (R308). -/
def State.reserve (s : State) (portB : Bool) (w cyc : Nat) : State :=
  { s with spd := { s.spd with resv := { addr := w, portB := portB, last := cyc + 1 } :: s.spd.resv.filter (fun r => cyc ≤ r.last) } }

/-- A request that the bank takes is carried out; one that it does not take has the answer of its gate. -/
def State.bankGo (s : State) (q : BankReq) (k : Nat) (reads : Bool) (f : State → State) : State :=
  match s.bankGate q k with
  | .taken => f s
  | g => s.bankRefuse g q reads

/-- A read finds the word `v`: the data, or none where the word is uncorrectable, which is recorded (R304, R305), and the answer. -/
def State.bankWord (s0 : State) (q : BankReq) (v : Nat) : Option Nat × State :=
  let w := wordAddr q.addr
  let s := s0.found w q.found
  let told (ce ue : Bool) : Out := bankAnswer q false (some (BitVec.ofNat 64 v)) false false ce ue
  if s.spd.ue.contains w then (none, (s.recordUe q.cls q.id w).emit (told false true))
  else
    let ce := s.spd.ce.contains w
    (some v, (if ce then s.bump32 A.spdCeCnt 1 else s).emit (told ce false))

/-- A read whose data is undefined and whose requester is not told (R310, R312). -/
def State.bankSilent (s : State) (q : BankReq) : Option Nat × State :=
  let (v, s1) := s.draw 64
  (some v.toNat, ((((s1.bump A.spdCollSilent).wr64 A.spdCollAddr (wordAddr q.addr)).wr A.spdCollInfo (q.cls % 8 + q.id % 256 * 2 ^ 8)).raise
    0x300000 9).emit (bankAnswer q false (some v) false false false false))

/-- A read that ranks after a plain write of `d` gets undefined data and BUSY, discards it, and is presented again in the next cycle, where
it ranks first (R310, R311): it returns the word newly written, unless it meets another write. -/
def State.bankRepeat (s : State) (q : BankReq) (scrub : Bool) (d : Nat) : Option Nat × State :=
  let w := wordAddr q.addr
  let (v, s1) := s.draw 64
  let s2 := (((s1.emit (bankAnswer q false (some v) false true false false)).bump32 A.spdCollFlag 1).present w (onPortB q.cls) (q.cyc + 1) scrub none)
  if q.again then s2.bankSilent q
  else { s2 with spd := { s2.spd with ue := setDel w s2.spd.ue, ce := setDel w s2.spd.ce } }.bankWord q d

/-- A plain read that the bank takes: the data, or none where the word is uncorrectable, and the state with the answer given.  Where it
meets a plain write of the other port on its word, R310 to R312 say what it gets. -/
def State.bankLoad (s0 : State) (q : BankReq) (scrub : Bool) : Option Nat × State :=
  let s := s0.present (wordAddr q.addr) (onPortB q.cls) q.cyc scrub none
  match writeMet q with
  | some d => if bankFirst q then s.bankSilent q else s.bankRepeat q scrub d
  | none => s.bankWord q (s.peek64 (wordAddr q.addr))

/-- A host read through BAR2 completes with the word, or with ones for an uncorrectable one (R305, R331). -/
def hostWord : Option Nat → List Byte
  | some v => leBytes 8 v
  | none => List.replicate 8 0xFF

/-- A plain read. -/
def State.bankRead (s : State) (q : BankReq) : State :=
  s.bankGo q 0 true (fun t =>
    match t.bankLoad q false with
    | (v, u) => if q.cls = 0 then u.emit (.barData 2 (wordAddr q.addr - 0x0100000000) (hostWord v)) else u)

/-- A bank reads a word, forms a new one and writes it in the next cycle, the word reserved for both (R308): the old word, or none where it
is uncorrectable and left as it is (R305), and the state with the answer given.  `fetch` returns the old word. -/
def State.bankChange (s0 : State) (q : BankReq) (fetch : Bool) (f : Nat → Nat) : Option Nat × State :=
  let w := wordAddr q.addr
  let s1 := (((s0.present w (onPortB q.cls) q.cyc false none).found w q.found).reserve (onPortB q.cls) w q.cyc)
  let old := s1.peek64 w
  let answer (ce ue : Bool) : Out := bankAnswer q false (if fetch then some (BitVec.ofNat 64 old) else none) true false ce ue
  if s1.spd.ue.contains w then (none, (s1.recordUe q.cls q.id w).emit (answer false true))
  else
    let ce := s1.spd.ce.contains w
    (some old, ((if ce then s1.bump32 A.spdCeCnt 1 else s1).poke64 w (f old)).emit (answer ce false))

/-- An atomic or a partial write. -/
def State.bankModify (s : State) (q : BankReq) (fetch : Bool) (f : Nat → Nat) : State :=
  s.bankGo q 2 fetch (fun t => (t.bankChange q fetch f).2)

/-- A plain write of 8 bytes that the bank takes.  Where two of them meet, the later port's data stands, whichever command comes first
(Table SPD-4); a write that ranks after a plain read gets BUSY. -/
def State.bankPut (s0 : State) (q : BankReq) (data : Nat) : State :=
  let w := wordAddr q.addr
  let s := (s0.present w (onPortB q.cls) q.cyc false none).poke64 w data
  let done (busy : Bool) : Out := bankAnswer q false none true busy false false
  match q.met with
  | none => s.emit (done false)
  | some m =>
    if m.kind = 1 then (if bankFirst q then (s.poke64 w m.data).emit (done false) else (s.bump A.spdWwCnt).emit (done false))
    else s.emit (done (m.kind = 0 && !(bankFirst q)))

/-- The bytes of a word with those that `be` enables taken from `data`. -/
def mergeBytes (old data be : Nat) : Nat → Nat
  | 0 => 0
  | n + 1 => mergeBytes old data be n + (if tbit be n then fld data (8 * n) 8 else fld old (8 * n) 8) * 2 ^ (8 * n)

/-- A write: of 8 bytes at once, of fewer by read and merge (R308). -/
def State.bankWrite (s : State) (q : BankReq) (be data : Nat) : State :=
  if be % 256 = 255 then s.bankGo q 1 false (fun t => t.bankPut q data)
  else s.bankModify q false (fun old => mergeBytes old data be 8)

/-- ADD: modulo 2^64. -/
def atomAdd (old d : Nat) : Nat := (old + d) % 2 ^ 64
/-- ADD2: each half modulo 2^32, no carry between them. -/
def atomAdd2 (old d : Nat) : Nat := (old + d) % 2 ^ 32 + (old / 2 ^ 32 + d / 2 ^ 32) % 2 ^ 32 * 2 ^ 32
/-- SWAP: the operand. -/
def atomSwap (_old d : Nat) : Nat := d % 2 ^ 64

/-- A list names every word of one scrub pass: those of the scratchpad, and of the pound while it is OPEN (R314). -/
def State.scrubAll (s : State) (l : List Nat) : Bool :=
  12582912 ≤ (l.filter (fun w => regionOf w = .scratchpad)).length &&
    (s.sealState ≠ 0 || 524288 ≤ (l.filter (fun w => regionOf w = .pound)).length)

/-! ## Meanings -/

def execBankRead (q : BankReq) (s : State) : Host.Outcome State Fault Refusal := .next (s.bankRead q)
def execBankWrite (q : BankReq) (be data : Nat) (s : State) : Host.Outcome State Fault Refusal := .next (s.bankWrite q be data)
def execBankAdd (q : BankReq) (data : Nat) (fetch : Bool) (s : State) : Host.Outcome State Fault Refusal :=
  .next (s.bankModify q fetch (fun old => atomAdd old data))
def execBankAdd2 (q : BankReq) (data : Nat) (fetch : Bool) (s : State) : Host.Outcome State Fault Refusal :=
  .next (s.bankModify q fetch (fun old => atomAdd2 old data))
def execBankSwap (q : BankReq) (data : Nat) (fetch : Bool) (s : State) : Host.Outcome State Fault Refusal :=
  .next (s.bankModify q fetch (fun old => atomSwap old data))

/-- The corrected word is written back, in a cycle in which neither port uses it, and is clean (R304). -/
def execEccWriteback (addr cyc : Nat) (s : State) : Host.Outcome State Fault Refusal :=
  let w := wordAddr addr
  if s.spd.ports.any (fun u => u.addr = w && u.last = cyc) || s.spd.resv.any (fun r => r.addr = w && cyc ≤ r.last) then .next s
  else .next ({ s with spd := { s.spd with ce := setDel w s.spd.ce } }.quietEdge 0x300000 (s.busy 0x300000))

/-- A scrub pass may read: one runs, or SPD_SCRUB_S seconds (0 acts as 1) have passed since the last one began (R314). -/
def State.scrubDue (s : State) : Bool :=
  !s.spd.scrubbed.isEmpty ||
    (match s.spd.scrubAt with | some t => t + max 1 (s.rdf A.spdScrubS 0 16) * 1000000000 ≤ s.now | none => true)

/-- The scrubber takes a cycle of port B of a bank: one in which the port presents no request (R314). -/
def State.scrubFree (s : State) (w cyc : Nat) : Bool :=
  match s.portUse (bankOf w) true with
  | some u => u.last ≠ cyc && (64 ≤ u.run || !u.keeps cyc (some (w, 6, 0)))
  | none => true

/-- The scrubber has read a word: a corrected one is written back under a reservation of two cycles, and a pass is over once every word has
been read in it (R314). -/
def State.scrubRead (s : State) (q : BankReq) : State :=
  let w := wordAddr q.addr
  let t := (s.bankLoad q true).2
  let cyc := if (writeMet q).isSome && !bankFirst q then q.cyc + 1 else q.cyc
  let u := if !untold q && t.spd.ce.contains w then { t with spd := { t.spd with ce := setDel w t.spd.ce } }.reserve true w cyc else t
  let from_ := if s.spd.scrubbed.isEmpty then some s.now else s.spd.scrubAt
  let done := setIns w s.spd.scrubbed
  if s.scrubAll done then { u with spd := { u.spd with scrubbed := [], scrubAt := from_ } }.bump32 A.spdScrubPass 1
  else { u with spd := { u.spd with scrubbed := done, scrubAt := from_ } }

/-- The scrubber asks for a word (R314), with a request of class 6: it runs while SCRUB_EN is 1 and the page takes work, and skips a pound
that is not OPEN.  The bank treats its request as any of port B (R309, R310). -/
def execScrubRead (q : BankReq) (s : State) : Host.Outcome State Fault Refusal :=
  let w := wordAddr q.addr
  if !(s.runs 2 && s.rdb A.spdCtrl 0 && s.pageOpen 0x300000) || (regionOf w = .pound && s.sealState ≠ 0) ||
      !(regionOf w = .pound || regionOf w = .scratchpad) || !s.scrubDue || !s.scrubFree w q.cyc then .next s
  else if s.wordHeld q 0 then .next (s.bankStall q true)
  else .next (s.scrubRead q)

/-- The wipe's compare ends (R320): every row is zero, or `failed` is the offset of a word that is not.  SPD_WIPE_CNT stands at 1 from
the start for the wipe of power-on or full reset (Table SPD-9). -/
def execWipeDone (failed : Option Nat) (s : State) : Host.Outcome State Fault Refusal :=
  match s.spd.wipe with
  | none => .next s
  | some w =>
    match failed with
    | none =>
      let clean (l : List Nat) : List Nat := l.filter (fun a => regionOf a ≠ .pound)
      let s1 := { s with
        mem := Memory.clear s.mem 0x0108000000 0x0108400000
        spd := { s.spd with wipe := none, ue := clean s.spd.ue, ce := clean s.spd.ce } }
      let s2 := s1.wrf A.spdSealStat 0 2 3
      let s3 := if s.rd A.spdSealCause = 10 || s.rd A.spdSealCause = 11 then s2 else s2.bump A.spdWipeCnt
      .next (((s3.wr A.spdWipeTime ((s.now + w.ran - w.start) / 10 % 2 ^ 16)).raise 0x301000 9).quietEdge 0x301000 (s.busy 0x301000))
    | some o =>
      if w.retry then
        .next (((({ s with spd := { s.spd with wipe := none } }).wrb A.spdSealStat 8 true).pageErr 0x301000 0x0101
          (fld o 3 3 + fld o 6 16 * 2 ^ 16)).quietEdge 0x301000 (s.busy 0x301000))
      else .next { s with spd := { s.spd with wipe := some { w with retry := true } } }

end Sys2Proof.Machine
end

