-- ==== Sys2Proof/Machine/Cal.lean ====
section
/-!
DEFINITION. The calibration store: regions, records, the WRITE, EXPORT and RESTORE commands, loading and applying (R234 to
R247).
-/
namespace Sys2Proof.Machine

/-- Store offset of a region (Table CAL-2). -/
def calOffset (r : Nat) : Nat :=
  if r = 0 then 0x0040 else if r = 1 then 0x0180 else if r = 2 then 0x01C0 else if r = 3 then 0x0300
  else if r = 4 then 0x0340
  else if r < 9 then 0x0C00 + (r - 5) * 0x1640
  else if r < 13 then 0x7000 + (r - 9) * 0x400
  else 0x0400 + (r - 32) * 0x40

/-- TYPE of a region (Table CAL-2); none for a reserved number. -/
def calType (r : Nat) : Option Nat :=
  if r = 0 then some 1 else if r = 1 then some 3 else if r = 2 then some 4 else if r = 3 then some 5 else if r = 4 then some 7
  else if r < 9 then some 2 else if r < 13 then some 8 else if 32 ≤ r && r < 64 then some 6 else none

/-- INDEX of a region (Table CAL-4). -/
def calIndex (r : Nat) : Nat :=
  if 5 ≤ r && r < 9 then r - 5 else if 9 ≤ r && r < 13 then r - 9 else if 32 ≤ r then r - 32 else 0

/-- Payload size of a TYPE (Table CAL-5). -/
def calLen (t : Nat) : Nat :=
  match t with
  | 1 => 256 | 2 => 5632 | 3 => 32 | 4 => 272 | 5 => 16 | 6 => 48 | 7 => 32 | 8 => 1008 | _ => 0

/-- The region of a TYPE and INDEX (R237 check 3). -/
def calRegion (t i : Nat) : Option Nat :=
  match t with
  | 1 => if i = 0 then some 0 else none
  | 2 => if i < 4 then some (5 + i) else none
  | 3 => if i = 0 then some 1 else none
  | 4 => if i = 0 then some 2 else none
  | 5 => if i = 0 then some 3 else none
  | 6 => if i < 32 then some (32 + i) else none
  | 7 => if i = 0 then some 4 else none
  | 8 => if i < 4 then some (9 + i) else none
  | _ => none

/-- The 45 regions. -/
def calRegions : List Nat := rangeFrom 0 13 ++ rangeFrom 32 32

/-- Bytes [a, a+n) of a list as a number, little-endian. -/
def leAt (bs : List Byte) (a n : Nat) : Nat := leNat ((bs.drop a).take n)

/-- The CRC of a record image with the given fields read as zero: always CRC, and with `strip` WCNT and ORIGIN too (R235, R237
check 6). -/
def recordCrc (bs : List Byte) (strip : Bool) : Nat :=
  let w1 := if strip then putBit (leAt bs 4 4 / 2 ^ 16 * 2 ^ 16) 16 false else leAt bs 4 4
  crc32 (bs.take 4 ++ leBytes 4 w1 ++ (bs.drop 8).take 4 ++ [0, 0, 0, 0] ++ bs.drop 16)

/-- Every `step`-th byte from `a` on, `n` of them, is in a set of values. -/
def bytesOk (bs : List Byte) (f : Nat → Bool) (a step : Nat) : Nat → Bool
  | 0 => true
  | n + 1 => f (leAt bs a 1) && bytesOk bs f (a + step) step n

/-- Rotation rows of a transform (R135): norms within 2^-20 of 1, pairwise products within 2^-20 of 0, positive determinant
(R237 check 7). -/
def rotationOk (e : Nat → Int) : Bool :=
  let dot (i j : Nat) : Int := e (3 * i) * e (3 * j) + e (3 * i + 1) * e (3 * j + 1) + e (3 * i + 2) * e (3 * j + 2)
  let norm (i : Nat) : Bool := (2 ^ 30 - 2 ^ 10) ^ 2 ≤ dot i i && dot i i ≤ (2 ^ 30 + 2 ^ 10) ^ 2
  let orth (i j : Nat) : Bool := -(2 ^ 40) ≤ dot i j && dot i j ≤ 2 ^ 40
  let det : Int :=
    e 0 * (e 4 * e 8 - e 5 * e 7) - e 1 * (e 3 * e 8 - e 5 * e 6) + e 2 * (e 3 * e 7 - e 4 * e 6)
  norm 0 && norm 1 && norm 2 && orth 0 1 && orth 0 2 && orth 1 2 && 0 < det

/-- The reserved fields of a record are zero (R235, R237 check 7). -/
def calReservedOk (bs : List Byte) (t : Nat) : Bool :=
  leAt bs 4 4 / 2 ^ 17 = 0 && leAt bs 8 4 = 0 &&
  match t with
  | 2 => (rangeFrom 0 64).all (fun a => leAt bs (16 + 88 * a + 85) 3 = 0)
  | 4 => bytesOk bs (fun b => b < 64) 16 4 64 && bytesOk bs (fun b => b < 64) 17 4 64 && bytesOk bs (fun b => b < 64) 18 4 64 &&
      bytesOk bs (fun b => b < 32) 19 4 64 && bytesOk bs (fun b => b < 16) 272 1 16
  | 5 => bytesOk bs (fun b => b < 32) 16 1 8 && leAt bs 24 8 = 0
  | 7 => leAt bs 32 16 = 0
  | _ => true

/-- The content rules of R237 check 7 beyond reserved fields. -/
def calContentOk (bs : List Byte) (t : Nat) : Bool :=
  match t with
  | 5 => bytesOk bs (fun b => 1 ≤ b && b ≤ 31) 16 1 8
  | 6 => rotationOk (fun k => sgn 32 (leAt bs (16 + 4 * k) 4))
  | _ => true

/-- A region's bytes in the store. -/
def calBytes (st : List Host.Cell) (r : Nat) : List Byte :=
  match calType r with
  | none => []
  | some t => Memory.read st (calOffset r) (16 + calLen t)

/-- A record is valid in its region (R235). -/
def calValid (st : List Host.Cell) (r : Nat) : Bool :=
  match calType r with
  | none => false
  | some t =>
    let bs := calBytes st r
    leAt bs 0 1 = t && leAt bs 1 1 = calIndex r && leAt bs 2 2 = calLen t && recordCrc bs false = leAt bs 0xC 4 &&
      calReservedOk bs t

/-- The record in a region is valid: its bytes are, and none of its words is uncorrectable (R235). -/
def State.calGood (s : State) (r : Nat) : Bool := calValid s.cal.store r && !s.cal.bad.contains r

/-- A region holds some record (its TYPE is not zero). -/
def calPresent (st : List Host.Cell) (r : Nat) : Bool := (Memory.get st (calOffset r)).toNat ≠ 0

/-- ORIGIN of the record in a region. -/
def calOrigin (st : List Host.Cell) (r : Nat) : Bool := tbit (leAt (calBytes st r) 4 4) 16

/-- WCNT of the record in a region. -/
def calWcnt (st : List Host.Cell) (r : Nat) : Nat := leAt (calBytes st r) 4 2

/-- The next write counter: 0xFFFF is followed by 1 (R237). -/
def nextWcnt (w : Nat) : Nat := if 0xFFFF ≤ w then 1 else w + 1

/-- Set or clear the bit of a region in one of the 64-bit region masks. -/
def State.calMask (s : State) (a r : Nat) (b : Bool) : State := s.wr64 a (putBit (s.rd64 a) r b)

/-- A source's copy of CAL_XFER_ADDR (R239). -/
def State.calXfer (s : State) (src : Source) : Nat :=
  match s.cal.xfer.find? (fun x => x.1 = src) with
  | some x => x.2
  | none => 0

/-- Load a source's copy of CAL_XFER_ADDR. -/
def State.setCalXfer (s : State) (src : Source) (v : Nat) : State :=
  { s with cal := { s.cal with xfer := (src, v % 2 ^ 48) :: s.cal.xfer.filter (fun x => x.1 ≠ src) } }

/-- A record takes effect in its consumer: the bit of CAL_PEND clears and APPLIED is raised (R246). -/
def State.calApply (s : State) (r : Nat) : State :=
  let s1 := { s with cal := { s.cal with
    applied := Memory.write s.cal.applied (calOffset r) (calBytes s.cal.store r)
    inUse := setIns r s.cal.inUse } }
  (s1.calMask A.calPend r false).raise 0x370000 9

/-- Apply a region whose record waits; otherwise nothing. -/
def State.calApplyIfPending (s : State) (r : Nat) : State :=
  if tbit (s.rd64 A.calPend) r then s.calApply r else s

/-- Apply every waiting EXT record (R246, step 4 of a cut). -/
def State.calApplyAll (s : State) : List Nat → State
  | [] => s
  | r :: t => (s.calApplyIfPending r).calApplyAll t

/-- The lanes of link `k`, or of PCIe for 8, as words of the presets: first lane and number. -/
def presetLanes (k : Nat) : Nat × Nat := if k < 8 then (k * 8, 8) else (64, 16)

/-- Link `k`, or the PCIe lanes for 8, trains from the SERDES record, or from built-in presets where none is valid (R327, R352, Table
CAL-6).  A committed record has reached its consumer once every one has trained since (R246). -/
def State.serdesTrain (s : State) (k : Nat) : State :=
  let (lo, n) := presetLanes k
  let lane (i : Nat) : Nat :=
    if !s.calGood 2 then (Config.builtInPreset i).toNat
    else if i < 64 then leNat (Memory.read s.cal.store (calOffset 2 + 16 + 4 * i) 4)
    else (Memory.get s.cal.store (calOffset 2 + 16 + 256 + (i - 64))).toNat % 16
  let wait := setDel k s.cal.serWait
  let s1 := { s with cal := { s.cal with
    presets := (k, (rangeFrom lo n).map lane) :: s.cal.presets.filter (fun x => x.1 ≠ k), serWait := wait } }
  if wait.isEmpty && tbit (s1.rd64 A.calPend) 2 then (s1.calMask A.calPend 2 false).raise 0x370000 9 else s1

/-- A record has been committed to its region: the masks, CAL_WRITES and the waiting applies (R237, R246, R247). -/
def State.calCommitted (s0 : State) (r : Nat) : State :=
  let s := { s0 with cal := { s0.cal with bad := setDel r s0.cal.bad } }
  let s1 := (((s.calMask A.calValid r true).calMask A.calFactory r (!calOrigin s.cal.store r)).calMask A.calPend r true).bump32
    A.calWrites 1
  match calType r with
  | some 8 => s1.calApply r
  | some 4 => { s1 with cal := { s1.cal with serWait := rangeFrom 0 9 } }
  | some 6 => if !s1.rdb A.wldCtrl 0 || s1.rd A.wldEpochNewest = 0 then s1.calApply r else s1
  | some 2 =>
    let die := (rangeFrom ((r - 5) * 64) 64).map (fun a => (a, s1.now))
    { s1 with cal := { s1.cal with chgWait := s1.cal.chgWait.filter (fun x => x.1 / 64 ≠ r - 5) ++ die } }
  | _ => s1

/-- The record as it is written: WCNT, ORIGIN and the stored CRC are set (R237, R242). -/
def calRecord (bs : List Byte) (wcnt : Nat) (origin : Bool) : List Byte :=
  let img := bs.take 4 ++ leBytes 4 (wcnt + (if origin then 2 ^ 16 else 0)) ++ (bs.drop 8).take 4 ++ [0, 0, 0, 0] ++ bs.drop 16
  img.take 12 ++ leBytes 4 (recordCrc img false) ++ img.drop 16

/-- The checks of R237 in order, on an image at an address: the failed check and its result, or the region, TYPE and image. -/
def State.calCheck (s : State) (a : Nat) : (Nat × Nat) ⊕ (Nat × Nat × List Byte) :=
  if !s.rdb A.calCtrl 0 || s.sec.lc = 4 then .inl (1, 3)
  else if a % 64 ≠ 0 || !inLocal a 16 then .inl (2, 6)
  else
    let h := s.readMem a 4
    let t := leAt h 0 1
    let len := leAt h 2 2
    if !inLocal a (16 + len) then .inl (2, 6)
    else match calRegion t (leAt h 1 1) with
      | none => .inl (3, 1)
      | some r =>
        if !s.rdb A.calWmask t then .inl (4, 2)
        else if len ≠ calLen t then .inl (5, 1)
        else
          let bs := s.readMem a (16 + len)
          if (wordsIn s.spd.ue a (16 + len)).length ≠ 0 || recordCrc bs true ≠ leAt bs 0xC 4 then .inl (6, 1)
          else if !(calReservedOk bs t && calContentOk bs t) then .inl (7, 1)
          else .inr (r, t, bs)

/-- What a WRITE reads of an image at an address is counted and recorded as every read is (R304, R525): the whole image, or its header where that
fails a check. -/
def State.calReads (s : State) (a : Nat) : State :=
  if !s.rdb A.calCtrl 0 || s.sec.lc = 4 || a % 64 ≠ 0 || !inLocal a 16 then s
  else
    let len := leAt (s.readMem a 4) 2 2
    let whole : Bool := match s.calCheck a with | .inl (c, _) => 6 ≤ c | .inr _ => true
    s.readAll 5 0x14 a (if whole then 16 + len else 16)

/-- Start a command: CAL_CMD_STAT shows it running. -/
def State.calStart (s : State) (src : Source) (r : CalRun) : State :=
  ({ s with cal := { s.cal with run := some r } }.wrb A.calCmdStat 3 true).wrf A.calCmdStat 24 3 (srcCode src)

/-- OP WRITE (R237, R238): the image is read and checked, and one that passes is committed. -/
def State.calWrite (s : State) (src : Source) : State :=
  match s.calCheck (s.calXfer src) with
  | .inl (check, result) =>
    (s.calReads (s.calXfer src)).calStart src { op := 1, src := src, result := result, check := check, region := 0, written := [] }
  | .inr (r, _, bs) =>
    let w := nextWcnt (if s.calGood r then calWcnt s.cal.store r else 0)
    let s1 := { s.calReads (s.calXfer src) with cal := { s.cal with store := Memory.write s.cal.store (calOffset r) (calRecord bs w (s.sec.lc ≠ 0)) } }
    (s1.calCommitted r).calStart src { op := 1, src := src, result := 0, check := 0, region := r, written := [r] }

/-- OP EXPORT (R241): the whole store goes to memory. -/
def State.calExport (s : State) (src : Source) : State :=
  let a := s.calXfer src
  if a % 64 ≠ 0 || !inLocal a 0x8000 then
    s.calStart src { op := 2, src := src, result := 6, check := 2, region := 0, written := [] }
  else
    (s.store a (Memory.read s.cal.store 0 0x8000)).calStart src
      { op := 2, src := src, result := 0, check := 0, region := 0, written := [] }

/-- Restore the valid records of an image, region by region (R242): the state and the regions written.  `ue` are the offsets of the image's
uncorrectable words; a record that holds one is not valid (R235, R523). -/
def State.calRestoreRegions (s : State) (img : List Host.Cell) (ue : List Nat) : List Nat → State × List Nat
  | [] => (s, [])
  | r :: t =>
    match calType r with
    | none => s.calRestoreRegions img ue t
    | some ty =>
      if calValid img r && (wordsIn ue (calOffset r) (16 + calLen ty)).isEmpty && s.rdb A.calWmask ty then
        let have0 := if s.calGood r then calWcnt s.cal.store r else 0
        let w := nextWcnt (max have0 (calWcnt img r))
        let s1 := { s with cal := { s.cal with
          store := Memory.write s.cal.store (calOffset r) (calRecord (calBytes img r) w (calOrigin img r)) } }
        let (s2, l) := (s1.calCommitted r).calRestoreRegions img ue t
        (s2, r :: l)
      else s.calRestoreRegions img ue t

/-- The memory cells of a list of bytes from address 0 on. -/
def cellsOf (bs : List Byte) : List Host.Cell := Memory.write [] 0 bs

/-- OP RESTORE (R242): an uncorrectable word in the header fails the image, one in a record only that record. -/
def State.calRestore (s : State) (src : Source) : State :=
  let a := s.calXfer src
  let fail (check result : Nat) : State :=
    s.calStart src { op := 3, src := src, result := result, check := check, region := 0, written := [] }
  if !s.rdb A.calCtrl 0 || s.sec.lc = 4 then fail 1 3
  else if a % 64 ≠ 0 || !inLocal a 0x8000 then fail 2 6
  else
    let bs := s.readMem a 0x8000
    let t := s.readAll 5 0x14 a 0x8000
    let done_ (result : Nat) : State := t.calStart src { op := 3, src := src, result := result, check := 0, region := 0, written := [] }
    if leAt bs 0 2 ≠ 0x4353 || leAt bs 2 1 ≠ 1 || leAt bs 0x3C 4 ≠ crc32 (bs.take 0x3C) || !(wordsIn s.spd.ue a 0x40).isEmpty then done_ 4
    else if leAt bs 8 8 ≠ leNat (Memory.read s.cal.store 8 8) then done_ 5
    else
      let (s1, l) := t.calRestoreRegions (cellsOf bs) ((wordsIn s.spd.ue a 0x8000).map (fun w => w - a)) calRegions
      s1.calStart src { op := 3, src := src, result := 0, check := 0, region := l.length, written := l }

/-- The write of CAL_CMD (R237, R239): a command, CMD_BUSY while one runs, or nothing for another OP. -/
def State.calCmd (s : State) (src : Source) (v : Nat) : State :=
  let op := fld v 0 3
  if op = 0 || 3 < op then s
  else if s.cal.run.isSome then s.pageErr 0x370000 0x0106 0
  else if op = 1 then s.calWrite src else if op = 2 then s.calExport src else s.calRestore src

/-- The block error of a result (chapter 10, Registers). -/
def calErr (result : Nat) : Nat :=
  match result with
  | 1 => 0x0100 | 2 => 0x0101 | 3 => 0x0102 | 4 => 0x0103 | 5 => 0x0104 | _ => 0x0105

/-- A CAL_CHANGED message for each region written (Table FIO-5). -/
def State.calChanged (s : State) (op : Nat) : List Nat → State
  | [] => s
  | r :: t =>
    (s.fleetEvent 6 ([BitVec.ofNat 8 r, BitVec.ofNat 8 ((calType r).getD 0)] ++ beBytes 2 (calWcnt s.cal.store r) ++
      [if calOrigin s.cal.store r then 1 else 0, BitVec.ofNat 8 op, 0, 0])).calChanged op t

/-- CAL_QUERY_STAT for a region (Table CAL-9). -/
def State.calQueryStat (s : State) : Nat :=
  let r := s.rdf A.calQuery 0 6
  match calType r with
  | none => 0
  | some _ =>
    let b (x : Bool) (i : Nat) : Nat := if x then 2 ^ i else 0
    calWcnt s.cal.store r + b (s.calGood r) 16 + b (calOrigin s.cal.store r) 17 + b (tbit (s.rd64 A.calPend) r) 18 +
      b (calPresent s.cal.store r) 19 + (Memory.get s.cal.store (calOffset r)).toNat * 2 ^ 24

/-- Load one region at start-up (R244): `bad` names regions in which the load found an uncorrectable word. -/
def State.calLoadRegion (s : State) (bad : List Nat) (r : Nat) : State :=
  if calValid s.cal.store r && !bad.contains r then
    let s1 := { s with cal := { s.cal with
      applied := Memory.write s.cal.applied (calOffset r) (calBytes s.cal.store r), inUse := setIns r s.cal.inUse } }
    (s1.calMask A.calValid r true).calMask A.calFactory r (!calOrigin s.cal.store r)
  else
    let s1 := if bad.contains r then s.pageErr 0x370000 0x0107 r else s
    if calPresent s.cal.store r || bad.contains r then s1.raise 0x370000 10 else s1

/-- Load every region. -/
def State.calLoadRegions (s : State) (bad : List Nat) : List Nat → State
  | [] => s
  | r :: t => (s.calLoadRegion bad r).calLoadRegions bad t

/-- Encoder filter values enter TOW_TP_CFG.FILT at the load alone (R244). -/
def State.calLoadEnc (s : State) : List Nat → State
  | [] => s
  | n :: t =>
    let f := (Memory.get s.cal.applied (calOffset 3 + 16 + n)).toNat
    (s.wrf (A.towTpCfg n) 8 5 f).calLoadEnc t

/-- The load of power-on and full reset (R244): `bad` names the regions in which it meets an uncorrectable word, `corr` how many words it
corrects (R240). -/
def State.calLoad (s0 : State) (bad : List Nat) (corr : Nat) : State :=
  let s := { s0 with cal := { s0.cal with bad := (rangeFrom 0 64).filter bad.contains } }.bumpBy A.calEccCorr corr
  let s1 := s.wr64 A.calUid (leNat (Memory.read s.cal.store 8 8))
  let s2 := s1.calLoadRegions bad calRegions
  if s2.cal.inUse.contains 3 then s2.calLoadEnc (rangeFrom 0 8) else s2

/-! ## Trims as applied -/

/-- Bytes [o, o+n) of the payload of an applied record. -/
def State.calVal (s : State) (r o n : Nat) : Nat := leNat (Memory.read s.cal.applied (calOffset r + 16 + o) n)

/-! ## Meanings -/

/-- The command ends: CAL_CMD_STAT shows its result, CMD_DONE is raised, a failure is recorded, and each region written is
reported (R237, R242, Table FIO-4).  `corr` is how many words of the store its reads have corrected (R240). -/
def execCalCommandDone (corr : Nat) (s : State) : Host.Outcome State Fault Refusal :=
  match s.cal.run with
  | none => .next s
  | some r =>
    let s1 := { s with cal := { s.cal with run := none } }
    let stat := r.result + r.check * 2 ^ 8 + r.region * 2 ^ 16 + srcCode r.src * 2 ^ 24
    let s2 := ((s1.bumpBy A.calEccCorr corr).wr A.calCmdStat stat).raise 0x370000 8
    .next ((if r.result = 0 then s2.calChanged r.op r.written else s2.pageErr 0x370000 (calErr r.result) r.check).quietEdge 0x370000 true)

end Sys2Proof.Machine
end

