-- ==== Sys2Proof/Machine/Fio.lean ====
section
/-!
DEFINITION. Current loops, GPIO, the management port and the fleet report protocol, and the SMBus interface's own state (R422 to
R437, R515).
-/
namespace Sys2Proof.Machine

/-! ## Current loops (R422 to R427) -/

/-- The low and high failure signals of a loop (Table FIO-2). -/
def State.failLo (s : State) (l : Nat) : Nat := s.rdf (A.fioLFail l) 0 16
def State.failHi (s : State) (l : Nat) : Nat := s.rdf (A.fioLFail l) 16 16

/-- A forcing event stands for a loop (R426): the device is tripped with TRIP_FAIL, or PERMIT is 0 with STOP_FAIL. -/
def State.loopForced (s : State) (l : Nat) : Bool :=
  (s.rdb (A.fioLCfg l) 1 && s.rdb A.thmStat 3) || (s.rdb (A.fioLCfg l) 2 && !s.rdb A.safStat 1)

/-- The target of a loop and its MODE, the first row of R422 that applies. -/
def State.loopTarget (s : State) (l : Nat) : Nat × Nat :=
  if !s.cal.inUse.contains 1 || !s.rdb (A.fioLCfg l) 0 || !s.enabled 0x350000 then (s.failLo l, 0)
  else if s.rdb (A.fioLStat l) 3 then (s.failLo l, 2)
  else if s.loopForced l then (if s.rdb (A.fioLCfg l) 3 then s.failHi l else s.failLo l, 3)
  else (s.rdf (A.fioLCmd l) 0 15, 1)

/-- The mean of the sense conversions of an update as a current in nA: nV across the sense resistor over RSENSE in Ω (R422). -/
def meanCurrent (rsense : Nat) (sense : List Nat) : Nat := sense.sum / (10 * rsense)

/-- A value in nA corrected by the gain and offset that the applied LOOP record holds at `o` (Table CAL-5; log entry 21). -/
def State.loopTrim (s : State) (o : Nat) (na : Int) : Int :=
  if s.cal.inUse.contains 1 then na * (s.calVal 1 o 4 : Nat) / (2 ^ 24 : Nat) + sgn 32 (s.calVal 1 (o + 4) 4) else na

/-- The achieved current in µA, by ADC_GAIN and ADC_OFS. -/
def State.loopAct (s : State) (l raw : Nat) : Nat := (clampI 0 32767 (divNear (s.loopTrim (16 * l + 8) (raw : Int)) 1000)).toNat

/-- What the converter of a loop is set to for a target in µA, in nA, by DAC_GAIN and DAC_OFS. -/
def State.loopDrive (s : State) (l target : Nat) : Int := s.loopTrim (16 * l) ((1000 * target : Nat) : Int)

/-- One update of a loop (R422, R423, R425): the LOOP record applies, the target and MODE, the drive, the achieved current, HEADROOM,
LOW_VLOOP and the two counts.  `raw` is the mean current in nA, `volts` sixteen times the ball voltage in mV, which is read up to the full
scale of 3.000 V (R506, R507). -/
def State.loopStep (s0 : State) (l raw volts : Nat) (full : Bool) : State :=
  let s := s0.calApplyIfPending 1
  let vloop := min 48000 volts
  let (target, mode) := s.loopTarget l
  let act := s.loopAct l raw
  let st := s.rd (A.fioLStat l)
  let head := if !full then false else if act + 50 < target then true else tbit st 2
  let vmin := s.rdf (A.fioLCfg l) 16 16
  let low := if vloop < vmin then true else if vmin + 500 < vloop then false else tbit st 5
  let st1 := putBit (putBit (putBit (putFld st 0 2 mode) 2 head) 5 low) 6 (!s.cal.inUse.contains 1)
  let c := nth {} s.fio.loops l
  let dev : Bool := target + 200 < act || act + 200 < target
  let c1 : LoopCtl := {
    devCnt := if dev then c.devCnt + 1 else 0
    hiCnt := if 21000 ≤ target && head then c.hiCnt + 1 else 0
    drive := s.loopDrive l target }
  let s1 := { s with fio := { s.fio with loops := upd (fun _ => c1) s.fio.loops l } }
  let s2 := (((s1.wr (A.fioLStat l) st1).wr (A.fioLTarget l) target).wr (A.fioLAct l) act).wr (A.fioLVloop l) vloop
  let s3 := if head && !tbit st 2 then s2.raise 0x350000 (26 + l) else s2
  if low && !tbit st 5 then s3.raise 0x350000 28 else s3

/-- One update of a loop from its ten sense conversions; with an RSENSE of 0 the spec gives no current. -/
def State.loopUpdate (s : State) (l : Nat) (sense : List Nat) (volts : Nat) (full : Bool) : State :=
  let rs := s.rdf (A.fioLCfg l) 8 8
  if rs = 0 then (let (v, s1) := s.draw 32; s1.loopStep l v.toNat volts full) else s.loopStep l (meanCurrent rs sense) volts full

/-- A loop fault latches (R425): CAUSE 2 HI_UNREACH holds whatever the deviation, else 1 DEVIATION; OPEN below 100 µA. -/
def State.loopFault (s : State) (l : Nat) : State :=
  let c := nth {} s.fio.loops l
  if s.rdb (A.fioLStat l) 3 || (c.devCnt < 50 && c.hiCnt < 50) then s
  else
    let st := putBit (putFld (s.rd (A.fioLStat l)) 8 2 (if 50 ≤ c.hiCnt then 2 else 1)) 3 true
    let st1 := if s.rd (A.fioLAct l) < 100 then putBit st 4 true else st
    let mode := ((s.wr (A.fioLStat l) st1).loopTarget l).2
    (((s.wr (A.fioLStat l) (putFld st1 0 2 mode)).wr (A.fioLTarget l) (s.failLo l)).raise 0x350000 (24 + l)).pageErr 0x350000 0x0100 l

/-- CLR_FAULT clears FAULT, CAUSE and OPEN and restarts both counts (R425). -/
def State.loopClear (s : State) (l : Nat) : State :=
  let st := putBit (putBit (putFld (s.rd (A.fioLStat l)) 8 2 0) 3 false) 4 false
  { s.wr (A.fioLStat l) st with fio := { s.fio with loops := upd (fun c => { c with devCnt := 0, hiCnt := 0 }) s.fio.loops l } }

/-- FIO_L_CMD takes the nearest limit of 3,000 to 23,000 µA (R422). -/
def limit (lo hi v : Nat) : Nat := if v < lo then lo else if hi < v then hi else v

/-! ## GPIO (R428) -/

/-- The pins are driven anew; while ENABLE is 0 they hold their levels. -/
def State.driveGpio (s : State) : State :=
  if s.enabled 0x350000 then
    { s with fio := { s.fio with drv := (s.rd A.fioGpioDir, s.rd A.fioGpioOut) } }.emit (.gpio (s.rd A.fioGpioDir) (s.rd A.fioGpioOut))
  else s

/-- A pin has stood at a level for `stood` µs after its synchroniser, an output at the level it drives (R428); a level that differs and has
stood for FIO_GPIO_FILT µs passes the filter. -/
def State.gpioEdge (s : State) (n : Nat) (seen : Bool) (stood : Nat) : State :=
  let level := if tbit s.fio.drv.1 n then tbit s.fio.drv.2 n else seen
  if s.rdb A.fioGpioIn n = level || stood < s.rdf A.fioGpioFilt 0 4 then s
  else
    let s1 := { s with fio := { s.fio with gpioMoved := true } }.wrb A.fioGpioIn n level
    let on := if level then s1.rdb A.fioGpioEdge n else s1.rdb A.fioGpioEdge (16 + n)
    if on then s1.raise 0x350000 (8 + n) else s1

/-! ## Fleet report protocol (R429 to R435) -/

/-- The port may send frames: ENABLE, the link up, and the MAC's clock running (R435, R470). -/
def State.mgtUp (s : State) : Bool := s.enabled 0x358000 && s.rdb A.mgtStat 0 && s.runs 49

/-- The MGT block may send messages: the port up, the destination resolved, a key loaded (R434, R435). -/
def State.mgtSends (s : State) : Bool := s.mgtUp && s.rdb A.mgtStat 4 && s.fio.key.isSome

/-- The address the next frame to the fleet manager goes to: itself on the own net or without a gateway, else the gateway
(R429). -/
def State.nextHop (s : State) : Nat :=
  let m := s.rd A.mgtMask
  if s.rd A.mgtGw = 0 || (s.rd A.mgtDstIp &&& m) = (s.rd A.mgtIp &&& m) then s.rd A.mgtDstIp else s.rd A.mgtGw

/-- A message as it is sent (Table FIO-3, R433). -/
def State.datagramOf (s : State) (m : FleetMsg) (retx : Bool) : List Byte :=
  let body := beBytes 2 0x4652 ++ [0x01, BitVec.ofNat 8 m.typ] ++ beBytes 2 m.payload.length ++
    [BitVec.ofNat 8 (s.rdf A.aqdNode 0 7), if retx then 1 else 0] ++ beBytes 8 (s.rd64 A.calUid) ++ beBytes 8 (s.rd64 A.mgtNonce) ++
    beBytes 4 m.seq ++ beBytes 4 (s.rd A.mgtKeyId) ++ beBytes 8 m.time ++ m.payload
  match s.fio.key with
  | some k => body ++ (hmac256 k body).take 16
  | none => body

/-- The 802.1Q tag of the frames sent (R429). -/
def State.vlanTag (s : State) : Option Nat := if s.rdb A.mgtNetCfg 12 then some (s.rdf A.mgtNetCfg 0 12) else none

/-- The port's own MAC and IP address. -/
def State.mgtOwn (s : State) : Nat × Nat := (s.rd64 A.mgtMac % 2 ^ 48, s.rd A.mgtIp)

/-- Send one datagram to the fleet manager, with the DF bit set, and count it. -/
def State.sendMsg (s : State) (m : FleetMsg) (retx : Bool) : State :=
  (s.emit (.datagram s.vlanTag (s.mgtOwn.1, s.fio.peerMac) (s.mgtOwn.2, s.rd A.mgtDstIp) true (s.rd A.mgtPorts) (s.datagramOf m retx))).bump32 A.mgtTx 1

/-- The port takes a received IPv4 frame with `n` bytes behind its IP header: the frame is at most 1,518 bytes without a tag, and a tag is that of
MGT_NET_CFG while VLAN_EN is 1 (R429; log entry 259).  Another frame addressed to it is dropped and counted. -/
def State.rxTakes (s : State) (r : Rx) (n : Nat) : Bool :=
  decide (14 + 20 + n + 4 ≤ 1518) && (match r.tag with | none => true | some _ => r.tag == s.vlanTag)

/-- The queue with MGT_STAT.QUEUED kept. -/
def State.setQueue (s : State) (q : List FleetMsg) : State :=
  { s with fio := { s.fio with queue := q } }.wrf A.mgtStat 8 7 q.length

/-- The HEARTBEAT payload (Table FIO-5). -/
def State.heartbeatPayload (s : State) : List Byte :=
  let b (x : Bool) (i : Nat) : Nat := if x then 2 ^ i else 0
  let flags := b (s.rdb A.thmStat 3) 0 + b (s.rdb A.thmStat 4) 1 + b (s.rdb A.safStat 1) 2 + b (s.rdb A.safStat 2) 3 +
    b (s.rdb A.safStat 3) 4 + b (s.rdb (A.fioLStat 0) 3) 5 + b (s.rdb (A.fioLStat 1) 3) 6 + b s.fio.gpioMoved 7
  [BitVec.ofNat 8 (s.rdf A.aqdNodeStat 0 3), BitVec.ofNat 8 (s.rdf A.thmStat 0 3)] ++ beBytes 2 flags ++ beBytes 2 (s.rd A.thmTmax) ++
    beBytes 2 (s.rd A.thmTIn) ++ beBytes 4 (s.rd A.thmPower) ++ beBytes 4 (s.rd A.wldEpochNewest) ++ beBytes 4 (s.rd A.cndPassSeq) ++
    beBytes 4 s.fio.queue.length

/-- With ACK_EN 0 a message leaves the queue once it has been sent (R432): those that waited for an ACK leave as ACK_EN falls. -/
def State.ackEnWritten (s : State) : State :=
  if s.rdb A.mgtCfg 8 then s
  else (s.setQueue (s.fio.queue.filter (fun m => m.sends = 0))).quietEdge 0x358000 (s.busy 0x358000)

/-- The first queued message that has not been sent and does not wait at the port's input, and the queue with it marked as sent now. -/
def markFirst (now : Nat) : List FleetMsg → Option (FleetMsg × List FleetMsg)
  | [] => none
  | m :: t =>
    if m.sends = 0 && !m.held then some (m, { m with sends := 1, lastSend := now } :: t)
    else (markFirst now t).map (fun x => (x.1, m :: x.2))

/-- The messages that waited at the port's input may be sent once it takes work again (R52). -/
def State.queueFreed (s : State) : State :=
  if s.quiesced 0x358000 then s else { s with fio := { s.fio with queue := s.fio.queue.map (fun m => { m with held := false }) } }

/-- What a received datagram must be to count as an ACK (R433): the SEQ it acknowledges. -/
def State.ackSeq (s : State) (frm : Nat) (bs : List Byte) : Option Nat :=
  let be (a n : Nat) : Nat := leNat ((bs.drop a).take n).reverse
  match s.fio.key with
  | none => none
  | some k =>
    if bs.length = 64 && be 0 2 = 0x4652 && be 2 1 = 1 && be 3 1 = 0x80 && be 4 2 = 8 && be 8 8 = s.rd64 A.calUid &&
        be 0x10 8 = s.rd64 A.mgtNonce && frm = s.rd A.mgtDstIp && bs.drop 48 = (hmac256 k (bs.take 48)).take 16 then some (be 0x28 4)
    else none

/-! ## Meanings -/

def execLoopUpdate (l : Fin 2) (sense : List Nat) (volts : Nat) (full : Bool) (s : State) : Host.Outcome State Fault Refusal :=
  .next (if s.runs 58 then s.loopUpdate l sense volts full else s)

def execLoopFault (l : Fin 2) (s : State) : Host.Outcome State Fault Refusal := .next (s.loopFault l)

def execGpioEdge (n : Fin 16) (level : Bool) (stood : Nat) (s : State) : Host.Outcome State Fault Refusal := .next (s.gpioEdge n level stood)

/-- An ARP request for the device's own address is answered (R429, R435). -/
def execArpRequest (r : Rx) (from_ ip : Nat) (s : State) : Host.Outcome State Fault Refusal :=
  if !(ip = s.rd A.mgtIp && s.mgtUp) then .next s
  else if !s.rxTakes r 8 then .next (s.bump A.mgtRxDrop)
  else .next (s.emit (.arpAnswer s.vlanTag s.mgtOwn (r.mac, from_)))

/-- An ICMP echo request to the device is answered (R429, R435). -/
def execIcmpEcho (r : Rx) (from_ ip : Nat) (data : List Byte) (s : State) : Host.Outcome State Fault Refusal :=
  if !(ip = s.rd A.mgtIp && s.mgtUp) then .next s
  else if !s.rxTakes r (8 + data.length) then .next (s.bump A.mgtRxDrop)
  else .next (s.emit (.icmpReply s.vlanTag s.mgtOwn (r.mac, from_) data))

/-- HB_S seconds have passed (R430, R432): a HEARTBEAT takes the next SEQ and is sent; one that cannot be sent is skipped, and one that falls due
while the port is quiesced waits (R52). -/
def execHeartbeat (s : State) : Host.Outcome State Fault Refusal :=
  let hb := s.rdf A.mgtCfg 0 8
  if hb = 0 || s.quiesced 0x358000 || s.now < s.fio.lastBeat + hb * 1000000000 then .next s
  else
    let s1 := { s with fio := { s.fio with lastBeat := s.now } }
    if !s1.mgtSends then .next s1
    else
      let seq := s1.rd A.mgtSeq
      let s2 := s1.sendMsg { typ := 1, seq := seq, time := s1.now, payload := s1.heartbeatPayload } false
      let s3 := s2.wr A.mgtSeq ((seq + 1) % 2 ^ 32)
      .next { s3 with fio := { s3.fio with gpioMoved := false } }

/-- The next queued message leaves for the first time, at most one per 10 µs (R432). -/
def execMessageSend (s : State) : Host.Outcome State Fault Refusal :=
  let paced := match s.fio.lastFirst with
    | none => true
    | some t => t + 10000 ≤ s.now
  if !s.mgtSends || !paced then .next s
  else match markFirst s.now s.fio.queue with
    | none => .next s
    | some (m, q) =>
      let s1 := s.sendMsg m false
      let s2 := { s1 with fio := { s1.fio with lastFirst := some s.now } }
      .next ((s2.setQueue (if s.rdb A.mgtCfg 8 then q else q.filter (fun x => x.seq ≠ m.seq))).quietEdge 0x358000 (s.busy 0x358000))

/-- RETX_MS ms have passed without an ACK (R432): the message is sent again, or dropped after RETX_N sends. -/
def execRetransmit (seq : Nat) (s : State) : Host.Outcome State Fault Refusal :=
  let ms := max 1 (s.rdf A.mgtCfg 16 8)
  let n := max 1 (s.rdf A.mgtCfg 24 4)
  match s.fio.queue.find? (fun m => m.seq = seq) with
  | none => .next s
  | some m =>
    if m.sends = 0 || s.now < m.lastSend + ms * 1000000 then .next s
    else if n ≤ m.sends then
      .next (((s.setQueue (s.fio.queue.filter (fun x => x.seq ≠ seq))).bump A.mgtUnacked).raise 0x358000 10 |>.quietEdge 0x358000 (s.busy 0x358000))
    else if !s.mgtSends || s.fio.queue.any (fun x => x.sends = 0 && !x.held) then .next s
    else
      let q := s.fio.queue.map (fun x => if x.seq = seq then { x with sends := x.sends + 1, lastSend := s.now } else x)
      .next ((s.sendMsg m true).setQueue q)

/-- A datagram arrives as an ACK (R433): one that verifies removes its message, any other is counted. -/
def execFleetAck (r : Rx) (from_ : Nat) (bytes : List Byte) (s : State) : Host.Outcome State Fault Refusal :=
  if !s.rxTakes r (8 + bytes.length) then .next (s.bump A.mgtRxDrop)
  else match s.ackSeq from_ bytes with
  | some seq => .next ((s.setQueue (s.fio.queue.filter (fun x => x.seq ≠ seq))).quietEdge 0x358000 (s.busy 0x358000))
  | none => .next ((s.bump A.mgtAuthFail).raise 0x358000 11)

/-- Every second an unresolved destination is asked for again (R435). -/
def execArpRetry (s : State) : Host.Outcome State Fault Refusal :=
  if s.rdb A.mgtStat 4 || !s.mgtUp then .next s else .next (s.emit (.arpAsk s.vlanTag s.mgtOwn s.nextHop))

/-- An ARP reply resolves the destination or the gateway (R429, R435). -/
def execArpReply (r : Rx) (ip : Nat) (s : State) : Host.Outcome State Fault Refusal :=
  if ip ≠ s.nextHop then .next s
  else if !s.rxTakes r 8 then .next (s.bump A.mgtRxDrop)
  else .next ({ s with fio := { s.fio with peerMac := r.mac } }.wrb A.mgtStat 4 true)

/-- The SGMII link goes up or down (R429, R435). -/
def execSgmiiLinkChange (up : Bool) (speed : Nat) (s : State) : Host.Outcome State Fault Refusal :=
  .next (((s.wrb A.mgtStat 0 up).wrf A.mgtStat 1 2 speed).raise 0x358000 8)

/-- A frame the port does not support is dropped and counted (R429). -/
def execUnsupportedFrame (s : State) : Host.Outcome State Fault Refusal := .next (s.bump A.mgtRxDrop)

/-- Whether an SMBus transfer passes its packet error code (R436): with PEC 1 every transfer must carry a right one. -/
def State.pecFails (s : State) (pec : Bool) : Bool := s.rdb A.mgtSmbCfg 1 && !pec

/-- The SMBus address of the device (R436). -/
def State.smbOwn (s : State) : Nat := 0x58 + s.rdf A.sysStraps 8 2

/-- The bytes `bs` that the target returns, with their packet error code while PEC is 1; `head` are the bytes of the transfer before them. -/
def State.smbReturn (s : State) (head bs : List Byte) : State :=
  s.emit (.smbusData (if s.rdb A.mgtSmbCfg 1 then bs ++ [BitVec.ofNat 8 (smbPec (head ++ bs))] else bs))

/-- The head of a read of command `code`: the address to write, the code, and the address to read. -/
def State.smbHead (s : State) (code : Nat) : List Byte := [2 * s.smbOwn, code, 2 * s.smbOwn + 1].map (BitVec.ofNat 8)

/-- A block write whose command is not that of another row of Table FIO-6: SET_ADDR, or a wrong code, which is NACKed at its command byte; a
wrong count is NACKed at its count byte, a failed PEC discarded and counted. -/
def execSetAddr (code addr count : Nat) (pec : Bool) (s : State) : Host.Outcome State Fault Refusal :=
  if code ≠ 1 then .next (if code = 2 || code = 3 || code = 0x10 then s else s.emit .smbusNack)
  else if count ≠ 4 then .next (s.emit .smbusNack)
  else if s.pecFails pec then .next (s.bump A.mgtSmbErr)
  else .next { s with fio := { s.fio with smbAddr := addr % 2 ^ 32 } }

/-- SCL held low resets the SMBus interface and is counted (R515). -/
def execSmbusTimeout (s : State) : Host.Outcome State Fault Refusal := .next (s.bump A.mgtSmbErr)

end Sys2Proof.Machine
end

