-- ==== Sys2Proof/Machine/Tow.lean ====
section
/-!
DEFINITION. Towpath time: encoder counting, position jumps, the judgement of event-table entries on a movement, arming, trigger
outputs and the pass timer (R59 to R85, R522).
-/
namespace Sys2Proof.Machine

/-! ## Positions -/

/-- The position of towpath `n` (T48). -/
def State.tpPos (s : State) (n : Nat) : Nat := s.rd64 (A.towTpPos n) % 2 ^ 48

/-- A towpath beside its registers. -/
def State.path (s : State) (n : Nat) : TowPath := nth {} s.tow.paths n

/-- Change a towpath. -/
def State.setPath (s : State) (n : Nat) (f : TowPath → TowPath) : State :=
  { s with tow := { s.tow with paths := upd f s.tow.paths n } }

/-- The position a history shows at time `t`: the position before the first change after `t`, else the present one. -/
def histAt (t now : Nat) : List (Nat × Nat × Int) → Nat
  | [] => now
  | (u, before, _) :: rest => if t < u then histAt t before rest else now

/-- The position of towpath `n` on an earlier tick. -/
def State.tpPosAt (s : State) (n t : Nat) : Nat := histAt t (s.tpPos n) (s.path n).hist

/-- All nine positions on one tick (R59, R65). -/
def State.tpAllAt (s : State) (t : Nat) : List Nat := (rangeFrom 0 9).map (fun n => s.tpPosAt n t)

/-- Counts moved in the last millisecond, and whether any movement was counted. -/
def movedIn (now : Nat) : List (Nat × Nat × Int) → Int × Bool
  | [] => (0, false)
  | (u, _, d) :: rest =>
    if u + 1000000 ≤ now then (0, false) else ((movedIn now rest).1 + d, (movedIn now rest).2 || d ≠ 0)

/-- TOW_TP_VEL: signed counts/s over the last millisecond; a rate that the field cannot hold is a free value (log entry 22). -/
def State.tpVel (s : State) (n : Nat) : Nat :=
  let v := (movedIn s.now (s.path n).hist).1 * 1000
  if -(2 ^ 31) ≤ v && v < 2 ^ 31 then enc 32 v else (Config.freeValue 32 s.freeCnt).toNat

/-- TOW_TP_STAT with MOVING as it stands. -/
def State.tpStat (s : State) (n : Nat) : Nat := putBit (s.rd (A.towTpStat n)) 1 (movedIn s.now (s.path n).hist).2

/-- A new position enters the register and the history; two milliseconds of history are kept. -/
def State.putPos (s : State) (n new : Nat) (d : Int) : State :=
  let s1 := s.setPath n (fun p => { p with hist := (s.now, s.tpPos n, d) :: p.hist.filter (fun h => s.now < h.1 + 2000000) })
  s1.wr64 (A.towTpPos n) (new % 2 ^ 48)

/-! ## The event table (R67 to R73) -/

/-- The base address of the page of entry `e`, and the address of its word `w` (R67). -/
def entryPage (e : Nat) : Nat := 0x12000 + e / 128 * 0x1000
def entryWord (e w : Nat) : Nat := entryPage e + 0x40 + e % 128 * 16 + w * 4

/-- The armed contents of entry `e`. -/
def State.entry (s : State) (e : Nat) : TowEntry :=
  match s.tow.entries.find? (fun x => x.1 = e) with
  | some x => x.2
  | none => {}

/-- Replace the contents of entry `e`; W1.ARM and TOW_ARMED_CNT follow the armed state (R68). -/
def State.setEntry (s : State) (e : Nat) (x : TowEntry) : State :=
  let l := (s.tow.entries.filter (fun y => y.1 ≠ e)) ++ [(e, x)]
  let s1 := { s with tow := { s.tow with entries := l } }
  (s1.wrb (entryWord e 1) 23 x.armed).wr A.towArmedCnt (l.filter (fun y => y.2.armed)).length

/-- DIR of an entry admits a forward crossing; a reverse one. -/
def dirFwd (x : TowEntry) : Bool := x.dir == 0 || x.dir == 2
def dirRev (x : TowEntry) : Bool := x.dir == 1 || x.dir == 2

/-- The backstop of an entry expires at this time. -/
def expiry (x : TowEntry) : Nat := x.armedAt + x.backstop * 1000

/-- An entry takes a fresh backstop and stands armed. -/
def rearmed (x : TowEntry) (pos now : Nat) : TowEntry :=
  { x with armed := true, crossed := none, waitRearm := false, pos := pos, armedAt := now }

/-- Whether a waiting one-shot entry re-arms at signed distance `d` (R72). -/
def rearms (x : TowEntry) (hyst : Nat) (d : Int) : Bool :=
  if x.dir = 0 then d ≤ -(max hyst 1 : Nat) else if x.dir = 1 then (hyst : Int) ≤ d
  else d ≤ -(max hyst 1 : Nat) || (max hyst 1 : Nat) ≤ d

/-- Judge one entry on a movement of its towpath (R69, R70, R72, R522): a crossing while its page is enabled and its backstop
has not passed is remembered for the next tick. -/
def State.judge (s : State) (n old new e : Nat) (x : TowEntry) : State :=
  if x.tp ≠ n then s
  else
    let d0 := t48Diff old x.pos
    let d1 := t48Diff new x.pos
    if x.armed then
      let cross : Bool := (decide (d0 < 0) && decide (0 ≤ d1) && dirFwd x) || (decide (0 ≤ d0) && decide (d1 < 0) && dirRev x)
      if cross && s.enabled (entryPage e) && decide (s.now / 10 ≤ expiry x / 10) then s.setEntry e { x with crossed := some s.now } else s
    else if x.waitRearm && rearms x (s.rdf (A.towTpCfg n) 16 8) d1 then s.setEntry e (rearmed x x.pos s.now)
    else s

/-- Judge every entry. -/
def State.judgeAll (s : State) (n old new : Nat) : List (Nat × TowEntry) → State
  | [] => s
  | (e, x) :: t => (s.judge n old new e x).judgeAll n old new t

/-- A counted movement (R59, R60): position, direction, reversals and crossings.  A jump is no movement (R63), so it does not touch the
direction of the last one: the first movement after a jump is held against the last movement before it (DEDUCED, log entry 55). -/
def State.tpMove (s : State) (n : Nat) (d : Int) : State :=
  if d = 0 then s
  else
    let old := s.tpPos n
    let new := ((old + d) % (2 ^ 48 : Nat)).toNat
    let rev : Bool := decide (d < 0)
    let turn := (s.path n).lastRev == some (!rev)
    let s1 := ((s.putPos n new d).setPath n (fun p => { p with lastRev := some rev })).wrb (A.towTpStat n) 0 rev
    let s2 := if turn then (s1.bump (A.towTpRevCnt n)).raise (0x17000 + n * 0x1000) 12 else s1
    s2.judgeAll n old new s2.tow.entries

/-- A jump (R63): the position changes and no entry is judged. -/
def State.tpJump (s : State) (n new : Nat) : State := s.putPos n new 0

/-- The faults of R68 that keep an entry disarmed. -/
def entryBad (x : TowEntry) : Bool :=
  8 < x.tp || x.dir == 3 || 6 < x.action || x.backstop == 0 || (x.action == 1 && x.arg1 == 0) ||
    (if x.action = 1 then 16 ≤ x.arg0 else if x.action = 4 then 16 ≤ x.arg0 || x.arg1 ≠ 0 else x.arg0 ≠ 0 || x.arg1 ≠ 0) ||
    (x.dir == 2 && x.step ≠ 0)

/-- The write of W1 (R68, R69): it arms the entry with the staged words, or disarms it. -/
def State.writeW1 (s : State) (e w1 : Nat) : State :=
  let w0 := s.rd (entryWord e 0)
  let w2 := s.rd (entryWord e 2)
  let w3 := s.rd (entryWord e 3)
  let x : TowEntry := {
    armed := true, pos := w0 + fld w1 0 16 * 2 ^ 32, tp := fld w1 16 4, dir := fld w1 20 2, rearm := tbit w1 22
    action := fld w1 24 4, log := tbit w1 28, backstop := fld w2 0 24, arg0 := fld w2 24 8, step := fld w3 0 16
    arg1 := fld w3 16 16, armedAt := s.now }
  if !tbit w1 23 then s.setEntry e { s.entry e with armed := false, crossed := none, waitRearm := false }
  else if entryBad x then
    (s.setEntry e { s.entry e with armed := false, crossed := none, waitRearm := false }).pageErr (entryPage e) 0x0100 e
  else
    let d := t48Diff (s.tpPos x.tp) x.pos
    let past : Bool := (x.dir == 0 && decide (0 ≤ d)) || (x.dir == 1 && decide (d < 0))
    s.setEntry e { x with crossed := if past && s.enabled (entryPage e) then some s.now else none }

/-! ## Encoders (R60 to R63) -/

/-- MODE of towpath `n`. -/
def State.tpMode (s : State) (n : Nat) : Nat := s.rdf (A.towTpCfg n) 0 2

/-- The place of a quadrature state in the order a forward movement takes: A leads B. -/
def quadIdx (ab : Bool × Bool) : Nat :=
  match ab with
  | (false, false) => 0
  | (true, false) => 1
  | (true, true) => 2
  | (false, true) => 3

/-- A filtered change of A or B: the levels are the new reference, and in quadrature mode without loss of signal each edge
counts (R60, R61). -/
def State.quad (s : State) (n : Nat) (ab : Bool × Bool) : State :=
  let s1 := s.setPath n (fun p => { p with refAB := ab })
  let r := (s.path n).refAB
  if s.tpMode n ≠ 1 || s.rdb (A.towTpStat n) 2 || r = ab then s1
  else if r.1 ≠ ab.1 && r.2 ≠ ab.2 then (s1.bump (A.towTpQerrCnt n)).raise (0x17000 + n * 0x1000) 10
  else
    let up : Bool := quadIdx ab == (quadIdx r + 1) % 4
    s1.tpMove n (if up != s.rdb (A.towTpCfg n) 2 then 1 else -1)

/-- The binary value of a Gray code word of `k` more bits. -/
def grayDec (w : Nat) : Nat → Nat
  | 0 => w
  | k + 1 => (w / 2 ^ (k + 1)) ^^^ grayDec w k

/-- An input of the encoder (A and B, Z, ENCe_LOS_N) has stood at its level for `stable` ticks after the synchroniser: it passes the filter
of FILT ticks, where 0 acts as 1 (R60, R510).  The inputs are sampled in the TPS domain (R469). -/
def State.filtPass (s : State) (n stable : Nat) : Bool := s.runs 51 && decide (max (s.rdf (A.towTpCfg n) 8 5) 1 ≤ stable)

/-- BITS of the SSI word, and whether it lies in 8 to 32. -/
def State.ssiBits (s : State) (n : Nat) : Nat := s.rdf (A.towTpSsiCfg n) 0 6
def State.ssiOk (s : State) (n : Nat) : Bool := 8 ≤ s.ssiBits n && s.ssiBits n ≤ 32

/-- Half a period of the SSI clock of towpath `n` in ns (R62): CLKDIV below 4 acts as 4. -/
def State.ssiHalf (s : State) (n : Nat) : Nat := (max (s.rdf (A.towTpSsiCfg n) 8 8) 4 + 1) * 10

/-- How long a read of towpath `n` takes in ns, from its first falling edge to the idle check at the end of the 25 µs pause (R62, R511,
Timing ELC-1): half a clock period, BITS periods, and the pause. -/
def State.ssiTime (s : State) (n : Nat) : Nat := s.ssiHalf n + s.ssiBits n * (2 * s.ssiHalf n) + 25000

/-- The level of ENCe_SCLK (R491, R511): high but in SSI mode during a read, which begins with a falling edge and has BITS + 1 rising
ones. -/
def State.encSclk (s : State) (n : Nat) : Bool :=
  let d := s.now - (s.path n).ssiPoll
  !(s.tpMode n = 2 && (s.path n).ssiBusy && d < s.ssiHalf n * (2 * s.ssiBits n + 1) && d / s.ssiHalf n % 2 = 0)

/-- BAD_SSI_CFG is recorded when BITS stands outside 8 to 32 in SSI mode. -/
def State.ssiCheck (s : State) (n : Nat) : State :=
  if s.tpMode n = 2 && !s.ssiOk n then s.pageErr (0x17000 + n * 0x1000) 0x0101 0 else s

/-- The end of an SSI read (R62, R63, R511), which comes no earlier than the idle check: `word` holds BITS bits as clocked in, `err` the
error bit, `open_` that the data line does not return to idle.  Table TOW-9 calls the last bit an error flag and does not say whether it
is one of the BITS bits: the model takes it as one more, beside all BITS bits of the position (DESIGN CHOICE, log entry 207). -/
def State.ssiDone (s : State) (n word : Nat) (err open_ : Bool) : State :=
  if !(s.path n).ssiBusy || s.now < (s.path n).ssiPoll + s.ssiTime n then s
  else
    let s1 := s.setPath n (fun p => { p with ssiBusy := false })
    if s.tpMode n ≠ 2 || !s.ssiOk n then s1
    else if open_ || (err && s.rdb (A.towTpSsiCfg n) 7) then
      ((s1.bump (A.towTpSsiErrCnt n)).wrb (A.towTpStat n) 3 true).raise (0x17000 + n * 0x1000) 11
    else
      let b := s.ssiBits n
      let v := if s.rdb (A.towTpSsiCfg n) 6 then grayDec (word % 2 ^ b) b else word % 2 ^ b
      let s2 := (s1.setPath n (fun p => { p with ssiPrev := some v })).wrb (A.towTpStat n) 3 false
      match (s.path n).ssiPrev with
      | none => s2.tpJump n v
      | some p => s2.tpMove n (sgn b ((v + 2 ^ b - p) % 2 ^ b))

/-- An index rising edge (R63): only the quadrature mode has an index input (R491). -/
def State.index (s : State) (n : Nat) : State :=
  let z := s.rdf (A.towTpCfg n) 3 2
  if s.tpMode n ≠ 1 || z = 0 || z = 3 then s
  else if z = 2 && (s.path n).zFirst then
    (s.setPath n (fun p => { p with zFirst := false })).tpJump n (s.rd64 (A.towTpSetPos n))
  else (s.wr64 (A.towTpZlatch n) (s.tpPos n)).raise (0x17000 + n * 0x1000) 8

/-- The write of TOW_TP_SET_POS (R63): a jump, but in SET_ONCE only a load. -/
def State.setPos (s : State) (n v : Nat) : State :=
  if n < 8 && s.rdf (A.towTpCfg n) 3 2 = 2 then s else s.tpJump n v

/-- The write of TOW_TP_CFG (R85): a reserved MODE or ZMODE restores the register; a new MODE drops what the old mode knew.  On
towpath 8, where MODE cannot be written (R64), the spec does not say whether a write with MODE 3 is refused; the model refuses it whole,
as on the other towpaths (DESIGN CHOICE, log entry 208). -/
def State.tpCfg (s : State) (n old v : Nat) : State :=
  if fld v 0 2 = 3 || fld v 3 2 = 3 then (s.wr (A.towTpCfg n) old).pageErr (0x17000 + n * 0x1000) 0x0102 0
  else if n = 8 then s.wrf (A.towTpCfg n) 0 2 0
  else
    let s1 := s.setPath n (fun p => { p with zFirst := fld v 3 2 == 2 })
    let s2 :=
      if fld old 0 2 = fld v 0 2 then s1
      else (s1.setPath n (fun p => { p with ssiPrev := none, ssiBusy := false })).wrf (A.towTpStat n) 2 2 0
    s2.ssiCheck n

/-- One tick of the synthetic towpath (R64). -/
def State.synTick (s : State) : State :=
  if !s.rdb A.towCtrl 1 then s
  else
    let a := (s.path 8).frac + s.rd A.towSynStep
    (s.setPath 8 (fun p => { p with frac := a % 2 ^ 24 })).tpMove 8 (a / 2 ^ 24 : Nat)

/-! ## Trigger outputs (R75, R76, R522) -/

/-- One trigger output. -/
def State.trg (s : State) (n : Nat) : TrgOut := nth {} s.tow.trg n

/-- Change a trigger output; TOW_TRG_STAT follows it. -/
def State.setTrg (s : State) (n : Nat) (x : TrgOut) : State :=
  let s1 := { s with tow := { s.tow with trg := upd (fun _ => x) s.tow.trg n } }
  (s1.wrb A.towTrgStat n (x.running.isSome || x.pending.isSome)).wrb A.towTrgStat (16 + n) x.pending.isSome

/-- A trigger is dropped and counted. -/
def State.trgDrop (s : State) (n : Nat) : State := (s.bump (A.towTrgOvr n)).raise 0x10000 11

/-- A pulse sequence starts on tick `start`; DELAY is the one that stands on that tick (`State.trgDelay`). -/
def State.trgStart (s : State) (n start width : Nat) : State :=
  s.setTrg n { s.trg n with running := some { start := start, delay := s.rdf (A.towTrgDly n) 0 16, width := width }, pending := none }

/-- A write of TOW_TRG_DLY before the start tick of a sequence that has been fired: the sequence reads it on its start tick (R75). -/
def State.trgDelay (s : State) (n : Nat) : State :=
  match (s.trg n).running with
  | some q => if s.now < q.start then s.setTrg n { s.trg n with running := some { q with delay := s.rdf (A.towTrgDly n) 0 16 } } else s
  | none => s

/-- TOW_TRG_STAT: ACTIVE is 1 from the start tick of a sequence on (R75). -/
def State.trgStatNow (s : State) : Nat :=
  (rangeFrom 0 16).foldl (fun v n => match (s.trg n).running with
    | some q => if s.now < q.start then putBit v n false else v
    | none => v) (s.rd A.towTrgStat)

/-- The level of the pin of output `n` (R75): the active level, by POL, during the pulse while OE is 1, else the inactive one. -/
def State.trgPin (s : State) (n : Nat) : Bool :=
  let inPulse := match (s.trg n).running with
    | some q => decide (q.start + q.delay * 10 ≤ s.now) && decide (s.now < q.start + (q.delay + q.width) * 10)
    | none => false
  (inPulse && s.rdb (A.towTrgCfg n) 1) != s.rdb (A.towTrgCfg n) 0

/-- A TRIGGER firing arrives at an output: it starts a sequence, waits for the running one, or is dropped (R76, R522); while the page is
quiesced it is held at the input (R52). -/
def State.trigger (s : State) (n width : Nat) : State :=
  if s.enabled 0x11000 && s.quiesced 0x11000 then { s with waitIn := s.waitIn ++ [(0x11000, .pulse n width)] }
  else if !s.enabled 0x11000 || (s.trg n).pending.isSome then s.trgDrop n
  else match (s.trg n).running with
    | none => s.trgStart n (s.now + 10) width
    | some _ => s.setTrg n { s.trg n with pending := some width }

/-- The latest active edge of an output that has come: its time and the nine positions of its tick (R94).  Pulses run while OE is 0 (R75),
and their edges count, though the pin does not show them (DESIGN CHOICE, log entry 247). -/
def State.latestEdge (s : State) (n : Nat) : Option (Nat × List Nat) :=
  match (s.trg n).running with
  | some q => if q.start + q.delay * 10 ≤ s.now then some (q.start + q.delay * 10, s.tpAllAt (q.start + q.delay * 10)) else (s.trg n).edge
  | none => (s.trg n).edge

/-- The running sequence of an output is over (R75): delay, pulse and two inactive ticks have passed. -/
def State.trgEnd (s : State) (n : Nat) : State :=
  match (s.trg n).running with
  | none => s
  | some q =>
    if s.now < q.start + (q.delay + q.width + 2) * 10 then s
    else ((s.setTrg n { s.trg n with running := none, edge := s.latestEdge n }).emit
      (.trigger n (q.start + q.delay * 10) q.width)).quietEdge 0x11000 (s.busy 0x11000)

/-- The pending pulse of an output starts, or is dropped while the trigger page is disabled. -/
def State.trgPending (s : State) (n : Nat) : State :=
  match (s.trg n).running, (s.trg n).pending with
  | none, some w =>
    if s.enabled 0x11000 then s.trgStart n s.now w
    else ((s.setTrg n { s.trg n with pending := none }).trgDrop n).quietEdge 0x11000 (s.busy 0x11000)
  | _, _ => s

/-- While the trigger page is disabled no sequence starts (R522): one whose start tick is still to come and a pending pulse are dropped
and counted. -/
def State.trgDisabled (s : State) (n : Nat) : State :=
  let s1 := match (s.trg n).running with
    | some q => if s.now < q.start then (s.setTrg n { s.trg n with running := none }).trgDrop n else s
    | none => s
  if (s1.trg n).pending.isSome then (s1.setTrg n { s1.trg n with pending := none }).trgDrop n else s1

/-! ## The pass timer (R77, R79) -/

/-- A pass open is asked for; those of one tick meet on one DCLK edge and are one (R29). -/
def State.askOpen (s : State) : State :=
  if s.req.opens.contains s.now then s else { s with req := { s.req with opens := s.req.opens ++ [s.now] } }

/-- An event-table entry asks for a pass open.  Of two entries of one tick the lower index arrives first (R73), and the second one's open
merges into it: it is counted and raises PASS_OVR (R77; DEDUCED, log entry 209). -/
def State.eventOpen (s : State) : State :=
  if s.req.event = some s.now then (s.bump A.towPassOvr).raise 0x10000 10
  else { s.askOpen with req := { s.askOpen.req with event := some s.now } }

/-- A gate close is asked for; those of one tick are one (R29).  Whether two CLOSE_GATE firings of one tick that find no pass open count
once or twice in TOW_CLOSE_IDLE_CNT the spec leaves open; the model counts once (DESIGN CHOICE, log entry 209). -/
def State.askClose (s : State) : State :=
  if s.req.closes.contains s.now then s else { s with req := { s.req with closes := s.req.closes ++ [s.now] } }

/-- The write of TOW_CTRL: TIMER_EN starts the timer one period later. -/
def State.towCtrlWrite (s : State) (old v : Nat) : State :=
  if tbit v 0 && !tbit old 0 then { s with tow := { s.tow with timerAt := s.now + s.rdf A.towPassPeriod 0 14 * 1000 } } else s

/-- The period of the pass timer is over: a pass opens if the global page is enabled (R522; held while it is quiesced, R52), and the next
period begins. -/
def State.passTimer (s : State) : State :=
  if !s.rdb A.towCtrl 0 || s.now < s.tow.timerAt then s
  else
    let s1 := { s with tow := { s.tow with timerAt := s.tow.timerAt + s.rdf A.towPassPeriod 0 14 * 1000 } }
    if s1.enabled 0x10000 then s1.offerWork 0x10000 .passOpen State.askOpen else s1

/-! ## Meanings -/

/-- A and B stand at new levels, `stable` ticks long; a change that does not pass the filter is not seen (R60). -/
def execQuadTransition (tp : Fin 8) (a b : Bool) (stable : Nat) (s : State) : Host.Outcome State Fault Refusal :=
  .next (if s.filtPass tp stable then s.quad tp (a, b) else s)

/-- Loss of signal on a quadrature input: ENCe_LOS_N has been low for `stable` ticks (R61, R510). -/
def execEncLoss (tp : Fin 8) (stable : Nat) (s : State) : Host.Outcome State Fault Refusal :=
  if !s.filtPass tp stable || s.tpMode tp ≠ 1 || s.rdb (A.towTpStat tp) 2 then .next s
  else .next ((s.wrb (A.towTpStat tp) 2 true).raise (0x17000 + tp * 0x1000) 9)

/-- The signal returns, ENCe_LOS_N high for `stable` ticks, with A and B at some state, from which counting goes on (R61, R510). -/
def execEncLossEnd (tp : Fin 8) (a b : Bool) (stable : Nat) (s : State) : Host.Outcome State Fault Refusal :=
  if !s.filtPass tp stable || !s.rdb (A.towTpStat tp) 2 then .next s
  else .next ((s.wrb (A.towTpStat tp) 2 false).setPath tp (fun p => { p with refAB := (a, b) }))

/-- A poll starts once POLL µs have passed since the last one and the frame before it is over, with its pause (R62, R511). -/
def execSsiPoll (tp : Fin 8) (s : State) : Host.Outcome State Fault Refusal :=
  let p := s.path tp
  if s.tpMode tp ≠ 2 || !s.ssiOk tp || p.ssiBusy || s.now < p.ssiPoll + s.rdf (A.towTpSsiCfg tp) 16 16 * 1000 then .next s
  else .next ((s.setPath tp (fun q => { q with ssiBusy := true, ssiPoll := s.now })).emit (.ssiClock tp (s.ssiHalf tp) (s.ssiBits tp + 1)))

def execSsiReadDone (tp : Fin 8) (word : Nat) (err busy : Bool) (s : State) : Host.Outcome State Fault Refusal :=
  .next (if s.runs 51 then s.ssiDone tp word err busy else s)

/-- An index pulse, high for `stable` ticks (R63, R510). -/
def execIndexPulse (tp : Fin 8) (stable : Nat) (s : State) : Host.Outcome State Fault Refusal :=
  .next (if s.filtPass tp stable then s.index tp else s)

def execPendingPulseStart (n : Fin 16) (s : State) : Host.Outcome State Fault Refusal := .next (s.trgPending n)

def execPulseSequenceEnd (n : Fin 16) (s : State) : Host.Outcome State Fault Refusal := .next (s.trgEnd n)

def execPassTimer (s : State) : Host.Outcome State Fault Refusal := .next s.passTimer

def execSynTick (s : State) : Host.Outcome State Fault Refusal := .next s.synTick

end Sys2Proof.Machine
end

