-- ==== Sys2Proof/Machine/Cq.lean ====
section
/-!
DEFINITION. Completion rings and pass result rings in host memory (R336 to R338, R340).
-/
namespace Sys2Proof.Machine

/-- A LOG2SZ field, taken to the nearest size its table allows (log entry 23). -/
def ringSize (lo hi v : Nat) : Nat := 2 ^ limit lo hi v

/-- The entries of completion ring `n`. -/
def State.cqSize (s : State) (n : Nat) : Nat := ringSize 4 16 (s.rdf (A.hstCqCfg n) 2 5)

/-- A completion ring beside its registers. -/
def State.cq (s : State) (n : Nat) : CqRing := nth {} s.hst.cq n

/-- Change a completion ring; HST_CQ_HELD follows its overflow store. -/
def State.setCq (s : State) (n : Nat) (r : CqRing) : State :=
  { s with hst := { s.hst with cq := upd (fun _ => r) s.hst.cq n } }.wr (A.hstCqHeld n) r.held.length

/-- Records in the ring: PI - CI modulo 2^32. -/
def State.cqUsed (s : State) (n : Nat) : Nat := (s.rd (A.hstCqPi n) + 2 ^ 32 - s.rd (A.hstCqCi n)) % 2 ^ 32

/-- The message of ring `n` if one is due after a shadow write (R338). -/
def State.cqSignal (s : State) (n : Nat) : State :=
  let r := s.cq n
  let us := s.rdf (A.hstCqCoal n) 0 16
  if !s.rdb (A.hstCqCfg n) 1 || r.unsig = 0 then s
  else if max 1 (s.rdf (A.hstCqCfg n) 24 8) ≤ r.unsig || r.firstAt + us * 1000 ≤ s.now then
    (s.setCq n { r with unsig := 0 }).sendMsix (s.rdf (A.hstCqCfg n) 8 11)
  else s

/-- Write a record and the shadow PI to host memory (R336). -/
def State.cqWrite (s : State) (n : Nat) (rec : List Byte) : State :=
  let pi := s.rd (A.hstCqPi n)
  let r := s.cq n
  let s1 := s.emit (.hostWrite (s.rd64 (A.hstCqBase n) + 16 * (pi % s.cqSize n)) rec)
  let s2 := s1.wr (A.hstCqPi n) ((pi + 1) % 2 ^ 32)
  let s3 := s2.emit (.hostWrite (s.rd64 (A.hstCqShadow n)) (leBytes 4 ((pi + 1) % 2 ^ 32)))
  (s3.setCq n { r with unsig := r.unsig + 1, firstAt := if r.unsig = 0 then s.now else r.firstAt }).cqSignal n

/-- A completion record for ring `n`: written, held in the overflow store, or dropped and counted (R337). -/
def State.cqPush (s : State) (n : Nat) (rec : List Byte) : State :=
  let r := s.cq n
  let lost := (s.bump (A.hstCqLost n)).raise 0x312000 8
  if !s.rdb (A.hstCqCfg n) 0 then lost
  else if s.cqUsed n < s.cqSize n && r.held.isEmpty then s.cqWrite n rec
  else if r.held.length < 64 then s.starting 0x312000 (fun t => t.setCq n { r with held := r.held ++ [rec] })
  else lost

/-- Records leave the overflow store while the ring has room. -/
def State.cqDrain (s : State) (n : Nat) : List (List Byte) → State
  | [] => s
  | rec :: t =>
    if s.rdb (A.hstCqCfg n) 0 && s.cqUsed n < s.cqSize n then ((s.setCq n { s.cq n with held := t }).cqWrite n rec).cqDrain n t
    else s

/-- The write of a completion ring's CI (R337). -/
def State.cqCi (s : State) (n : Nat) : State := (s.cqDrain n (s.cq n).held).quietEdge 0x312000 (s.busy 0x312000)

/-- The write of HST_CQ_CFG: enabling the ring sets PI and CI to 0 and empties its store (R336, log entry 24). -/
def State.cqCfg (s : State) (n old v : Nat) : State :=
  if tbit v 0 && !tbit old 0 then
    (((s.wr (A.hstCqPi n) 0).wr (A.hstCqCi n) 0).setCq n {}).quietEdge 0x312000 (s.busy 0x312000)
  else s

/-- COAL_US has passed since the first unsignalled record. -/
def State.cqTimer (s : State) (n : Nat) : State :=
  let r := s.cq n
  if r.unsig ≠ 0 && r.firstAt + s.rdf (A.hstCqCoal n) 0 16 * 1000 ≤ s.now then s.cqSignal n else s

/-! ## Pass result rings (R340) -/

/-- The entries of the pass result ring of robot `r`. -/
def State.prSize (s : State) (r : Nat) : Nat := ringSize 1 8 (s.rdf (A.hstPrCfg r) 2 4)

/-- A pass result record of robot `r`: written, over the oldest entry when the ring is full, or counted while the ring is
disabled. -/
def State.prPush (s : State) (r : Nat) (rec : List Byte) : State :=
  if !s.rdb (A.hstPrCfg r) 0 then s.bump (A.hstPrOverrun r)
  else
    let pi := s.rd (A.hstPrPi r)
    let ci := s.rd (A.hstPrCi r)
    let full : Bool := (pi + 2 ^ 32 - ci) % 2 ^ 32 == s.prSize r
    let s1 := if full then ((s.wr (A.hstPrCi r) ((ci + 1) % 2 ^ 32)).bump (A.hstPrOverrun r)).raise 0x310000 10 else s
    let s2 := s1.emit (.hostWrite (s.rd64 (A.hstPrBase r) + 0x940 * (pi % s.prSize r)) rec)
    let s3 := s2.wr (A.hstPrPi r) ((pi + 1) % 2 ^ 32)
    let s4 := s3.emit (.hostWrite (s.rd64 (A.hstPrShadow r)) (leBytes 4 ((pi + 1) % 2 ^ 32)))
    if s4.rdb (A.hstPrCfg r) 1 then s4.sendMsix (s4.rdf (A.hstPrCfg r) 8 11) else s4

/-- The write of HST_PR_CFG: enabling the ring sets PI and CI to 0. -/
def State.prCfg (s : State) (r old v : Nat) : State :=
  if tbit v 0 && !tbit old 0 then (s.wr (A.hstPrPi r) 0).wr (A.hstPrCi r) 0 else s

def execCqCoalesceTimer (n : Fin 64) (s : State) : Host.Outcome State Fault Refusal := .next (s.cqTimer n)

end Sys2Proof.Machine
end

