-- ==== Sys2Proof/Machine/Dsp.lean ====
section
/-!
DEFINITION. The dispatcher: offers, basins, locks, the choice of work for an engine, pre-emption, PULL delivery, deadlines,
completion, flush and watchdog (R255 to R277).
-/
namespace Sys2Proof.Machine

/-! ## The descriptor (Table DSP-2) -/

def Barge.w (b : Barge) (i : Nat) : Nat := nth 0 b.words i
def Barge.lock (b : Barge) : Nat := fld (b.w 0) 0 16
def Barge.basin (b : Barge) : Nat := fld (b.w 0) 16 5
def Barge.prio (b : Barge) : Nat := fld (b.w 0) 21 3
def Barge.preempt (b : Barge) : Bool := tbit (b.w 0) 24
def Barge.secure (b : Barge) : Bool := tbit (b.w 0) 25
def Barge.passBound (b : Barge) : Bool := tbit (b.w 0) 26
def Barge.prog (b : Barge) : Nat := fld (b.w 1) 0 20
def Barge.tag (b : Barge) : Nat := b.w 7
def Barge.caddr (b : Barge) : Nat := b.w 8 + b.w 9 * 2 ^ 32

/-- The deadline of a barge has passed (R266). -/
def State.bargeLate (s : State) (b : Barge) : Bool :=
  (tbit (b.w 0) 27 && decide (0 ≤ t48Diff (s.tpPos (fld (b.w 1) 20 4)) ((b.w 2 + b.w 3 * 2 ^ 32) % 2 ^ 48))) ||
    (tbit (b.w 0) 28 && b.w 4 + b.w 5 * 2 ^ 32 ≤ s.now) ||
    (b.passBound && !(s.pass.isOpen && b.gate == some s.pass.num))

/-! ## Engines and who is in service -/

/-- One engine. -/
def State.eng (s : State) (e : Nat) : Engine := nth {} s.dsp.engines e

/-- Change one engine. -/
def State.setEng (s : State) (e : Nat) (f : Engine → Engine) : State :=
  { s with dsp := { s.dsp with engines := upd f s.dsp.engines e } }

/-- The contexts on an engine: the running one, then the saved ones, newest first. -/
def Engine.ctxs (g : Engine) : List Ctx := g.run.toList ++ g.saved

/-- The barges in service on an engine: running, saved, and given by TAKE. -/
def Engine.barges (g : Engine) : List Barge := g.ctxs.flatMap (fun c => c.barge :: (c.given.map (·.1)).toList)

/-- Every barge in service. -/
def State.inService (s : State) : List Barge := s.dsp.engines.flatMap Engine.barges

/-- The lock has a holder: a barge of it is ready or in service (R260). -/
def State.lockHeld (s : State) (l : Nat) : Bool :=
  s.dsp.ready.any (fun b => b.lock = l) || s.inService.any (fun b => b.lock = l)

/-- The service state of the cluster of an engine; engine 63 is always in service (R272). -/
def State.engSvc (s : State) (e : Nat) : Nat := if e = 63 then 0 else s.svc (enginePage (clusterOf e * 16))

/-- An engine may take a new barge: not wedged, its cluster in service, its page and the global page enabled and not quiesced
(R51, R52, R274, R276), not stopped by a trip (R412), its clock running. -/
def State.engOpen (s : State) (e : Nat) : Bool :=
  !(s.eng e).wedged && (e == 63 || !s.tripped) && s.runs 1 && s.engSvc e == 0 && s.enabled (enginePage e) && !s.quiesced (enginePage e) && s.enabled 0x200000 &&
    !s.quiesced 0x200000

/-- An engine is idle: nothing runs on it. -/
def State.engIdle (s : State) (e : Nat) : Bool := (s.eng e).run.isNone && !(s.eng e).wedged

/-! ## Basins (R258, R259) -/

/-- Entries that inlet ring `n` has reserved and not yet offered (R333, R335). -/
def State.inletResv (s : State) (n : Nat) : Nat :=
  if s.rdb (A.hstInCfg n) 0 && !s.rdb (A.hstInStat n) 3 then
    (s.rd (A.hstInPi n) + 2 ^ 32 - s.rd (A.hstInCi n)) % 2 ^ 32
  else 0

/-- Reservations on a basin by the rings that feed it. -/
def State.basinResv (s : State) (b : Nat) : Nat :=
  ((rangeFrom 0 64).map (fun n => if s.rdf (A.hstInCfg n) 8 5 = b then s.inletResv n else 0)).sum

/-- The accepted barges of a basin that have not started, reservations included; those of the host. -/
def State.held (s : State) (b : Nat) : Nat :=
  ((s.dsp.ready ++ s.dsp.waiting).filter (fun x => x.basin = b)).length + s.basinResv b
def State.hostHeld (s : State) (b : Nat) : Nat :=
  ((s.dsp.ready ++ s.dsp.waiting).filter (fun x => x.basin = b && x.osrc = 0)).length + s.basinResv b

/-- Host credit of a basin under a HOST_LIM, and under the one that stands (R258). -/
def State.creditUnder (s : State) (b lim : Nat) : Nat := min (min 4096 lim - s.hostHeld b) (4096 - s.held b)
def State.credit (s : State) (b : Nat) : Nat := s.creditUnder b (s.rdf (A.dspBCfg b) 16 13)

/-- BASIN_FULL is raised when the credit of a basin has reached 0 from `before` (R258). -/
def State.basinEdge (s : State) (b before : Nat) : State := if before ≠ 0 && s.credit b = 0 then s.raise 0x200000 12 else s

/-- HWM follows the entries held, and BASIN_FULL is raised when the credit has reached 0 from `before`. -/
def State.basinGrown (s : State) (b before : Nat) : State :=
  let s1 := if s.rd (A.dspBHwm b) < s.held b then s.wr (A.dspBHwm b) (s.held b) else s
  s1.basinEdge b before

/-! ## Completion (R268, R269) -/

/-- The completion record (Table DSP-5). -/
def State.completionRecord (s : State) (b : Barge) (status result engine : Nat) (started : Bool) : List Byte :=
  leBytes 4 b.tag ++
    leBytes 4 (status % 256 + b.basin * 2 ^ 8 + b.osrc % 8 * 2 ^ 13 + engine % 64 * 2 ^ 16 + (if started then 2 ^ 22 else 0) +
      (if b.saved then 2 ^ 23 else 0)) ++
    leBytes 4 (b.lock + result % 2 ^ 16 * 2 ^ 16) ++ leBytes 4 (s.now % 2 ^ 32)

/-- The completion goes to its target (R268); nothing reaches a sealed pound. -/
def State.complete (s : State) (b : Barge) (status result engine : Nat) (started : Bool) : State :=
  let rec_ := s.completionRecord b status result engine started
  let shut : Bool := regionOf b.caddr = .pound && s.sealState ≠ 0
  match fld (b.w 6) 0 3 with
  | 1 => s.cqPush (fld (b.w 6) 3 6) rec_
  | 2 => if shut then s else s.store b.caddr rec_
  | 3 =>
    if shut then s
    else match s.fetch 5 0x0B b.caddr 8 with
      | (some bs, s1) => s1.poke64 b.caddr (atomAdd (leNat bs) 1)
      | (none, s1) => s1
  | _ => s

/-- The dispatcher completes a barge on its behalf (R268): STARTED and ENGINE tell of a barge that has run and left by YIELD. -/
def State.retireBarge (s : State) (b : Barge) (status : Nat) : State := s.complete b status 0 (b.ran.getD 0) b.ran.isSome

/-! ## Locks and retirement (R260, R261, R267) -/

/-- Counters and interrupt of a barge retired EXPIRED. -/
def State.countExpired (s : State) (b : Barge) : State :=
  ((s.bump32 A.dspExpired 1).bump (A.dspBExpired b.basin)).raise 0x200000 8

/-- The holder of a lock has left: the oldest waiter becomes holder and ready; one whose deadline has passed expires at once
and the lock passes on (R261). -/
def State.lockPass (s : State) (l : Nat) : List Barge → State
  | [] => s
  | b :: t =>
    if l = 0 || b.lock ≠ l then s.lockPass l t
    else
      let s1 := { s with dsp := { s.dsp with waiting := s.dsp.waiting.filter (fun x => x.acc ≠ b.acc) } }
      if s1.bargeLate b then ((s1.countExpired b).retireBarge b 0x02).lockPass l t
      else { s1 with dsp := { s1.dsp with ready := s1.dsp.ready ++ [b] } }

/-- A barge has left: its lock passes on. -/
def State.leave (s : State) (b : Barge) : State := s.lockPass b.lock s.dsp.waiting

/-- A ready barge is retired by the dispatcher with EXPIRED (R267). -/
def State.expire (s : State) (b : Barge) : State :=
  let s1 := { s with dsp := { s.dsp with ready := s.dsp.ready.filter (fun x => x.acc ≠ b.acc) } }
  ((s1.countExpired b).retireBarge b 0x02).leave b

/-- Complete barges with ABORT_HOST. -/
def State.abortList (s : State) : List Barge → State
  | [] => s
  | b :: t => (s.retireBarge b 0x08).abortList t

/-- Ready barges that have gone hand their locks on. -/
def State.leaveAll (s : State) : List Barge → State
  | [] => s
  | b :: t => (s.leave b).leaveAll t

/-- Retire every barge that has not started and satisfies `f`, with ABORT_HOST (R277). -/
def State.flushWhere (s : State) (f : Barge → Bool) : State :=
  let held := s.dsp.ready.filter f
  let listed := s.dsp.waiting.filter f
  let s1 := { s with dsp := { s.dsp with
    ready := s.dsp.ready.filter (fun b => !f b), waiting := s.dsp.waiting.filter (fun b => !f b) } }
  (s1.abortList (held ++ listed)).leaveAll held

/-! ## Choosing work (R262, R284) -/

/-- A barge's program range overlaps the target of a load that is held or runs (R284). -/
def State.loadBlocks (s : State) (b : Barge) : Bool :=
  match s.dsp.load with
  | none => false
  | some l => b.prog < l.dst + l.image.length && l.dst < b.prog + 8192

/-- The head of a queue, if `ok` admits it. -/
def queueHead (ready : List Barge) (ok : Barge → Bool) (basin prio : Nat) : Option Barge :=
  match ready.find? (fun b => b.basin = basin && b.prio = prio) with
  | some b => if ok b then some b else none
  | none => none

/-- The first basin of the mask in rotation from `basin` on with a head at a priority. -/
def pickBasin (ready : List Barge) (ok : Barge → Bool) (mask prio basin : Nat) : Nat → Option Barge
  | 0 => none
  | n + 1 =>
    match (if tbit mask (basin % 32) then queueHead ready ok (basin % 32) prio else none) with
    | some b => some b
    | none => pickBasin ready ok mask prio (basin + 1) n

/-- The barge of R262: highest priority, then basins in rotation after the one last taken from. -/
def pickPrio (ready : List Barge) (ok : Barge → Bool) (mask last : Nat) : Nat → Option Barge
  | 0 => none
  | p + 1 =>
    match pickBasin ready ok mask p (last + 1) 32 with
    | some b => some b
    | none => pickPrio ready ok mask last p

/-- The basins of one MODE. -/
def State.modeMask (s : State) (pull : Bool) : Nat :=
  ((rangeFrom 0 32).map (fun b => if s.rdb (A.dspBCfg b) 1 == pull then 2 ^ b else 0)).sum

/-- The PUSH basins an engine serves. -/
def State.engMask (s : State) (e : Nat) : Nat := s.rd (A.dspEBasins e) &&& s.modeMask false

/-! ## Starting, saving and resuming (R263, R264, R285) -/

/-- The state a barge starts with (R285). -/
def startCtx (b : Barge) (now : Nat) : Ctx :=
  { barge := b
    regs := 0 :: ((rangeFrom 10 6).map (fun i => BitVec.ofNat 64 (b.w i))) ++ [BitVec.ofNat 64 b.tag] ++ List.replicate 8 0
    since := now }

/-- The clusters in SHADOW that run a copy of what starts on an engine: engine 63 is in no cluster, and has no copy on it (R274, R275). -/
def State.copiers (s : State) (e : Nat) : List SvcUnit :=
  if e = 63 then []
  else (s.shadowers (.cluster (Fin.ofNat 4 (clusterOf e)))).filter (fun u => match u with | .cluster c => c.val * 16 + e % 16 ≠ 63 | _ => false)

/-- The run of a barge is over: each copier compares its copy with what the run did. -/
def State.runTraced (s : State) (e : Nat) (c : Ctx) : State :=
  match c.trace with
  | some l => (s.copiers e).foldl (fun t u => t.shadowPut u l) s
  | none => s

/-- A barge leaves the ready queues and runs on an engine. -/
def State.startOn (s : State) (e : Nat) (b : Barge) : State :=
  let was := (s.eng e).run.isNone && (s.eng e).saved.isEmpty
  let s1 := { s with dsp := { s.dsp with ready := s.dsp.ready.filter (fun x => x.acc ≠ b.acc) } }
  let s2 := s1.setEng e (fun g => { g with
    run := some { startCtx b s.now with trace := if (s.copiers e).isEmpty then none else some [] }, lastBasin := b.basin, busyFrom := if was then s.now else g.busyFrom })
  (s2.bump32 (A.dspBStarted b.basin) 1).setBusy (enginePage e) true

/-- A context as it is saved: its service time so far, the time left of a TAKE, and since when it is saved (R264, R286). -/
def savedCtx (c : Ctx) (now : Nat) : Ctx :=
  { c with
    barge := { c.barge with saved := true }
    spent := c.spent + (now - c.since)
    since := now
    wait := match c.wait with
      | .take rd buf mask left since o => .take rd buf mask (left.map (fun t => t - (now - since))) now o
      | w => w }

/-- Save the running barge and start another (R264). -/
def State.preemptOn (s : State) (e : Nat) (b : Barge) : State :=
  match (s.eng e).run with
  | none => s.startOn e b
  | some c =>
    let s1 := s.setEng e (fun g => { g with saved := savedCtx c s.now :: g.saved, run := none })
    ((s1.bump32 A.dspPreempt 1).bump (A.dspESaves e)).startOn e b

/-- Write a general register; g0 reads zero whatever is written to it (R285). -/
def Ctx.setReg (c : Ctx) (r : Nat) (v : DWord) : Ctx := if r = 0 then c else { c with regs := upd (fun _ => v) c.regs r }

/-- The completion word of a handle (R288). -/
def completionWord (h : Nat) (x : Handle) : Nat := x.status % 256 + h % 8 * 2 ^ 8 + x.result % 2 ^ 16 * 2 ^ 16

/-- A wait returns the completion word of handle `h`, which becomes free (R291). -/
def Ctx.returns (c : Ctx) (rd h : Nat) : Ctx :=
  let c1 := c.setReg rd (BitVec.ofNat 64 (completionWord h (nth {} c.handles h)))
  { c1 with handles := upd (fun _ => {}) c1.handles h, wait := .none, pc := c1.pc + 1 }

/-- A handle is done. -/
def Ctx.isDone (c : Ctx) (h : Nat) : Bool := (nth {} c.handles h).st = .done

/-- A WAIT or WAITANY whose handle is done returns. -/
def Ctx.wake (c : Ctx) : Ctx :=
  match c.wait with
  | .handle rd h => if c.isDone h then c.returns rd h else c
  | .any rd mask =>
    match (rangeFrom 0 8).find? (fun h => tbit mask h && c.isDone h) with
    | some h => c.returns rd h
    | none => c
  | _ => c

/-- A resumed context runs again from now; a WAIT whose handle is done by then returns at once (R286). -/
def resumedCtx (c : Ctx) (now : Nat) : Ctx :=
  let c1 : Ctx := { c with
    since := now
    given := c.given.map (fun x => (x.1, x.2 + (now - c.since)))
    wait := match c.wait with
      | .take rd buf mask left _ o => .take rd buf mask left now o
      | w => w }
  c1.wake

/-- All engines of a draining cluster are idle: it goes OUT_OF_SERVICE (R274, R373). -/
def State.clusterDrained (s : State) (c : Nat) : State :=
  let es := (rangeFrom (c * 16) 16).filter (fun e => e ≠ 63)
  if s.svc (enginePage (c * 16)) = 1 && es.all (fun e => s.engIdle e) then
    (es.foldl (fun t e => if e = c * 16 then t else (t.wrf (enginePage e + 0x00C) 2 3 2).raise (enginePage e) 4) s).setSvc
      (enginePage (c * 16)) 2 1
  else s

/-- The running barge has left the engine: the newest saved barge resumes, or the engine is idle (R264).  A TAKE that is taken up again
while its cluster takes no new barge returns empty at once (R274). -/
def State.freeEngine (s : State) (e : Nat) : State :=
  match (s.eng e).saved with
  | c :: t =>
    let c1 := resumedCtx c s.now
    let c2 := match c1.wait with
      | .take rd _ _ _ _ _ => if s.engSvc e ≠ 0 then { (c1.setReg rd 0) with wait := .none, pc := c1.pc + 1 } else c1
      | _ => c1
    s.setEng e (fun g => { g with run := some c2, saved := t })
  | [] =>
    let n := (s.now - (s.eng e).busyFrom) / 8
    let s1 := (s.setEng e (fun g => { g with run := none, idleSince := s.now })).bump32 (A.dspEBusy e) n
    ((s1.setBusy (enginePage e) false).clusterDrained (clusterOf e)).quietEdge 0x200000 (s.busy 0x200000)

/-! ## PULL delivery (R265, R297) -/

/-- The running context of an engine with a change. -/
def State.setRun (s : State) (e : Nat) (f : Ctx → Ctx) : State := s.setEng e (fun g => { g with run := g.run.map f })

/-- TAKE returns on an engine with a value, and the program goes on. -/
def State.takeReturns (s : State) (e rd v : Nat) : State :=
  s.setRun e (fun c => { (c.setReg rd (BitVec.ofNat 64 v)) with wait := .none, pc := c.pc + 1 })

/-- A barge is given to the engine that waits in TAKE: its descriptor goes to the buffer whole. -/
def State.give (s : State) (e rd buf : Nat) (b : Barge) : State :=
  let s1 := { s with dsp := { s.dsp with ready := s.dsp.ready.filter (fun x => x.acc ≠ b.acc) } }
  let s2 := (s1.store buf (wordsBytes (b.words.map (BitVec.ofNat 32)))).bump32 (A.dspBStarted b.basin) 1
  let s3 := s2.setEng e (fun g => { g with lastBasin := b.basin, run := g.run.map (fun c => { c with given := some (b, s.now) }) })
  s3.takeReturns e rd 1

/-- What a taker can receive: not a SECURE barge outside SECURE context (R297), and none whose range is being loaded. -/
def State.takeOk (s : State) (secure : Bool) (b : Barge) : Bool := (secure || !b.secure) && !s.loadBlocks b

/-- The engines blocked in TAKE that may be given a barge, in the order in which they began to wait. -/
def State.takers (s : State) : List (Nat × Nat) :=
  let l := (rangeFrom 0 64).filterMap (fun e =>
    match (s.eng e).run with
    | some c => match c.wait with
      | .take _ _ _ _ _ o => if s.engOpen e then some (o, e) else none
      | _ => none
    | none => none)
  sortBy (fun a b => a.1 ≤ b.1) l

/-- The barge a blocked TAKE would get now. -/
def State.takeChoice (s : State) (e : Nat) : Option (Nat × Nat × Barge) :=
  match (s.eng e).run with
  | some c => match c.wait with
    | .take rd buf mask _ _ _ =>
      (pickPrio s.dsp.ready (s.takeOk c.barge.secure) (mask &&& s.modeMask true) (s.eng e).lastBasin 8).map (fun b => (rd, buf, b))
    | _ => none
  | none => none

/-- The first taker of a list that can be given something. -/
def State.firstTaker (s : State) : List (Nat × Nat) → Option (Nat × Nat × Nat × Barge)
  | [] => none
  | (_, e) :: t =>
    match s.takeChoice e with
    | some (rd, buf, b) => some (e, rd, buf, b)
    | none => s.firstTaker t

/-- Give ready barges of PULL basins to blocked engines, retiring expired heads, until nothing more can be given. -/
def State.serveTakers (s : State) : Nat → State
  | 0 => s
  | n + 1 =>
    match s.firstTaker s.takers with
    | none => s
    | some (e, rd, buf, b) => if s.bargeLate b then (s.expire b).serveTakers n else (s.give e rd buf b).serveTakers n

/-- Enough rounds for every barge there is. -/
def State.bargeCount (s : State) : Nat := s.dsp.ready.length + s.dsp.waiting.length

/-- Serve the blocked takers. -/
def State.settle (s : State) : State := s.serveTakers s.bargeCount

/-! ## Offers (R256 to R260) -/

/-- The completion address rule of check 2. -/
def caddrOk (b : Barge) : Bool :=
  match fld (b.w 6) 0 3 with
  | 2 => b.caddr % 16 = 0 && (inLocal b.caddr 16 || (b.secure && inPound b.caddr 16))
  | 3 => b.caddr % 8 = 0 && (inLocal b.caddr 8 || (b.secure && inPound b.caddr 8))
  | _ => true

/-- The result code of Table DSP-4 for an offer.  `sec` says that the offering engine is in SECURE context; `resv` that the entry
holds a reservation (R334). -/
def State.offerCheck (s : State) (osrc : Nat) (b : Barge) (sec resv : Bool) : Nat :=
  if fld (b.w 0) 29 3 ≠ 0 || fld (b.w 1) 24 8 ≠ 0 || b.w 6 / 2 ^ 9 ≠ 0 || 8 < fld (b.w 1) 20 4 || 3 < fld (b.w 6) 0 3 then 1
  else if !caddrOk b then 1
  else if !s.rdb (A.dspBCfg b.basin) 0 then 2
  else if b.basin = 31 && osrc ≠ 5 then 2
  else if b.secure && !(osrc = 5 || (osrc = 3 && sec)) then 3
  else if resv then 0
  else if osrc = 0 then (if s.credit b.basin = 0 then 4 else 0)
  else if 4096 ≤ s.held b.basin then 4 else 0

/-- A refused offer: counters and errors (R257). -/
def State.refuse (s : State) (osrc : Nat) (b : Barge) (code : Nat) : State :=
  let s1 := (s.bump32 A.dspRefused 1).bump (A.dspBRefused b.basin)
  let s2 := if code = 1 then s1.pageErr 0x200000 0x0100 (osrc + b.basin * 2 ^ 8) else s1
  if code = 3 then s2.pageErr 0x200000 0x0101 0 else s2

/-- An accepted barge enters its queue, or the list of its lock (R259, R260).  One that takes the place of its reservation does not lower
the credit. -/
def State.accept (s : State) (b : Barge) (resv : Bool) : State :=
  let before := if resv then 0 else s.credit b.basin
  let d := s.dsp
  let s1 :=
    if b.lock ≠ 0 && s.lockHeld b.lock then { s with dsp := { d with waiting := d.waiting ++ [b], accNo := d.accNo + 1 } }
    else { s with dsp := { d with ready := d.ready ++ [b], accNo := d.accNo + 1 } }
  ((s1.bump32 A.dspAccepted 1).basinGrown b.basin before).settle

/-- The barge an offer would become. -/
def State.bargeOf (s : State) (osrc orig : Nat) (words : List Nat) : Barge :=
  { words := words, osrc := osrc, orig := orig, acc := s.dsp.accNo, gate := if s.pass.isOpen then some s.pass.num else none }

/-- An offer: the result code of Table DSP-4 and the state after it. -/
def State.offer (s : State) (osrc orig : Nat) (words : List Nat) (sec resv : Bool) : Nat × State :=
  let b := s.bargeOf osrc orig words
  match s.offerCheck osrc b sec resv with
  | 0 => (0, s.accept b resv)
  | c => (c, s.refuse osrc b c)

/-- The 16 words of a 64-byte descriptor in memory. -/
def State.descAt (s : State) (a : Nat) : List Nat := (rangeFrom 0 16).map (fun i => s.peek32 (a + 4 * i))

/-- The 16 words of a descriptor held in registers. -/
def State.regWords (s : State) (a : Nat) : List Nat := (rangeFrom 0 16).map (fun i => s.rd (a + 4 * i))

/-- A template copy with its deadlines rebased (R78, R249, R271): `wall` is added to DL_WALL and the position of DL_TP to DL_POS,
each while its enable bit is 1. -/
def State.rebase (s : State) (words : List Nat) (wall : Nat) : List Nat :=
  let w0 := nth 0 words 0
  let p := (nth 0 words 2 + nth 0 words 3 * 2 ^ 32 + s.tpPos (fld (nth 0 words 1) 20 4)) % 2 ^ 48
  let t := (nth 0 words 4 + nth 0 words 5 * 2 ^ 32 + wall) % 2 ^ 64
  let a := if tbit w0 27 then upd (fun _ => p % 2 ^ 32) (upd (fun _ => p / 2 ^ 32) words 3) 2 else words
  if tbit w0 28 then upd (fun _ => t % 2 ^ 32) (upd (fun _ => t / 2 ^ 32) a 5) 4 else a

/-! ## Delivery (R263) -/

/-- Idle engines that may take work, the longest idle first, the lower number first on a tie. -/
def State.idleOrder (s : State) : List Nat :=
  sortBy (fun a b => (s.eng a).idleSince ≤ (s.eng b).idleSince) ((rangeFrom 0 64).filter (fun e => s.engIdle e && s.engOpen e))

/-- The first idle engine of a list with a barge to take. -/
def State.idleChoice (s : State) : List Nat → Option (Nat × Barge)
  | [] => none
  | e :: t =>
    match pickPrio s.dsp.ready (fun b => !s.loadBlocks b) (s.engMask e) (s.eng e).lastBasin 8 with
    | some b => some (e, b)
    | none => s.idleChoice t

/-- An engine whose running barge a ready barge may pre-empt. -/
def State.preemptable (s : State) (b : Barge) (e : Nat) : Bool :=
  match (s.eng e).run with
  | none => false
  | some c =>
    s.engOpen e && tbit (s.engMask e) b.basin && c.barge.preempt && decide (c.barge.prio < b.prio) &&
      (match c.wait with | .ending _ _ _ => false | _ => true)

/-- PRIO of the barge an engine runs. -/
def State.runPrio (s : State) (e : Nat) : Nat := match (s.eng e).run with | some c => c.barge.prio | none => 0

/-- The engine to pre-empt for a barge: the lowest running PRIO, then the lowest number. -/
def State.preemptEngine (s : State) (b : Barge) : Option Nat :=
  (sortBy (fun a c => s.runPrio a ≤ s.runPrio c) ((rangeFrom 0 64).filter (fun e => s.preemptable b e))).head?

/-- The heads of the PUSH queues, highest priority first. -/
def State.pushHeads (s : State) : List Barge :=
  (rangeFrom 0 8).flatMap (fun p => (rangeFrom 0 32).filterMap (fun b =>
    if tbit (s.modeMask false) b then queueHead s.dsp.ready (fun x => !s.loadBlocks x) b (7 - p) else none))

/-- The first head that can pre-empt something. -/
def State.preemptChoice (s : State) : List Barge → Option (Nat × Barge)
  | [] => none
  | b :: t =>
    match s.preemptEngine b with
    | some e => some (e, b)
    | none => s.preemptChoice t

/-- One delivery of the dispatcher: expired barges that are chosen are retired and the choice moves on. -/
def State.deliver (s : State) : Nat → State
  | 0 => s
  | n + 1 =>
    match s.idleChoice s.idleOrder with
    | some (e, b) => if s.bargeLate b then ((s.expire b).settle).deliver n else s.startOn e b
    | none =>
      match s.preemptChoice s.pushHeads with
      | some (e, b) => if s.bargeLate b then ((s.expire b).settle).deliver n else s.preemptOn e b
      | none => s

/-- The head of a basin's queues that has expired, highest priority first. -/
def State.lateHead (s : State) (b : Nat) : Nat → Option Barge
  | 0 => none
  | p + 1 =>
    match queueHead s.dsp.ready (fun x => s.bargeLate x) b p with
    | some x => some x
    | none => s.lateHead b p

/-- The lock is held by a barge of a wedged engine, running, saved or given (R276). -/
def State.wedgedLock (s : State) (l : Nat) : Bool := s.dsp.engines.any (fun g => g.wedged && g.barges.any (fun b => b.lock = l))

/-- The head of a lock list of the basin that has expired, where a wedged engine keeps the lock: such a list can only expire (R276;
DEDUCED, log entry 210). -/
def State.lateWaiter (s : State) (b : Nat) : Option Barge :=
  s.dsp.waiting.find? (fun x => x.basin = b && s.wedgedLock x.lock && s.bargeLate x &&
    (s.dsp.waiting.find? (fun y => y.lock = x.lock)).all (fun y => y.acc = x.acc))

/-- A waiter of a lock list is retired with EXPIRED; its lock stays where it is. -/
def State.expireWaiter (s : State) (b : Barge) : State :=
  (({ s with dsp := { s.dsp with waiting := s.dsp.waiting.filter (fun x => x.acc ≠ b.acc) } }).countExpired b).retireBarge b 0x02

/-! ## Watchdog (R276) -/

/-- The running barge, or the barge it holds from TAKE, has been in service for DSP_WD_US; the time in which they were saved counts towards the
barge that held the engine then (R276). -/
def State.watchdogDue (s : State) (e : Nat) : Bool :=
  let wd := max 1 (s.rdf A.dspWdUs 0 24) * 1000
  match (s.eng e).run with
  | none => false
  | some c => decide (wd ≤ c.spent + (s.now - c.since)) || (match c.given with | some (_, t) => decide (t + wd ≤ s.now) | none => false)

/-- The engine is wedged. -/
def State.wedgeEngine (s : State) (e : Nat) : State :=
  let s1 := (s.setEng e (fun g => { g with wedged := true })).wr64 A.dspWedged (putBit (s.rd64 A.dspWedged) e true)
  ((s1.pageErr 0x200000 0x0102 e).raise 0x200000 10).raise (enginePage e) 8

/-! ## What the registers show -/

/-- DSP_STAT, DSP_IDLE_MASK and DSP_LOCK_STAT. -/
def State.dspStatLive (s : State) : Nat :=
  ((rangeFrom 0 64).filter (fun e => s.engIdle e)).length + ((rangeFrom 0 64).filter (fun e => s.engSvc e = 0)).length * 2 ^ 16
def State.idleMaskLive (s : State) : Nat := ((rangeFrom 0 64).map (fun e => if s.engIdle e then 2 ^ e else 0)).sum
def State.lockStatLive (s : State) : Nat :=
  let l := s.rdf A.dspLockQuery 0 16
  let run := (rangeFrom 0 64).find? (fun e => (s.eng e).barges.any (fun b => b.lock = l))
  let held : Bool := l ≠ 0 && s.lockHeld l
  (if held then 1 else 0) +
    (match run with | some e => if held then 2 + e * 4 else 0 | none => 0) +
    (if l = 0 then 0 else min 0xFFFF (s.dsp.waiting.filter (fun b => b.lock = l)).length) * 2 ^ 16

/-- DSP_E_STAT of an engine. -/
def State.engStatLive (s : State) (e : Nat) : Nat :=
  let g := s.eng e
  match g.run with
  | none => if g.wedged then 3 else 0
  | some c =>
    (if g.wedged then 3 else match c.wait with | .take _ _ _ _ _ _ => 2 | _ => 1) + g.saved.length * 4 + c.barge.prio * 2 ^ 8 +
      c.barge.basin * 2 ^ 16 + (if c.barge.secure then 2 ^ 21 else 0)

/-- A field of the running barge of an engine, 0 while it is idle. -/
def State.engShow (s : State) (e : Nat) (f : Ctx → Nat) : Nat := match (s.eng e).run with | some c => f c | none => 0

/-! ## Meanings -/

/-- An offer arrives from a source of Table DSP-3 (R257). -/
def execBargeOffer (osrc : Fin 7) (orig : Nat) (words : List Nat) (sec : Bool) (s : State) : Host.Outcome State Fault Refusal :=
  .next (s.offer osrc orig words sec false).2

/-- The dispatcher delivers one ready barge, if it can (R262, R263). -/
def execBargeStart (s : State) : Host.Outcome State Fault Refusal := .next (s.deliver (s.bargeCount + 1))

/-- A queue head of the basin whose deadline has passed is retired (R267), or else the head of a lock list that a wedged engine keeps
(R276). -/
def execQueueHeadExpiry (b : Fin 32) (s : State) : Host.Outcome State Fault Refusal :=
  match s.lateHead b 8, s.lateWaiter b with
  | some x, _ => .next (s.expire x).settle
  | none, some x => .next (s.expireWaiter x)
  | none, none => .next s

/-- The watchdog of an engine (R276); that of engine 63 is a safety diagnostic (R272). -/
def execEngineWatchdog (e : Fin 64) (s : State) : Host.Outcome State Fault Refusal :=
  if e.val = 63 || (s.eng e).wedged || !s.watchdogDue e then .next s else .next (s.wedgeEngine e)

/-- The timeout of a blocked TAKE has passed (R265): TAKE returns empty. -/
def execTakeTimeout (e : Fin 64) (s : State) : Host.Outcome State Fault Refusal :=
  match (s.eng e).run with
  | some c =>
    match c.wait with
    | .take rd _ _ (some left) since _ =>
      if since + left ≤ s.now && !(s.eng e).wedged then .next (s.takeReturns e rd 0) else .next s
    | _ => .next s
  | none => .next s

end Sys2Proof.Machine
end

