-- ==== Sys2Proof/Machine/Ing.lean ====
section
/-!
DEFINITION. Sensor ingress: matching and unpacking of packets, depth conversion, stamps, frame buffers and the hand-over to
fusion (R86 to R107).
-/
namespace Sys2Proof.Machine

/-! ## Slots and descriptors -/

/-- Slot `k` is slot `k % 2` of receiver `k / 2`. -/
def ingPage (k : Nat) : Nat := 0x20000 + k / 2 * 0x1000
def slotReg (k off : Nat) : Nat := ingPage k + 0x100 + k % 2 * 0x100 + off

/-- One slot. -/
def State.slot (s : State) (k : Nat) : RxSlot := nth {} s.ing.slots k

/-- The state of a buffer as ING_SL_STAT shows it: a frame received while the other buffer runs is pending from its Frame Start
onward (R96). -/
def bufShown (a b : Nat) : Nat := if a = 1 && b = 3 then 2 else a

/-- Change a slot; ING_SL_STAT follows it. -/
def State.setSlot (s : State) (k : Nat) (x : RxSlot) : State :=
  let b0 := (nth {} x.bufs 0).st
  let b1 := (nth {} x.bufs 1).st
  { s with ing := { s.ing with slots := upd (fun _ => x) s.ing.slots k } }.wr (slotReg k 0x40)
    (bufShown b0 b1 + bufShown b1 b0 * 4 + (if x.frame.isSome then 16 else 0))

/-- The descriptor registers of a slot as written, +0x00 to +0x38. -/
def State.slotWords (s : State) (k : Nat) : List Nat := (rangeFrom 0 15).map (fun i => s.rd (slotReg k (4 * i)))

def dKind (d : List Nat) : Nat := fld (nth 0 d 0) 0 2
def dVc (d : List Nat) : Nat := fld (nth 0 d 0) 2 4
def dPri (d : List Nat) : Nat := fld (nth 0 d 0) 6 6
def dAux (d : List Nat) : Nat := fld (nth 0 d 0) 12 6
def dDecim (d : List Nat) : Nat := fld (nth 0 d 0) 18 2
def dW16 (d : List Nat) : Bool := tbit (nth 0 d 0) 20
def dTp (d : List Nat) : Nat := fld (nth 0 d 0) 21 4
def dWidth (d : List Nat) : Nat := fld (nth 0 d 1) 0 13
def dHeight (d : List Nat) : Nat := fld (nth 0 d 1) 16 13
def dBase (d : List Nat) : Nat := (nth 0 d 12 + nth 0 d 13 * 2 ^ 32) % 2 ^ 48
def dStride (d : List Nat) : Nat := nth 0 d 14

/-- The bytes of a buffer: header and pixel words (R95). -/
def bufBytes (d : List Nat) : Nat :=
  64 + dWidth d / 2 ^ dDecim d * (dHeight d / 2 ^ dDecim d) * (if dKind d = 3 then 2 else 4)

/-- Pixel group of a data type (Table ING-3); none for any other type. -/
def pixelGroup (dt : Nat) : Option Nat :=
  if dt = 0x2A || dt = 0x2E || (0x30 ≤ dt && dt ≤ 0x37) then some 1
  else if dt = 0x2B || dt = 0x2D then some 4 else if dt = 0x2C then some 2 else none

/-- WIDTH fits the pixel group of a type of Table ING-3 that the slot uses. -/
def groupOk (dt w : Nat) : Bool := match pixelGroup dt with | some g => w % g = 0 | none => false

/-- The checks of a slot descriptor (R91, R92, R93, R95): DT_PRI and DT_AUX name types of Table ING-3 whatever the KIND.  The spec states no
check that names KIND: a slot of KIND 0 (off) passes, can be enabled, and a Frame Start then opens a frame on it (DESIGN CHOICE, log entry
211).  DECIM 3, a TP of 9 to 15, and a WIDTH or HEIGHT of 0 or above 4,096, which Table ING-6 calls reserved or leaves out of range, keep
the slot off with BAD_SLOT_CFG like the failures that the rules name (DESIGN CHOICE, log entry 79). -/
def slotOk (d : List Nat) : Bool :=
  let f := 2 ^ dDecim d
  dDecim d ≠ 3 && dTp d ≤ 8 && 1 ≤ dWidth d && dWidth d ≤ 4096 && 1 ≤ dHeight d && dHeight d ≤ 4096 && dWidth d % f = 0 &&
    dHeight d % f = 0 && groupOk (dPri d) (dWidth d) && (pixelGroup (dAux d)).isSome && (dKind d ≠ 2 || groupOk (dAux d) (dWidth d)) &&
    (dKind d = 3 || (1 ≤ fld (nth 0 d 4) 0 16 && fld (nth 0 d 4) 0 16 ≤ fld (nth 0 d 4) 16 16)) &&
    dBase d % 64 = 0 && dStride d % 64 = 0 && bufBytes d ≤ dStride d && inLocal (dBase d) (bufBytes d) &&
    inLocal (dBase d + dStride d) (bufBytes d)

/-- A slot is enabled. -/
def State.slotEn (s : State) (k : Nat) : Bool := s.rdb (slotReg k 0x3C) 0

/-- The other slot of the receiver is enabled on the same virtual channel (R90). -/
def State.vcTaken (s : State) (k : Nat) (d : List Nat) : Bool :=
  let o := k / 2 * 2 + (1 - k % 2)
  s.slotEn o && dVc (s.slot o).desc == dVc d

/-- A slot disables itself with BAD_SLOT_CFG. -/
def State.slotBad (s : State) (k : Nat) : State := (s.wrb (slotReg k 0x3C) 0 false).pageErr (ingPage k) 0x0101 (k % 2)

/-- The interrupt bit `i` (0 FRAME_RX, 1 FUSED, 2 OVR, 3 DROP) of a slot. -/
def State.slotIrq (s : State) (k i : Nat) : State := s.raise (ingPage k) (16 + 8 * (k % 2) + i)

/-! ## Unpacking (R91) -/

/-- Pixel codes of a line's bytes, group by group. -/
def unpack8 : List Byte → List Nat
  | [] => []
  | a :: t => a.toNat :: unpack8 t
def unpack16 : List Byte → List Nat
  | a :: b :: t => (a.toNat + 256 * b.toNat) :: unpack16 t
  | _ => []
def unpack10 : List Byte → List Nat
  | a :: b :: c :: d :: e :: t =>
    (a.toNat * 4 + fld e.toNat 0 2) :: (b.toNat * 4 + fld e.toNat 2 2) :: (c.toNat * 4 + fld e.toNat 4 2) ::
      (d.toNat * 4 + fld e.toNat 6 2) :: unpack10 t
  | _ => []
def unpack12 : List Byte → List Nat
  | a :: b :: c :: t => (a.toNat * 16 + fld c.toNat 0 4) :: (b.toNat * 16 + fld c.toNat 4 4) :: unpack12 t
  | _ => []
def unpack14 : List Byte → List Nat
  | a :: b :: c :: d :: e :: f :: g :: t =>
    let low := e.toNat + 256 * f.toNat + 65536 * g.toNat
    (a.toNat * 64 + fld low 0 6) :: (b.toNat * 64 + fld low 6 6) :: (c.toNat * 64 + fld low 12 6) ::
      (d.toNat * 64 + fld low 18 6) :: unpack14 t
  | _ => []

/-- The codes of a line, and the number of bits its bytes must have for a width (log entry 25: the packings of CSI-2). -/
def unpackLine (dt : Nat) (w16 : Bool) (bs : List Byte) : List Nat :=
  if dt = 0x2B then unpack10 bs else if dt = 0x2C then unpack12 bs else if dt = 0x2D then unpack14 bs
  else if dt = 0x2E || (0x30 ≤ dt && w16) then unpack16 bs else unpack8 bs
def typeBits (dt : Nat) (w16 : Bool) : Nat :=
  if dt = 0x2B then 10 else if dt = 0x2C then 12 else if dt = 0x2D then 14
  else if dt = 0x2E || (0x30 ≤ dt && w16) then 16 else 8

/-! ## Depth conversion (R92, R93) -/

/-- The buffer word of a depth pixel. -/
def depthWord (d : List Nat) (r c : Nat) : Nat :=
  let z := divNear (((r : Int) - ((fld (nth 0 d 3) 0 16 : Nat) : Int)) * (nth 0 d 2 : Int)) (2 ^ 16)
  let lo : Int := (fld (nth 0 d 4) 0 16 * 4096 : Nat)
  let hi : Int := (fld (nth 0 d 4) 16 16 * 4096 : Nat)
  let valid : Bool := !(tbit (nth 0 d 0) 30 && r == fld (nth 0 d 3) 16 16) && !(dKind d == 2 && decide (c < fld (nth 0 d 5) 0 16)) &&
    decide (lo ≤ z) && decide (z ≤ hi)
  if valid then enc 32 z else 0

/-- Every `f`-th element, from the first on. -/
def everyNth (f : Nat) : Nat → List Nat → List Nat
  | _, [] => []
  | 0, x :: t => x :: everyNth f (f - 1) t
  | n + 1, _ :: t => everyNth f n t

/-- Pair two lines element by element; a missing confidence code counts as 0. -/
def pairLines : List Nat → List Nat → List (Nat × Nat)
  | [], _ => []
  | r :: t, [] => (r, 0) :: pairLines t []
  | r :: t, c :: u => (r, c) :: pairLines t u

/-- The buffer bytes of a kept line, and its valid pixels. -/
def rowBytes (d pri aux : List Nat) : List Byte × Nat :=
  let f := 2 ^ dDecim d
  if dKind d = 3 then
    let row := everyNth f 0 pri
    (row.flatMap (leBytes 2), row.length)
  else
    let row := (pairLines (everyNth f 0 pri) (everyNth f 0 aux)).map (fun p => depthWord d p.1 p.2)
    (row.flatMap (leBytes 4), (row.filter (· ≠ 0)).length)

/-- Convert the lines of a frame that are complete: the n-th line of DT_AUX pairs with the n-th of DT_PRI (R92). -/
def State.convert (s : State) (x : RxFrame) : Nat → State × RxFrame
  | 0 => (s, x)
  | n + 1 =>
    let d := x.desc
    match x.pri, (if dKind d = 2 then x.aux else [[]]) with
    | p :: pt, a :: at_ =>
      let y := { x with pri := pt, aux := if dKind d = 2 then at_ else [], row := x.row + 1 }
      let f := 2 ^ dDecim d
      if x.row % f = 0 && x.row < dHeight d then
        let (bs, v) := rowBytes d (p.take (dWidth d)) (a.take (dWidth d))
        let w := (if dKind d = 3 then 2 else 4) * (dWidth d / f)
        (s.store (dBase d + x.buf * dStride d + 64 + x.row / f * w) bs).convert { y with valid := x.valid + v } n
      else s.convert y n
    | _, _ => (s, x)

/-! ## Frames -/

/-- Change one buffer of a slot. -/
def RxSlot.setBuf (x : RxSlot) (b : Nat) (y : RxBuf) : RxSlot := { x with bufs := upd (fun _ => y) x.bufs b }

/-- Drop the open frame of a slot: its buffer becomes free. -/
def State.frameAway (s : State) (k : Nat) : State :=
  match (s.slot k).frame with
  | none => s
  | some f => s.setSlot k { ((s.slot k).setBuf f.buf {}) with frame := none }

/-- The frame has the lines that R99 asks for. -/
def frameShapeOk (f : RxFrame) : Bool := f.priN = dHeight f.desc && (dKind f.desc ≠ 2 || f.auxN = dHeight f.desc)

/-- Drop the open frame and count it once, under the first cause that applies (R99); `last` is the counter of the cause that
ends it. -/
def State.frameDrop (s : State) (k last : Nat) : State :=
  match (s.slot k).frame with
  | none => s
  | some f =>
    let reg := if f.badHdr then 0x48 else if f.badCrc then 0x4C else if f.badShape || !frameShapeOk f then 0x50 else last
    ((s.frameAway k).bump (slotReg k reg)).slotIrq k 3

/-- Fusion is enabled in the world map (R104). -/
def State.fusionOn (s : State) : Bool := s.rdb A.wldCtrl 0

/-- Buffer `b` of slot `k` becomes running. -/
def State.bufRuns (s : State) (k b : Nat) : State :=
  let x := s.slot k
  let y := nth {} x.bufs b
  let s1 := s.setSlot k (x.setBuf b { y with st := 3, order := s.ing.runNo })
  { s1 with ing := { s1.ing with runNo := s1.ing.runNo + 1 } }

/-- A handover takes its place behind every earlier one; of those of one tick the lower slot goes first (R97). -/
def State.handPlace (s : State) (k b : Nat) : List (Nat × Nat) → List (Nat × Nat)
  | [] => [(k, b)]
  | x :: t =>
    if (nth {} (s.slot x.1).bufs x.2).handed / 10 = s.now / 10 && k < x.1 then (k, b) :: x :: t else x :: s.handPlace k b t

/-- A depth frame is handed to fusion: it enters the handover order, and its buffer runs while fusion is enabled (R97, R104). -/
def State.handOver (s : State) (k b : Nat) : State :=
  let s0 := s.setSlot k ((s.slot k).setBuf b { nth {} (s.slot k).bufs b with handed := s.now })
  let s1 := { s0 with ing := { s0.ing with handover := s.handPlace k b s.ing.handover } }
  if s1.fusionOn then s1.bufRuns k b else s1

/-- The stamp of a Frame Start (R94): time, position and whether it fell back. -/
def State.frameStamp (s : State) (k : Nat) (d : List Nat) : Nat × Nat × Bool :=
  let here := (s.now, s.tpPos (dTp d), false)
  if !tbit (nth 0 d 0) 25 then here
  else match s.latestEdge (fld (nth 0 d 0) 26 4) with
    | some (t, ps) =>
      let fresh := match (s.slot k).lastFs with | none => true | some u => decide (u < t)
      if fresh then (t, nth 0 ps (dTp d), false) else (s.now, s.tpPos (dTp d), true)
    | none => (s.now, s.tpPos (dTp d), true)

/-- The applied extrinsics record of a descriptor: write counter and payload (R100). -/
def State.extOf (s : State) (d : List Nat) : Option (Nat × List Byte) :=
  let r := 32 + fld (nth 0 d 10) 0 8
  if r < 64 && s.cal.inUse.contains r then some (calWcnt s.cal.applied r, (calBytes s.cal.applied r).drop 16) else none

/-- A new frame is dropped whole by the trigger rule (R96). -/
def State.frameOver (s : State) (k : Nat) : State := (s.bump (slotReg k 0x44)).slotIrq k 2

/-- Assign a buffer to a frame that started at `at_` with a stamp, or drop it by the trigger rule (R94, R96, R100).  A frame that the
trigger rule drops does not count in ING_SL_STAMP_FB; the spec leaves that open (DESIGN CHOICE, log entry 212).  A Frame Start that was
held by quiesce keeps its stamp, but its extrinsics record and PENDED are those of the release, when it takes its buffer (DESIGN CHOICE,
log entry 212). -/
def State.frameOpen (s : State) (k num : Nat) (corr : Bool) (at_ : Nat) (stamp : Nat × Nat × Bool) : State :=
  let x := s.slot k
  let d := x.desc
  let (t, p, fb) := stamp
  let b0 := (nth {} x.bufs 0).st
  let b1 := (nth {} x.bufs 1).st
  if b0 = 2 || b1 = 2 || (b0 ≠ 0 && b1 ≠ 0) then s.frameOver k
  else
    let b := if b0 = 0 then 0 else 1
    let s1 := if fb then s.bump (slotReg k 0x5C) else s
    let fr : RxFrame := {
      buf := b, desc := d, time := t, pos := p, fb := fb, corr := corr, num := num, start := at_, ext := s.extOf d
      pended := (nth {} x.bufs (1 - b)).st == 3 }
    s1.setSlot k { (x.setBuf b { st := 1 }) with frame := some fr }

/-- A frame starts: it takes a staged descriptor and opens.  R102 names the writes that change VC or the buffers; the model makes the whole
check on any staged change (DESIGN CHOICE, log entry 213). -/
def State.frameBegin (s : State) (k num : Nat) (corr : Bool) (at_ : Nat) (stamp : Nat × Nat × Bool) : State :=
  let d := s.slotWords k
  let x := s.slot k
  if d = x.desc then s.frameOpen k num corr at_ stamp
  else if slotOk d && !s.vcTaken k d then (s.setSlot k { x with desc := d }).frameOpen k num corr at_ stamp
  else s.slotBad k

/-- Work of slot `k` is held at the input of its receiver (R52). -/
def State.slotHolds (s : State) (k : Nat) : Bool :=
  s.waitIn.any (fun x => match x.2 with | .frameStart j _ _ _ _ => j = k | _ => false)

/-- Hold work of slot `k` at the input of its receiver. -/
def State.slotHold (s : State) (k : Nat) (w : Work) : State := { s with waitIn := s.waitIn ++ [(ingPage k, w)] }

/-- A Frame Start on an enabled slot: it ends an open frame and starts the new one (R96, R99, R102); while the receiver's page is quiesced
the new frame is held with its stamp (R52), and while it is disabled it is not taken (R51).  The stamp of mode 0 is of the tick in which
the Frame Start arrives, as the first one after its ECC check (DEDUCED, log entry 212); from that tick on it is the slot's previous Frame
Start for mode 1. -/
def State.frameStart (s : State) (k num : Nat) (corr : Bool) : State :=
  let s1 := s.frameDrop k 0x50
  let stamp := s1.frameStamp k (s1.slotWords k)
  let s2 := s1.setSlot k { s1.slot k with lastFs := some s.now }
  if !s1.enabled (ingPage k) then s1
  else if s1.quiesced (ingPage k) then s2.slotHold k (.frameStart k num corr s.now stamp)
  else s2.frameBegin k num corr s.now stamp

/-- The frame header (Table ING-4); `at_` is the W64 of the Frame End. -/
def frameHeader (k : Nat) (f : RxFrame) (seq at_ : Nat) (pended : Bool) : List Byte :=
  let d := f.desc
  let b (x : Bool) (i : Nat) : Nat := if x then 2 ^ i else 0
  leBytes 8 f.time ++ leBytes 8 f.pos ++ leBytes 4 seq ++
    leBytes 4 (f.num % 2 ^ 16 + k * 2 ^ 16 + dTp d * 2 ^ 21 + b f.fb 25 + b f.corr 26 + b pended 27) ++ leBytes 4 f.valid ++
    leBytes 4 ((if dKind d = 3 then 0 else match f.ext with | some e => e.1 | none => 0) + fld (nth 0 d 10) 0 8 * 2 ^ 16) ++
    leBytes 8 at_ ++ List.replicate 24 0

/-- The Frame End timeout of a frame, in ns. -/
def frameTo (f : RxFrame) : Nat := max 1 (fld (nth 0 f.desc 11) 0 16) * 1000

/-- A Frame End on an enabled slot at `at_` (R97 to R100).  R100 speaks of fusion: an intensity frame whose extrinsics record is absent or
invalid is accepted and does not count in DROP_EXT (DESIGN CHOICE, log entry 214). -/
def State.frameEnd (s : State) (k at_ : Nat) : State :=
  match (s.slot k).frame with
  | none => s
  | some f =>
    if f.badHdr || f.badCrc || f.badShape || !frameShapeOk f then s.frameDrop k 0x50
    else if f.start + frameTo f < at_ then s.frameDrop k 0x54
    else if dKind f.desc ≠ 3 && f.ext.isNone then ((s.frameAway k).bump (slotReg k 0x58)).slotIrq k 3
    else
      let x := s.slot k
      let busy : Bool := (nth {} x.bufs (1 - f.buf)).st == 3 && dKind f.desc != 3
      let seq := s.rd (slotReg k 0x60)
      let s1 := s.store (dBase f.desc + f.buf * dStride f.desc) (frameHeader k f seq at_ (f.pended && dKind f.desc != 3))
      let done : RxBuf := { st := 2, desc := f.desc, pos := f.pos, ext := match f.ext with | some e => e.2 | none => [] }
      let s2 := s1.setSlot k { (x.setBuf f.buf done) with frame := none }
      let s3 := (s2.bump32 (slotReg k 0x60) 1).slotIrq k 0
      if dKind f.desc = 3 then s3.bufRuns k f.buf else if busy then s3 else s3.handOver k f.buf

/-- A line of a frame (R89, R91, R92).  Where KIND is 2 and DT_AUX equals DT_PRI, which no rule forbids, every line counts as one of DT_PRI,
so that the frame never has its DT_AUX lines and is dropped (DESIGN CHOICE, log entry 246). -/
def State.frameLine (s : State) (k dt : Nat) (data : List Byte) (crcOk corr : Bool) : State :=
  match (s.slot k).frame with
  | none => s
  | some f =>
    let d := f.desc
    let good : Bool := data.length * 8 == dWidth d * typeBits dt (dW16 d)
    let codes := unpackLine dt (dW16 d) data
    let isAux : Bool := dt == dAux d && dKind d == 2 && dt != dPri d
    let f1 := { f with
      badCrc := f.badCrc || !crcOk
      badShape := f.badShape || !good
      corr := f.corr || corr
      priN := if isAux then f.priN else f.priN + 1
      auxN := if isAux then f.auxN + 1 else f.auxN
      pri := if isAux then f.pri else f.pri ++ [codes]
      aux := if isAux then f.aux ++ [codes] else f.aux }
    let (s1, f2) := s.convert f1 (f1.pri.length + 1)
    s1.setSlot k { s1.slot k with frame := some f2 }

/-! ## Receivers -/

/-- An enabled slot of a receiver that takes packets of a virtual channel.  A staged change of VC is taken at the next Frame Start on the
old VC, and from then on packets match only the new one (DESIGN CHOICE, log entry 213). -/
def State.slotFor (s : State) (rx vc : Nat) : Option Nat :=
  [2 * rx, 2 * rx + 1].find? (fun k => s.slotEn k && dVc (s.slot k).desc == vc)

/-- An uncorrectable header damages every open frame of the receiver, held ones too (R88). -/
def State.hdrDamage (s : State) (k : Nat) : State :=
  if s.slotHolds k then s.slotHold k (.frameBad k)
  else match (s.slot k).frame with
  | none => s
  | some f => s.setSlot k { s.slot k with frame := some { f with badHdr := true } }

/-- The header of a packet: 0 good, 1 corrected, 2 or more uncorrectable (R88). -/
def State.rxHeader (s : State) (rx hdr : Nat) : State :=
  if hdr = 0 then s
  else if hdr = 1 then s.bump (A.ingRxHdrCorr rx)
  else (((s.bump (A.ingRxHdrUncorr rx)).raise (0x20000 + rx * 0x1000) 9).hdrDamage (2 * rx)).hdrDamage (2 * rx + 1)

/-- LANES of a receiver. -/
def State.rxLanes (s : State) (rx : Nat) : Nat := s.rdf (A.ingRxCfg rx) 0 3

/-- Mark the frame's corrected header. -/
def State.frameCorr (s : State) (k hdr : Nat) : State :=
  match (s.slot k).frame with
  | none => s
  | some f => if hdr = 1 then s.setSlot k { s.slot k with frame := some { f with corr := true } } else s

/-- Data types that are accepted or ignored without a count: Line Start and Line End, generic short packets (0x08 to 0x0F), embedded
data (R89). -/
def ignoredType (dt : Nat) : Bool := dt = 0x02 || dt = 0x03 || (0x08 ≤ dt && dt ≤ 0x0F) || dt = 0x12

/-- The lanes of a receiver as an event leaves them: stop state, ULPS, clock lane in HS (Table ING-5).  While LANES is 0 they stay in
low-power receive (R86). -/
def State.setPhy (s : State) (rx phy : Nat) : State := s.wrf (A.ingRxStat rx) 0 9 (if s.rxLanes rx = 0 then phy % 2 ^ 8 else phy)

/-- A packet that is no frame boundary: a long one, or a short one of another type (R88, R89).  The corrected header of a packet that is
ignored or matches no slot is no header of the open frame on its virtual channel: HDR_CORR stays as it is (DESIGN CHOICE, log entry 245). -/
def State.longPacket (s : State) (rx hdr vc dt : Nat) (data : List Byte) (crcOk : Bool) : State :=
  if s.rxLanes rx = 0 then s
  else
    let s1 := s.rxHeader rx hdr
    if 2 ≤ hdr || ignoredType dt then s1
    else match s1.slotFor rx vc with
      | none => s1.bump (A.ingRxUnmatched rx)
      | some k =>
        let d := match (s1.slot k).frame with | some f => f.desc | none => (s1.slot k).desc
        if (dKind d ≠ 0 && dt = dPri d) || (dKind d = 2 && dt = dAux d) then
          if s1.slotHolds k then s1.slotHold k (.frameLine k dt data crcOk (hdr == 1)) else s1.frameLine k dt data crcOk (hdr == 1)
        else s1.bump (A.ingRxUnmatched rx)

/-- The receiver settings that a write must leave valid (R87). -/
def State.rxCfgOk (s : State) (rx : Nat) : Bool :=
  let m := s.rdf (A.ingRxCfg rx) 8 8
  let l (i : Nat) : Nat := fld m (2 * i) 2
  let r := s.rdf (A.ingRxRate rx) 0 12
  s.rxLanes rx ≤ 4 && l 0 ≠ l 1 && l 0 ≠ l 2 && l 0 ≠ l 3 && l 1 ≠ l 2 && l 1 ≠ l 3 && l 2 ≠ l 3 && 80 ≤ r && r ≤ 2500 &&
    (r ≤ 1500 || s.rdb (A.ingRxCfg rx) 20)

/-- The write of ING_RX_CFG or ING_RX_RATE: one that would make the settings invalid is undone and recorded; with LANES 0 the clock lane
is in low-power receive (R86). -/
def State.rxWrite (s : State) (rx a old : Nat) : State :=
  if s.rxCfgOk rx then (if s.rxLanes rx = 0 then s.wrb (A.ingRxStat rx) 8 false else s) else (s.wr a old).pageErr (0x20000 + rx * 0x1000) 0x0100 0

/-- The oldest running buffer of a slot. -/
def RxSlot.oldest (x : RxSlot) : Option Nat :=
  let a := nth {} x.bufs 0
  let b := nth {} x.bufs 1
  if a.st = 3 && (b.st ≠ 3 || a.order < b.order) then some 0 else if b.st = 3 then some 1 else none

/-- The frame of a buffer that has waited for the slot's other buffer is handed over (R97). -/
def State.handNext (s : State) (k b : Nat) : State :=
  if (nth {} (s.slot k).bufs b).st = 2 && !s.ing.handover.contains (k, b) then s.handOver k b else s

/-- The slot that held work belongs to. -/
def Work.slot : Work → Option Nat
  | .frameStart k _ _ _ _ => some k
  | .frameLine k _ _ _ _ => some k
  | .frameEnd k _ _ => some k
  | .frameBad k => some k
  | _ => none

/-- The write of ING_SL_CTRL (R98, R101, R103, R107).  Whether REL finds an intensity slot is judged by the frame in the oldest running
buffer, where the slot's KIND has been written since (DESIGN CHOICE, log entry 248). -/
def State.slotCtrl (s : State) (k old v : Nat) : State :=
  let s1 :=
    if tbit v 0 && !tbit old 0 then
      let d := s.slotWords k
      if slotOk d && !s.vcTaken k d then s.setSlot k { s.slot k with desc := d, frame := none } else s.slotBad k
    else if !tbit v 0 then
      let p := ingPage k
      ({ s.frameAway k with waitIn := s.waitIn.filter (fun x => x.1 ≠ p || x.2.slot ≠ some k) }).quietEdge p (s.busy p)
    else s
  if tbit v 1 then
    match (s1.slot k).oldest with
    | some b =>
      if dKind (nth {} (s1.slot k).bufs b).desc = 3 then
        let s2 := s1.setSlot k ((s1.slot k).setBuf b {})
        s2.handNext k (1 - b)
      else s1
    | none => s1
  else s1

/-- Fusion has been enabled: every frame handed over and still pending becomes running (R104). -/
def State.fusionEnabled (s : State) : List (Nat × Nat) → State
  | [] => s
  | (k, b) :: t => (if (nth {} (s.slot k).bufs b).st = 2 then s.bufRuns k b else s).fusionEnabled t

/-- Fusion of a frame is over (R97, R98): its buffer is free, FUSED, and a frame that waited is handed over. -/
def State.bufFused (s : State) (k b : Nat) : State :=
  let s1 := (s.setSlot k ((s.slot k).setBuf b {})).slotIrq k 1
  s1.handNext k (1 - b)

/-- What frame work a receiver's page held is over: QUIESCED while it is quiesced (R52). -/
def State.ingQuiet (t s : State) (k : Nat) : State := t.quietEdge (ingPage k) (s.busy (ingPage k))

/-- A Frame Start packet (R88, R89, R96). -/
def State.startPacket (s : State) (rx hdr vc num : Nat) : State :=
  if s.rxLanes rx = 0 then s
  else
    let s1 := s.rxHeader rx hdr
    if 2 ≤ hdr then s1
    else match s1.slotFor rx vc with
      | none => s1.bump (A.ingRxUnmatched rx)
      | some k => (s1.frameStart k num (hdr == 1)).ingQuiet s1 k

/-- A Frame End packet (R88, R97); that of a held frame is held behind it. -/
def State.endPacket (s : State) (rx hdr vc : Nat) : State :=
  if s.rxLanes rx = 0 then s
  else
    let s1 := s.rxHeader rx hdr
    if 2 ≤ hdr then s1
    else match s1.slotFor rx vc with
      | none => s1.bump (A.ingRxUnmatched rx)
      | some k =>
        if s1.slotHolds k then s1.slotHold k (.frameEnd k hdr s.now)
        else ((s1.frameCorr k hdr).frameEnd k s.now).ingQuiet s1 k

/-! ## Meanings

The operand `phy` of a receiver's events is the state in which they leave the lanes, as ING_RX_STAT [8:0] shows it. -/

def execCsiLongPacket (rx : Fin 12) (hdr vc dt : Nat) (data : List Byte) (crcOk : Bool) (phy : Nat) (s : State) :
    Host.Outcome State Fault Refusal := .next ((s.setPhy rx phy).longPacket rx hdr vc dt data crcOk)

/-- A Frame Start short packet (R88, R96). -/
def execFrameStart (rx : Fin 12) (hdr vc num phy : Nat) (s : State) : Host.Outcome State Fault Refusal :=
  .next ((s.setPhy rx phy).startPacket rx hdr vc num)

/-- A Frame End short packet (R88, R97). -/
def execFrameEnd (rx : Fin 12) (hdr vc phy : Nat) (s : State) : Host.Outcome State Fault Refusal :=
  .next ((s.setPhy rx phy).endPacket rx hdr vc)

/-- The Frame End did not come in time (R99). -/
def execFrameTimeout (k : Fin 24) (s : State) : Host.Outcome State Fault Refusal :=
  match (s.slot k).frame with
  | none => .next s
  | some f => if s.now < f.start + frameTo f then .next s else .next ((s.frameDrop k 0x54).ingQuiet s k)

/-- A deskew burst on a receiver (R87). -/
def execDeskewBurst (rx : Fin 12) (ok : Bool) (phy : Nat) (s : State) : Host.Outcome State Fault Refusal :=
  let s1 := s.setPhy rx phy
  if s.rdb (A.ingRxCfg rx) 20 && s.rxLanes rx ≠ 0 then .next (s1.wrb (A.ingRxStat rx) 9 ok) else .next s1

/-- A start-of-transmission sync error (R105). -/
def execSotErr (rx : Fin 12) (phy : Nat) (s : State) : Host.Outcome State Fault Refusal :=
  let s1 := s.setPhy rx phy
  if s.rxLanes rx = 0 then .next s1 else .next ((s1.bump (A.ingRxSotErr rx)).raise (0x20000 + rx * 0x1000) 8)

end Sys2Proof.Machine
end

