-- ==== Sys2Proof/Machine/Net.lean ====
section
/-!
DEFINITION. The fabric as a node sends on it: topology, which links are up, the route of a packet, packets and control messages
(R355, R357 to R360, R367).
-/
namespace Sys2Proof.Machine

/-! ## Topology (Table AQD-2) -/

/-- KIND, and the sizes of the dimensions: the ring or group size, then X and Y. -/
def State.topoKind (s : State) : Nat := s.rdf A.aqdTopo 0 2
def State.topoN (s : State) : Nat := s.rdf A.aqdTopo 4 7 + 1
def State.topoX (s : State) : Nat := if s.topoKind = 2 then s.rdf A.aqdTopo 12 3 + 1 else s.topoN
def State.topoY (s : State) : Nat := if s.topoKind = 2 then s.rdf A.aqdTopo 16 4 + 1 else 1
def State.bonded (s : State) : Bool := s.rdb A.aqdTopo 20

/-- The nodes of the topology. -/
def State.nodeCount (s : State) : Nat :=
  match s.topoKind with | 0 => 0 | 3 => s.topoN | _ => s.topoX * s.topoY

/-- A topology that does not form (R355). -/
def State.badTopo (s : State) : Bool := 128 < s.nodeCount || (s.topoKind = 3 && 9 < s.topoN)

/-- The role of a link: the dimension (0 X, 1 Y) and whether it leads in the + direction; none for an unused link. -/
def State.linkRole (s : State) (k : Nat) : Option (Nat × Bool) :=
  let r := if k < 4 then some k else if s.bonded then some (k - 4) else none
  match s.topoKind, r with
  | 1, some 0 => some (0, true)
  | 1, some 1 => some (0, false)
  | 2, some 0 => some (0, true)
  | 2, some 1 => some (0, false)
  | 2, some 2 => some (1, true)
  | 2, some _ => some (1, false)
  | _, _ => none

/-- The next coordinate in a dimension of `n`. -/
def ringStep (n x : Nat) (plus : Bool) : Nat := if plus then (x + 1) % n else (x + n - 1) % n

/-- The node and its link that link `k` of node `id` should reach; a node whose ID the topology does not have has no neighbour (R355). -/
def State.linkPeer (s : State) (id k : Nat) : Option (Nat × Nat) :=
  if s.nodeCount ≤ id then none
  else if s.topoKind = 3 then (if k + 2 ≤ s.topoN then some ((id + k + 1) % s.topoN, s.topoN - 2 - k) else none)
  else match s.linkRole k with
    | none => none
    | some (0, p) => some (ringStep s.topoX (id % s.topoX) p + id / s.topoX * s.topoX, if k % 2 = 0 then k + 1 else k - 1)
    | some (_, p) => some (id % s.topoX + ringStep s.topoY (id / s.topoX) p * s.topoX, if k % 2 = 0 then k + 1 else k - 1)

/-! ## Links that are up and routes (R357, R377) -/

/-- A link that carries traffic. -/
def State.linkUp (s : State) (n : Nat) : Bool := s.svc (linkPage n) = 0

/-- The links up of a node: the own ones as they are, those of another node as it has reported them. -/
def State.linksOfNode (s : State) (id : Nat) : Nat :=
  if id = s.ownNode then ((rangeFrom 0 8).map (fun n => if s.linkUp n then 2 ^ n else 0)).sum
  else match s.aqd.reports.find? (fun x => x.1 = id) with | some x => x.2 | none => 0

/-- The links of a direction. -/
def dirLinks (bond : Bool) (dim : Nat) (plus : Bool) : List Nat :=
  let k := 2 * dim + (if plus then 0 else 1)
  if bond then [k, k + 4] else [k]

/-- `hops` hops from coordinate `x` on are all over links that are up; `id` gives the node at a coordinate. -/
def State.wayUp (s : State) (dim n : Nat) (plus : Bool) (id : Nat → Nat) (x : Nat) : Nat → Bool
  | 0 => true
  | h + 1 => (dirLinks s.bonded dim plus).any (fun k => tbit (s.linksOfNode (id x)) k) && s.wayUp dim n plus id (ringStep n x plus) h

/-- The direction of a packet in a dimension from `x` to `y`: none when neither direction reaches. -/
def State.direction (s : State) (dim n : Nat) (id : Nat → Nat) (x y : Nat) : Option Bool :=
  let f := (y + n - x) % n
  let okF := s.wayUp dim n true id x f
  let okB := s.wayUp dim n false id x (n - f)
  if okF && (f ≤ n - f || !okB) then some true else if okB then some false else none

/-- The own links over which a packet to `dst` can leave; none when it is unreachable. -/
def State.route (s : State) (dst : Nat) : List Nat :=
  let own := s.ownNode
  let up (l : List Nat) : List Nat := l.filter (fun k => s.linkUp k)
  if !s.rdb A.aqdNode 8 || s.nodeCount ≤ dst || s.nodeCount ≤ own || s.badTopo then []
  else if s.topoKind = 3 then up [(dst + s.topoN - own - 1) % s.topoN]
  else
    let nx := s.topoX
    let ny := s.topoY
    let dx := if own % nx = dst % nx then some none else (s.direction 0 nx (fun x => x + own / nx * nx) (own % nx) (dst % nx)).map some
    let dy := if own / nx = dst / nx then some none else (s.direction 1 ny (fun y => dst % nx + y * nx) (own / nx) (dst / nx)).map some
    match dx, dy with
    | some (some p), some _ => up (dirLinks s.bonded 0 p)
    | some none, some (some p) => up (dirLinks s.bonded 1 p)
    | _, _ => []

/-! ## Packets -/

/-- The header of a packet that this node sends (Table AQD-3).  It leaves on virtual channel 0, since it has crossed no dateline yet (R358). -/
structure Header where
  dst    : Nat
  kind   : Nat
  len    : Nat
  tag    : Nat := 0
  status : Nat := 0
  op     : Nat := 0
  addr   : Nat := 0
deriving DecidableEq, Repr

/-- The four words of a header, with the sending node as SRC (Table AQD-3). -/
def Header.words (h : Header) (src : Nat) : List Nat :=
  [h.dst % 2 ^ 7 + src % 2 ^ 7 * 2 ^ 8 + h.kind % 2 ^ 4 * 2 ^ 16 + h.len % 2 ^ 6 * 2 ^ 24,
   h.tag % 2 ^ 16 + h.status % 2 ^ 8 * 2 ^ 16 + h.op % 2 ^ 8 * 2 ^ 24, h.addr % 2 ^ 32, h.addr / 2 ^ 32 % 2 ^ 8]

/-- Send a packet on a link, whose retry buffer keeps it until the far end acknowledges it (R354). -/
def State.sendOn (s : State) (k : Nat) (h : Header) (payload : List Nat) : State :=
  let s1 := (s.bump32 (A.aqdLTx k) 1).emit (.packet k (h.words s.ownNode) payload)
  { s1 with aqd := { s1.aqd with retry := s1.aqd.retry ++ [(k, h.words s.ownNode, payload)] } }

/-- Send a packet to another node; bonded links share the traffic in an order the spec leaves open.  The flag says that it left. -/
def State.packet (s : State) (h : Header) (payload : List Nat) : Bool × State :=
  match s.route h.dst with
  | [] => (false, s)
  | [k] => (true, s.sendOn k h payload)
  | l =>
    let (v, s1) := s.draw 1
    (true, s1.sendOn (nth 0 l v.toNat) h payload)

/-- LEN of a control message: an 8-byte word a pair of DELTA, else two numbers of 32 bits a word (log entry 257). -/
def controlLen (op : Nat) (payload : List Nat) : Nat := min 32 (if op = 0x0A then payload.length / 3 else (payload.length + 1) / 2)

/-- Send a control message (Table AQD-6). -/
def State.control (s : State) (dst op : Nat) (payload : List Nat) : State :=
  (s.packet { dst := dst, kind := 5, len := controlLen op payload, op := op } payload).2

/-- The other nodes of the topology that a packet reaches now. -/
def State.nodesReached (s : State) : List Nat := (rangeFrom 0 s.nodeCount).filter (fun n => n ≠ s.ownNode && !(s.route n).isEmpty)

/-- The other nodes that messages go to: those in service, and those that have reported their links while they join (R375). -/
def State.members (s : State) : List Nat :=
  (rangeFrom 0 128).filter (fun n => n ≠ s.ownNode && (s.nodeUp n || s.aqd.reports.any (fun x => x.1 = n && x.2 ≠ 0)))

/-- Send a control message to every other node of the fabric. -/
def State.broadcast (s : State) (op : Nat) (payload : List Nat) : State := s.members.foldl (fun t n => t.control n op payload) s

/-- The node's service state (Table AQD-10). -/
def State.nodeSvc (s : State) : Nat := s.rdf A.aqdNodeStat 0 3

/-- A node in a fabric, whose cuts are the fabric's (R125, R369). -/
def State.inFabric (s : State) : Bool := s.rdb A.wldCtrl 1 && s.rdb A.aqdNode 8 && s.nodeSvc ≠ 2

/-- The epochs this node pins (R124, R367). -/
def State.ownPins (s : State) : List Nat :=
  ([s.rd A.wldPinPass, s.rd A.wldPinMoor, s.rd (A.wldPin 0), s.rd (A.wldPin 1), s.rd (A.wldPin 2), s.rd (A.wldPin 3)].filter
    (fun n => n ≠ 0)).foldl (fun l n => setIns n l) []

/-- Send the pin set when it has changed. -/
def State.pinsetSend (s : State) : State :=
  let l := s.ownPins
  if !s.inFabric || l = s.aqd.pinSent then s else { s with aqd := { s.aqd with pinSent := l } }.broadcast 0x03 l

end Sys2Proof.Machine
end

