-- ==== Sys2Proof/Machine/WldMem.lean ====
section
/-!
DEFINITION. The data of the world map: memory layout, slots and their reference counts, bricks of the working epoch copied
before they are written, and the value of the field at a point (R108 to R116, R124, R130).
-/
namespace Sys2Proof.Machine

/-! ## Layout (Table WLD-7) -/

/-- Next multiple of `k` from `a` on. -/
def alignUp (k a : Nat) : Nat := (a + k - 1) / k * k

/-- Start of the coarse pool, of the fine pool, and the end of the world area, of a base and pool sizes. -/
def poolC (base c f : Nat) : Nat := alignUp 4096 (base + 0x4100000 + 16 * (c + f))
def poolF (base c f : Nat) : Nat := poolC base c f + c * 0xC00
def poolEnd (base c f : Nat) : Nat := poolF base c f + f * 0x400

/-- Addresses of a coarse slot, a fine slot, a header, a directory entry, and of an attached field's grid and links. -/
def State.wCoarse (s : State) (c : Nat) : Nat := poolC s.wld.base s.wld.cCnt s.wld.fCnt + c * 0xC00
def State.wFine (s : State) (f : Nat) : Nat := poolF s.wld.base s.wld.cCnt s.wld.fCnt + f * 0x400
def State.wHdr (s : State) (fine : Bool) (k : Nat) : Nat := s.wld.base + 0x4100000 + 16 * (if fine then s.wld.cCnt + k else k)
def dirBase (base set layer : Nat) : Nat := base + 0x100000 + (2 * set + layer) * 0x400000
def State.wDir (s : State) (set layer i : Nat) : Nat := dirBase s.wld.base set layer + 4 * i
def State.wGrid (s : State) (n : Nat) : Nat := s.wld.base + 0x2900000 + n * 0x180000
def State.wLinks (s : State) (n : Nat) : Nat := s.wGrid n + 0x80000

/-- Index of the coarse brick, of the voxel in it, and of the region of a coarse voxel (R108, R109, R115). -/
def brickIdx (x y z : Nat) : Nat := x / 8 + y / 8 * 128 + z / 8 * 16384
def voxIdx (x y z : Nat) : Nat := x % 8 + y % 8 * 8 + z % 8 * 64
def regionIdx (x y z : Nat) : Nat := x / 64 + y / 64 * 16 + z / 64 * 256
/-- The region of a coarse brick by its index. -/
def brickRegion (i : Nat) : Nat := fld i 0 7 / 8 + fld i 7 7 / 8 * 16 + fld i 14 6 / 8 * 256

/-! ## Slots (R110, R111, R124) -/

/-- References to a slot. -/
def State.refs (s : State) (fine : Bool) (k : Nat) : Nat := Sparse.get (fun _ => 0) (if fine then s.wld.refF else s.wld.refC) k

/-- Slots in use or waiting for their release, rising. -/
def State.slotsUsed (s : State) (fine : Bool) : List Nat :=
  (if fine then s.wld.relF else s.wld.relC).foldl (fun l k => setIns k l) ((if fine then s.wld.refF else s.wld.refC).map (·.1))

/-- Free slots of a pool. -/
def State.slotsFree (s : State) (fine : Bool) : Nat := (if fine then s.wld.fCnt else s.wld.cCnt) - (s.slotsUsed fine).length

/-- WLD_FUSE_RESERVE of a pool. -/
def State.reserveOf (s : State) (fine : Bool) : Nat := s.rdf A.wldFuseReserve (if fine then 16 else 0) 16

/-- The free counters follow; a count that drops below the reserve raises POOL_LOW. -/
def State.showFree (s : State) (fine : Bool) : State :=
  let a := if fine then A.wldFpoolFree else A.wldCpoolFree
  let n := s.slotsFree fine
  let s1 := s.wr a n
  if n < s.reserveOf fine && s.reserveOf fine ≤ s.rd a then s1.raise 0x30000 11 else s1

/-- Set the reference count of a slot and REFS of its header. -/
def State.setRefs (s : State) (fine : Bool) (k n : Nat) : State :=
  let w := if fine then { s.wld with refF := Sparse.set (fun _ => 0) s.wld.refF k n }
    else { s.wld with refC := Sparse.set (fun _ => 0) s.wld.refC k n }
  let s1 := { s with wld := w }
  s1.poke32 (s1.wHdr fine k + 4) (putFld (s1.peek32 (s1.wHdr fine k + 4)) 24 3 n)

/-- The `k`-th number that a rising list leaves out. -/
def nthFree : List Nat → Nat → Nat
  | [], k => k
  | u :: t, k => if u ≤ k then nthFree t (k + 1) else k

/-- Take a slot of a pool: which free one is not specified (R124), so a free value chooses. -/
def State.newSlot (s : State) (fine : Bool) : Option (Nat × State) :=
  let n := s.slotsFree fine
  if n = 0 then none
  else
    let (v, s1) := s.draw 32
    let k := nthFree (s.slotsUsed fine) (v.toNat % n)
    some (k, (s1.setRefs fine k 1).showFree fine)

/-- Write a header: KEY, EPS, LAYER, ATT, CRC and EPOCH; REFS stays (Table WLD-4). -/
def State.putHdr (s : State) (fine : Bool) (k key eps layer att crc : Nat) : State :=
  let a := s.wHdr fine k
  let w := eps % 2 ^ 16 + layer % 2 * 2 ^ 16 + att % 16 * 2 ^ 20 + fld (s.peek32 (a + 4)) 24 3 * 2 ^ 24
  let e := match s.wld.working with | some x => x.num | none => 0
  s.store a (leBytes 4 key ++ leBytes 4 w ++ leBytes 4 crc ++ leBytes 4 e)

/-- A slot has lost its last reference: it waits for its background release. -/
def State.slotGone (s : State) (fine : Bool) (k : Nat) : State :=
  { s with wld := if fine then { s.wld with relF := setIns k s.wld.relF } else { s.wld with relC := setIns k s.wld.relC } }

/-- One reference to a fine slot less. -/
def State.dropFine (s : State) (f : Nat) : State :=
  let n := s.refs true f - 1
  let s1 := s.setRefs true f n
  if n = 0 then s1.slotGone true f else s1

/-- The fine links of a coarse slot that are PRESENT: voxel and fine slot. -/
def State.linksOf (s : State) (c : Nat) : List (Nat × Nat) :=
  (rangeFrom 0 512).filterMap (fun v =>
    let w := s.peek32 (s.wCoarse c + 0x400 + 4 * v)
    if tbit w 31 then some (v, fld w 0 23) else none)

/-- One reference to a coarse slot less; with the last one its fine bricks lose theirs. -/
def State.dropCoarse (s : State) (c : Nat) : State :=
  let n := s.refs false c - 1
  let s1 := s.setRefs false c n
  if n = 0 then (s.linksOf c).foldl (fun t x => t.dropFine x.2) (s1.slotGone false c) else s1

/-! ## Writing the working epoch -/

/-- The working epoch's directory set. -/
def State.wSet (s : State) : Nat := match s.wld.working with | some e => e.set | none => 0
/-- The working epoch's region entry of a coarse brick. -/
def State.wRegion (s : State) (i : Nat) : Nat := match s.wld.working with | some e => nth 0 e.regions (brickRegion i) | none => 0

/-- A coarse brick has been written in the working epoch. -/
def State.dirtied (s : State) (i : Nat) : State := { s with wld := { s.wld with dirty := setIns i s.wld.dirty } }

/-- A slot has been written in the working epoch: DIRTY and EPOCH of its header. -/
def State.touched (s : State) (fine : Bool) (k : Nat) : State :=
  let e := match s.wld.working with | some x => x.num | none => 0
  let a := s.wHdr fine k
  let s1 := (s.poke32 (a + 4) (putBit (s.peek32 (a + 4)) 18 true)).poke32 (a + 12) e
  { s1 with wld := if fine then { s1.wld with wroteF := setIns k s1.wld.wroteF } else { s1.wld with wroteC := setIns k s1.wld.wroteC } }

/-- Set a directory entry of the working epoch. -/
def State.setDir (s : State) (layer i v : Nat) : State := s.poke32 (s.wDir s.wSet layer i) v
/-- A directory entry of the working epoch. -/
def State.dirNow (s : State) (layer i : Nat) : Nat := s.peek32 (s.wDir s.wSet layer i)

/-- `n` bytes of one 16-bit word. -/
def fill16 (n v : Nat) : List Byte := (List.replicate n (leBytes 2 v)).flatten

/-- A coarse slot of the working epoch for a brick, one that no other directory refers to: the brick's own, a copy of a shared
one, or a new one filled with the UNIFORM value (R118, R120).  A brick of any other kind starts UNKNOWN. -/
def State.ownCoarse (s : State) (layer i : Nat) : Option (Nat × State) :=
  let d := s.dirNow layer i
  let fresh (v : Nat) : Option (Nat × State) :=
    match s.newSlot false with
    | none => none
    | some (c, s1) =>
      some (c, (((s1.store (s1.wCoarse c) (fill16 512 v ++ List.replicate 0x800 0)).putHdr false c i 0 layer 0 (if layer = 0 then crc32 (fill16 512 v) else 0)).setDir layer i
        (c + 2 ^ 30)))
  match fld d 30 2 with
  | 0 => fresh (fld d 0 16)
  | 1 =>
    let c := fld d 0 22
    if s.refs false c ≤ 1 then some (c, s)
    else match s.newSlot false with
      | none => none
      | some (n, s1) =>
        let s2 := (s1.store (s1.wCoarse n) (s1.readMem (s1.wCoarse c) 0xC00)).putHdr false n i (s1.peek32 (s1.wHdr false c + 4))
          layer 0 (s1.peek32 (s1.wHdr false c + 8))
        let s3 := (s2.linksOf n).foldl (fun t x => t.setRefs true x.2 (t.refs true x.2 + 1)) s2
        some (n, (s3.dropCoarse c).setDir layer i (n + 2 ^ 30))
  | _ => fresh 0x8000

/-- Set a fine link of a coarse slot. -/
def State.setLink (s : State) (c v w : Nat) : State := s.poke32 (s.wCoarse c + 0x400 + 4 * v) w
/-- A fine link of a coarse slot. -/
def State.linkOf (s : State) (c v : Nat) : Nat := s.peek32 (s.wCoarse c + 0x400 + 4 * v)

/-- KEY of the fine brick in voxel `v` of coarse brick `i`. -/
def fineKey (i v : Nat) : Nat :=
  (fld i 0 7 * 8 + v % 8) + (fld i 7 7 * 8 + v / 8 % 8) * 2 ^ 10 + (fld i 14 6 * 8 + v / 64) * 2 ^ 20 + 2 ^ 31

/-- A fine slot of the working epoch for a voxel, one that no other coarse slot refers to, with the coarse slot that names it; a
new one holds UNKNOWN everywhere (R120). -/
def State.ownFine (s : State) (layer i v : Nat) : Option (Nat × Nat × State) :=
  match s.ownCoarse layer i with
  | none => none
  | some (c, s1) =>
    let w := s1.linkOf c v
    let f := fld w 0 23
    if tbit w 31 && s1.refs true f ≤ 1 then some (f, c, s1)
    else match s1.newSlot true with
      | none => none
      | some (n, s2) =>
        if tbit w 31 then
          let s3 := (s2.store (s2.wFine n) (s2.readMem (s2.wFine f) 0x400)).putHdr true n (fineKey i v)
            (s2.peek32 (s2.wHdr true f + 4)) layer 0 (s2.peek32 (s2.wHdr true f + 8))
          some (n, c, (s3.dropFine f).setLink c v (n + 2 ^ 31))
        else
          some (n, c, ((s2.store (s2.wFine n) (fill16 512 0x0800)).putHdr true n (fineKey i v) 0 layer 0 0).setLink c v (n + 2 ^ 31))

/-- PRED of a fine brick's header in the dynamic layer: a voxel of it is PREDICTED (R110, R111). -/
def State.showPred (s : State) (f : Nat) : State :=
  let ws := (rangeFrom 0 512).map (fun k => leNat (s.readMem (s.wFine f + 2 * k) 2))
  let a := s.wHdr true f + 4
  s.poke32 a (putBit (s.peek32 a) 17 (ws.any (fun w => w / 4096 = 0 && fld w 0 12 ≠ 0x800)))

/-- Drop the fine brick of one voxel of an own coarse slot. -/
def State.unlink (s : State) (c v : Nat) : State :=
  let w := s.linkOf c v
  if tbit w 31 then (s.setLink c v 0).dropFine (fld w 0 23) else s

/-- The directory entry of a brick becomes UNIFORM; its slot and fine bricks leave the working epoch. -/
def State.setUniform (s : State) (layer i v : Nat) : State :=
  let d := s.dirNow layer i
  let s1 := s.setDir layer i (v % 2 ^ 16)
  if fld d 30 2 = 1 then s1.dropCoarse (fld d 0 22) else s1

/-! ## Reading the field (R109, R113, R179) -/

/-- What reading has met: an entry of the reserved kind, a fetch fault, a brick of another node whose fetch has not come, the
uncorrectable words and the corrected words read, and the lines whose fetch faulted (node, and line address or number there). -/
structure Seen where
  dirBad : Bool := false
  fault  : Bool := false
  miss   : Bool := false
  ue     : List Nat := []
  ce     : List Nat := []
  bad    : List (Option Nat × Nat) := []
deriving DecidableEq, Repr

/-- Both. -/
def Seen.and (a b : Seen) : Seen :=
  { dirBad := a.dirBad || b.dirBad, fault := a.fault || b.fault, miss := a.miss || b.miss, ue := a.ue ++ b.ue
    ce := a.ce ++ b.ce, bad := a.bad ++ b.bad }

/-- What the read of `n` bytes meets. -/
def State.meets (s : State) (a n : Nat) : Seen :=
  let l := wordsIn s.spd.ue a n
  { fault := !l.isEmpty, ue := l, ce := wordsIn s.spd.ce a n, bad := if l.isEmpty then [] else [(none, a / 1024)] }

/-- One sample: whether it lies in the view, is UNKNOWN or PREDICTED, its value in D16 LSB, EPS of its brick, its region entry. -/
structure Smp where
  inside : Bool := true
  unk    : Bool := false
  pred   : Bool := false
  value  : Int := 0
  eps    : Nat := 0
  region : Nat := 0
deriving DecidableEq, Repr

/-- A line of the brick cache. -/
def State.cacheLine (s : State) (node : Option Nat) (fine : Bool) (slot line : Nat) : Option CacheLine :=
  s.wld.lines.find? (fun r => r.node = node && r.fine == fine && r.slot = slot && r.line = line)

/-- Bytes of a slot of node `node` (absent: this one) from offset `o` on, within one line, with EPS of its header (R179, R366, R372). -/
def State.slotBytes (s : State) (node : Option Nat) (fine : Bool) (k o n : Nat) : List Byte × Nat × Seen :=
  match node with
  | none =>
    let a := (if fine then s.wFine k else s.wCoarse k) + o
    let h := s.wHdr fine k + 4
    (s.readMem a n, fld (s.peek32 h) 0 16, (s.meets (a / 1024 * 1024) 1024).and (s.meets h 4))
  | some m =>
    match s.cacheLine (some m) fine k (o / 1024) with
    | some r => ((r.data.drop (o % 1024)).take n, r.eps, { fault := r.bad, bad := if r.bad then [(some m, (k * 4 + o / 1024) * 2 + fine.toNat)] else [] })
    | none => (List.replicate n 0, 0, { miss := true })

/-- The directory entry of a brick in an epoch: none for UNIFORM with its value, else node and coarse slot. -/
inductive Entry
  | uniform (v : Nat)
  | brick (node : Option Nat) (slot : Nat)
  | reserved
deriving DecidableEq, Repr

/-- Decode a directory entry (Table WLD-2, R366). -/
def entryOf (d : Nat) : Entry :=
  match fld d 30 2 with
  | 0 => .uniform (fld d 0 16)
  | 1 => .brick none (fld d 0 22)
  | 2 => .brick (some (fld d 23 7)) (fld d 0 22)
  | _ => .reserved

/-- A coarse sample of a layer of an epoch. -/
def State.coarseSmp (s : State) (e : Epoch) (layer : Nat) (x y z : Int) : Smp × Seen :=
  if x < 0 || 1024 ≤ x || y < 0 || 1024 ≤ y || z < 0 || 512 ≤ z then ({ inside := false }, {})
  else
    let i := brickIdx x.toNat y.toNat z.toNat
    let v := voxIdx x.toNat y.toNat z.toNat
    let r := nth 0 e.regions (regionIdx x.toNat y.toNat z.toNat)
    let here := s.meets (s.wDir e.set layer i) 4
    match entryOf (s.peek32 (s.wDir e.set layer i)) with
    | .uniform d => ({ unk := d == 0x8000, value := sgn 16 d, region := r }, here)
    | .brick node c =>
      let (bs, eps, seen) := s.slotBytes node false c (2 * v) 2
      ({ unk := leNat bs == 0x8000, value := sgn 16 (leNat bs), eps := eps, region := r }, here.and seen)
    | .reserved => ({ unk := true, region := r }, here.and { dirBad := true })

/-- The fine slot of a coarse voxel, if it holds a fine brick. -/
def State.fineOf (s : State) (e : Epoch) (layer x y z : Nat) : Option (Option Nat × Nat) × Seen :=
  let i := brickIdx x y z
  let here := s.meets (s.wDir e.set layer i) 4
  match entryOf (s.peek32 (s.wDir e.set layer i)) with
  | .brick node c =>
    let (bs, _, seen) := s.slotBytes node false c (0x400 + 4 * voxIdx x y z) 4
    (if tbit (leNat bs) 31 then some (node, fld (leNat bs) 0 23) else none, here.and seen)
  | .reserved => (none, here.and { dirBad := true })
  | .uniform _ => (none, here)

/-- The value of a fine voxel word: UNKNOWN, PREDICTED, DIST (R110). -/
def fineWord (layer w eps region : Nat) : Smp :=
  { unk := fld w 0 12 == 0x800, pred := layer == 1 && w / 4096 % 16 == 0, value := sgn 12 (fld w 0 12), eps := eps, region := region }

/-- A fine sample, if its coarse voxel holds a fine brick. -/
def State.fineSmp (s : State) (e : Epoch) (layer : Nat) (a b c : Int) : Option Smp × Seen :=
  if a < 0 || 8192 ≤ a || b < 0 || 8192 ≤ b || c < 0 || 4096 ≤ c then (none, {})
  else
    let (x, y, z) := (a.toNat, b.toNat, c.toNat)
    match s.fineOf e layer (x / 8) (y / 8) (z / 8) with
    | (some (node, f), seen) =>
      let (bs, eps, more) := s.slotBytes node true f (2 * voxIdx x y z) 2
      (some (fineWord layer (leNat bs) eps (nth 0 e.regions (regionIdx (x / 8) (y / 8) (z / 8)))), seen.and more)
    | (none, seen) => (none, seen)

/-- The value of a sample as the interpolation takes it (R113, cond). -/
def State.cond (s : State) (layer : Nat) (m : Smp) : Int :=
  if !m.inside then sgn 16 (s.rdf A.wldOutside 0 16)
  else if m.unk then (if tbit m.region 0 then -32767 else sgn 16 (s.rdf A.wldUnkClear 0 16))
  else if layer = 1 && m.pred then m.value - (fld m.region 16 16 : Nat)
  else m.value

/-- The eight corners of a cell. -/
def corners : List (Nat × Nat × Nat) :=
  [(0, 0, 0), (1, 0, 0), (0, 1, 0), (1, 1, 0), (0, 0, 1), (1, 0, 1), (0, 1, 1), (1, 1, 1)]

/-- The weight of a corner at fractions `t` of a cell of size `n`. -/
def cornerWeight (n : Nat) (t : Int × Int × Int) (k : Nat × Nat × Nat) : Int :=
  (if k.1 = 1 then t.1 else n - t.1) * (if k.2.1 = 1 then t.2.1 else n - t.2.1) * (if k.2.2 = 1 then t.2.2 else n - t.2.2)

/-- Interpolate samples, less eps: in D16 LSB times the cube of `n`. -/
def State.blend (s : State) (layer n : Nat) (t : Int × Int × Int) (l : List ((Nat × Nat × Nat) × Smp)) : Int :=
  let sum := (l.map (fun x => cornerWeight n t x.1 * s.cond layer x.2)).sum
  let eps := l.foldl (fun m x => max m (if !x.2.inside then 0 else if layer = 1 then fld x.2.region 32 16 else x.2.eps)) 0
  sum - (eps * n ^ 3 : Nat)

/-- layer_value of R113 at a point relative to the origin, in P32 LSB: D16 LSB times 2^42. -/
def State.layerValue (s : State) (e : Epoch) (layer : Nat) (p : Int × Int × Int) : Int × Seen :=
  let cell (n : Int) : (Int × Int × Int) × (Int × Int × Int) :=
    let u := (p.1 - n / 2, p.2.1 - n / 2, p.2.2 - n / 2)
    ((u.1 / n, u.2.1 / n, u.2.2 / n), (u.1 % n, u.2.1 % n, u.2.2 % n))
  let (fi, ft) := cell 2048
  let fs := corners.map (fun k => (k, s.fineSmp e layer (fi.1 + k.1) (fi.2.1 + k.2.1) (fi.2.2 + k.2.2)))
  let seen := fs.foldl (fun (m : Seen) x => m.and x.2.2) {}
  if fs.all (fun x => x.2.1.isSome) then
    (s.blend layer 2048 ft (fs.filterMap (fun x => x.2.1.map (fun m => (x.1, m)))) * 512, seen)
  else
    let (ci, ct) := cell 16384
    let cs := corners.map (fun k => (k, s.coarseSmp e layer (ci.1 + k.1) (ci.2.1 + k.2.1) (ci.2.2 + k.2.2)))
    (s.blend layer 16384 ct (cs.map (fun x => (x.1, x.2.1))), cs.foldl (fun (m : Seen) x => m.and x.2.2) seen)

/-- The view origin in P32 LSB (R108). -/
def State.origin (s : State) : Int × Int × Int := (sgn 32 (s.rd (A.wldOrigin 0)), sgn 32 (s.rd (A.wldOrigin 1)), sgn 32 (s.rd (A.wldOrigin 2)))

/-- One in the scale of exact field values: 1 D16 LSB. -/
def fieldOne : Int := 2 ^ 42

/-- field(p) of R113 before its rounding, at a point in P32 LSB; a fetch fault counts as −511.984 mm (R179). -/
def State.field (s : State) (e : Epoch) (p : Int × Int × Int) : Int × Seen :=
  let o := s.origin
  let q := (p.1 - o.1, p.2.1 - o.2.1, p.2.2 - o.2.2)
  let (a, sa) := s.layerValue e 0 q
  let (b, sb) := s.layerValue e 1 q
  let seen := sa.and sb
  (if seen.fault then -32767 * fieldOne else min a b, seen)

/-- field(p) as a D16 value (R8). -/
def State.fieldD16 (s : State) (e : Epoch) (p : Int × Int × Int) : Nat := d16 ((s.field e p).1 / fieldOne)

/-- Count what queries have met: WLD_DIR_BAD once a query, corrected words once, since HBM then holds them corrected, uncorrectable words as
read by requester (class, ID) (R109, R525). -/
def State.note (s : State) (cls id : Nat) (q : Seen) : State :=
  let s1 := s.corrected ((q.ce.filter s.spd.ce.contains).foldl (fun l w => setIns w l) [])
  q.ue.foldl (fun t w => t.recordUe cls id w) (if q.dirBad then s1.bump A.wldDirBad else s1)

end Sys2Proof.Machine
end

