-- ==== Sys2Proof/Machine/Wld.lean ====
section
/-!
DEFINITION. The world map at work: pool initialisation, loads, cuts with propagation, publication and retirement of epochs, pins,
attached-field loads, and the brick cache (R115 to R119, R123 to R133).
-/
namespace Sys2Proof.Machine

/-- INIT_DONE. -/
def State.wldReady (s : State) : Bool := s.rdb A.wldStat 0

/-- BUSY of the world map page follows its work (R52). -/
def State.wldBusy (s : State) : State :=
  s.setBusy 0x30000 (s.wld.initRun || s.wld.cut.isSome || s.wld.load.isSome || s.wld.fusing.isSome ||
    s.wld.att.any (fun x => x.cmd ≠ 0))

/-! ## The region table (R115) -/

/-- A copy of the region table: an entry with an uncorrectable word keeps its earlier value `prev`, and records REGION_UE; corrected words are
counted (R525). -/
def State.copyRegions (s : State) (base : Nat) (prev : Nat → Nat) : Nat → Nat → List Nat × State
  | _, 0 => ([], s)
  | r, n + 1 =>
    match s.fetch 5 5 (base + 8 * r) 8 with
    | (some bs, u) =>
      let (l, t) := u.copyRegions base prev (r + 1) n
      (leNat bs :: l, t)
    | (none, u) =>
      let (l, t) := (u.pageErr 0x30000 0x0106 r).copyRegions base prev (r + 1) n
      (prev r :: l, t)

/-! ## Pool initialisation (R130, R131) -/

/-- Half-open ranges meet. -/
def meetRange (a b c d : Nat) : Bool := a < d && c < b

/-- The world area overlaps a buffer of an enabled ingress slot. -/
def State.hitsIngress (s : State) (lo hi : Nat) : Bool :=
  (rangeFrom 0 24).any (fun k =>
    let d := (s.slot k).desc
    s.slotEn k && (meetRange lo hi (dBase d) (dBase d + bufBytes d) ||
      meetRange lo hi (dBase d + dStride d) (dBase d + dStride d + bufBytes d)))

/-- The memory configuration that R130 refuses. -/
def State.badMemCfg (s : State) : Bool :=
  let base := s.rd64 A.wldMemBase % 2 ^ 48
  let c := s.rdf A.wldCpoolCnt 0 23
  let f := s.rdf A.wldFpoolCnt 0 24
  base % 2 ^ 20 ≠ 0 || !inHbm base 1 || c = 0 || 4194304 < c || f = 0 || 8388608 < f || 0x1800000000 < poolEnd base c f ||
    s.hitsIngress base (poolEnd base c f)

/-- The write of POOL_INIT: the region table is copied at that moment. -/
def State.poolInit (s : State) : State :=
  if s.wld.initRun || s.wldReady then s.pageErr 0x30000 0x0107 0
  else if s.badMemCfg then s.pageErr 0x30000 0x0100 0
  else
    let base := s.rd64 A.wldMemBase % 2 ^ 48
    let (l, s1) := s.copyRegions base (fun _ => 1 + s.ownNode * 2 ^ 48) 0 2048
    let w : WldState := { s1.wld with
      initRun := true, base := base, cCnt := s.rdf A.wldCpoolCnt 0 23, fCnt := s.rdf A.wldFpoolCnt 0 24
      working := some { num := 1, set := 0, regions := l } }
    { s1 with wld := w }.wldBusy

/-- Every entry of a directory set at its initial value: static UNIFORM 0x7FFF, dynamic UNIFORM 0x8000 (R131). -/
def State.clearDirs (s : State) (set : Nat) : State :=
  let a := dirBase s.wld.base set 0
  (s.fill a (a + 0x400000) 0x7FFF).fill (a + 0x400000) (a + 0x800000) 0x8000

/-! ## Epochs, pins and retirement (R123, R124, R127) -/

/-- The registers that show which epochs live. -/
def State.showEpochs (s : State) : State :=
  let l := s.wld.alive
  let newest := match l.getLast? with | some e => e.num | none => 0
  let oldest := match l.head? with | some e => e.num | none => 0
  ((s.wrf A.wldStat 4 3 l.length).wr A.wldEpochNewest newest).wr A.wldEpochOldest oldest

/-- Epochs pinned by the pass, the verification, the user pins and other nodes. -/
def State.pinned (s : State) : List Nat :=
  [s.rd A.wldPinPass, s.rd A.wldPinMoor, s.rd (A.wldPin 0), s.rd (A.wldPin 1), s.rd (A.wldPin 2), s.rd (A.wldPin 3)] ++
    s.wld.pinsets.flatMap (·.2)

/-- The entries of a directory that differ from its fill, by index. -/
def State.dirListed (s : State) (set layer : Nat) : List Nat :=
  let a := dirBase s.wld.base set layer
  ((s.mem.filter (fun c => a ≤ c.1 && c.1 < a + 0x400000)).map (fun c => (c.1 - a) / 4)).foldl (fun l i => setIns i l) []

/-- Every coarse slot that a directory names. -/
def State.dirSlots (s : State) (set layer : Nat) : List Nat :=
  (s.dirListed set layer).filterMap (fun i =>
    match entryOf (s.peek32 (s.wDir set layer i)) with | .brick none c => some c | _ => none)

/-- An epoch retires: its directories let go of their slots. -/
def State.retireSet (s : State) (set : Nat) : State :=
  (s.dirSlots set 0 ++ s.dirSlots set 1).foldl (fun t c => t.dropCoarse c) s

/-- Every epoch that is neither newest nor pinned retires; a changed pin set goes to the fabric (R367). -/
def State.retire (s0 : State) : State :=
  let s := s0.pinsetSend
  let newest := s.wld.alive.getLast?
  let keep (e : Epoch) : Bool := decide (some e.num = newest.map (·.num)) || s.pinned.contains e.num
  let gone := s.wld.alive.filter (fun e => !keep e)
  let s1 := { s with wld := { s.wld with alive := s.wld.alive.filter keep } }
  (gone.foldl (fun t e => t.retireSet e.set) s1).showEpochs

/-- Publishing leaves at most 4 epochs alive (R125). -/
def State.canPublish (s : State) : Bool := (s.wld.alive.filter (fun e => s.pinned.contains e.num)).length + 1 ≤ 4

/-- An alive epoch by its number. -/
def State.epoch (s : State) (n : Nat) : Option Epoch := s.wld.alive.find? (fun e => e.num = n)

/-- The write of WLD_PIN_n (R127). -/
def State.pinWrite (s : State) (n v : Nat) : State :=
  let s1 := if v = 0 || (s.epoch v).isSome then s else (s.wr (A.wldPin n) 0).pageErr 0x30000 0x0102 0
  s1.retire

/-! ## Attached fields: loads and what waits for the cut (R118, R119, R128) -/

/-- Change an attached field. -/
def State.setAtt (s : State) (n : Nat) (f : AttField → AttField) : State :=
  { s with wld := { s.wld with att := upd f s.wld.att n } }
/-- An attached field. -/
def State.att (s : State) (n : Nat) : AttField := nth {} s.wld.att n

/-- A half word of a field's memory with what is staged; the links of a field that is given up are gone. -/
def State.attHalf (s : State) (n a : Nat) : Nat :=
  match (s.att n).staged.find? (fun x => x.1 = a) with
  | some x => x.2
  | none => if (s.att n).drop && s.wLinks n ≤ a then 0 else leNat (s.readMem a 2)

/-- Stage half words of a field, which then waits for the cut. -/
def State.attStage (s : State) (n : Nat) (l : List (Nat × Nat)) : State :=
  (s.setAtt n (fun x => { x with staged := l ++ x.staged })).wrb (A.wldAttStat n) 17 true

/-- Grid and link addresses of local voxel (x, y, z) of a field. -/
def State.attCell (s : State) (n x y z : Nat) : Nat := s.wGrid n + 2 * (x + 64 * y + 4096 * z)
def State.attLink (s : State) (n x y z : Nat) : Nat := s.wLinks n + 4 * (x + 64 * y + 4096 * z)

/-- Half words of a link. -/
def linkHalves (a w : Nat) : List (Nat × Nat) := [(a, w % 2 ^ 16), (a + 2, w / 2 ^ 16 % 2 ^ 16)]

/-- The 512 local voxels of a coarse brick of a field. -/
def brickVoxels (i : Nat) : List (Nat × Nat × Nat) :=
  (rangeFrom 0 512).map (fun v => (fld i 0 7 * 8 + v % 8, fld i 7 7 * 8 + v / 8 % 8, fld i 14 6 * 8 + v / 64))

/-- The local voxels of a field that hold a fine brick, as staged, with the fine slots that their links name. -/
def State.attCells (s : State) (n : Nat) : List (Nat × Nat) :=
  let a := s.wLinks n
  let mine := (s.mem.filter (fun c => a ≤ c.1 && c.1 < a + 0x100000)).map (fun c => (c.1 - a) / 4) ++
    ((s.att n).staged.filter (fun c => a ≤ c.1 && c.1 < a + 0x100000)).map (fun c => (c.1 - a) / 4)
  (mine.foldl (fun l i => setIns i l) []).filterMap (fun i =>
    let w := s.attHalf n (a + 4 * i) + s.attHalf n (a + 4 * i + 2) * 2 ^ 16
    if tbit w 31 then some (i, fld w 0 23) else none)

/-- The fine slots that a field's links name, as staged. -/
def State.attLinked (s : State) (n : Nat) : List Nat := (s.attCells n).map (·.2)

/-- ATT of a header for field `n`: n + 1; for field 15 the four bits do not hold it, and its value is free (log entry 215). -/
def State.attCode (s : State) (n : Nat) : Nat × State :=
  if n = 15 then ((s.draw 4).1.toNat, (s.draw 4).2) else (n + 1, s)

/-- A fine brick for a field, with its content, written in the working epoch.  Table WLD-4 gives LAYER and CRC for the static and the dynamic
layer only: the header of an attached brick has LAYER 1 and CRC 0 (DESIGN CHOICE, log entry 249). -/
def State.attBrick (s : State) (n key eps : Nat) (bs : List Byte) : Option (Nat × State) :=
  match s.newSlot true with
  | none => none
  | some (f, s1) =>
    let (code, s2) := s1.attCode n
    some (f, (((s2.store (s2.wFine f) bs).putHdr true f key eps 1 code 0).touched true f).setAtt n (fun x => { x with taken := f :: x.taken }))

/-- What waits for the cut takes effect (R128): staged words, the anchor of a capture, a release, after which the field stands in its own local
grid again; fine bricks no longer named go back to the pool. -/
def State.attCommit (s : State) (n : Nat) : State :=
  let x := s.att n
  if x.staged.isEmpty && x.anchor2.isNone && !x.drop && x.taken.isEmpty then s
  else
    let s0 := if x.drop then (s.wrb (A.wldAttCfg n) 0 false).fill (s.wLinks n) (s.wLinks n + 0x100000) 0 else s
    let s1 := x.staged.reverse.foldl (fun t c => t.store c.1 (leBytes 2 c.2)) s0
    let s2 := s1.setAtt n (fun y => { y with staged := [], drop := false })
    let now := s2.attLinked n
    let gone := (x.fine ++ x.taken).filter (fun f => !now.contains f)
    let s3 := gone.foldl (fun t f => t.dropFine f) s2
    let s4 := s3.setAtt n (fun y => { y with
      fine := now, taken := [], drop := false, anchor2 := none
      anchor := match x.anchor2 with | some a => a | none => if x.drop then [] else y.anchor })
    (s4.wrf (A.wldAttStat n) 0 13 now.length).wrb (A.wldAttStat n) 17 false

/-! ## Load packets (R116 to R119) -/

/-- What becomes of a packet. -/
inductive Packet
  | applied | skipped | noPredict | poolEmpty
deriving DecidableEq, Repr

def pktW (bs : List Byte) (i : Nat) : Nat := leNat ((bs.drop (4 * i)).take 4)

/-- The key of a packet lies in an attached field's grid. -/
def localKey (key : Nat) : Bool :=
  if tbit key 31 then fld key 0 10 < 64 && fld key 10 10 < 64 && fld key 20 9 < 64
  else fld key 0 7 < 8 && fld key 7 7 < 8 && fld key 14 6 < 8

/-- The checks of R119. -/
def packetOk (bs : List Byte) : Bool :=
  let key := pktW bs 0
  let w := pktW bs 1
  let op := fld w 0 2
  let layer := fld w 2 2
  let fine := tbit key 31
  op ≠ 3 && layer ≠ 3 && (if fine then fld key 29 2 = 0 else fld key 20 11 = 0) && ((bs.drop 0x0A).take 2).all (· = 0) &&
    ((bs.drop 0x10).take 0x30).all (· = 0) && !(op = 1 && fine) && (!tbit w 4 || (op = 0 && fine && layer = 1)) &&
    (layer ≠ 2 || localKey key) && (if op = 0 then crc32 (bs.drop 0x40) = pktW bs 3 else pktW bs 3 = 0)

/-- Coarse brick and voxel of a key. -/
def keyBrick (key : Nat) : Nat := if tbit key 31 then brickIdx (fld key 0 10) (fld key 10 10) (fld key 20 9) else fld key 0 20
def keyVoxel (key : Nat) : Nat := voxIdx (fld key 0 10) (fld key 10 10) (fld key 20 9)

/-- A payload holds an UNKNOWN sample. -/
def payloadUnknown (fine : Bool) (bs : List Byte) : Bool :=
  (rangeFrom 0 512).any (fun k =>
    let w := leNat ((bs.drop (2 * k)).take 2)
    if fine then fld w 0 12 == 0x800 else w == 0x8000)

/-- The payload of a predicted write over the voxels that stand: those observed keep their word (R117). -/
def predicted : List Byte → List Byte → List Byte
  | a :: b :: t, c :: d :: u =>
    (if fld (leNat [a, b]) 12 4 = 0 then leBytes 2 (fld (leNat [c, d]) 0 12) else [a, b]) ++ predicted t u
  | _, _ => []

/-- The region of brick `i` is not homed here, or its bricks are being copied to a new home, so nothing may be written into it (R365, R368). -/
def State.foreign (s : State) (i : Nat) : Bool :=
  s.rdb A.wldCtrl 1 && (fld (s.wRegion i) 48 7 ≠ s.ownNode || s.aqd.rehome.any (fun x => x.1 = brickRegion i))

/-- Apply a packet to the static or dynamic layer. -/
def State.applyWorld (s : State) (bs : List Byte) : Packet × State :=
  let key := pktW bs 0
  let w := pktW bs 1
  let layer := fld w 2 2
  let eps := fld (pktW bs 2) 0 16
  let i := keyBrick key
  let v := keyVoxel key
  let body := bs.drop 0x40
  let s0 := if layer = 0 && ((fld w 0 2 = 0 && payloadUnknown (tbit key 31) body) || (fld w 0 2 = 1 && fld w 16 16 = 0x8000)) then
    s.bump A.wldStaticUnk else s
  match fld w 0 2, tbit key 31 with
  | 0, false =>
    match s0.ownCoarse layer i with
    | none => (.poolEmpty, s)
    | some (c, s1) =>
      let s2 := (s1.store (s1.wCoarse c) body).putHdr false c i eps layer 0 (if layer = 0 then pktW bs 3 else 0)
      (.applied, (s2.touched false c).dirtied i)
  | 0, true =>
    match s0.ownFine layer i v with
    | none => (.poolEmpty, s)
    | some (f, c, s1) =>
      let data := if tbit w 4 then predicted (s1.readMem (s1.wFine f) 0x400) body else body
      let s2 := (s1.store (s1.wFine f) data).putHdr true f key eps layer 0 (if layer = 0 then pktW bs 3 else 0)
      let s3 := if layer = 1 then s2.showPred f else s2
      (.applied, ((s3.touched true f).touched false c).dirtied i)
  | 1, _ => (.applied, (s0.setUniform layer i (fld w 16 16)).dirtied i)
  | _, fine =>
    let d := s0.dirNow layer i
    if fld d 30 2 ≠ 1 || (if fine then !tbit (s0.linkOf (fld d 0 22) v) 31 else (s0.linksOf (fld d 0 22)).isEmpty) then (.applied, s0)
    else match s0.ownCoarse layer i with
      | none => (.poolEmpty, s)
      | some (c, s1) =>
        let s2 := if fine then s1.unlink c v else (s1.linksOf c).foldl (fun t x => t.unlink c x.1) s1
        (.applied, (s2.touched false c).dirtied i)

/-- Apply a packet to an attached field (LAYER 2). -/
def State.applyAtt (s : State) (bs : List Byte) : Packet × State :=
  let key := pktW bs 0
  let w := pktW bs 1
  let n := fld w 8 4
  let body := bs.drop 0x40
  let (x, y, z) := (fld key 0 10, fld key 10 10, fld key 20 9)
  match fld w 0 2, tbit key 31 with
  | 0, false =>
    let l := (rangeFrom 0 512).map (fun v => leNat ((body.drop (2 * v)).take 2))
    (.applied, s.attStage n (((brickVoxels key).zip l).map (fun p => (s.attCell n p.1.1 p.1.2.1 p.1.2.2, p.2))))
  | 0, true =>
    if 4096 ≤ (s.attLinked n).length && s.attHalf n (s.attLink n x y z + 2) < 2 ^ 15 then
      (.skipped, s.pageErr 0x30000 0x0103 0)
    else match s.attBrick n key (fld (pktW bs 2) 0 16) body with
      | none => (.poolEmpty, s)
      | some (f, s1) => (.applied, s1.attStage n (linkHalves (s1.attLink n x y z) (f + 2 ^ 31)))
  | 1, _ =>
    (.applied, s.attStage n ((brickVoxels key).flatMap (fun p =>
      (s.attCell n p.1 p.2.1 p.2.2, fld w 16 16) :: linkHalves (s.attLink n p.1 p.2.1 p.2.2) 0)))
  | _, true => (.applied, s.attStage n (linkHalves (s.attLink n x y z) 0))
  | _, false =>
    (.applied, s.attStage n ((brickVoxels key).flatMap (fun p => linkHalves (s.attLink n p.1 p.2.1 p.2.2) 0)))

/-- Apply one packet. -/
def State.applyPacket (s : State) (bs : List Byte) : Packet × State :=
  if !packetOk bs then (.skipped, s)
  else
    let w := pktW bs 1
    if fld w 2 2 = 2 then s.applyAtt bs
    else
      let i := keyBrick (pktW bs 0)
      if tbit w 4 && (s.foreign i || !tbit (s.wRegion i) 2) then (.noPredict, s)
      else if s.foreign i then (.skipped, s)
      else s.applyWorld bs

/-- The next load starts when none runs and no cut runs (R118, R125). -/
def State.startLoad (s : State) : State :=
  match s.wld.load, s.wld.cut, s.wld.loadQ with
  | none, none, l :: t =>
    if s.pageOpen 0x30000 then
      (({ s with wld := { s.wld with load := some l, loadQ := t } }.wr A.wldLoadDoneCnt 0).wrb A.wldStat 1 true).wldBusy.heatCut
    else s
  | _, _, _ => s

/-- A load is over (R118, R295). -/
def State.endLoad (s : State) (l : LoadRun) : State :=
  let s1 := { s with wld := { s.wld with load := none } }.wrb A.wldStat 1 false
  let s2 := match l.fus with
    | none => s1.raise 0x30000 10
    | some (acc, h) =>
      let e : UnitEnd := { acc := acc, h := h, status := if l.failed then 0x09 else 0, result := min 0xFFFF l.applied }
      { s1 with dsp := { s1.dsp with ended := s1.dsp.ended ++ [e] } }
  s2.startLoad.wldBusy

/-- A load that runs or waits goes before another host load. -/
def State.hostLoads (s : State) : Bool :=
  s.wld.load.isSome || s.wld.loadQ.any (fun l => l.fus.isNone)

/-- The write of LOAD_GO (R118, R131). -/
def State.loadGo (s : State) : State :=
  if !s.wldReady then s.pageErr 0x30000 0x0104 0
  else if s.hostLoads then s.bump A.wldLoadBusy
  else
    let l : LoadRun := { addr := s.rd64 A.wldLoadAddr % 2 ^ 48, cnt := s.rdf A.wldLoadCnt 0 20 }
    { s with wld := { s.wld with loadQ := s.wld.loadQ ++ [l] } }.startLoad

/-- A FUS launch (R293, R295). -/
def State.fusLaunch (s : State) (addr cnt acc h : Nat) : State :=
  if !s.wldReady then
    let e : UnitEnd := { acc := acc, h := h, status := 0x09, result := 0 }
    { s with dsp := { s.dsp with ended := s.dsp.ended ++ [e] } }.pageErr 0x30000 0x0104 0
  else
    let l : LoadRun := { addr := addr, cnt := cnt, fus := some (acc, h) }
    { s with wld := { s.wld with loadQ := s.wld.loadQ ++ [l] } }.startLoad

/-- A packet is skipped and counted; the first of a load is recorded (R119). -/
def State.packetSkip (s : State) (l : LoadRun) : State × LoadRun :=
  let s1 := s.bump A.wldLoadRej
  if l.noted then (s1, { l with failed := true })
  else (s1.pageErr 0x30000 0x0101 (l.idx % 2 ^ 20), { l with failed := true, noted := true })

/-- One packet after another is applied in address order (R118, R119, R523). -/
def State.loadPacket (s : State) : State :=
  match s.wld.load with
  | none => s
  | some l =>
    if l.cnt ≤ l.idx then s.endLoad l
    else
      let a := l.addr + 1088 * l.idx
      let (data, s1) := if inLocal a 1088 then s.fetch 5 5 a 1088 else (none, s)
      let next (t : State) (m : LoadRun) : State :=
        let m1 := { m with idx := m.idx + 1 }
        if m1.cnt ≤ m1.idx then t.endLoad m1 else { t with wld := { t.wld with load := some m1 } }
      match data with
      | none => let (s2, m) := s1.packetSkip l; next s2 m
      | some bs =>
        match s1.applyPacket bs with
        | (.applied, s2) => next (s2.wr A.wldLoadDoneCnt ((l.applied + 1) % 2 ^ 20)) { l with applied := l.applied + 1 }
        | (.skipped, s2) => let (s3, m) := s2.packetSkip l; next s3 m
        | (.noPredict, s2) => next (s2.bump A.wldPredRej) l
        | (.poolEmpty, s2) => (s2.pageErr 0x30000 0x0105 0).endLoad { l with failed := true }

/-! ## Propagation (R125, R126) -/

/-- The coarse bricks in scope: every brick with a voxel whose centre lies within 64 mm of one of a dirty brick, which is two
bricks each way. -/
def scopeOf (i : Nat) : List Nat :=
  (rangeFrom 0 125).filterMap (fun k =>
    let x : Int := (fld i 0 7 : Int) + (k % 5 : Nat) - 2
    let y : Int := (fld i 7 7 : Int) + (k / 5 % 5 : Nat) - 2
    let z : Int := (fld i 14 6 : Int) + (k / 25 : Nat) - 2
    if 0 ≤ x && x < 128 && 0 ≤ y && y < 128 && 0 ≤ z && z < 64 then some (x + 128 * y + 16384 * z).toNat else none)

/-- Every brick in scope of a list of dirty ones, rising. -/
def scopeAll (l : List Nat) : List Nat := (l.flatMap scopeOf).foldl (fun m i => setIns i m) []

/-- What the read of a brick of the dynamic layer meets: of this node its coarse slot and its fine bricks, of another node the lines of its
coarse slot (R126, R366). -/
def State.brickSeen (s : State) (i : Nat) : Seen :=
  match entryOf (s.dirNow 1 i) with
  | .brick none c =>
    (s.linksOf c).foldl (fun q x => q.and (s.meets (s.wFine x.2) 0x400)) (s.meets (s.wCoarse c) 0xC00)
  | .brick (some m) c => (rangeFrom 0 3).foldl (fun q k => q.and (s.slotBytes (some m) false c (0x400 * k) 0x400).2.2) {}
  | _ => {}

/-- The lines that a propagation or a capture has been sent stand beside those of the cache. -/
def State.withHeld (s : State) : State := { s with wld := { s.wld with lines := s.wld.held ++ s.wld.lines } }

/-- A brick that propagation cannot write or read reads as occupied (R126). -/
def State.propFail (s : State) (i : Nat) : State := s.setUniform 1 i 0x8001

/-- The words of a fine brick. -/
def State.fineWords (s : State) (f : Nat) : List Nat := (rangeFrom 0 512).map (fun k => leNat (s.readMem (s.wFine f + 2 * k) 2))

/-- The least known DIST of a fine brick as a D16 code, and whether the brick is freed (R126). -/
def fineBrickValue (ws : List Nat) : Nat × Bool :=
  let known := (ws.filter (fun w => fld w 0 12 ≠ 0x800)).map (fun w => sgn 12 (fld w 0 12))
  (match known with | [] => 0x8000 | x :: t => enc 16 (t.foldl min x),
   ws.all (fun w => fld w 12 4 ≠ 0 && fld w 0 12 ≠ 0x800 && decide ((512 : Int) ≤ sgn 12 (fld w 0 12))))

/-- The first rule of R126 on one brick: its voxels with fine bricks.  Gives the voxels that held one. -/
def State.propFine (s : State) (i : Nat) : State :=
  match entryOf (s.dirNow 1 i) with
  | .brick none c0 =>
    let l := s.linksOf c0
    let upds := (l.map (fun x => (x.1, fineBrickValue (s.fineWords x.2)))).filter (fun x =>
      x.2.2 || leNat (s.readMem (s.wCoarse c0 + 2 * x.1) 2) ≠ x.2.1)
    if upds.isEmpty then s
    else match s.ownCoarse 1 i with
      | none => (s.propFail i).pageErr 0x30000 0x0105 0
      | some (c, s1) =>
        let s2 := upds.foldl (fun t x =>
          let t1 := t.store (t.wCoarse c + 2 * x.1) (leBytes 2 x.2.1)
          if x.2.2 then t1.unlink c x.1 else t1) s1
        (s2.touched false c).dirtied i
  | _ => s

/-- The integer part, towards minus infinity, of |c_v − c_w| − 3.469 mm in D16 LSB for a squared voxel distance. -/
def distLsb (n : Nat) : Int :=
  let r := isqrt (65536 * n * 1000000)
  let k : Int := ((r : Int) - 222016) / 1000
  k

/-- What a voxel adds as a source of R126: absent when it neither holds a fine brick nor is UNKNOWN; an UNKNOWN one adds WLD_UNK_CLEAR
where its region has UNK_OCC 0, also where it holds a fine brick. -/
def State.propSource (s : State) (x y z : Nat) : Option Int × Bool :=
  let i := brickIdx x y z
  let v := voxIdx x y z
  let unk : Int := if tbit (s.wRegion i) 0 then 0 else sgn 16 (s.rdf A.wldUnkClear 0 16)
  match entryOf (s.dirNow 1 i) with
  | .uniform d => (if d = 0x8000 then some unk else none, false)
  | .reserved => (some unk, true)
  | .brick node c =>
    let (bs, _, _) := s.slotBytes node false c (2 * v) 2
    let (ls, _, _) := s.slotBytes node false c (0x400 + 4 * v) 4
    (if leNat bs = 0x8000 then some unk else if tbit (leNat ls) 31 then some 0 else none, false)

/-- The second rule of R126 for a voxel: the least bound over the voxels within 64 mm; with it whether a reserved entry was
met. -/
def State.propVoxel (s : State) (x y z : Nat) : Int × Bool :=
  (rangeFrom 0 35937).foldl (fun (m : Int × Bool) k =>
    let dx : Int := (k % 33 : Nat) - 16
    let dy : Int := (k / 33 % 33 : Nat) - 16
    let dz : Int := (k / 1089 : Nat) - 16
    let n := (dx * dx + dy * dy + dz * dz).toNat
    let (u, v, w) := ((x : Int) + dx, (y : Int) + dy, (z : Int) + dz)
    if 256 < n || u < 0 || 1024 ≤ u || v < 0 || 1024 ≤ v || w < 0 || 512 ≤ w then m
    else
      let (src, bad) := s.propSource u.toNat v.toNat w.toNat
      (match src with | some a => min m.1 (distLsb n + a) | none => m.1, m.2 || bad)) (3840, false)

/-- The second rule of R126 on one brick, over the state `s0` in which every fine brick has been judged; `held` are its voxels
that held a fine brick before. -/
def State.propCoarse (s s0 : State) (i : Nat) (held : List Nat) : State :=
  let vox := brickVoxels i
  let e := entryOf (s0.dirNow 1 i)
  let code (v : Nat) : Nat :=
    match e with
    | .uniform d => d
    | .brick none c => leNat (s0.readMem (s0.wCoarse c + 2 * v) 2)
    | _ => 0x8000
  let skip (v : Nat) : Bool := code v == 0x8000 || held.contains v
  match e with
  | .brick (some _) _ => s
  | _ =>
    let res := (vox.zip (rangeFrom 0 512)).map (fun p =>
      if skip p.2 then (code p.2, decide (e = .reserved))
      else
        let (d, b) := s0.propVoxel p.1.1 p.1.2.1 p.1.2.2
        (d16 d, b))
    let s1 := s.bumpBy A.wldDirBad (res.filter (·.2)).length
    let new := res.map (·.1)
    if new = (rangeFrom 0 512).map code then s1
    else match s1.ownCoarse 1 i with
      | none => (s1.propFail i).pageErr 0x30000 0x0105 0
      | some (c, s2) => ((s2.store (s2.wCoarse c) (new.flatMap (leBytes 2))).touched false c).dirtied i

/-- The voxels of a brick that hold a fine brick. -/
def State.fineVoxels (s : State) (i : Nat) : List Nat :=
  match entryOf (s.dirNow 1 i) with | .brick none c => (s.linksOf c).map (·.1) | _ => []

/-- A brick is read; where its data cannot be read because a word is uncorrectable, here or at its home, it fails, and a word of this node is
recorded (R126, R304; log entry 254). -/
def State.propRead (s : State) (i : Nat) : State :=
  let q := s.brickSeen i
  let s1 := s.note 5 5 { q with dirBad := false, ue := q.ue.take 1 }
  if q.fault then s1.propFail i else s1

/-- Lines of other nodes' bricks that propagation needs have not come. -/
def State.propWaits (s : State) : Bool := (scopeAll (scopeAll s.wld.dirty)).any (fun i => (s.withHeld.brickSeen i).miss)

/-- Propagation (R126): every brick that the bricks in scope need is read, and those in scope are written. -/
def State.propagate (s0 : State) : State :=
  let s := s0.withHeld
  let scope := scopeAll s.wld.dirty
  let good := scope.filter (fun i => !(s.brickSeen i).fault)
  let s1 := (scopeAll scope).foldl State.propRead s
  let held := good.map (fun i => (i, s1.fineVoxels i))
  let s2 := good.foldl (fun t i => t.propFine i) s1
  let s3 := held.foldl (fun t x => t.propCoarse s2 x.1 x.2) s2
  { s3 with wld := { s3.wld with lines := s0.wld.lines, held := [] } }

/-! ## Cuts (R125) -/

/-- A cut starts here, or merges into the running one. -/
def State.cutStart (s : State) : State :=
  if !s.wldReady then s.pageErr 0x30000 0x0104 0
  else if s.wld.cut.isSome then s.bump A.wldCutMerged
  else ({ s with wld := { s.wld with cut := some { step := .drain, asked := s.now } } }.wrb A.wldStat 2 true).wldBusy

/-- A propagated cut that cannot publish waits: CUT_WAIT is set, and counted and raised once a cut (R125, R369). -/
def State.cutWaits (s : State) (c : CutRun) : State :=
  if c.wait.isSome then s
  else (({ s with wld := { s.wld with cut := some { c with wait := some s.now } } }.wrb A.wldStat 3 true).bump A.wldCutWaitCnt).raise 0x30000 9

/-- Propagation has ended: the cut goes on to publication, or waits.  It has not ended while lines of other nodes' bricks are on their way. -/
def State.cutPropagated (s : State) : State :=
  match s.wld.cut with
  | none => s
  | some c =>
    if c.step ≠ .drain || s.wld.fusing.isSome || s.wld.load.isSome || s.propWaits then s
    else
      let d : CutRun := { c with step := .propagated }
      let s1 := s.propagate
      let s2 := { s1 with wld := { s1.wld with cut := some d } }
      if s1.canPublish then s2 else s2.cutWaits d

/-- DIRTY of the slots written falls when they are published. -/
def State.cleanHdrs (s : State) (fine : Bool) (l : List Nat) : State :=
  l.foldl (fun t k => t.poke32 (t.wHdr fine k + 4) (putBit (t.peek32 (t.wHdr fine k + 4)) 18 false)) s

/-- The epoch after `n`: 1 follows 0xFFFF_FFFF (R123). -/
def epochAfter (n : Nat) : Nat := if n = 0xFFFFFFFF then 1 else n + 1

/-- The working epoch is published, attached-field changes with it, and older epochs retire. -/
def State.publish (s : State) : State :=
  match s.wld.cut, s.wld.working with
  | some c, some e =>
    let s1 := match c.wait with
      | some t => (s.bump32 A.wldCutWaitUs ((s.now - t) / 1000)).wrb A.wldStat 3 false
      | none => s
    let s2 := (s1.cleanHdrs false s1.wld.wroteC).cleanHdrs true s1.wld.wroteF
    let w : WldState := { s2.wld with
      alive := s2.wld.alive ++ [e], working := none, dirty := [], wroteC := [], wroteF := []
      cut := some { c with step := .copying, wait := none } }
    let s3 := (rangeFrom 0 16).foldl (fun t n => t.attCommit n) { s2 with wld := w }
    s3.retire
  | _, _ => s

/-- Copy `n` bytes of device memory with the pattern that lies under them. -/
def State.copyBlock (s : State) (src dst n : Nat) : State :=
  let pat := match s.fills.find? (fun f => f.lo = src && f.hi = src + n) with | some f => f.pat | none => 0
  let ue := (s.spd.ue.filter (fun w => src ≤ w && w < src + n)).map (fun w => w - src + dst)
  let cells := s.mem.filter (fun c => src ≤ c.1 && c.1 < src + n)
  let s1 := s.fill dst (dst + n) pat
  let s2 := cells.foldl (fun t c => { t with mem := Sparse.set t.unlisted t.mem (c.1 - src + dst) c.2 }) s1
  let keep := s2.spd.ue.filter (fun w => !(dst ≤ w && w < dst + n))
  { s2 with spd := { s2.spd with ue := ue.foldl (fun l w => setIns w l) keep } }

/-- The lowest directory set that no alive epoch holds (R130). -/
def freeSet (alive : List Epoch) : Nat :=
  match (rangeFrom 0 5).find? (fun k => !alive.any (fun e => e.set = k)) with | some k => k | none => 0

/-- The new working epoch: region table and directories copied (R125 step 4). -/
def State.newWorking (s : State) : State :=
  match s.wld.alive.getLast? with
  | none => s
  | some e =>
    let k := freeSet s.wld.alive
    let b := s.wld.base
    let s1 := (s.copyBlock (dirBase b e.set 0) (dirBase b k 0) 0x400000).copyBlock (dirBase b e.set 1) (dirBase b k 1) 0x400000
    let s2 := (s1.dirSlots k 0 ++ s1.dirSlots k 1).foldl (fun t c => t.setRefs false c (t.refs false c + 1)) s1
    let (l, s3) := s2.copyRegions b (fun r => nth 0 e.regions r) 0 2048
    { s3 with wld := { s3.wld with working := some { num := epochAfter e.num, set := k, regions := l } } }

/-- The cut is done: WLD_CUT_LAT in 10 ns; a latency the field cannot hold is a free value (log entry 26). -/
def State.cutEnd (s : State) : State :=
  match s.wld.cut with
  | none => s
  | some c =>
    let lat := (s.now - c.asked) / 10
    let (v, s1) := if lat < 2 ^ 24 then (lat, s) else ((s.draw 24).1.toNat, (s.draw 24).2)
    let s2 := (({ s1 with wld := { s1.wld with cut := none } }.wr A.wldCutLat v).wrb A.wldStat 2 false).raise 0x30000 8
    s2.startLoad.wldBusy

/-! ## The brick cache (R124, R129) -/

/-- The lines of 1 KiB that the cache holds: WLD_CACHE_SIZE MiB, of which 0 acts as 1 (log entry 216). -/
def State.cacheCap (s : State) : Nat := max 1 (s.rdf A.wldCacheSize 0 6) * 1024

/-- Address of a line of the cache in the scratchpad. -/
def State.cacheAddr (s : State) (place : Nat) : Nat := 0x0100000000 + s.rdf A.wldCacheOff 20 7 * 2 ^ 20 + place * 1024

/-- A fetched line takes a free line of the cache, or the place of another one; which, the spec does not say, so a free value chooses
(log entry 216).  Its bytes stand in the scratchpad. -/
def State.cachePut (s : State) (x : CacheLine) (bytes : List Byte) : State :=
  let cap := s.cacheCap
  let l := s.wld.lines.filter (fun y => y.place < cap && !(y.node = x.node && y.fine == x.fine && y.slot = x.slot && y.line = x.line))
  let used := l.foldl (fun m y => setIns y.place m) []
  let (v, s1) := s.draw 32
  let p := if used.length < cap then nthFree used (v.toNat % (cap - used.length)) else v.toNat % cap
  let s2 := { s1 with wld := { s1.wld with lines := { x with place := p } :: l.filter (fun y => y.place ≠ p) } }
  if inSpd (s2.cacheAddr p) 1024 then s2.store (s2.cacheAddr p) bytes else s2

/-- A propagation or a capture is under way, which keeps the lines that it is sent until it has read them. -/
def State.holdsLines (s : State) : Bool :=
  (match s.wld.cut with | some c => c.step = .drain | none => false) || s.wld.att.any (fun x => x.cmd = 1)

/-- A line of another node's brick is kept for the propagation or the capture that reads it. -/
def State.lineHeld (s : State) (x : CacheLine) : State :=
  if s.holdsLines then { s with wld := { s.wld with held := x :: s.wld.held } } else s

/-- The address of a line of a slot; the pools of another node lie as the own ones do (log entry 258). -/
def State.lineAddr (s : State) (fine : Bool) (slot line : Nat) : Nat := (if fine then s.wFine slot else s.wCoarse slot) + line * 1024

/-- The reads of a line of 1 KiB at another node: four of 256 bytes, each under the next tag (R129, R362, R363). -/
def State.lineReads (s : State) (m a : Nat) : State :=
  (rangeFrom 0 4).foldl (fun t k =>
    let u := (t.packet { dst := m, kind := 0, len := 32, tag := t.aqd.tagNo, addr := a + 256 * k } []).2
    { u with aqd := { u.aqd with tagNo := (u.aqd.tagNo + 1) % 2 ^ 16 } }) s

/-- The answers of a home to the reads of a line come over the link that the reads leave on (log entry 258). -/
def State.lineCame (s : State) (m : Nat) : State := match s.route m with | k :: _ => s.bump32 (A.aqdLRx k) 4 | [] => s

/-- A line of another node's brick is fetched: its reads go out, once more where the first ones have failed, and end with the bytes or a fetch
fault, for a home that no route reaches at once (R362).  A fetch for which the 768 requests of a node leave no room waits (R363). -/
def State.farFetched (s : State) (m : Nat) (x : CacheLine) (again : Bool) : State :=
  if 768 < s.aqd.reqs.length + 4 then s
  else
    let bad := x.bad || (s.route m).isEmpty
    let twice := again || (s.route m).isEmpty
    let a := s.lineAddr x.fine x.slot x.line
    let s1 := (s.bump32 A.wldCacheMiss 1).lineReads m a
    let s2 := if twice then (s1.lineReads m a).bump A.aqdRdRetry else s1
    let s3 := if bad then s2.bump A.aqdReqFail else s2.lineCame m
    (s3.cachePut { x with bad := bad } x.data).lineHeld { x with bad := bad }

/-- A brick cache miss is filled: a line of a local slot, or one of another node with what its home sent; `again` says that its read was
issued once more (R362). -/
def State.brickFetched (s : State) (node : Option Nat) (fine : Bool) (slot line eps crc : Nat) (data : List Byte) (bad again : Bool) : State :=
  match node with
  | none =>
    let s1 := s.bump32 A.wldCacheMiss 1
    s1.cachePut { node := none, fine := fine, slot := slot, line := line, place := 0 } (s1.readMem (s.lineAddr fine slot line) 1024)
  | some m =>
    s.farFetched m { node := some m, fine := fine, slot := slot, line := line, place := 0, eps := eps, crc := crc, data := data, bad := bad }
      again

/-- Slots that wait for their release return to the free lists, at most 64 at once, and leave the cache. -/
def State.slotRelease (s : State) (n : Nat) : State :=
  let c := s.wld.relC.take (min n 64)
  let f := s.wld.relF.take (min n 64 - c.length)
  let away (a : CacheLine) : Bool := a.node.isNone && (if a.fine then f.contains a.slot else c.contains a.slot)
  let w : WldState := { s.wld with
    relC := s.wld.relC.filter (fun k => !c.contains k), relF := s.wld.relF.filter (fun k => !f.contains k)
    lines := s.wld.lines.filter (fun a => !away a) }
  ({ s with wld := w }.showFree false).showFree true

/-! ## Meanings -/

/-- A field that a full reset has lost (R131): it links no fine brick, and what its grid holds until it is filled again is a free value
(log entry 218). -/
def State.attLose (s : State) (n : Nat) : State :=
  let (v, s1) := s.draw 32
  (s1.fill (s1.wLinks n) (s1.wLinks n + 0x100000) 0).fill (s1.wGrid n) (s1.wLinks n) v.toNat

/-- Pool initialisation ends (R131): free lists, working epoch 1 and its directories; a load that waits can start. -/
def execPoolInitDone (s : State) : Host.Outcome State Fault Refusal :=
  if !s.wld.initRun || !s.hbmRuns then .next s
  else
    let s1 := { s with wld := { s.wld with initRun := false } }.clearDirs 0
    let c := s1.wld.cCnt
    let f := s1.wld.fCnt
    let s2 := ((s1.wr64 A.wldCpoolAddr (poolC s1.wld.base c f)).wr64 A.wldFpoolAddr (poolF s1.wld.base c f)).wr64 A.wldMemEnd
      (poolEnd s1.wld.base c f)
    let s3 := (rangeFrom 0 16).foldl State.attLose s2
    .next ((((s3.wr A.wldCpoolFree c).wr A.wldFpoolFree f).wrb A.wldStat 0 true).wldBusy)

def execLoadPacket (s : State) : Host.Outcome State Fault Refusal := .next (if s.loadpath then s.loadPacket else s)

def execSlotRelease (n : Nat) (s : State) : Host.Outcome State Fault Refusal := .next (s.slotRelease n)

def execBrickFetchDone (node : Option Nat) (fine : Bool) (slot line eps crc : Nat) (data : List Byte) (bad again : Bool) (s : State) :
    Host.Outcome State Fault Refusal := .next (if node.isSome || s.hbmRuns then s.brickFetched node fine slot line eps crc data bad again else s)

end Sys2Proof.Machine
end

