-- ==== Sys2Proof/Machine/Fk.lean ====
section
/-!
DEFINITION. Robots: description and tool set records, forward kinematics, displacement bounds (R135 to R139, R163, R524).
-/
namespace Sys2Proof.Machine

/-! ## Records -/

/-- Signed 32-bit words of a byte string from an offset on. -/
def sWords (bs : List Byte) (o n : Nat) : List Int := (rangeFrom 0 n).map (fun i => sgn 32 (leNat ((bs.drop (o + 4 * i)).take 4)))
def uWord (bs : List Byte) (o : Nat) : Nat := leNat ((bs.drop o).take 4)

/-- Element of a list of integers. -/
def ith (l : List Int) (i : Nat) : Int := nth 0 l i

/-- The sum of the squares of an axis. -/
def axisSq (a : List Int) : Int := ith a 0 * ith a 0 + ith a 1 * ith a 1 + ith a 2 * ith a 2

/-- A joint entry passes (R139): TYPE, and AXIS within 2^-20 of unit length, or zero for a fixed joint. -/
def jointOk (j : Joint) : Bool :=
  if j.typ = 0 then axisSq j.axis = 0
  else j.typ ≤ 2 && (2 ^ 30 - 2 ^ 10) ^ 2 ≤ axisSq j.axis && axisSq j.axis ≤ (2 ^ 30 + 2 ^ 10) ^ 2

/-- A sphere entry at an offset, with its lever bounds at `lev` for joint index j. -/
def sphereAt (bs : List Byte) (o : Nat) (lev : Nat → Nat) : Sphere :=
  let w := sWords bs o 3
  { centre := (ith w 0, ith w 1, ith w 2), radius := fld (uWord bs (o + 12)) 0 24, link := fld (uWord bs (o + 12)) 24 4
    levers := (rangeFrom 0 8).map (fun j => uWord bs (lev j)) }

/-- The CRC-32 of a record with its CRC field read as zero. -/
def zeroedCrc (bs : List Byte) (crcOff : Nat) : Nat := crc32 (bs.take crcOff ++ [0, 0, 0, 0] ++ bs.drop (crcOff + 4))

/-- A robot description record, if it passes the checks of R139. -/
def parseDesc (bs : List Byte) : Option Desc :=
  let j := fld (uWord bs 4) 0 4
  let nl := fld (uWord bs 4) 8 7
  let joints := (rangeFrom 0 j).map (fun i =>
    Joint.mk (fld (uWord bs (0x40 + 64 * i)) 0 2) (sWords bs (0x44 + 64 * i) 12) (sWords bs (0x74 + 64 * i) 3))
  let spheres := (rangeFrom 0 nl).map (fun s => sphereAt bs (0x240 + 16 * s) (fun i => 0x640 + (i * 64 + s) * 4))
  if fld (uWord bs 0) 0 16 = 0x5244 && fld (uWord bs 0) 16 8 = 1 && 1 ≤ j && j ≤ 8 && 1 ≤ nl && nl ≤ 64 && uWord bs 8 = 3648 &&
      joints.all jointOk && spheres.all (fun s => s.link ≤ j) && zeroedCrc bs 0x0C = uWord bs 0x0C then
    some { base := sWords bs 0x10 12, joints := joints, spheres := spheres, crc := uWord bs 0x0C }
  else none

/-- A tool set record for a robot of `j` joints, if it passes the checks of R139. -/
def parseTool (bs : List Byte) (j : Nat) : Option ToolSet :=
  let nt := fld (uWord bs 4) 0 6
  let spheres := (rangeFrom 0 nt).map (fun t => sphereAt bs (0x40 + 16 * t) (fun i => 0x240 + (i * 32 + t) * 4))
  if fld (uWord bs 0) 0 16 = 0x5453 && 1 ≤ nt && nt ≤ 32 && spheres.all (fun s => s.link = j) && zeroedCrc bs 0x0C = uWord bs 0x0C then
    some { spheres := spheres, crc := uWord bs 0x0C }
  else none

/-! ## Forward kinematics (R135) -/

/-- A frame: rotation in units of 2^-62, translation in units of 2^-32 of a P32 LSB. -/
structure Frame where
  rot : List Int
  pos : List Int
deriving DecidableEq, Repr

/-- Sum over k of a(i, k) times b(k). -/
def row3 (a : List Int) (i : Nat) (b : Nat → Int) : Int := ith a (3 * i) * b 0 + ith a (3 * i + 1) * b 1 + ith a (3 * i + 2) * b 2

/-- A frame followed by a rotation in units of 2^-k. -/
def Frame.turn (f : Frame) (m : List Int) (k : Nat) : Frame :=
  { f with rot := (rangeFrom 0 9).map (fun n => row3 f.rot (n / 3) (fun i => ith m (3 * i + n % 3)) / 2 ^ k) }

/-- A frame followed by a translation in P32 LSB times 2^-k. -/
def Frame.shift (f : Frame) (v : List Int) (k : Nat) : Frame :=
  { f with pos := (rangeFrom 0 3).map (fun i => ith f.pos i + row3 f.rot i (ith v) / 2 ^ (30 + k)) }

/-- A frame followed by a transform record. -/
def Frame.apply (f : Frame) (t : List Int) : Frame := (f.shift (t.drop 9) 0).turn (t.take 9) 30

/-- The terms from the k-th on of the sine or cosine series, in units of 2^-62. -/
def trigTerms (x2 : Int) : Nat → Nat → Int → Int
  | 0, _, t => t
  | n + 1, k, t => t + trigTerms x2 n (k + 2) (-(t * x2 / 2 ^ 62) / ((k + 1) * (k + 2) : Nat))

/-- Sine and cosine of an A32 angle, in units of 2^-62. -/
def sin62 (q : Int) : Int := trigTerms (q * q * 2 ^ 6) 32 1 (q * 2 ^ 34)
def cos62 (q : Int) : Int := trigTerms (q * q * 2 ^ 6) 32 0 (2 ^ 62)

/-- An axis along its direction at length 1, in units of 2^-62 (log entry 27). -/
def unitAxis (a : List Int) : List Int :=
  let n : Int := isqrt ((axisSq a).toNat * 2 ^ 64)
  a.map (fun x => if n = 0 then 0 else x * 2 ^ 94 / n)

/-- The rotation by an A32 angle about an axis. -/
def axisTurn (a : List Int) (q : Int) : List Int :=
  let u := unitAxis a
  let s := sin62 q
  let c := cos62 q
  let d (i j : Nat) : Int := (2 ^ 62 - c) * (ith u i * ith u j / 2 ^ 62) / 2 ^ 62 + (if i = j then c else 0)
  let w (k : Nat) : Int := s * ith u k / 2 ^ 62
  [d 0 0, d 0 1 - w 2, d 0 2 + w 1, d 1 0 + w 2, d 1 1, d 1 2 - w 0, d 2 0 - w 1, d 2 1 + w 0, d 2 2]

/-- The frame after a joint at a value. -/
def Frame.joint (f : Frame) (j : Joint) (q : Int) : Frame :=
  let g := f.apply j.trans
  if j.typ = 1 then g.turn (axisTurn j.axis q) 62
  else if j.typ = 2 then g.shift ((unitAxis j.axis).map (fun x => x * q)) 62
  else g

/-- The frames of links 0 to J from a frame on. -/
def linkFrames (f : Frame) : List Joint → List Int → List Frame
  | [], _ => [f]
  | j :: t, q => f :: linkFrames (f.joint j (ith q 0)) t (q.drop 1)

/-- The frame of the cell. -/
def cellFrame : Frame := { rot := [2 ^ 62, 0, 0, 0, 2 ^ 62, 0, 0, 0, 2 ^ 62], pos := [0, 0, 0] }

/-- Every link frame of a robot at joint values. -/
def Desc.frames (d : Desc) (q : List Int) : List Frame := linkFrames (cellFrame.apply d.base) d.joints q

/-- The error of the device's arithmetic on a coordinate, in units of 2^-32 of a P32 LSB (R524): within 2 LSB for a centre within
2,400 mm of the robot base, open beyond. -/
def fkOff (near : Bool) (key : List Int) : Int :=
  let v := Config.fkError key
  if near then (((v.toNat + 32768) % 65537 : Nat) - 32768) * 2 ^ 18 else v.toInt * 2 ^ 18

/-- The centre of a sphere in the frame of its link, in P32 LSB (R135, R524). -/
def sphereCentre (d : Desc) (fs : List Frame) (q : List Int) (s : Sphere) : Int × Int × Int :=
  let f := (nth cellFrame fs s.link).shift [s.centre.1, s.centre.2.1, s.centre.2.2] 0
  let e (i : Nat) : Int := ith f.pos i - ith d.base (9 + i) * 2 ^ 32
  let near : Bool := e 0 * e 0 + e 1 * e 1 + e 2 * e 2 ≤ (2400 * 4096 * 2 ^ 32) ^ 2
  let key := d.base ++ d.joints.flatMap (fun j => (j.typ : Int) :: (j.trans ++ j.axis)) ++ q ++
    [s.centre.1, s.centre.2.1, s.centre.2.2, (s.link : Int)]
  let out (i : Nat) : Int := clampI (-(2 ^ 31)) (2 ^ 31 - 1) (divNear (ith f.pos i + fkOff near ((i : Int) :: key)) (2 ^ 32))
  (out 0, out 1, out 2)

/-- The centres of a sphere set at joint values. -/
def Desc.centres (d : Desc) (set : List (Nat × Sphere)) (q : List Int) : List (Nat × Sphere × (Int × Int × Int)) :=
  let fs := d.frames q
  set.map (fun x => (x.1, x.2, sphereCentre d fs q x.2))

/-! ## Displacement (R163) -/

/-- δ_s between two samples, in units of 2^-28 of a P32 LSB. -/
def dispSum (link : Nat) : Nat → List Joint → List Nat → List Int → List Int → Nat
  | _, [], _, _, _ => 0
  | i, j :: t, l, a, b =>
    let m := (ith b 0 - ith a 0).natAbs
    (if i ≤ link then (if j.typ = 1 then m * nth 0 l 0 else if j.typ = 2 then m * 2 ^ 28 else 0) else 0) +
      dispSum link (i + 1) t (l.drop 1) (a.drop 1) (b.drop 1)

/-- δ_s of segment k of a path; a segment that does not exist has none. -/
def segDisp (d : Desc) (s : Sphere) (smp : List (List Int)) (k : Nat) : Nat :=
  if k + 1 < smp.length then dispSum s.link 1 d.joints s.levers (nth [] smp k) (nth [] smp (k + 1)) else 0

/-- The larger of the segments beside sample k. -/
def sideDisp (d : Desc) (s : Sphere) (smp : List (List Int)) (k : Nat) : Nat :=
  max (if k = 0 then 0 else segDisp d s smp (k - 1)) (segDisp d s smp k)

/-- The FK allowance, 10 P32 LSB, in units of 2^-29 LSB. -/
def fkAllow : Nat := 10 * 2 ^ 29

/-- I_s[k] in units of 2^-29 of a P32 LSB: half the larger displacement and the allowance. -/
def inflation (d : Desc) (s : Sphere) (smp : List (List Int)) (k : Nat) : Nat := sideDisp d s smp k + fkAllow

/-- The sum of δ over the segments from `a` on, `n` of them. -/
def sumDisp (d : Desc) (s : Sphere) (smp : List (List Int)) (a : Nat) : Nat → Nat
  | 0 => 0
  | n + 1 => segDisp d s smp a + sumDisp d s smp (a + 1) n

/-- X_B[j] of a path with window W, in units of 2^-29 of a P32 LSB (R169). -/
def windowDisp (d : Desc) (s : Sphere) (smp : List (List Int)) (w j : Nat) : Nat :=
  2 * max (sumDisp d s smp (j - w) (j - (j - w))) (sumDisp d s smp j (w + 1))

/-! ## Clearances -/

/-- A field clearance as a D16 value (R8, R161): the exact field in 2^-42 LSB, a radius in P32 LSB, and what is subtracted in units
of 2^-29 P32 LSB. -/
def fieldClear (v : Int) (r sub : Nat) : Int := clampI (-32767) 32767 ((v - ((r * 2 ^ 29 + sub : Nat) : Int) * 2 ^ 7) / 2 ^ 42)

/-- The squared distance of two points. -/
def distSq (p q : Int × Int × Int) : Nat :=
  ((p.1 - q.1) * (p.1 - q.1) + (p.2.1 - q.2.1) * (p.2.1 - q.2.1) + (p.2.2 - q.2.2) * (p.2.2 - q.2.2)).toNat

/-- A pair clearance as a D16 value (R169). -/
def pairClear (p q : Int × Int × Int) (r sub : Nat) : Int :=
  clampI (-32767) 32767 (((isqrt (distSq p q * 2 ^ 58) : Nat) - ((r * 2 ^ 29 + sub : Nat) : Int)) / 2 ^ 35)

end Sys2Proof.Machine
end

