-- ==== Sys2Proof/Machine/Cnd.lean ====
section
/-!
DEFINITION. Robots and candidates: description and tool loads, state records, batches, what gate open fixes of a robot, and how a
candidate of each source is formed (R134, R139 to R149).
-/
namespace Sys2Proof.Machine

/-- The page of robot `r`. -/
def cndPage (r : Nat) : Nat := 0x41000 + r * 0x1000
/-- A robot beside its registers. -/
def State.cnd (s : State) (r : Nat) : CndRobot := nth {} s.pass.robots r
def State.setCnd (s : State) (r : Nat) (f : CndRobot → CndRobot) : State :=
  { s with pass := { s.pass with robots := upd f s.pass.robots r } }

/-! ## Description and tool loads (R139) -/

/-- CND_R_STAT follows the robot; LOAD_FAIL stays. -/
def State.cndShow (s : State) (r : Nat) : State :=
  let x := s.cnd r
  let b (p : Bool) (i : Nat) : Nat := if p then 2 ^ i else 0
  let tv := ((rangeFrom 0 8).map (fun k => if (nth none x.tools k).isSome then 2 ^ (8 + k) else 0)).sum
  let jn := match x.desc with | some d => d.joints.length * 2 ^ 16 + d.spheres.length * 2 ^ 20 | none => 0
  let old := s.rd (A.cndRStat r)
  s.wr (A.cndRStat r) (b x.desc.isSome 0 + b x.descNew.isSome 1 + (if tbit old 2 then 4 else 0) + b x.load.isSome 3 + tv + jn)

/-- BUSY of the robot page follows the load. -/
def State.cndBusy (s : State) (r : Nat) : State := (s.cndShow r).setBusy (cndPage r) (s.cnd r).load.isSome

/-- The joint count that a tool set is checked against. -/
def CndRobot.jointsFor (x : CndRobot) : Option Nat :=
  match x.descNew, x.desc with
  | some d, _ => some d.joints.length
  | none, some d => some d.joints.length
  | none, none => none

/-- Read a record from local memory; none when a word is uncorrectable or the record does not lie there (R32, R523). -/
def State.fetchLocal (s : State) (id a n : Nat) : Option (List Byte) × State := if inLocal a n then s.fetch 5 id a n else (none, s)

/-- The next load of a command reads and checks its record while the page takes work. -/
def State.loadStart (s : State) (r : Nat) : State :=
  let x := s.cnd r
  match x.load with
  | none => s
  | some l =>
    if l.started || !s.pageOpen (cndPage r) then s
    else if l.desc then
      let (bs, s1) := s.fetchLocal 6 (s.rd64 (A.cndRDescAddr r) % 2 ^ 48) 3648
      let got := match bs with | some b => parseDesc b | none => none
      s1.setCnd r (fun y => { y with load := some { l with started := true, gotD := got } })
    else
      let (bs, s1) := s.fetchLocal 6 (s.rd64 (A.cndRToolAddr r) % 2 ^ 48) 1600
      let got := match bs, x.jointsFor with | some b, some j => parseTool b j | _, _ => none
      s1.setCnd r (fun y => { y with load := some { l with started := true, gotT := got } })

/-- The write of CND_R_CMD. -/
def State.cndCmd (s : State) (r v : Nat) : State :=
  if v % 4 = 0 then s
  else if (s.cnd r).load.isSome then s.pageErr (cndPage r) 0x0105 0
  else
    let l : LoadCmd := { desc := tbit v 0, tool := if tbit v 1 then some (fld v 8 3) else none, started := false }
    ((s.setCnd r (fun y => { y with load := some l })).loadStart r).cndBusy r

/-- The outcome of a load is shown; `bad` is its error code. -/
def State.loadShown (s : State) (r irq bad : Nat) (ok : Bool) : State :=
  let s1 := (s.wrb (A.cndRStat r) 2 (!ok)).raise (cndPage r) irq
  if ok then s1 else s1.pageErr (cndPage r) bad 0

/-- A description load completes: staged or refused; a tool load of the same command starts. -/
def State.descDone (s : State) (r : Nat) : State :=
  match (s.cnd r).load with
  | none => s
  | some l =>
    if !(l.desc && l.started) then s
    else
      let rest : Option LoadCmd := if l.tool.isSome then some { l with desc := false, started := false } else none
      let s1 := s.setCnd r (fun y => { y with
        load := rest, descNew := match l.gotD with | some d => some d | none => y.descNew })
      ((s1.loadShown r 8 0x0100 l.gotD.isSome).loadStart r).cndBusy r

/-- A tool set load completes: staged or refused. -/
def State.toolDone (s : State) (r : Nat) : State :=
  match (s.cnd r).load with
  | none => s
  | some l =>
    match l.desc, l.started, l.tool with
    | false, true, some k =>
      let s1 := s.setCnd r (fun y => { y with
        load := none, toolNew := match l.gotT with | some t => upd (fun _ => some t) y.toolNew k | none => y.toolNew })
      (s1.loadShown r 9 0x0101 l.gotT.isSome).cndBusy r
    | _, _, _ => s

/-- Staged records take effect at a gate open; tool sets for another joint count become invalid. -/
def CndRobot.atGate (x : CndRobot) : CndRobot :=
  let d := match x.descNew with | some d => some d | none => x.desc
  let ts := (x.tools.zip x.toolNew).map (fun p => match p.2 with | some t => some t | none => p.1)
  let ok (t : ToolSet) : Bool := match d with | some y => t.spheres.all (fun s => s.link = y.joints.length) | none => true
  { x with
    desc := d, descNew := none, toolNew := List.replicate 8 none
    tools := ts.map (fun t => match t with | some l => if ok l then some l else none | none => none) }

/-! ## ROBOT_EN, RS_PUT and batches (R134, R140, R149) -/

/-- The write of CND_CTRL: a bit without a valid description stays 0. -/
def State.robotEn (s : State) (v : Nat) : State :=
  (rangeFrom 0 4).foldl (fun t r =>
    if tbit v r && !t.rdb (A.cndRStat r) 0 then (t.wrb A.cndCtrl r false).pageErr (cndPage r) 0x0102 0 else t) s

/-- The write of CND_R_RS_PUT. -/
def State.rsPutWrite (s : State) (r : Nat) : State := s.setCnd r (fun y => { y with rsPut := true })

/-- The write of CND_R_HB_PUB. -/
def State.hbPub (s : State) (r count : Nat) : State :=
  let a := s.rd64 (A.cndRHbAddr r) % 2 ^ 48
  let st := s.rdf (A.cndRHbStride r) 0 13
  if a % 64 = 0 && st % 64 = 0 && 64 ≤ st && inLocal a (count * st) then
    let n := (s.rd (A.cndRHbSeq r) + 1) % 2 ^ 32
    (s.wr (A.cndRHbSeq r) n).setCnd r (fun y => { y with batch := some { addr := a, stride := st, count := count, seq := n } })
  else s.pageErr (cndPage r) 0x0103 0

/-! ## The pinned state record (R140) -/

/-- The parts of a state record (Table CND-3). -/
structure StateRec where
  stamp : Nat
  seq   : Nat
  slot  : Nat
  tool  : Bool
  q     : List Int
  goal  : List Int
deriving DecidableEq, Repr

/-- A state record, if no reserved field is set. -/
def parseState (bs : List Byte) : Option StateRec :=
  if uWord bs 0x0C / 16 = 0 && (bs.drop 0x50).all (· = 0) then
    some { stamp := leNat (bs.take 8), seq := uWord bs 8, slot := fld (uWord bs 0x0C) 0 3, tool := tbit (uWord bs 0x0C) 3
           q := sWords bs 0x10 8, goal := sWords bs 0x30 8 }
  else none

/-- The address of state record slot `k` of a robot. -/
def State.rsAddr (s : State) (r k : Nat) : Nat := s.rd64 (A.cndRRsAddr r) % 2 ^ 48 + 96 * (k % 16)

/-- The newest state record of a robot, read by requester (class, id); none without one (R140, R523). -/
def State.newestRec (s : State) (cls id r : Nat) : Option StateRec × State :=
  if !(s.cnd r).rsPut then (none, s)
  else
    let a := s.rsAddr r (s.rd (A.cndRRsPut r) + 15)
    if !inLocal a 96 then (none, s)
    else match s.fetch cls id a 96 with
      | (some bs, s1) => (parseState bs, s1)
      | (none, s1) => (none, s1)

/-- The sphere set that a state record puts in use: link spheres, then tool spheres from 64 on; none when it names a slot without
a valid tool set (R140, R160). -/
def CndRobot.sphereSet (x : CndRobot) (d : Desc) (p : StateRec) : Option (List (Nat × Sphere)) :=
  let link := (rangeFrom 0 d.spheres.length).zip d.spheres
  if !p.tool then some link
  else match nth none x.tools p.slot with
    | some t => some (link ++ (rangeFrom 64 t.spheres.length).zip t.spheres)
    | none => none

/-! ## What gate open fixes (R18, R149) -/

/-- A word of the robot page as the pass sampled it. -/
def PassRobot.word (p : PassRobot) (off : Nat) : Nat := nth 0 p.cfg ((off - 0x7C) / 4)
/-- A number held between two limits. -/
def clampN (lo hi v : Nat) : Nat := min hi (max lo v)

def PassRobot.topk (p : PassRobot) : Nat := min 16 (fld (p.word 0x88) 0 5)
def PassRobot.nseeds (p : PassRobot) : Nat := min 8 (fld (p.word 0x8C) 0 4)
def PassRobot.seedCp (p : PassRobot) : Nat := clampN 4 8 (fld (p.word 0x8C) 4 4)
def PassRobot.lpCp (p : PassRobot) : Nat := fld (p.word 0xA4) 12 4
def PassRobot.perEval (p : PassRobot) : Nat := fld (p.word 0xA4) 16 6
def PassRobot.nj (p : PassRobot) : Nat := p.desc.joints.length

/-- Host slots that are swept, and those of the other sources (R146, R147, R149). -/
def PassRobot.hostN (p : PassRobot) : Nat := match p.batch with | some b => min p.ranges.1 b.count | none => 0
def PassRobot.pertN (p : PassRobot) : Nat := if p.nseeds = 0 then 0 else p.ranges.2.1
def PassRobot.learnN (p : PassRobot) : Nat := if p.lpOk then p.ranges.2.2 else 0

/-- The robot seeds candidates in a pass with or without an epoch. -/
def PassRobot.sweeps (p : PassRobot) (epoch : Bool) : Bool := p.seeds && p.state.isSome && epoch

/-- Source and place in its range of a pass-wide index that seeding delivers. -/
def PassRobot.slotOf (p : PassRobot) (i : Nat) : Option (Nat × Nat) :=
  let k := i - p.first
  if i < p.first then none
  else if k < p.ranges.1 then (if k < p.hostN then some (0, k) else none)
  else if k < p.ranges.1 + p.ranges.2.1 then (if k - p.ranges.1 < p.pertN then some (1, k - p.ranges.1) else none)
  else
    let j := k - p.ranges.1 - p.ranges.2.1
    if j < p.learnN then some (2, j) else none

/-- Candidates that seeding delivers for a robot. -/
def PassRobot.seedN (p : PassRobot) : Nat := p.hostN + p.pertN + p.learnN

/-- Gate open for one robot: records, sphere set, registers and ranges; `first` is its first index. -/
def State.gateRobot (s : State) (r first : Nat) (lpFits : Nat → Nat → Bool) : Option PassRobot × State :=
  let x := s.cnd r
  match x.desc with
  | none => (none, s)
  | some d =>
    let (rec_, s1) := s.newestRec 5 6 r
    let set := match rec_ with | some p => x.sphereSet d p | none => none
    let st := match rec_, set with | some p, some _ => some (p.q, p.goal, p.seq) | _, _ => none
    let cfg := (rangeFrom 0 49).map (fun i => s1.rd (cndPage r + 0x7C + 4 * i))
    let hb := fld (nth 0 cfg 0) 0 18
    let pt := fld (nth 0 cfg 1) 0 18
    let lp := fld (nth 0 cfg 2) 0 18
    let h := min hb (131072 - first)
    let p := min pt (131072 - first - h)
    let l := min lp (131072 - first - h - p)
    let pr : PassRobot := {
      robot := r, desc := d, state := st, cfg := cfg, batch := x.batch, first := first, total := hb + pt + lp, ranges := (h, p, l)
      set := match set with | some v => v | none => (rangeFrom 0 d.spheres.length).zip d.spheres
      tool := match rec_ with | some v => v.tool | none => false
      seeds := s1.pageOpen 0x40000 && s1.pageOpen (cndPage r), lpOk := false }
    let w := pr.word 0xA4
    let len := fld (pr.word 0xB0) 0 10
    let noise := fld w 24 7
    let ok : Bool := 4 ≤ pr.lpCp && pr.lpCp ≤ 8 && 1 ≤ pr.perEval && noise % 8 = 0 && noise ≤ len && 1 ≤ len && len ≤ 512 &&
      lpFits (fld w 0 10) (pr.perEval * pr.lpCp * pr.nj)
    let s2 := match x.batch with | some b => s1.wr (A.cndRHbPinned r) b.seq | none => s1
    if lp = 0 then (some pr, s2)
    else if ok then (some { pr with lpOk := true }, s2)
    else (some pr, s2.pageErr (cndPage r) 0x0104 0)

/-- Gate open for the robots whose ROBOT_EN bit is set, in index order. -/
def State.gateRobots (s : State) (lpFits : Nat → Nat → Bool) (first : Nat) : List Nat → List PassRobot × State
  | [] => ([], s)
  | r :: t =>
    if !s.rdb A.cndCtrl r then s.gateRobots lpFits first t
    else match s.gateRobot r first lpFits with
      | (some p, s1) =>
        let (l, s2) := s1.gateRobots lpFits (first + p.ranges.1 + p.ranges.2.1 + p.ranges.2.2) t
        (p :: l, s2)
      | (none, s1) => s1.gateRobots lpFits first t

/-! ## The generator (R145) -/

/-- One value of the generator. -/
def genZ (seed ctr : Nat) : Nat :=
  let z0 := (seed + ctr * 0x9E3779B97F4A7C15) % 2 ^ 64
  let z1 := (z0 ^^^ (z0 / 2 ^ 30)) * 0xBF58476D1CE4E5B9 % 2 ^ 64
  let z2 := (z1 ^^^ (z1 / 2 ^ 27)) * 0x94D049BB133111EB % 2 ^ 64
  z2 ^^^ (z2 / 2 ^ 31)

/-- The counter of a value. -/
def genCtr (seq robot src idx sub : Nat) : Nat := (seq * 2 ^ 32 + robot * 2 ^ 30 + src * 2 ^ 29 + idx * 2 ^ 12 + sub) % 2 ^ 64

/-- The offset of a value: uniform or triangular. -/
def genOffset (tri : Bool) (z amp : Nat) : Int :=
  let v : Int := if tri then ((fld z 40 24 + fld z 16 24 : Nat) : Int) - (2 ^ 24 - 1) else 2 * (fld z 40 24 : Nat) - (2 ^ 24 - 1)
  v * amp / 2 ^ 24

/-! ## Splines (R143) -/

/-- Knot `i` of a spline of `n` control points. -/
def knot (n i : Nat) : Nat := min (i - 3) (n - 3)

/-- One level of de Boor's algorithm: level r over the span that ends at control point m. -/
def deBoorLevel (n m r : Nat) (u : Rat) : Nat → List Rat → List Rat
  | j, a :: b :: t =>
    let lo : Rat := knot n (j + m - 3)
    let hi : Rat := knot n (j + 1 + m - r)
    let w := (u - lo) / (hi - lo)
    ((1 - w) * a + w * b) :: deBoorLevel n m r u (j + 1) (b :: t)
  | _, _ => []

/-- A value rounded to the nearest integer, ties away from zero (R9). -/
def ratNear (x : Rat) : Int := divNear x.num x.den

/-- The curve of control values at sample k of S. -/
def splineAt (cps : List Int) (S k : Nat) : Int :=
  let n := cps.length
  let u : Rat := ((k * (n - 3) : Nat) : Rat) / ((S - 1 : Nat) : Rat)
  let m := min (n - 1) (3 + k * (n - 3) / (S - 1))
  let d := ((cps.drop (m - 3)).take 4).map (fun x => (x : Rat))
  match deBoorLevel n m 3 u 3 (deBoorLevel n m 2 u 2 (deBoorLevel n m 1 u 1 d)) with
  | [x] => ratNear x
  | _ => 0

/-- Joint j of every point. -/
def column (l : List (List Int)) (j : Nat) : List Int := l.map (fun p => ith p j)

/-- The samples of a spline of J joints. -/
def splineSamples (cps : List (List Int)) (nj S : Nat) : List (List Int) :=
  (rangeFrom 0 S).map (fun k => (rangeFrom 0 nj).map (fun j => splineAt (column cps j) S k))

/-! ## Candidates (R142, R144, R146 to R148) -/

/-- Points of J words from a byte string. -/
def pointsOf (bs : List Byte) (n nj : Nat) : List (List Int) := (rangeFrom 0 n).map (fun c => sWords bs (4 * nj * c) nj)

/-- A candidate's points complete it: the anchor replaces the first point, and a spline is sampled (R143, R144). -/
def finishCand (c : Cand) (pts : List (List Int)) (q : List Int) (nj S : Nat) : Cand :=
  let p := if c.anchor then q.take nj :: pts.drop 1 else pts
  if c.form = 0 then { c with smp := p } else { c with cps := p, smp := splineSamples p nj S }

/-- The joint values of the pinned state record. -/
def PassRobot.q (p : PassRobot) : List Int := match p.state with | some x => x.1 | none => []

/-- A host candidate; none when it is malformed or cannot be read (R142, R148, R523). -/
def State.hostCand (s : State) (p : PassRobot) (index k : Nat) : Option Cand × State :=
  match p.batch with
  | none => (none, s)
  | some b =>
    let a := b.addr + k * b.stride
    match s.fetch 5 6 a 16 with
    | (none, s1) => (none, s1)
    | (some h, s1) =>
      let w := uWord h 0
      let form := fld w 0 1
      let S := fld w 8 7
      let n := fld w 16 4
      let pts := if form = 0 then S else n
      let ok : Bool := fld w 2 6 = 0 && !tbit w 15 && fld w 20 12 = 0 && uWord h 12 = 0 && 8 ≤ S && S ≤ 64 &&
        (if form = 0 then n = 0 else 4 ≤ n && n ≤ 8) && 16 + 4 * p.nj * pts ≤ b.stride
      if !ok then (none, s1)
      else match s1.fetch 5 6 (a + 16) (4 * p.nj * pts) with
        | (none, s2) => (none, s2)
        | (some v, s2) =>
          let c : Cand := { index := index, robot := p.robot, src := 0, form := form, anchor := tbit w 1, bias := uWord h 4
                            tag := uWord h 8, cps := [], smp := [] }
          (some (finishCand c (pointsOf v pts p.nj) p.q p.nj S), s2)

/-- A joint is fixed. -/
def PassRobot.fixed (p : PassRobot) (j : Nat) : Bool := match nth none (p.desc.joints.map some) j with | some x => x.typ = 0 | none => true

/-- A value held in 32 bits. -/
def sat32 (v : Int) : Int := clampI (-(2 ^ 31)) (2 ^ 31 - 1) v

/-- A control value and its neighbour sum: the perturbed values of a point, and how many saturated. -/
def perturbPoint (p : PassRobot) (seed seq idx c : Nat) (pt : List Int) : List Int × Nat :=
  let tri := tbit (p.word 0x88) 24
  let vs := (rangeFrom 0 p.nj).map (fun j =>
    if p.fixed j then (ith pt j, 0)
    else
      let v := ith pt j + genOffset tri (genZ seed (genCtr seq p.robot 0 idx (c * 8 + j))) (p.word (0xC0 + 4 * j))
      (sat32 v, if sat32 v = v then 0 else 1))
  (vs.map (·.1), (vs.map (·.2)).sum)

/-- A perturbed candidate by the seed and PASS_SEQ of the pass; none when its seed entry cannot be read (R146, R523). -/
def State.pertCand (s : State) (p : PassRobot) (seed seq index k : Nat) : Option Cand × State :=
  let cp := p.seedCp
  let e := k % p.nseeds
  let n := 4 * p.nj * cp
  let a := (p.word 0x90 + p.word 0x94 * 2 ^ 32) % 2 ^ 48 + e * n
  match s.fetchLocal 6 a n with
  | (none, s1) => (none, s1)
  | (some v, s1) =>
    let w := p.word 0x88
    let moved := ((rangeFrom 0 cp).zip (pointsOf v cp p.nj)).map (fun x =>
      if (x.1 = 0 && !tbit w 25) || (x.1 = cp - 1 && !tbit w 26) then (x.2, 0)
      else perturbPoint p seed seq k x.1 x.2)
    let c : Cand := { index := index, robot := p.robot, src := 1, form := 1, anchor := tbit w 27, bias := p.word 0x9C, tag := e
                      cps := [], smp := [] }
    (some (finishCand c (moved.map (·.1)) p.q p.nj (clampN 8 64 (fld w 8 7))), s1.bumpBy A.cndPertSat (moved.map (·.2)).sum)

/-- A learned proposal from the outputs of its evaluation (R147). -/
def State.learnCand (s : State) (p : PassRobot) (index k : Nat) (ys : List Int) : Cand × State :=
  let cp := p.lpCp
  let w := p.word 0x88
  let base := (k % p.perEval) * cp * p.nj
  let one (c j : Nat) : Int := sgn 32 (p.word (0x100 + 4 * j)) + ith ys (base + c * p.nj + j) * (p.word (0x120 + 4 * j) : Nat)
  let sat := ((rangeFrom 0 cp).map (fun c => ((rangeFrom 0 p.nj).filter (fun j => !p.fixed j && sat32 (one c j) ≠ one c j)).length)).sum
  let pts := (rangeFrom 0 cp).map (fun c => (rangeFrom 0 p.nj).map (fun j => sat32 (one c j)))
  let c : Cand := { index := index, robot := p.robot, src := 2, form := 1, anchor := tbit w 28, bias := p.word 0xA0, tag := k / p.perEval
                    cps := [], smp := [] }
  (finishCand c pts p.q p.nj (clampN 8 64 (fld w 16 7)), s.bumpBy A.cndPertSat sat)

/-! ## Meanings -/

def execDescDone (r : Fin 4) (s : State) : Host.Outcome State Fault Refusal := .next (s.descDone r)
def execToolDone (r : Fin 4) (s : State) : Host.Outcome State Fault Refusal := .next (s.toolDone r)

end Sys2Proof.Machine
end

