-- ==== Sys2Proof/Machine/Fuse.lean ====
section
/-!
DEFINITION. Depth fusion, its filtering, and attached fields: capture, release and the value of an attached field at a point
(R120 to R122, R128, R167).
-/
namespace Sys2Proof.Machine

/-! ## Attached fields (R128, R133, R167) -/

/-- The numbers of an attached frame: rotation, translation, low corner of the captured box in P32 LSB. -/
def frameInts (f : Frame) (corner : List Int) : List Int := f.rot ++ f.pos ++ corner

/-- The transpose of a frame's rotation applied to a vector. -/
def Frame.back (f : Frame) (v : Nat → Int) (i : Nat) : Int :=
  (ith f.rot i * v 0 + ith f.rot (3 + i) * v 1 + ith f.rot (6 + i) * v 2) / 2 ^ 62

/-- A point of the cell in the local grid of a field whose anchor stands at `f`, in P32 LSB (log entry 28). -/
def localPoint (f : Frame) (anchor : List Int) (p : Int × Int × Int) : Int × Int × Int :=
  let v (i : Nat) : Int := (if i = 0 then p.1 else if i = 1 then p.2.1 else p.2.2) * 2 ^ 32 - ith f.pos i
  let w (i : Nat) : Int := f.back v i
  let out (i : Nat) : Int :=
    if anchor.isEmpty then divNear (w i) (2 ^ 32)
    else
      let g : Frame := { rot := anchor.take 9, pos := (anchor.drop 9).take 3 }
      divNear (ith g.pos i + row3 g.rot i w / 2 ^ 62) (2 ^ 32) - ith anchor (12 + i)
  (out 0, out 1, out 2)

/-- A coarse sample of a field: outside the cube +511.984 mm, UNKNOWN −511.984 mm. -/
def State.attCoarse (s : State) (n : Nat) (x y z : Int) : Int × Seen :=
  if x < 0 || 64 ≤ x || y < 0 || 64 ≤ y || z < 0 || 64 ≤ z then (32767, {})
  else
    let a := s.attCell n x.toNat y.toNat z.toNat
    let w := leNat (s.readMem a 2)
    (if w = 0x8000 then -32767 else sgn 16 w, s.meets (a / 1024 * 1024) 1024)

/-- A fine sample of a field with the EPS of its brick, if its voxel holds a fine brick. -/
def State.attFine (s : State) (n : Nat) (a b c : Int) : Option (Int × Nat) × Seen :=
  if a < 0 || 512 ≤ a || b < 0 || 512 ≤ b || c < 0 || 512 ≤ c then (none, {})
  else
    let (x, y, z) := (a.toNat, b.toNat, c.toNat)
    let l := s.attLink n (x / 8) (y / 8) (z / 8)
    let here := s.meets (l / 1024 * 1024) 1024
    let w := s.peek32 l
    if !tbit w 31 then (none, here)
    else
      let (bs, eps, more) := s.slotBytes none true (fld w 0 23) (2 * voxIdx x y z) 2
      let d := fld (leNat bs) 0 12
      (some (if d = 0x800 then -32767 else sgn 12 d, eps), here.and more)

/-- att_n at a point of the cell, for an anchor frame, in 2^-42 D16 LSB; a fetch fault counts as −511.984 mm. -/
def State.attValue (s : State) (n : Nat) (f : Frame) (p : Int × Int × Int) : Int × Seen :=
  let q := localPoint f (s.att n).anchor p
  let cell (m : Int) : (Int × Int × Int) × (Int × Int × Int) :=
    let u := (q.1 - m / 2, q.2.1 - m / 2, q.2.2 - m / 2)
    ((u.1 / m, u.2.1 / m, u.2.2 / m), (u.1 % m, u.2.1 % m, u.2.2 % m))
  let (fi, ft) := cell 2048
  let fs := corners.map (fun k => (k, s.attFine n (fi.1 + k.1) (fi.2.1 + k.2.1) (fi.2.2 + k.2.2)))
  let seen := fs.foldl (fun (m : Seen) x => m.and x.2.2) {}
  let (v, q2) : Int × Seen :=
    if fs.all (fun x => x.2.1.isSome) then
      let sum := (fs.map (fun x => match x.2.1 with | some m => cornerWeight 2048 ft x.1 * m.1 | none => 0)).sum
      let eps := fs.foldl (fun (m : Nat) x => match x.2.1 with | some y => max m y.2 | none => m) 0
      ((sum - (eps * 2 ^ 33 : Nat)) * 512, seen)
    else
      let (ci, ct) := cell 16384
      let cs := corners.map (fun k => (k, s.attCoarse n (ci.1 + k.1) (ci.2.1 + k.2.1) (ci.2.2 + k.2.2)))
      ((cs.map (fun x => cornerWeight 16384 ct x.1 * x.2.1)).sum, cs.foldl (fun (m : Seen) x => m.and x.2.2) seen)
  (if q2.fault then -32767 * fieldOne else v, q2)

def State.attCfg (s : State) (n : Nat) : Nat := s.rd (A.wldAttCfg n)
def attEn (c : Nat) : Bool := tbit c 0
def attRobot (c : Nat) : Nat := fld c 1 2
def attLinkNo (c : Nat) : Nat := fld c 3 4
def attWorld (c : Nat) : Bool := tbit c 7
def attFilter (c : Nat) : Bool := tbit c 8
def attRr (c : Nat) : Bool := tbit c 9

/-- The anchor frame of a field: the cell, or its link at joint values of its robot.  A capture for a robot with no description or no state record
takes the cell frame (DESIGN CHOICE, log entry 252). -/
def anchorFrame (c : Nat) (d : Option Desc) (q : List Int) : Frame :=
  if attWorld c then cellFrame
  else match d with
    | some x => nth cellFrame (x.frames q) (attLinkNo c)
    | none => cellFrame

/-- Voxels of the capture box, as low corner and sizes on the three axes.  A high corner below the low one gives the box no voxel: the capture
copies nothing and records its anchor, and no error (DESIGN CHOICE, log entry 253). -/
def boxOf (lo hi : Nat) : (Nat × Nat × Nat) × (Nat × Nat × Nat) :=
  ((fld lo 0 10, fld lo 10 10, fld lo 20 9),
   (fld hi 0 10 + 1 - fld lo 0 10, fld hi 10 10 + 1 - fld lo 10 10, fld hi 20 9 + 1 - fld lo 20 9))

/-- Every voxel of a box: local and world coordinates. -/
def boxVoxels (lo n : Nat × Nat × Nat) : List ((Nat × Nat × Nat) × (Nat × Nat × Nat)) :=
  (rangeFrom 0 (n.1 * n.2.1 * n.2.2)).map (fun k =>
    let l := (k % n.1, k / n.1 % n.2.1, k / (n.1 * n.2.1))
    (l, (lo.1 + l.1, lo.2.1 + l.2.1, lo.2.2 + l.2.2)))

/-- The dynamic coarse code of a voxel of the working epoch and its fine brick, by node (absent: this one) and slot, and what reading them meets. -/
def State.dynVoxel (s : State) (x y z : Nat) : Nat × Option (Option Nat × Nat) × Seen :=
  match entryOf (s.dirNow 1 (brickIdx x y z)) with
  | .uniform d => (d, none, {})
  | .brick node c =>
    let (bs, _, q) := s.slotBytes node false c (2 * voxIdx x y z) 2
    let (ls, _, r) := s.slotBytes node false c (0x400 + 4 * voxIdx x y z) 4
    (leNat bs, if tbit (leNat ls) 31 then some (node, fld (leNat ls) 0 23) else none, q.and r)
  | .reserved => (0x8000, none, { dirBad := true })

/-- The bytes of a fine brick of this or another node, and what reading them meets. -/
def State.fineBytes (s : State) (x : Option Nat × Nat) : List Byte × Seen :=
  let (bs, _, q) := s.slotBytes x.1 true x.2 0 0x400
  (bs, q)

/-- What a capture reads of a voxel meets. -/
def State.voxelSeen (s : State) (w : Nat × Nat × Nat) : Seen :=
  match s.dynVoxel w.1 w.2.1 w.2.2 with
  | (_, some x, q) => q.and (s.fineBytes x).2
  | (_, none, q) => q

/-- A brick of another node of which some voxels become UNKNOWN here gets a slot of the working epoch, with its values, and with its fine bricks
but for those of the voxels `out`; none when a pool is empty (log entry 254). -/
def State.bringHome (s r : State) (i : Nat) (out : Nat → Bool) : Option State :=
  match entryOf (s.dirNow 1 i) with
  | .brick (some m) c =>
    match (s.setDir 1 i 0x8000).ownCoarse 1 i with
    | none => none
    | some (k, s1) =>
      let s2 := s1.store (s1.wCoarse k) (r.slotBytes (some m) false c 0 0x400).1
      (rangeFrom 0 512).foldl (fun o v => o.bind (fun t =>
        let w := leNat (r.slotBytes (some m) false c (0x400 + 4 * v) 4).1
        if out v || !tbit w 31 then some t
        else match t.newSlot true with
          | none => none
          | some (f, u) =>
            some (((((u.store (u.wFine f) (r.fineBytes (some m, fld w 0 23)).1).putHdr true f (fineKey i v) 0 1 0 0).touched true f).showPred f).setLink
              k v (f + 2 ^ 31)))) (some s2)
  | _ => some s

/-- Copy one voxel of the box into the field and set it UNKNOWN in the working epoch; none when a pool is empty.  What it copies is read in `r`,
the state before the capture. -/
def State.captureVoxel (s r : State) (n : Nat) (out : Nat → Nat → Bool) (v : (Nat × Nat × Nat) × (Nat × Nat × Nat)) : Option State :=
  let (l, w) := v
  let (code, link, _) := r.dynVoxel w.1 w.2.1 w.2.2
  let here := s.attCell n l.1 l.2.1 l.2.2
  let at_ := s.attLink n l.1 l.2.1 l.2.2
  let i := brickIdx w.1 w.2.1 w.2.2
  let k := voxIdx w.1 w.2.1 w.2.2
  let copied : Option State :=
    match link with
    | none => some (s.attStage n ((here, code) :: linkHalves at_ 0))
    | some f =>
      match s.attBrick n (l.1 + l.2.1 * 2 ^ 10 + l.2.2 * 2 ^ 20 + 2 ^ 31) 0 (r.fineBytes f).1 with
      | none => none
      | some (g, s1) => some ((s1.showPred g).attStage n ((here, code) :: linkHalves at_ (g + 2 ^ 31)))
  match copied with
  | none => none
  | some s1 =>
    if code = 0x8000 && link.isNone then some s1
    else match (s1.bringHome r i (out i)).bind (fun t => t.ownCoarse 1 i) with
      | none => none
      | some (c, s2) => some ((((s2.unlink c k).store (s2.wCoarse c + 2 * k) (leBytes 2 0x8000)).touched false c).dirtied i)

/-- Capture voxel after voxel. -/
def State.captureAll (s r : State) (n : Nat) (out : Nat → Nat → Bool) : List ((Nat × Nat × Nat) × (Nat × Nat × Nat)) → Option State
  | [] => some s
  | v :: t => match s.captureVoxel r n out v with | some s1 => s1.captureAll r n out t | none => none

/-- Voxel `v` of coarse brick `i` lies in a box. -/
def boxHas (lo n : Nat × Nat × Nat) (i v : Nat) : Bool :=
  let (x, y, z) := (fld i 0 7 * 8 + v % 8, fld i 7 7 * 8 + v / 8 % 8, fld i 14 6 * 8 + v / 64)
  decide (lo.1 ≤ x) && decide (x < lo.1 + n.1) && decide (lo.2.1 ≤ y) && decide (y < lo.2.1 + n.2.1) && decide (lo.2.2 ≤ z) && decide (z < lo.2.2 + n.2.2)

/-- Lines of other nodes' bricks that a capture needs have not come. -/
def State.captureWaits (s : State) (n : Nat) : Bool :=
  let (lo, size) := boxOf (s.rd (A.wldAttBoxLo n)) (s.rd (A.wldAttBoxHi n))
  !(64 < size.1 || 64 < size.2.1 || 64 < size.2.2) && (boxVoxels lo size).any (fun v => (s.withHeld.voxelSeen v.2).miss)

/-- A CAPTURE completes (R128): with the bricks of the field that it does not replace, the box may bring 4,096. -/
def State.capture (s : State) (n : Nat) : State :=
  let (lo, size) := boxOf (s.rd (A.wldAttBoxLo n)) (s.rd (A.wldAttBoxHi n))
  let vox := boxVoxels lo size
  let r := s.withHeld
  let kept := ((s.attCells n).filter (fun x => size.1 ≤ x.1 % 64 || size.2.1 ≤ x.1 / 64 % 64 || size.2.2 ≤ x.1 / 4096)).length
  let bricks := kept + (vox.filter (fun v => (r.dynVoxel v.2.1 v.2.2.1 v.2.2.2).2.1.isSome)).length
  if 64 < size.1 || 64 < size.2.1 || 64 < size.2.2 || 4096 < bricks then s.pageErr 0x30000 0x0103 0
  else
    let c := s.attCfg n
    let (rec_, s1) := if attWorld c then (none, s) else s.newestRec 5 5 (attRobot c)
    let f := anchorFrame c (match rec_ with | some _ => (s.cnd (attRobot c)).desc | none => none)
      (match rec_ with | some p => p.q | none => [])
    let o := s.origin
    let corner := [o.1 + (lo.1 : Int) * 16384, o.2.1 + (lo.2.1 : Int) * 16384, o.2.2 + (lo.2.2 : Int) * 16384]
    let seen : Seen := vox.foldl (fun (q : Seen) v => q.and (r.voxelSeen v.2)) {}
    let s1 := s1.note 5 5 { seen with dirBad := false, ue := seen.ue.foldl (fun m w => setIns w m) [] }
    match s1.captureAll r n (boxHas lo size) vox with
    | some s2 => (s2.setAtt n (fun x => { x with anchor2 := some (frameInts f corner) })).wrb (A.wldAttStat n) 17 true
    | none => s1.pageErr 0x30000 0x0105 0

/-- The write of WLD_ATT_CMD; a command that comes while one runs has no effect, and before INIT_DONE it records NOT_INIT. -/
def State.attCmd (s : State) (n v : Nat) : State :=
  if v % 4 = 0 || (s.att n).cmd ≠ 0 then s
  else if !s.wldReady then s.pageErr 0x30000 0x0104 0
  else ((s.setAtt n (fun x => { x with cmd := if tbit v 0 then 1 else 2 })).wrb (A.wldAttStat n) 16 true).wldBusy

/-- An attached-field command completes; it needs a working epoch, which a cut takes away for its last step, and the lines of other nodes' bricks
that it reads. -/
def State.attDone (s : State) (n : Nat) : State :=
  let x := s.att n
  if x.cmd = 0 || s.wld.working.isNone || (x.cmd = 1 && s.captureWaits n) then s
  else
    let s1 := if x.cmd = 1 then s.capture n
      else (s.setAtt n (fun y => { y with drop := true, staged := [], anchor2 := none })).wrb (A.wldAttStat n) 17 true
    let s2 := s1.setAtt n (fun y => { y with cmd := 0 })
    let s3 := if s2.holdsLines then s2 else { s2 with wld := { s2.wld with held := [] } }
    ((s3.wrb (A.wldAttStat n) 16 false).raise 0x30000 13).wldBusy

/-! ## Filtering (R121) -/

/-- The newest state record of a robot stamped at or before a time: `k` records back from the newest, at most `n` of them; with the
uncorrectable words of records met on the way, which are passed over (R523). -/
def State.recBefore (s : State) (r t : Nat) : Nat → Nat → Option StateRec × List Nat
  | _, 0 => (none, [])
  | k, n + 1 =>
    let a := s.rsAddr r (s.rd (A.cndRRsPut r) + 31 - k)
    let ue := (s.meets a 96).ue
    let here : Option StateRec := if inLocal a 96 && ue.isEmpty then parseState (s.readMem a 96) else none
    let more := s.recBefore r t (k + 1) n
    match here with
    | some p => if p.stamp ≤ t then (some p, []) else more
    | none => (more.1, (if inLocal a 96 then ue else []) ++ more.2)

/-- The record of a robot that a frame is filtered with. -/
def State.frameRec (s : State) (r t : Nat) : Option StateRec × List Nat :=
  if (s.cnd r).rsPut then s.recBefore r t 0 (min 16 (s.rd (A.cndRRsPut r))) else (none, [])

/-- What filters the points of a frame: sphere centres with their radii, and fields with their anchor frames. -/
structure FrameFilter where
  spheres : List (Nat × (Int × Int × Int))
  fields  : List (Nat × Frame)
deriving DecidableEq, Repr

/-- The filter of a frame, the number of robots without a record for it, and the uncorrectable words met in their records.  A robot slot without a
loaded description is no robot here, and is not counted (DESIGN CHOICE, log entry 250); a record that names a tool set slot with no valid
tool set filters with the link spheres alone (DESIGN CHOICE, log entry 251). -/
def State.filterOf (s : State) (t : Nat) : FrameFilter × Nat × List Nat :=
  let recs := (rangeFrom 0 4).filterMap (fun r => match (s.cnd r).desc with | some d => some (r, d, (s.frameRec r t).1) | none => none)
  let spheres := recs.flatMap (fun x =>
    match x.2.2 with
    | none => []
    | some p =>
      let set := match (s.cnd x.1).sphereSet x.2.1 p with
        | some l => l
        | none => (rangeFrom 0 x.2.1.spheres.length).zip x.2.1.spheres
      (x.2.1.centres set p.q).map (fun c => (c.2.1.radius, c.2.2)))
  let fields := (rangeFrom 0 16).filterMap (fun n =>
    let c := s.attCfg n
    if !(attEn c && attFilter c) then none
    else if attWorld c then some (n, cellFrame)
    else match recs.find? (fun x => x.1 = attRobot c) with
      | some (_, d, some p) => some (n, anchorFrame c (some d) p.q)
      | _ => none)
  ({ spheres := spheres, fields := fields }, (recs.filter (fun x => x.2.2.isNone)).length, recs.flatMap (fun x => (s.frameRec x.1 t).2))

/-- Whether a measured point in P32 LSB is filtered, and what reading the fields has met. -/
def State.filtered (s : State) (f : FrameFilter) (q : Int × Int × Int) : Bool × Seen :=
  let pad := s.rdf A.wldFuseCfg 8 8
  let vs := f.fields.map (fun x => s.attValue x.1 x.2 q)
  (f.spheres.any (fun x => distSq q x.2 ≤ (x.1 + pad * 4096) ^ 2) || vs.any (fun v => v.1 < (pad * 64 : Nat) * fieldOne),
   vs.foldl (fun (m : Seen) v => m.and v.2) {})

/-! ## Rays (R120) -/

/-- Where fusion of a frame stands: the state, new slots it may still take of the coarse and the fine pool, whether it has been
clipped, and the pixels clipped. -/
structure FuseRun where
  s    : State
  c    : Nat
  f    : Nat
  clip : Bool := false
  lost : Nat := 0

/-- The fine word after an observation `sd` in 2^-26 D16 LSB (R8, R120).  A stored word whose DIST is UNKNOWN and whose WGT is above 0 (host
software can load one) is averaged with its distance taken as 0; the spec does not say (DESIGN CHOICE, log entry 217). -/
def fuseWord (w : Nat) (sd : Int) (wmax : Nat) : Nat :=
  let n := fld w 12 4
  let old : Int := if fld w 0 12 = 0x800 then 0 else sgn 12 (fld w 0 12)
  let v := if n = 0 then sd / 2 ^ 26 else (old * n * 2 ^ 26 + sd) / ((n + 1 : Nat) * 2 ^ 26)
  enc 12 (clampI (-2047) 2047 v) + (if n = 0 then 1 else min (n + 1) wmax) * 2 ^ 12

/-- Slots that an update would take: a coarse slot, a fine slot. -/
def State.slotsNeeded (s : State) (i v : Nat) (fine : Bool) : Nat × Nat :=
  match entryOf (s.dirNow 1 i) with
  | .brick none c =>
    let shared := decide (1 < s.refs false c)
    let w := s.linkOf c v
    (if shared then 1 else 0,
     if !fine then 0 else if tbit w 31 && !shared && s.refs true (fld w 0 23) ≤ 1 then 0 else 1)
  | _ => (1, if fine then 1 else 0)

/-- Act on one step point: region, fine update, or observed free space.  `done` lists the fine voxels this pixel has updated. -/
def FuseRun.step (x : FuseRun) (p : Int × Int × Int) (sd : Int) (done : List (Nat × Nat × Nat)) : FuseRun × List (Nat × Nat × Nat) :=
  let s := x.s
  let o := s.origin
  let (a, b, c) := ((p.1 - o.1) / 2048, (p.2.1 - o.2.1) / 2048, (p.2.2 - o.2.2) / 2048)
  if x.clip || a < 0 || 8192 ≤ a || b < 0 || 8192 ≤ b || c < 0 || 4096 ≤ c then (x, done)
  else
    let (u, v, w) := (a.toNat, b.toNat, c.toNat)
    let i := brickIdx (u / 8) (v / 8) (w / 8)
    let k := voxIdx (u / 8) (v / 8) (w / 8)
    let r := s.wRegion i
    let s0 := if entryOf (s.dirNow 1 i) = .reserved then s.bump A.wldDirBad else s
    if s.foreign i then ({ x with s := s0.bump32 A.aqdFuseForeign 1 }, done)
    else if !tbit r 1 then ({ x with s := s0 }, done)
    else
      let (code, link, _) := s.dynVoxel (u / 8) (v / 8) (w / 8)
      let near : Bool := sd < 512 * 2 ^ 26 || link.isSome
      if (near && done.contains (u, v, w)) || (!near && code ≠ 0x8000) then ({ x with s := s0 }, done)
      else
        let (nc, nf) := s.slotsNeeded i k near
        if x.c < nc || x.f < nf then ({ x with s := s0, clip := true }, done)
        else if near then
          match s0.ownFine 1 i k with
          | none => ({ x with s := s0, clip := true }, done)
          | some (f, cs, s1) =>
            let at_ := s1.wFine f + 2 * voxIdx u v w
            let wmax := max 1 (s1.rdf A.wldFuseCfg 0 4)
            let s2 := (s1.store at_ (leBytes 2 (fuseWord (leNat (s1.readMem at_ 2)) sd wmax))).showPred f
            ({ x with s := ((s2.touched true f).touched false cs).dirtied i, c := x.c - nc, f := x.f - nf }, (u, v, w) :: done)
        else
          match s0.ownCoarse 1 i with
          | none => ({ x with s := s0, clip := true }, done)
          | some (cs, s1) =>
            let s2 := s1.store (s1.wCoarse cs + 2 * k) (leBytes 2 3840)
            ({ x with s := (s2.touched false cs).dirtied i, c := x.c - nc }, done)

/-- The step points of a ray from o to q, in units of 2^-32 P32 LSB, from the m-th on: 0.5 mm apart from o, up to 8 mm beyond q. -/
def FuseRun.ray (x : FuseRun) (o q : Nat → Int) (len : Nat) (done : List (Nat × Nat × Nat)) : Nat → Nat → FuseRun
  | _, 0 => x
  | m, n + 1 =>
    let d : Int := (m : Int) * 2048 * 2 ^ 32
    let left := (len : Int) - d
    if left < -(8 * 4096 * 2 ^ 32) then x
    else
      let at_ (i : Nat) : Int := divNear (o i + (q i - o i) * d / (max len 1 : Nat)) (2 ^ 32)
      let sd := min (left / 64) (512 * 2 ^ 32) / 2 ^ 6
      let (y, done') := x.step (at_ 0, at_ 1, at_ 2) sd done
      y.ray o q len done' (m + 1) n

/-- Fuse one pixel: its measured point and camera centre in units of 2^-32 P32 LSB. -/
def FuseRun.pixel (x : FuseRun) (flt : FrameFilter) (o q : Nat → Int) : FuseRun :=
  let out := x.s.filtered flt (divNear (q 0) (2 ^ 32), divNear (q 1) (2 ^ 32), divNear (q 2) (2 ^ 32))
  if x.clip then { x with lost := x.lost + 1 }
  else if out.1 then { x with s := (x.s.note 5 5 out.2).bump32 A.wldFiltered 1 }
  else
    let x := { x with s := x.s.note 5 5 out.2 }
    let e (i : Nat) : Nat := (q i - o i).natAbs
    let len := isqrt (e 0 * e 0 + e 1 * e 1 + e 2 * e 2)
    let y := x.ray o q len [] 0 (len / (2048 * 2 ^ 32) + 20)
    if y.clip then { y with lost := y.lost + 1 } else y

/-- The measured point of a buffer pixel (R120): camera coordinates by the intrinsics, then the extrinsics.  A focal length of 0
gives no point: the coordinate is a free value. -/
def State.pixelPoint (s : State) (d : List Nat) (ext : Frame) (u v : Nat) (z : Int) : List Int × State :=
  let f := 2 ^ dDecim d
  let one (t : State) (k focal centre : Nat) : Int × State :=
    if focal = 0 then
      let (w, t1) := t.draw 32
      (w.toInt * 2 ^ 32, t1)
    else (((f * k * 2 ^ 16 : Nat) - sgn 32 centre) * z * 2 ^ 32 / focal, t)
  let (x, s1) := one s u (nth 0 d 6) (nth 0 d 8)
  let (y, s2) := one s1 v (nth 0 d 7) (nth 0 d 9)
  let w (i : Nat) : Int := if i = 0 then x else if i = 1 then y else z * 2 ^ 32
  ((rangeFrom 0 3).map (fun i => ith ext.pos i + row3 ext.rot i w / 2 ^ 62), s2)

/-- Fuse the pixels of a frame, `n` of them from the k-th on. -/
def FuseRun.pixels (x : FuseRun) (d : List Nat) (base : Nat) (ext : Frame) (flt : FrameFilter) : Nat → Nat → FuseRun
  | _, 0 => x
  | k, n + 1 =>
    let w := dWidth d / 2 ^ dDecim d
    let a := base + 64 + 4 * k
    match x.s.fetch 5 5 a 4 with
    | (none, s1) => { x with s := s1 }.pixels d base ext flt (k + 1) n
    | (some bs, s1) =>
      let z := sgn 32 (leNat bs)
      if z = 0 then { x with s := s1 }.pixels d base ext flt (k + 1) n
      else
        let (q, s2) := s1.pixelPoint d ext (k % w) (k / w) z
        ({ x with s := s2 }.pixel flt (ith ext.pos) (ith q)).pixels d base ext flt (k + 1) n

/-- Fusion of a whole frame.  Where the word of its stamp is uncorrectable in the buffer, the stamp is a free value (log entry 255). -/
def State.fuseFrame (s : State) (k b : Nat) : State :=
  let y := nth {} (s.slot k).bufs b
  let d := y.desc
  let base := dBase d + b * dStride d
  let ext := cellFrame.apply (sWords y.ext 0 12)
  let (stamp, s0) := match s.fetch 5 5 base 8 with
    | (some bs, t) => (leNat bs, t)
    | (none, t) => ((t.draw 64).1.toNat, (t.draw 64).2)
  let (flt, miss, ue) := s0.filterOf stamp
  let s1 := ue.foldl (fun t w => t.recordUe 5 5 w) (s0.bumpBy A.wldNoState miss)
  let w := dWidth d / 2 ^ dDecim d
  let h := dHeight d / 2 ^ dDecim d
  let run : FuseRun := { s := s1, c := s1.reserveOf false, f := s1.reserveOf true }
  let out := run.pixels d base ext flt 0 (w * h)
  if out.clip then (out.s.bumpBy A.wldFuseClip out.lost).raise 0x30000 12 else out.s

/-! ## Meanings -/

/-- Fusion takes the next frame (R104, R122, R125, R131). -/
def execFusionFrameStart (s : State) : Host.Outcome State Fault Refusal :=
  match s.ing.handover, s.wld.fusing, s.wld.cut with
  | (k, b) :: t, none, none =>
    if !s.fusionOn || !s.pageOpen 0x30000 || s.tripped || !s.loadpath then .next s
    else if !s.wldReady then .next (s.pageErr 0x30000 0x0104 0)
    else if s.slotsFree false < s.reserveOf false || s.slotsFree true < s.reserveOf true then .next (s.raise 0x30000 11)
    else
      let s1 := { s with ing := { s.ing with handover := t } }
      .next { s1 with wld := { s1.wld with fusing := some (k, b) } }.wldBusy.heatCut
  | _, _, _ => .next s

/-- Fusion of the running frame completes (R120). -/
def execFusionFrameDone (s : State) : Host.Outcome State Fault Refusal :=
  match (if s.tripped || !s.loadpath then none else s.wld.fusing) with
  | none => .next s
  | some (k, b) =>
    let s1 := s.fuseFrame k b
    .next (({ s1 with wld := { s1.wld with fusing := none } }.bufFused k b).wldBusy)

def execAttDone (n : Fin 16) (s : State) : Host.Outcome State Fault Refusal := .next (if s.loadpath then s.attDone n else s)

end Sys2Proof.Machine
end

