-- ==== Sys2Proof/Machine/Swp.lean ====
section
/-!
DEFINITION. The sweep: seeding of candidates, the tests of a candidate, its cost and status, result records, lane groups, the two
reductions and the paths in force (R18 to R21, R157 to R178).
-/
namespace Sys2Proof.Machine

/-! ## The running pass -/

/-- Change the running pass. -/
def State.setRun_ (s : State) (f : PassRun → PassRun) : State := { s with pass := { s.pass with cur := s.pass.cur.map f } }
/-- A robot of a pass. -/
def PassRun.robotOf (p : PassRun) (r : Nat) : Option PassRobot := p.robots.find? (fun x => x.robot = r)
/-- Change a robot of a pass. -/
def PassRun.setRobot (p : PassRun) (r : Nat) (f : PassRobot → PassRobot) : PassRun :=
  { p with robots := p.robots.map (fun x => if x.robot = r then f x else x) }
/-- A word of the SWP global page as the pass sampled it. -/
def PassRun.word (p : PassRun) (off : Nat) : Nat := nth 0 p.swp ((off - 0x40) / 4)
def PassRun.margin (p : PassRun) (r : Nat) : Nat := fld (p.word (0x100 + 0x40 * r)) 0 16
def PassRun.pmargin (p : PassRun) (r : Nat) : Nat := fld (p.word (0x100 + 0x40 * r)) 16 16
def PassRun.win (p : PassRun) : Nat := fld (p.word 0x48) 24 4
def PassRun.tsamp (p : PassRun) : Nat := max 1 (fld (p.word 0x48) 0 24)

/-! ## Paths of other robots (R169 to R171) -/

/-- A path as the cross tests take it: description, samples, sphere set, and the alignment o. -/
structure CrossPath where
  desc : Desc
  smp  : List (List Int)
  set  : List (Nat × Sphere)
  off  : Nat
deriving DecidableEq, Repr

/-- Description and sphere set of robot b against a path of it: its own for this pass, or those kept with the path where it has no
state record for this pass or takes no part (R170). -/
def PassRun.bodyOf (p : PassRun) (b : Nat) (k : PathRec) : Desc × List (Nat × Sphere) :=
  match p.robotOf b with
  | some x => if x.state.isSome then (x.desc, x.set) else (k.desc, k.set)
  | none => (k.desc, k.set)

/-- Robot b in cross entries of a pass (R19, R169, R170): its path in force at gate open, or the one-sample path at its state
record. -/
def PassRun.crossPath (p : PassRun) (b : Nat) : Option CrossPath :=
  match p.robotOf b with
  | none => none
  | some x =>
    match nth none p.paths b with
    | some k =>
      let (d, set) := p.bodyOf b k
      some { desc := d, smp := k.res.cand.smp, set := set, off := (p.gate - k.tc) / (1000 * p.tsamp) }
    | none => match x.state with
      | some (q, _, _) => some { desc := x.desc, smp := [q], set := x.set, off := 0 }
      | none => none

/-- The aligned sample of a cross path. -/
def CrossPath.at_ (c : CrossPath) (k : Nat) : Nat := min (k + c.off) (c.smp.length - 1)

/-- A sphere of a set by its number. -/
def sphereOf (set : List (Nat × Sphere)) (n : Nat) : Option Sphere := (set.find? (fun x => x.1 = n)).map (·.2)

/-! ## Pair lists (R172) -/

/-- A set without tool spheres does not have a tool sphere `n`. -/
def missingTool (set : List (Nat × Sphere)) (n : Nat) : Bool := 64 ≤ n && n ≤ 95 && !set.any (fun x => 64 ≤ x.1)

/-- What becomes of a pair entry: kept, skipped silently, skipped and counted, or skipped as a cross entry without a path. -/
inductive PairFate
  | keep (e : PairEntry) | silent | bad | noPath
deriving DecidableEq, Repr

/-- Judge a pair entry of a robot. -/
def PassRun.pairFate (p : PassRun) (x : PassRobot) (w : Nat) : PairFate :=
  let a := fld w 0 7
  let b := fld w 8 7
  let rb := fld w 16 2
  let xr := tbit w 18
  let shape : Bool := !tbit w 7 && !tbit w 15 && fld w 19 13 = 0 && (if xr then rb ≠ x.robot else a ≠ b)
  let aOk := (sphereOf x.set a).isSome
  let other := if xr then p.crossPath rb else none
  if xr && other.isNone then (if shape && aOk then .noPath else if shape && missingTool x.set a then .silent else .bad)
  else
    let bset := match other with | some c => c.set | none => x.set
    let bOk := (sphereOf bset b).isSome
    if !shape then .bad
    else if aOk && bOk then .keep { a := a, b := b, rb := if xr then some rb else none }
    else if (aOk || missingTool x.set a) && (bOk || missingTool bset b) then .silent
    else .bad

/-- Judge the entries of a list from the k-th on: kept entries, number counted, first counted one, cross entries without path. -/
def PassRun.pairJudge (p : PassRun) (x : PassRobot) : Nat → List Nat → List PairEntry × Nat × Option Nat × Nat
  | _, [] => ([], 0, none, 0)
  | k, w :: t =>
    let (l, n, f, m) := p.pairJudge x (k + 1) t
    match p.pairFate x w with
    | .keep e => (e :: l, n, f, m)
    | .silent => (l, n, f, m)
    | .bad => (l, n + 1, some k, m)
    | .noPath => (l, n, f, m + 1)

/-- Read the pair list of a robot at gate open; BAD_PAIR is recorded for the first counted entry of the pass. -/
def State.pairList (s : State) (p : PassRun) (r : Nat) (noted : Bool) : PassRun × Bool × State :=
  match p.robotOf r with
  | none => (p, noted, s)
  | some x =>
    let n := min 256 (fld (p.word (0x104 + 0x40 * r)) 0 9)
    let a := (p.word (0x108 + 0x40 * r) + p.word (0x10C + 0x40 * r) * 2 ^ 32) % 2 ^ 48
    if n = 0 then (p, noted, s)
    else match s.fetchLocal 7 a (4 * n) with
      | (none, s1) => (p.setRobot r (fun y => { y with pairBad := true }), noted, s1)
      | (some bs, s1) =>
        let (l, bad, first, miss) := p.pairJudge x 0 ((rangeFrom 0 n).map (fun i => uWord bs (4 * i)))
        let s2 := (s1.bumpBy A.swpPairSkip bad).bumpBy A.swpXrSkip miss
        let p1 := p.setRobot r (fun y => { y with pairs := l })
        match first with
        | some k => if noted then (p1, true, s2) else (p1, true, (s2.pageErr 0x50000 0x0100 (r + k * 4)).raise 0x50000 11)
        | none => (p1, noted, s2)

/-! ## The tests of a candidate (R161 to R169) -/

/-- One test: sample, kind (0 world, 1 attached, 2 self, 3 cross), sphere, D16 clearance. -/
structure Test where
  sample : Nat
  kind   : Nat
  sphere : Nat
  clear  : Int
deriving DecidableEq, Repr

/-- What testing a candidate has brought: the tests in the order of R174, and what its queries met. -/
structure Tests where
  list   : List Test := []
  seen   : List Seen := []
deriving DecidableEq, Repr

/-- The attached fields that apply to a robot, with their anchor frames and displacement terms at sample k (R167, R169). -/
def PassRun.attFor (p : PassRun) (r k : Nat) : List (Nat × Frame × Nat) :=
  (rangeFrom 0 16).filterMap (fun n =>
    let c := nth 0 p.att n
    if !attEn c then none
    else if attWorld c then some (n, cellFrame, 0)
    else if !attRr c || attRobot c = r then none
    else match p.crossPath (attRobot c) with
      | none => none
      | some x =>
        let j := x.at_ k
        let lev := p.word (0x200 + 4 * n)
        let sp : Sphere := { centre := (0, 0, 0), radius := 0, link := attLinkNo c, levers := List.replicate 8 lev }
        some (n, anchorFrame c (some x.desc) (nth [] x.smp j), windowDisp x.desc sp x.smp p.win j + fkAllow))

/-- The centres of another robot's spheres at a sample. -/
def CrossPath.centre (c : CrossPath) (j n : Nat) : Option (Sphere × (Int × Int × Int)) :=
  match sphereOf c.set n with
  | none => none
  | some sp =>
    let q := nth [] c.smp j
    some (sp, sphereCentre c.desc (c.desc.frames q) q sp)

/-- All tests of sample k, in the order world, attached, self, cross. -/
def State.sampleTests (s : State) (p : PassRun) (x : PassRobot) (e : Epoch) (smp : List (List Int)) (k : Nat) : Tests :=
  let cs := x.desc.centres x.set (nth [] smp k)
  let inf (sp : Sphere) : Nat := inflation x.desc sp smp k
  let world := cs.map (fun c =>
    let (v, q) := s.field e c.2.2
    (({ sample := k, kind := 0, sphere := c.1, clear := fieldClear v c.2.1.radius (inf c.2.1) } : Test), q))
  let fields := p.attFor x.robot k
  let att := cs.flatMap (fun c => fields.map (fun f =>
    let (v, q) := s.attValue f.1 f.2.1 c.2.2
    (({ sample := k, kind := 1, sphere := c.1, clear := fieldClear v c.2.1.radius (inf c.2.1 + f.2.2) } : Test), q)))
  let order (l : List PairEntry) : List PairEntry := sortBy (fun a b => a.a ≤ b.a) l
  let own (n : Nat) : Option (Sphere × (Int × Int × Int)) := (cs.find? (fun c => c.1 = n)).map (·.2)
  let self_ := (order (x.pairs.filter (fun y => y.rb.isNone))).filterMap (fun y =>
    match own y.a, own y.b with
    | some a, some b => some { sample := k, kind := 2, sphere := y.a
                               clear := pairClear a.2 b.2 (a.1.radius + b.1.radius) (inf a.1 + inf b.1) : Test }
    | _, _ => none)
  let cross := (order (x.pairs.filter (fun y => y.rb.isSome))).filterMap (fun y =>
    match own y.a, p.crossPath (y.rb.getD 0) with
    | some a, some c =>
      let j := c.at_ k
      match c.centre j y.b with
      | some b => some { sample := k, kind := 3, sphere := y.a
                         clear := pairClear a.2 b.2 (a.1.radius + b.1.radius) (inf a.1 + windowDisp c.desc b.1 c.smp p.win j + fkAllow) : Test }
      | none => none
    | _, _ => none)
  { list := world.map (·.1) ++ att.map (·.1) ++ self_ ++ cross, seen := world.map (·.2) ++ att.map (·.2) }

/-- All tests of a candidate. -/
def State.allTests (s : State) (p : PassRun) (x : PassRobot) (e : Epoch) (smp : List (List Int)) : List Tests :=
  (rangeFrom 0 smp.length).map (fun k => s.sampleTests p x e smp k)

/-- The first test that reaches the least clearance (R174). -/
def leastTest : List Test → Option Test
  | [] => none
  | a :: t =>
    match leastTest t with
    | none => some a
    | some b => if a.clear ≤ b.clear then some a else some b

/-- The candidate is UNDERSAMPLED (R164). -/
def undersampled (p : PassRun) (x : PassRobot) (smp : List (List Int)) : Bool :=
  let cap := fld (p.word 0x44) 0 16
  (rangeFrom 0 smp.length).any (fun k => x.set.any (fun y => cap * 64 * 2 ^ 29 < sideDisp x.desc y.2 smp k))

/-! ## Cost (R150) -/

/-- Joint j is not fixed. -/
def PassRobot.moves (x : PassRobot) (j : Nat) : Bool := !x.fixed j

/-- Σ_j weight_j · |a_j − b_j| over the joints that move. -/
def PassRobot.weighted (x : PassRobot) (lo : Nat) (a b : List Int) : Nat :=
  ((rangeFrom 0 x.nj).map (fun j => if x.moves j then fld (x.word (0xE0 + 4 * j)) lo 16 * (ith a j - ith b j).natAbs else 0)).sum

/-- The cost of a candidate from the least clearance of each sample, before it saturates. -/
def PassRobot.costOf (x : PassRobot) (c : Cand) (least : List Int) : Nat :=
  let smp := c.smp
  let len := ((rangeFrom 1 (smp.length - 1)).map (fun k => x.weighted 0 (nth [] smp k) (nth [] smp (k - 1)))).sum / 2 ^ 20
  let soft : Int := (fld (x.word 0x98) 0 16 : Nat)
  let pen := fld (x.word 0x98) 16 16 * (least.map (fun m => (max 0 (soft - m)).toNat)).sum / 2 ^ 4
  let goal := match x.state with
    | some (_, g, _) => x.weighted 16 (nth [] smp (smp.length - 1)) g / 2 ^ 20
    | none => 0
  len + pen + goal + c.bias

/-! ## Records (R174, R175, R148) -/

/-- A record of a candidate that is not swept (R148). -/
def badRes (c : Cand) : Res := { cand := c, status := 0x09, minclr := -32767, sample := 0, sphere := 0, kind := 4, cost := 0xFFFFFFFF }

/-- The 16 bytes of a record. -/
def Res.bytes (r : Res) : List Byte :=
  leBytes 4 (r.cand.index % 2 ^ 17 + (if r.status = 0 then 2 ^ 17 else 0) + r.cand.robot % 4 * 2 ^ 18 + r.cand.src % 4 * 2 ^ 20 +
      r.status % 256 * 2 ^ 24) ++
    leBytes 4 (enc 16 r.minclr + r.sample % 64 * 2 ^ 16 + r.sphere % 128 * 2 ^ 22 + r.kind % 8 * 2 ^ 29) ++
    leBytes 4 r.cost ++ leBytes 4 r.cand.tag

/-- The size of a record area, and the area's address for a pass (R175). -/
def recArea : Nat := 0x201000
def PassRun.recBase (p : PassRun) : Nat := (p.word 0x50 + p.word 0x54 * 2 ^ 32) % 2 ^ 48
def resAddrOk (a : Nat) : Bool := a % 64 = 0 && inLocal a (2 * recArea)

/-- Rank order: cost, then index (R20). -/
def rankLe (a b : Res) : Bool := a.cost < b.cost || (a.cost = b.cost && a.cand.index ≤ b.cand.index)

/-- Count a record by its status. -/
def countStatus (c : Nat × Nat × Nat × Nat) (st : Nat) : Nat × Nat × Nat × Nat :=
  if st = 0 then (c.1 + 1, c.2) else if st = 4 then (c.1, c.2.1 + 1, c.2.2)
  else if st = 5 then (c.1, c.2.1, c.2.2.1 + 1, c.2.2.2) else (c.1, c.2.1, c.2.2.1, c.2.2.2 + 1)

/-- A robot takes a record: counts, ranking, eligibility of a refined path (R20, R21, R176). -/
def PassRobot.take (x : PassRobot) (r : Res) (swept : Bool) : PassRobot :=
  let y := { x with counts := countStatus x.counts r.status, swept := if swept then x.swept + 1 else x.swept }
  if r.status ≠ 0 then y
  else if r.cand.src = 3 then (if r.cost < r.cand.orig then { y with refok := insBy rankLe r y.refok } else y)
  else { y with ranked := (insBy rankLe r y.ranked).take (max 1 y.topk) }

/-- A record is formed: it is written while REC_EN is 1 and there is room, and enters the reduction. -/
def State.putRecord (s : State) (r : Res) (swept : Bool) : State :=
  match s.pass.cur with
  | none => s
  | some p =>
    let room : Bool := tbit (p.word 0x40) 0 && resAddrOk p.recBase && 16 * p.records + 16 ≤ recArea
    let s1 := if room then s.store (p.recBase + p.seq % 2 * recArea + 16 * p.records) r.bytes else s
    s1.setRun_ (fun q => { q.setRobot r.cand.robot (fun x => x.take r (swept && r.cand.src ≠ 3)) with
      records := q.records + 1
      reswept := if swept && r.cand.src = 3 then q.reswept + 1 else q.reswept
      lastAt := if swept && r.cand.src ≠ 3 then some s.now else q.lastAt })

/-- Sweep a candidate: tests, cost, status, and what the queries met (R159, R165, R179). -/
def State.sweepCand (s : State) (g : Fin 8) (p : PassRun) (x : PassRobot) (e : Epoch) (c : Cand) : State :=
  let ts := s.allTests p x e c.smp
  let all := ts.flatMap (·.list)
  let seen := ts.flatMap (·.seen)
  let least := ts.map (fun t => match leastTest t.list with | some m => m.clear | none => 32767)
  let raw := x.costOf c least
  let cost := min raw 0xFFFFFFFF
  let faults := (seen.flatMap (·.bad)).eraseDups.length
  let margin (t : Test) : Int := if t.kind ≤ 1 then (p.margin x.robot : Int) else p.pmargin x.robot
  let st :=
    if faults ≠ 0 || x.pairBad then 0x09
    else if undersampled p x c.smp then 0x05
    else if all.any (fun t => t.clear < margin t) then 0x04 else 0
  let m := match leastTest all with | some t => t | none => { sample := 0, kind := 4, sphere := 0, clear := 32767 }
  let s1 := seen.foldl (fun t q => t.note 5 7 q) s
  let s2 := if cost = raw then s1 else s1.bump A.cndCostSat
  let s3 := s2.bumpBy A.swpFetchFault faults
  let s4 := if faults ≠ 0 && !p.faulted then
      ((s3.pageErr 0x50000 0x0102 0).raise 0x50000 10).setRun_ (fun q => { q with faulted := true })
    else s3
  let r : Res := { cand := c, status := st, minclr := m.clear, sample := m.sample, sphere := m.sphere, kind := m.kind, cost := cost }
  (s4.shadowCopy (.lane g) (r.bytes.map (fun b => (b.toNat : Int)))).putRecord r true

/-! ## Lane groups (R157 to R159, R177, R181) -/

/-- A draining unit without work goes OUT_OF_SERVICE (R373). -/
def State.drained (s : State) (page : Nat) : State := if s.svc page = 1 then s.setSvc page 2 1 else s

/-- A lane group takes candidates of the pass. -/
def State.groupTakes (s : State) (p : PassRun) (g : Nat) : Bool :=
  p.groups.contains g && s.svc (lgPage g) = 0 && s.pageOpen (lgPage g) && s.pageOpen 0x50000

/-- The sweep of the pass runs. -/
def PassRun.sweeping (p : PassRun) : Bool :=
  p.closed.isNone && (match p.running with | some st => (match st.kind with | .sweep => true | .resweep _ _ => true | .commit => false)
                                            | none => false)

/-- The next candidate (R158, R177): a refined path, else the lowest complete index of the next robot in rotation. -/
def nextCand (p : PassRun) : Option (Cand × PassRun) :=
  match p.refq with
  | c :: t => some (c, { p with refq := t })
  | [] =>
    let pick (k : Nat) : Option (Cand × PassRun) :=
      let i := (p.rot + k) % max 1 p.robots.length
      match nth none (p.robots.map some) i with
      | none => none
      | some x =>
        match p.queue.find? (fun c => c.robot = x.robot) with
        | some c => some (c, { p with queue := p.queue.filter (fun y => y.index ≠ c.index), rot := i + 1 })
        | none => none
    (rangeFrom 0 p.robots.length).findSome? pick

/-- A free lane group takes the next candidate. -/
def State.groupFill (s : State) (g : Nat) : State :=
  match s.pass.cur with
  | none => s
  | some p =>
    if !p.sweeping || !s.groupTakes p g || (nth none p.jobs g).isSome then s
    else match nextCand p with
      | none => s
      | some (c, q) => ((s.setRun_ (fun _ => { q with jobs := upd (fun _ => some c) q.jobs g })).setBusy (lgPage g) true).heatCut

/-- Every free lane group takes one, the lower number first. -/
def State.groupsFill (s : State) : State := (rangeFrom 0 8).foldl (fun t g => t.groupFill g) s

/-- Every candidate of the pass is seeded, and none waits or runs. -/
def PassRun.allSwept (p : PassRun) : Bool :=
  p.queue.isEmpty && p.refq.isEmpty && p.jobs.all (·.isNone) &&
    (match p.running with
     | some st => (match st.kind with
       | .sweep => p.robots.all (fun x => !x.sweeps p.epoch.isSome || x.seedN ≤ x.seeded.length)
       | _ => true)
     | none => true)

/-- SWEEP_DONE when the last candidate of the sweep has been swept. -/
def State.sweepOver (s : State) : State :=
  match s.pass.cur with
  | some p => match p.running with
    | some st => if st.kind = .sweep && p.allSwept then s.raise 0x50000 8 else s
    | none => s
  | none => s

/-- Seeding completes a candidate (R18, R148, R158). -/
def State.candComplete (s : State) (index : Nat) : State :=
  match s.pass.cur with
  | none => s
  | some p =>
    match p.robots.find? (fun x => (x.slotOf index).isSome && !x.seeded.contains index) with
    | none => s
    | some x =>
      let running : Bool := match p.running with | some st => decide (st.kind = .sweep) | none => false
      if !running || p.closed.isSome || !x.sweeps p.epoch.isSome then s
      else
        let done (t : State) : State := t.setRun_ (fun q => q.setRobot x.robot (fun y => { y with seeded := index :: y.seeded }))
        let good (t : State) (c : Cand) : State :=
          ((done t).setRun_ (fun q => { q with queue := insBy (fun a b => a.index ≤ b.index) c q.queue })).groupsFill
        let bad (t : State) (src tag : Nat) : State :=
          let c : Cand := { index := index, robot := x.robot, src := src, form := 0, anchor := false, bias := 0, tag := tag, cps := [], smp := [] }
          ((done t).putRecord (badRes c) false).sweepOver
        match x.slotOf index with
        | some (0, k) =>
          (match s.hostCand x index k with
           | (some c, s1) => good s1 c
           | (none, s1) =>
             let at_ := match x.batch with | some b => b.addr + k * b.stride + 8 | none => 0
             let (tag, s2) :=
               if x.batch.isNone then (0, s1)
               else if s1.spd.ue.contains (wordAddr at_) then ((s1.draw 32).1.toNat, (s1.draw 32).2)
               else (s1.peek32 at_, s1)
             bad ((s2.bump A.cndBadCand).raise (cndPage x.robot) 10) 0 tag)
        | some (1, k) =>
          (match s.pertCand x p.seed p.seq index k with
           | (some c, s1) => good s1 c
           | (none, s1) => bad s1 1 (k % x.nseeds))
        | some (_, k) =>
          (match p.learned.find? (fun y => y.1 = x.robot && y.2.1 = k / x.perEval) with
           | some y => let (c, s1) := s.learnCand x index k y.2.2; good s1 c
           | none => s)
        | none => s

/-- The tests of a candidate need a brick of another node that the cache does not hold: the lanes wait for its fetch (R157, R366). -/
def State.lanesWait (s : State) (p : PassRun) (x : PassRobot) (e : Epoch) (c : Cand) : Bool :=
  (s.allTests p x e c.smp).any (fun t => t.seen.any (·.miss))

/-- A lane group completes its candidate and takes the next one; while its lanes wait for a brick it completes nothing. -/
def State.candSwept (s : State) (g : Fin 8) : State :=
  match s.pass.cur with
  | none => s
  | some p =>
    match nth none p.jobs g, p.epoch with
    | some c, some e =>
      (match p.robotOf c.robot with
       | none => s
       | some x =>
         if s.lanesWait p x e c then s
         else
         let s1 := ((s.bump32 (A.swpGCand g) 1).setRun_ (fun q => { q with jobs := upd (fun _ => none) q.jobs g })).sweepCand
           g p x e c
         let s2 := (s1.setBusy (lgPage g) false).groupFill g
         ((if (match s2.pass.cur with | some q => (nth none q.jobs g).isNone | none => true) then s2.drained (lgPage g) else s2)).sweepOver)
    | _, _ => s

/-- A gate-close cause stops the lane groups: candidates in flight are discarded (R159). -/
def State.sweepStop (s : State) : State :=
  match s.pass.cur with
  | none => s
  | some p =>
    let s1 := s.setRun_ (fun q => { q with jobs := List.replicate 8 none, queue := [], refq := [] })
    (rangeFrom 0 8).foldl (fun t g => if (nth none p.jobs g).isSome then (t.setBusy (lgPage g) false).drained (lgPage g) else t) s1

/-! ## Reduction and lists (R20, R176 to R178) -/

/-- The commit list of a robot: the top-K, or the best alone where K is 0 (R28), and the eligible refined paths, ranked. -/
def PassRobot.commitList (x : PassRobot) : List Res := sortBy rankLe (x.top.take (max 1 x.topk) ++ x.refok)

/-- Write the commit lists of the four robots while TOPK_EN is 1; a robot outside the pass has an empty one (R178). -/
def State.writeLists (s : State) : State :=
  match s.pass.cur with
  | none => s
  | some p =>
    let base := (p.word 0x58 + p.word 0x5C * 2 ^ 32) % 2 ^ 48
    if tbit (p.word 0x40) 1 && resAddrOk p.recBase && base % 64 = 0 && inLocal base 0x1000 then
      ((rangeFrom 0 4).foldl (fun t r =>
        let bs := match p.robotOf r with | some x => (x.commitList.take 32).flatMap Res.bytes | none => []
        t.store (base + p.seq % 2 * 0x800 + r * 0x200) (bs ++ List.replicate (0x200 - bs.length) 0)) s).setRun_
          (fun q => { q with listed := true })
    else s

/-- A commit step starts: lists that no second reduction has written are written now (R178). -/
def State.listsAtCommit (s : State) : State :=
  match s.pass.cur with
  | none => s
  | some p => if p.listed then s else s.writeLists

/-- The completion of a launched step goes to its handle (R295). -/
def State.stepEnded (s : State) (by_ : Option (Nat × Nat)) (status result : Nat) : State :=
  match by_ with
  | none => s
  | some (acc, h) =>
    let e : UnitEnd := { acc := acc, h := h, status := status, result := result }
    { s with dsp := { s.dsp with ended := s.dsp.ended ++ [e] } }

/-- The status of a step that ends now: OK, or the cause that closed the gate before. -/
def PassRun.stepStatus (p : PassRun) : Nat := match p.closed with | some c => statusCode c | none => 0

/-- Robots as a mask. -/
def robotMask (l : List Nat) : Nat := (l.map (fun r => 2 ^ r)).sum

/-- BUSY of the global page while a step runs. -/
def State.swpBusy (s : State) : State :=
  s.setBusy 0x50000 (match s.pass.cur with | some p => p.running.isSome | none => false)

/-- The refined paths that a re-sweep takes: of its problems, in order. -/
def refinedOf (p : PassRun) (first count : Nat) : List Cand :=
  (sortBy (fun a b => a.1 ≤ b.1) (p.refined.filter (fun x => first ≤ x.1 && x.1 < first + count))).map (·.2)

/-- The next waiting step starts when none runs (R294). -/
def State.nextStep (s : State) : State :=
  match s.pass.cur with
  | none => s
  | some p =>
    match p.running, p.waiting with
    | none, st :: t =>
      let q := { p with running := some st, waiting := t }
      let q1 := match st.kind with
        | .resweep a n => { q with refq := refinedOf p a n, reswept := 0 }
        | _ => q
      let s1 := s.setRun_ (fun _ => q1)
      ((if st.kind = .commit then s1.listsAtCommit else s1).groupsFill).swpBusy
    | _, _ => s

/-- Queue a step of the running pass. -/
def State.queueStep (s : State) (st : PassStep) : State := (s.setRun_ (fun p => { p with waiting := p.waiting ++ [st] })).nextStep

/-- After the gate has closed by another cause, commit follows as soon as no other step runs; waiting steps end with that cause,
and a waiting COMMIT is that commit (R25, R294). -/
def State.closeSteps (s : State) : State :=
  match s.pass.cur with
  | none => s
  | some p =>
    if p.closed.isNone || p.running.isSome then s
    else
      let commit := p.waiting.find? (fun st => st.kind = .commit)
      let others := p.waiting.filter (fun st => st.kind ≠ .commit)
      let s1 := others.foldl (fun t st => t.stepEnded st.by_ p.stepStatus 0) s
      let st : PassStep := match commit with | some c => c | none => { kind := .commit, by_ := none }
      ((s1.setRun_ (fun q => { q with waiting := [], running := some st })).listsAtCommit).swpBusy

/-- The first reduction is final (R176). -/
def State.reduceFirst (s : State) : State :=
  match s.pass.cur with
  | none => s
  | some p =>
    match p.running with
    | none => s
    | some st =>
      if st.kind ≠ .sweep || (p.closed.isNone && !p.allSwept) then s
      else
        let s1 := (s.setRun_ (fun q => { q with running := none, robots := q.robots.map (fun x => { x with top := x.ranked }) })).raise 0x50000 9
        let s2 := s1.stepEnded st.by_ p.stepStatus
          (robotMask ((p.robots.filter (fun x => !x.ranked.isEmpty)).map (·.robot)))
        if p.closed.isSome then s2.closeSteps else s2.nextStep.swpBusy

/-- The second reduction is final (R177). -/
def State.reduceSecond (s : State) : State :=
  match s.pass.cur with
  | none => s
  | some p =>
    match p.running with
    | none => s
    | some st =>
      match st.kind with
      | .resweep _ _ =>
        if p.closed.isNone && !p.allSwept then s
        else
          let s1 := (s.setRun_ (fun q => { q with running := none })).raise 0x50000 9
          let s2 := (s1.writeLists).stepEnded st.by_ p.stepStatus p.reswept
          if p.closed.isSome then s2.closeSteps else s2.nextStep.swpBusy
      | _ => s

/-! ## Paths in force (R171) -/

/-- The registers that show the path in force of a robot. -/
def State.showPath (s : State) (r : Nat) : State :=
  match nth none s.pass.paths r with
  | some k => (s.wr64 (A.swpRPathT0 r) k.tc).wr (A.swpRPath r) (k.res.cand.smp.length % 128 + 2 ^ 8)
  | none => (s.wr64 (A.swpRPathT0 r) 0).wr (A.swpRPath r) 0

/-- What an abort of the commit would put back for the robots that `f` names becomes `back`. -/
def State.setUndo (s : State) (f : Nat → Bool) (back : Option (Option PathRec)) : State :=
  s.setRun_ (fun q => { q with undo := q.undo.map (fun (x : Nat × Option (Option PathRec)) => (x.1, if f x.1 then back else x.2)) })

/-- The write of SWP_R_PATH.DROP: the path goes at the next gate open, also when an abort withdraws a commit made before. -/
def State.pathDrop (s : State) (r v : Nat) : State :=
  if tbit v 16 then
    { s with pass := { s.pass with next := upd (fun _ => some none) s.pass.next r } }.setUndo (fun x => x = r) (some none)
  else s

/-- The stop channels have de-energised: every path is dropped. -/
def State.dropPaths (s : State) : State :=
  let none4 : List (Option PathRec) := List.replicate 4 none
  let p : PassState := { s.pass with paths := none4, next := List.replicate 4 none }
  let s1 := ({ s with pass := p }.setUndo (fun _ => true) none).setRun_ (fun q => { q with gone := q.decided.map (fun (d : Nat × Option Res) => d.1) })
  (rangeFrom 0 4).foldl (fun t r => t.showPath r) s1

/-- The changes that wait for a gate open take effect. -/
def State.pathsAtGate (s : State) : State :=
  let l := (s.pass.paths.zip s.pass.next).map (fun x => match x.2 with | some y => y | none => x.1)
  (rangeFrom 0 4).foldl (fun t r => t.showPath r) { s with pass := { s.pass with paths := l, next := List.replicate 4 none } }

/-- The write of SWP_CTRL: with a bad record area REC_EN and TOPK_EN cannot be set (R175). -/
def State.swpCtrl (s : State) (old v : Nat) : State :=
  let up := (v &&& 3) - (old &&& v &&& 3)
  if up = 0 || resAddrOk (s.rd64 A.swpResAddr % 2 ^ 48) then s else (s.wr A.swpCtrl (v % 4 - up)).pageErr 0x50000 0x0101 0

/-! ## Meanings -/

def execCandidateComplete (index : Nat) (s : State) : Host.Outcome State Fault Refusal := .next (if s.poolpath then s.candComplete index else s)
def execCandidateSwept (g : Fin 8) (s : State) : Host.Outcome State Fault Refusal := .next (if s.poolpath then s.candSwept g else s)
def execReductionFinal (s : State) : Host.Outcome State Fault Refusal := .next (if s.datapath then s.reduceFirst else s)
def execSecondReductionFinal (s : State) : Host.Outcome State Fault Refusal := .next (if s.datapath then s.reduceSecond else s)

end Sys2Proof.Machine
end

