-- ==== Sys2Proof/Machine/SolArith.lean ====
section
/-!
DEFINITION. The arithmetic of the solver arrays and the three methods: S32 elements with Q-shifts, NaR, device scalars, PCG, PGS, DLS,
norms, the best iterate and how a run ends (R189 to R196).
-/
namespace Sys2Proof.Machine

/-! ## Elements and scalars (R189, R190) -/

/-- NaR as a raw S32 value. -/
def nar : Int := -(2 ^ 31)

/-- A right shift that rounds to nearest, ties away from zero; a left shift is exact. -/
def roundShift (v n : Int) : Int := if n ≤ 0 then v * 2 ^ (-n).toNat else divNear v (2 ^ n.toNat)

/-- Hold a value in the 64-bit accumulator; the second part counts a saturation. -/
def cl64 (v : Int) : Int × Nat :=
  if v < -(2 ^ 63) then (-(2 ^ 63), 1) else if 2 ^ 63 - 1 < v then (2 ^ 63 - 1, 1) else (v, 0)

/-- A term of a sum: its exact value and Q-shift; NaR has no value. -/
abbrev Term := Option Int × Int

def termOne (x q : Int) : Term := (if x = nar then none else some x, q)
def termMul (x qx y qy : Int) : Term := (if x = nar || y = nar then none else some (x * y), qx + qy)
def termNeg (t : Term) : Term := (t.1.map (fun v => -v), t.2)

/-- Sum terms in the accumulator at Q-shift `qa`, and count the saturations; the sum is NaR from the first NaR term on. -/
def accSum (qa : Int) : List Term → Option Int → Nat → Option Int × Nat
  | [], a, n => (a, n)
  | (none, _) :: t, _, n => accSum qa t none n
  | (some p, q) :: t, a, n =>
    let x := cl64 (roundShift p (q - qa))
    match a with
    | none => accSum qa t none (n + x.2)
    | some a => let y := cl64 (a + x.1); accSum qa t (some y.1) (n + x.2 + y.2)

/-- One result element at Q-shift `qd`, and its saturations. -/
def accOne (qd : Int) (l : List Term) : Int × Nat :=
  match accSum (qd + 16) l (some 0) 0 with
  | (none, n) => (nar, n)
  | (some a, n) =>
    let v := roundShift a 16
    if 2 ^ 31 - 1 < v then (2 ^ 31 - 1, n + 1) else if v < -(2 ^ 31 - 1) then (-(2 ^ 31 - 1), n + 1) else (v, n)

/-- A vector of result elements, and its saturations. -/
def accVec (l : List (Int × List Term)) : List Int × Nat :=
  let r := l.map (fun x => accOne x.1 x.2)
  (r.map (·.1), (r.map (·.2)).sum)

/-- A device scalar: significand and exponent; NaR has none. -/
abbrev Scalar := Option (Int × Int)

/-- The scalar of `num / den · 2^e`: a signed 32-bit significand as wide as it goes, rounded to nearest (log entry 29). -/
def scalarOf (num : Int) (den : Nat) (e : Int) : Int × Int :=
  if num = 0 then (0, 0)
  else
    let a := num.natAbs
    let k : Int := (a.log2 : Int) - den.log2
    let k1 : Int := if a * 2 ^ (-k).toNat < den * 2 ^ k.toNat then k - 31 else k - 30
    let m := divNear (num * 2 ^ (-k1).toNat) (den * 2 ^ k1.toNat)
    if m = 2 ^ 31 then (2 ^ 30, k1 + 1 + e) else if m = -(2 ^ 31) then (-(2 ^ 30), k1 + 1 + e) else (m, k1 + e)

/-- A term that multiplies an element by a scalar. -/
def termScale (c : Scalar) (x q : Int) : Term :=
  match c with
  | none => (none, 0)
  | some (m, e) => (if x = nar then none else some (m * x), q - e)

/-- The fraction bits of exact sums of products. -/
def dotQ : Nat := 128

/-- Σ a_k · b_k exactly, in 2^-128; none with NaR. -/
def dotOf : List Int → List Nat → List Int → List Nat → Option Int
  | a :: as, qa :: qas, b :: bs, qb :: qbs =>
    if a = nar || b = nar then none else (dotOf as qas bs qbs).map (· + a * b * 2 ^ (dotQ - qa - qb))
  | _, _, _, _ => some 0

/-- The scalar of an exact sum. -/
def dotScalar (v : Option Int) : Scalar := v.map (fun x => scalarOf x 1 (-128))

/-- A scalar divided by zero has no stated value; it is the same in every run (R202). -/
def overZero (m e : Int) : Int × Int :=
  let v := (Config.overZero m e).toNat
  (sgn 32 v, sgn 16 (v / 2 ^ 32))

/-- The quotient of two scalars. -/
def quotient (a b : Scalar) : Scalar :=
  match a, b with
  | some (m, e), some (n, f) => if n = 0 then some (overZero m e) else some (scalarOf (if n < 0 then -m else m) n.natAbs (e - f))
  | _, _ => none

/-- A scalar is at most an exact value in 2^-256. -/
def scalarLe (c : Int × Int) (v : Int) : Bool :=
  if -256 ≤ c.2 then c.1 * 2 ^ (c.2 + 256).toNat ≤ v else c.1 ≤ v * 2 ^ (-256 - c.2).toNat

/-! ## A problem as a run sees it -/


def qAt (l : List Nat) (k : Nat) : Int := (nth 0 l k : Nat)
def SolProb.row (p : SolProb) (i : Nat) : List (Nat × Int) := nth [] p.rows i
/-- A_ii, 0 where a row has no such entry. -/
def SolProb.diag (p : SolProb) (i : Nat) : Int :=
  match (p.row i).find? (fun x => x.1 = i) with | some x => x.2 | none => 0

/-- The terms b_i − (A x)_i. -/
def SolProb.residTerms (p : SolProb) (x : List Int) (i : Nat) : List Term :=
  termOne (ith p.b i) (qAt p.qr i) :: (p.row i).map (fun c => termNeg (termMul c.2 (qAt p.qa i) (ith x c.1) (qAt p.qx c.1)))

/-- b − A x at the Q-shifts of the rows. -/
def SolProb.resid (p : SolProb) (x : List Int) : List Int × Nat :=
  accVec ((rangeFrom 0 p.m).map (fun i => (qAt p.qr i, p.residTerms x i)))

/-- A times a vector at given Q-shifts, at the Q-shifts of the rows. -/
def SolProb.mul (p : SolProb) (v : List Int) (q : List Nat) : List Int × Nat :=
  accVec ((rangeFrom 0 p.m).map (fun i => (qAt p.qr i, (p.row i).map (fun c => termMul c.2 (qAt p.qa i) (ith v c.1) (qAt q c.1)))))

/-- `x + c · p` element by element at Q-shifts `q`; `neg` subtracts. -/
def axpy (neg : Bool) (q : List Nat) (x : List Int) (c : Scalar) (v : List Int) (qv : List Nat) (n : Nat) : List Int × Nat :=
  accVec ((rangeFrom 0 n).map (fun j =>
    let t := termScale c (ith v j) (qAt qv j)
    (qAt q j, [termOne (ith x j) (qAt q j), if neg then termNeg t else t])))

/-! ## The methods (R191 to R193, R196) -/

/-- An iterate: x, its residual vector, the vectors p and z, and the saturations so far. -/
structure SolIter where
  x   : List Int
  r   : List Int
  p   : List Int := []
  z   : List Int := []
  sat : Nat
deriving DecidableEq, Repr

/-- 1 / A_ii as a scalar. -/
def SolProb.recip (p : SolProb) (i : Nat) : Scalar :=
  let a := p.diag i
  if a = nar then none
  else if a = 0 then some (overZero 1 0)
  else some (scalarOf (if a < 0 then -1 else 1) a.natAbs (qAt p.qa i))

/-- z_i := r_i / A_ii. -/
def SolProb.prec (p : SolProb) (r : List Int) : List Int × Nat :=
  accVec ((rangeFrom 0 p.n).map (fun i => (qAt p.qx i, [termScale (p.recip i) (ith r i) (qAt p.qr i)])))

/-- FLOOR × 2^-32 × Σ_j D_j p_j² in 2^-256, rounded down, from the D_j with their Q-shifts; none with NaR. -/
def floorSum (floor : Nat) (ds : List (Option (Int × Nat))) (v : List Int) (q : List Nat) : Option Int :=
  let ts := (ds.zip (v.zip q)).map (fun x => match x.1 with
    | some (d, qd) => if x.2.1 = nar then none else some (d * (x.2.1 * x.2.1) * 2 ^ (2 * dotQ - qd - 2 * x.2.2))
    | none => none)
  if ts.any (·.isNone) then none else some ((ts.map (fun t => t.getD 0)).sum * floor / 2 ^ 32)

/-- κ fails R196: at or below zero, or at or below the floor. -/
def curvatureBad (k : Int × Int) (fl : Option Int) : Bool :=
  k.1 ≤ 0 || (match fl with | some v => scalarLe k v | none => false)

/-- The start of PCG. -/
def SolProb.pcgStart (p : SolProb) : SolIter :=
  let r := p.resid p.x0
  let z := p.prec r.1
  { x := p.x0, r := r.1, p := z.1, z := z.1, sat := p.sat0 + r.2 + z.2 }

/-- One iteration of PCG, or the cause that ends the run with the saturations of what was formed. -/
def SolProb.pcgStep (p : SolProb) (s : SolIter) : SolIter ⊕ (Nat × Nat) :=
  let q := p.mul s.p p.qx
  match dotScalar (dotOf s.p p.qx q.1 p.qr) with
  | none => .inr (1, q.2)
  | some kap =>
    let ds := (rangeFrom 0 p.n).map (fun j => if p.diag j = nar then none else some (p.diag j, nth 0 p.qa j))
    if curvatureBad kap (floorSum p.floor ds s.p p.qx) then .inr (2, q.2)
    else
      let rz := dotScalar (dotOf s.r p.qr s.z p.qx)
      let al := quotient rz (some kap)
      let x := axpy false p.qx s.x al s.p p.qx p.n
      let r := axpy true p.qr s.r al q.1 p.qr p.n
      let z := p.prec r.1
      let be := quotient (dotScalar (dotOf r.1 p.qr z.1 p.qx)) rz
      let d := axpy false p.qx z.1 be s.p p.qx p.n
      .inl { x := x.1, r := r.1, p := d.1, z := z.1, sat := s.sat + q.2 + x.2 + r.2 + z.2 + d.2 }

/-- A clamp; NaR with a NaR operand or bound. -/
def clampS (v lo hi : Int) : Int := if v = nar || lo = nar || hi = nar then nar else min (max v lo) hi

/-- The residual pass of PGS. -/
def SolProb.pgsResid (p : SolProb) (x : List Int) : List Int × Nat :=
  let r := p.resid x
  (((rangeFrom 0 p.n).map (fun i =>
    let v := ith r.1 i
    let xi := ith x i
    let lo := ith p.lo i
    let hi := ith p.hi i
    if v = nar || xi = nar then v
    else if lo ≠ nar && xi = lo && v < 0 then 0
    else if hi ≠ nar && xi = hi && 0 < v then 0
    else v)), r.2)

/-- Row i fails the pivot check of R196. -/
def SolProb.pivotBad (p : SolProb) (i : Nat) : Bool :=
  let vs := (p.row i).map (·.2)
  !vs.contains nar && p.diag i * 2 ^ 32 ≤ ((p.floor * (vs.map Int.natAbs).sum : Nat) : Int)

/-- The load of PGS finds a pivot that R196 refuses. -/
def SolProb.loadBad (p : SolProb) : Bool := p.method = 1 && (rangeFrom 0 p.n).any p.pivotBad

/-- The start iterate: PGS clamps it into the box at load (R192). -/
def SolProb.xStart (p : SolProb) : List Int :=
  if p.method = 1 then (rangeFrom 0 p.n).map (fun i => clampS (ith p.x0 i) (ith p.lo i) (ith p.hi i)) else p.x0

/-- The start of PGS. -/
def SolProb.pgsStart (p : SolProb) : SolIter :=
  let r := p.pgsResid p.xStart
  { x := p.xStart, r := r.1, sat := p.sat0 + r.2 }

/-- A sweep of PGS over rows. -/
def SolProb.pgsRows (p : SolProb) : List Nat → List Int → Nat → List Int × Nat
  | [], x, n => (x, n)
  | i :: t, x, n =>
    let d := accOne (qAt p.qr i) (p.residTerms x i)
    let v := accOne (qAt p.qx i) [termOne (ith x i) (qAt p.qx i), termScale (p.recip i) d.1 (qAt p.qr i)]
    p.pgsRows t (upd (fun _ => clampS v.1 (ith p.lo i) (ith p.hi i)) x i) (n + d.2 + v.2)

/-- One iteration of PGS. -/
def SolProb.pgsStep (p : SolProb) (s : SolIter) : SolIter ⊕ (Nat × Nat) :=
  let x := p.pgsRows (rangeFrom 0 p.n) s.x 0
  let r := p.pgsResid x.1
  .inl { x := x.1, r := r.1, sat := s.sat + x.2 + r.2 }

/-- Column j of J as (row, value). -/
def SolProb.col (p : SolProb) (j : Nat) : List (Nat × Int) :=
  (rangeFrom 0 p.m).filterMap (fun i => ((p.row i).find? (fun c => c.1 = j)).map (fun c => (i, c.2)))

/-- g := Jᵀ(b − J x) − λ² x. -/
def SolProb.grad (p : SolProb) (x : List Int) : List Int × Nat :=
  let e := p.resid x
  let g := accVec ((rangeFrom 0 p.n).map (fun j =>
    (qAt p.qg j, (p.col j).map (fun c => termMul c.2 (qAt p.qa c.1) (ith e.1 c.1) (qAt p.qr c.1)) ++
      [termNeg (termMul p.lam p.lq (ith x j) (qAt p.qx j))])))
  (g.1, e.2 + g.2)

/-- The start of DLS. -/
def SolProb.dlsStart (p : SolProb) : SolIter :=
  let g := p.grad p.x0
  { x := p.x0, r := g.1, p := g.1, sat := p.sat0 + g.2 }

/-- One iteration of DLS, or the cause that ends the run with the saturations of what was formed. -/
def SolProb.dlsStep (p : SolProb) (s : SolIter) : SolIter ⊕ (Nat × Nat) :=
  let jp := p.mul s.p p.qg
  let kap : Option Int :=
    match dotOf jp.1 p.qr jp.1 p.qr, dotOf s.p p.qg s.p p.qg with
    | some a, some b => if p.lam = nar then none else some (a * 2 ^ 64 + b * p.lam * 2 ^ (64 - p.lq))
    | _, _ => none
  match kap with
  | none => .inr (1, jp.2)
  | some v =>
    let ks := scalarOf v 1 (-192)
    let ds := (rangeFrom 0 p.n).map (fun j =>
      let c := p.col j
      if c.any (fun y => y.2 = nar) then none
      else some ((c.map (fun y => y.2 * y.2 * 2 ^ (128 - 2 * nth 0 p.qa y.1))).sum + p.lam * 2 ^ (128 - p.lq), 128))
    if curvatureBad ks (floorSum p.floor ds s.p p.qg) then .inr (2, jp.2)
    else
      let gg := dotScalar (dotOf s.r p.qg s.r p.qg)
      let al := quotient gg (some ks)
      let x := axpy false p.qx s.x al s.p p.qg p.n
      let g := p.grad x.1
      let be := quotient (dotScalar (dotOf g.1 p.qg g.1 p.qg)) gg
      let d := axpy false p.qg g.1 be s.p p.qg p.n
      .inl { x := x.1, r := g.1, p := d.1, sat := s.sat + jp.2 + x.2 + g.2 + d.2 }

/-- The start of a run. -/
def SolProb.start (p : SolProb) : SolIter :=
  match p.method with
  | 0 => p.pcgStart
  | 1 => p.pgsStart
  | _ => p.dlsStart

/-- One iteration. -/
def SolProb.iter (p : SolProb) (s : SolIter) : SolIter ⊕ (Nat × Nat) :=
  match p.method with
  | 0 => p.pcgStep s
  | 1 => p.pgsStep s
  | _ => p.dlsStep s

/-! ## A run (R194 to R196) -/

/-- ‖r‖² at Q-shift 2·QN with its saturations; none with NaR. -/
def SolProb.norm (p : SolProb) (r : List Int) : Option Nat × Nat :=
  let q := if p.method = 2 then p.qg else p.qr
  let (v, k) := (r.zip q).foldl (fun (a : Option Int × Nat) x =>
    if x.1 = nar then (none, a.2)
    else
      let e := roundShift x.1 ((x.2 : Int) - p.qn)
      let y := cl64 (e * e)
      match a.1 with
      | none => (none, a.2 + y.2)
      | some v => let z := cl64 (v + y.1); (some z.1, a.2 + y.2 + z.2)) (some 0, 0)
  (v.map Int.toNat, k)

/-- An iterate with this norm converges. -/
def SolProb.meets (p : SolProb) (v : Nat) : Bool := p.tol ≠ nar && (v : Int) ≤ p.tol * p.tol


/-- An ill-posed end: every element of x and r is NaR (R196). -/
def SolRes.illPosed (o : SolRes) (p : SolProb) (cause iters sat : Nat) (cap : Bool) : SolRes :=
  { o with cause := cause, iters := iters, sat := sat, conv := false, capHit := cap, res2 := none
           x := List.replicate p.n nar, r := List.replicate p.n nar }

/-- Iterations while some remain before the cap (`left`) and before the limit. -/
def SolProb.loop (p : SolProb) (limit : Option Nat) : Nat → SolIter → SolRes → SolRes
  | 0, s, o => { o with capHit := true, sat := s.sat }
  | left + 1, s, o =>
    if limit = some o.iters then { o with cut := true, sat := s.sat }
    else match p.iter s with
      | .inr (c, k) => o.illPosed p c o.iters (s.sat + k) false
      | .inl t =>
        let it := o.iters + 1
        match p.norm t.r with
        | (none, k) => o.illPosed p 1 it (t.sat + k) (left = 0)
        | (some v, k) =>
          let t1 := { t with sat := t.sat + k }
          if v > (o.res20.getD 0) * 2 ^ p.blow then o.illPosed p 3 it t1.sat (left = 0)
          else
            let o1 : SolRes := { o with iters := it, sat := t1.sat }
            let o2 : SolRes := if v < o.res2.getD 0 then { o1 with best := it, res2 := some v, x := t.x, r := t.r } else o1
            if p.meets v then { o2 with conv := true, capHit := left = 0 } else p.loop limit left t1 o2

/-- Where a deadline or an abort cuts a run: while its data loads, before the residual of x0 is complete, or after a number of
iterations. -/
inductive RunCut
  | load | lead | iters (n : Nat)
deriving DecidableEq, Repr

/-- What a run that is cut before the residual of x0 is complete leaves: x0, and a residual and norms that the spec does not state,
which are `lost` (log entry 220). -/
def SolProb.early (p : SolProb) (lost : List Int × Nat × Nat) : SolRes :=
  { cut := true, res2 := some lost.2.1, res20 := some lost.2.2, sat := p.sat0, x := p.xStart, r := lost.1 }

/-- A whole run, cut or not. -/
def SolProb.run (p : SolProb) (lost : List Int × Nat × Nat) (cut : Option RunCut) : SolRes :=
  let none_ : SolRes := {}
  if cut = some .load then p.early lost
  else if p.loadBad then none_.illPosed p 2 0 p.sat0 false
  else if cut = some .lead then p.early lost
  else
    let s := p.start
    match p.norm s.r with
    | (none, k) => none_.illPosed p 1 0 (s.sat + k) false
    | (some v, k) =>
      let s1 := { s with sat := s.sat + k }
      let o : SolRes := { res2 := some v, res20 := some v, sat := s1.sat, x := s.x, r := s.r }
      if p.meets v then { o with conv := true }
      else p.loop (match cut with | some (.iters n) => some n | _ => none) p.cap s1 o

/-! ## Timing (Table SOL-9), in DCLK cycles -/

def ceil32 (k : Nat) : Nat := (k + 31) / 32
def SolProb.rowCycles (p : SolProb) : Nat := (p.rows.map (fun r => ceil32 r.length)).sum
/-- Cycles before the first iteration: binding fill and residual of x0. -/
def SolProb.leadCycles (p : SolProb) : Nat :=
  let c := ceil32 p.n
  let fill := if p.src.isSome then p.n else 0
  match p.method with
  | 0 => fill + p.rowCycles + 2 * c + 12
  | 1 => fill + p.rowCycles + c + 8
  | _ => 2 * p.rowCycles + 2 * c + ceil32 p.m + 16
def SolProb.iterCycles (p : SolProb) : Nat :=
  let c := ceil32 p.n
  match p.method with
  | 0 => p.rowCycles + 6 * c + 38
  | 1 => 2 * p.rowCycles + 7 * p.n + c + 8
  | _ => 2 * p.rowCycles + 6 * c + 2 * ceil32 p.m + 44
/-- Where a run whose computation starts at `from3` is cut at `at3`, in thirds of a ns; what completes on the edge counts (R195). -/
def SolProb.cutAt (p : SolProb) (from3 at3 : Nat) : RunCut :=
  let c := (at3 - from3) / 2
  if at3 < from3 then .load else if c < p.leadCycles then .lead else .iters ((c - p.leadCycles) / p.iterCycles)

end Sys2Proof.Machine
end

