-- ==== Sys2Proof/Machine/Sol.lean ====
section
/-!
DEFINITION. The solver arrays: slots, installs, update lists, launches, lane groups, binding, deadlines and results (R184 to R188,
R197 to R204, R251).
-/
namespace Sys2Proof.Machine

def State.solSlot (s : State) (p : Nat) : Nat := s.sol.base + p * 0x4000
def State.setSol (s : State) (f : SolState → SolState) : State := { s with sol := f s.sol }
/-- INIT has completed (R204). -/
def State.solReady (s : State) : Bool := s.rdb A.solStat 0
def State.solItem (s : State) (p : Nat) : Option SolItem := s.sol.items.find? (fun x => x.prob = p)
def State.setItem (s : State) (p : Nat) (f : SolItem → SolItem) : State :=
  s.setSol (fun q => { q with items := q.items.map (fun x => if x.prob = p then f x else x) })
def SolItem.runsOn (x : SolItem) (g : Nat) : Bool := match x.place with | .running h => h = g | _ => false
def SolItem.waitsOn (x : SolItem) (g : Nat) : Bool := match x.place with | .preloaded h => h = g | _ => false
def SolItem.isQueued (x : SolItem) : Bool := match x.place with | .queued => true | _ => false
/-- The item runs or is preloaded. -/
def SolItem.holds (x : SolItem) : Bool := match x.place with | .running _ => true | .preloaded _ => true | _ => false

/-- BUSY of the SOL pages (R52). -/
def State.solBusy (s : State) : State :=
  let s1 := s.setBusy 0x60000 (!s.sol.items.isEmpty || s.sol.lists ≠ 0 || s.sol.initRun.isSome)
  (rangeFrom 0 16).foldl (fun t g => t.setBusy (solPage g) (t.sol.items.any (fun x => x.runsOn g || x.waitsOn g))) s1

/-! ## Slots (R185, R186) -/

/-- The 16-bit words and the 32-bit words of a byte string. -/
def halfWords : List Byte → List Nat
  | a :: b :: t => (a.toNat + 256 * b.toNat) :: halfWords t
  | _ => []
def fullWords : List Byte → List Nat
  | a :: b :: c :: d :: t => leNat [a, b, c, d] :: fullWords t
  | _ => []

/-- The bytes of a slot cut into words: header, the 64 variable entries of eight words, pattern, values, b, lo, hi, x0; the run
record, and the bytes of its reserved areas. -/
structure SlotWords where
  hdr  : List Nat
  recd : List Nat
  vars : List (List Nat)
  pat  : List Nat
  vals : List Nat
  b    : List Nat
  lo   : List Nat
  hi   : List Nat
  x0   : List Nat
  rest : List Byte
deriving DecidableEq, Repr

def probWords (bs : List Byte) : SlotWords :=
  let part (o n : Nat) : List Byte := (bs.drop o).take n
  let vs := fullWords (part 0x100 0x800)
  let vars := (rangeFrom 0 64).map (fun k => (vs.drop (8 * k)).take 8)
  { hdr := fullWords (part 0 64), recd := fullWords (part 0x40 0x30), vars := vars, pat := halfWords (part 0x900 0x1000), vals := fullWords (part 0x1900 0x2000),
    b := fullWords (part 0x3900 0x100), lo := fullWords (part 0x3A00 0x100), hi := fullWords (part 0x3B00 0x100),
    x0 := fullWords (part 0x3C00 0x100), rest := part 0x70 0x90 ++ part 0x3F00 0x100 }

def SlotWords.h (w : SlotWords) (i : Nat) : Nat := nth 0 w.hdr i
def SlotWords.r (w : SlotWords) (i : Nat) : Nat := nth 0 w.recd i
def SlotWords.method (w : SlotWords) : Nat := fld (w.h 1) 0 2
def SlotWords.n (w : SlotWords) : Nat := fld (w.h 1) 8 7
def SlotWords.m (w : SlotWords) : Nat := fld (w.h 1) 16 7
def SlotWords.nnz (w : SlotWords) : Nat := fld (w.h 2) 0 12
def SlotWords.cap (w : SlotWords) : Nat := fld (w.h 4) 0 12
def SlotWords.blow (w : SlotWords) : Nat := fld (w.h 6) 0 6
def SlotWords.bind (w : SlotWords) : Bool := tbit (w.h 9) 0
/-- The variable entries below max(N, M), and the first NNZ pattern entries. -/
def SlotWords.used (w : SlotWords) : List (List Nat) := w.vars.take (max w.n w.m)
def SlotWords.entries (w : SlotWords) : List Nat := w.pat.take w.nnz

/-- Structure that a run can take: method and sizes in range, every entry within the matrix. -/
def SlotWords.runnable (w : SlotWords) : Bool :=
  w.method ≠ 3 && 1 ≤ w.n && w.n ≤ 64 && 1 ≤ w.m && w.m ≤ 64 && (w.method = 2 || w.m = w.n) && 1 ≤ w.nnz && w.nnz ≤ 2048 &&
    w.entries.all (fun e => fld e 6 6 < w.m && fld e 0 6 < w.n)

def rising : List Nat → Bool
  | a :: b :: t => a < b && rising (b :: t)
  | _ => true

def nanWord : Nat := 0x80000000

/-- The number of the first check of R186 that a slot fails, 0 when it passes. -/
def SlotWords.check (w : SlotWords) : Nat :=
  let v (e : List Nat) (i : Nat) : Nat := nth 0 e i
  if fld (w.h 0) 0 24 ≠ 0x01534F then 1
  else if w.method = 3 || w.n = 0 || 64 < w.n || w.m = 0 || 64 < w.m || w.nnz = 0 || 2048 < w.nnz || w.cap = 0 || w.blow = 0 ||
      40 < w.blow || (w.method ≠ 2 && w.m ≠ w.n) then 2
  else if 48 < fld (w.h 1) 24 6 || 48 < fld (w.h 8) 24 6 ||
      w.used.any (fun e => 48 < fld (v e 0) 0 6 || 48 < fld (v e 0) 8 6 || 48 < fld (v e 0) 16 6 || 48 < fld (v e 0) 24 6) then 3
  else if !(rising (w.entries.map (fun e => e % 4096)) && w.entries.all (fun e => fld e 6 6 < w.m && fld e 0 6 < w.n)) then 4
  else if w.method ≠ 2 && !(rangeFrom 0 w.n).all (fun i => (w.entries.map (fun e => e % 4096)).contains (i * 64 + i)) then 5
  else if tbit (w.h 3) 31 || w.h 7 = nanWord ||
      w.vars.any (fun e => v e 2 = nanWord || v e 3 = nanWord || v e 4 = nanWord || v e 5 = nanWord) then 6
  else if w.bind && w.m ≠ w.n then 7
  else if w.h 0 / 2 ^ 24 ≠ 0 || fld (w.h 1) 2 6 ≠ 0 || tbit (w.h 1) 15 || tbit (w.h 1) 23 || fld (w.h 1) 30 2 ≠ 0 ||
      w.h 2 / 2 ^ 12 ≠ 0 || w.h 4 / 2 ^ 12 ≠ 0 || w.h 6 / 2 ^ 6 ≠ 0 || w.h 8 / 2 ^ 30 ≠ 0 || tbit (w.h 9) 3 || w.h 9 / 2 ^ 8 ≠ 0 ||
      (w.hdr.drop 10).any (· ≠ 0) || w.r 0 / 2 ^ 16 ≠ 0 || fld (w.r 1) 12 4 ≠ 0 || fld (w.r 1) 28 4 ≠ 0 || w.r 10 / 2 ^ 20 ≠ 0 ||
      w.vars.any (fun e => fld (v e 0) 6 2 ≠ 0 || fld (v e 0) 14 2 ≠ 0 || fld (v e 0) 22 2 ≠ 0 || fld (v e 0) 30 2 ≠ 0 ||
        fld (v e 1) 6 2 ≠ 0 || fld (v e 1) 11 4 ≠ 0 || v e 1 / 2 ^ 16 ≠ 0 || v e 6 ≠ 0 || v e 7 ≠ 0) ||
      w.pat.any (fun e => e / 2 ^ 12 ≠ 0) || w.rest.any (· ≠ 0) then 8
  else 0

/-- The problem of a slot, without a binding fill. -/
def SlotWords.prob (w : SlotWords) : SolProb :=
  let q (lo : Nat) : List Nat := w.vars.map (fun e => fld (nth 0 e 0) lo 6)
  let ent := (w.entries.zip w.vals).map (fun x => (fld x.1 6 6, fld x.1 0 6, sgn 32 x.2))
  { method := w.method, n := w.n, m := w.m, qn := fld (w.h 1) 24 6, tol := sgn 32 (w.h 3), cap := w.cap, floor := w.h 5,
    blow := w.blow, lam := sgn 32 (w.h 7), lq := fld (w.h 8) 24 6, qx := q 0, qr := q 8, qa := q 16, qg := q 24,
    rows := (rangeFrom 0 w.m).map (fun i => (ent.filter (fun e => e.1 = i)).map (fun e => e.2)),
    b := w.b.map (sgn 32), lo := w.lo.map (sgn 32), hi := w.hi.map (sgn 32), x0 := (w.x0.map (sgn 32)).take w.n }

/-! ## Run records (Table SOL-4) -/

/-- The record of a launch whose run never started: status, no iterations, no saturations, and the time. -/
def State.recordUnstarted (s : State) (p : Nat) (st : Status) : State :=
  if s.sol.cnt ≤ p then s
  else
    let a := s.solSlot p
    (((s.poke32 (a + 0x40) (statusCode st)).poke32 (a + 0x44) 0).poke64 (a + 0x60) s.now).store (a + 0x68) (leBytes 2 0)

/-- The flags of a run record, bits [12:8] (Table SOL-4). -/
def SolItem.flags (x : SolItem) : Nat :=
  b2n (x.load = .noSource) 4 + (match x.res with
    | some o => b2n o.conv 0 + b2n o.capHit 1 + b2n (o.cut && x.status ≠ Status.abortHost) 2 + b2n (o.sat ≠ 0) 3
    | none => 0)

/-- The record of a run. -/
def State.recordRun (s : State) (x : SolItem) (g : Nat) : State :=
  let a := s.solSlot x.prob
  let s1 := match x.res with
    | none => (s.poke32 (a + 0x40) (statusCode x.status + x.flags * 2 ^ 8)).poke32 (a + 0x44) 0
    | some o =>
      let w := statusCode x.status + x.flags * 2 ^ 8 + o.cause * 2 ^ 13
      let norm (v : Option Nat) : Nat := match v with | some k => k | none => 2 ^ 64 - 1
      let t := ((s.poke32 (a + 0x40) w).poke32 (a + 0x44) (o.iters % 4096 + o.best % 4096 * 2 ^ 16)).poke64 (a + 0x48) (norm o.res2)
      let words (l : List Int) : List Byte := l.flatMap (fun v => leBytes 4 (enc 32 v))
      ((t.poke64 (a + 0x50) (norm o.res20)).store (a + 0x3D00) (words o.x)).store (a + 0x3E00) (words o.r)
  let sat := match x.res with | some o => min o.sat 0xFFFF | none => 0
  ((s1.poke64 (a + 0x58) x.tStart).poke64 (a + 0x60) s.now).poke32 (a + 0x68) (sat + g * 2 ^ 16)

/-! ## Completions (R197, R199, R295) -/

/-- Counters and interrupts of a status. -/
def State.countSol (s : State) (st : Status) : State :=
  match st with
  | .expired => (s.bump A.solExpired).raise 0x60000 12
  | .narResult => (s.bump A.solNarCnt).raise 0x60000 11
  | .sat => s.bump A.solSatCnt
  | .timeoutBest => s.bump A.solTimeoutCnt
  | _ => s

/-- The completion of one launched problem: to its handle's batch, or to SOL_DONE_CNT. -/
def State.solDone (s : State) (by_ : Option (Nat × Nat)) (st : Status) : State :=
  match by_ with
  | none => (s.bump32 A.solDoneCnt 1).raise 0x60000 10
  | some k =>
    let good := if st = .ok || st = .timeoutBest then 1 else 0
    let l := s.sol.batches.map (fun x => if x.by_ = k then { x with left := x.left - 1, status := statusMin x.status st, good := x.good + good } else x)
    let s1 := s.setSol (fun q => { q with batches := l.filter (fun x => x.left ≠ 0) })
    match l.find? (fun x => x.by_ = k && x.left = 0) with
    | some x => s1.stepEnded (some k) (statusCode x.status) (min x.good 0xFFFF)
    | none => s1

/-- A launch that completes at once with a record in its slot. -/
def State.solAtOnce (s : State) (p : Nat) (by_ : Option (Nat × Nat)) (st : Status) : State :=
  let s1 := ((s.recordUnstarted p st).setSol (fun q => { q with last := Sparse.set (fun _ => 0) q.last p (statusCode st) })).countSol st
  s1.solDone by_ st

/-! ## Installs and updates (R186 to R188) -/

/-- GEN of a problem rises by one. -/
def State.solGen (s : State) (p : Nat) : State :=
  let a := s.solSlot p + 0x6C
  s.poke32 a ((s.peek32 a + 1) % 2 ^ 32)

/-- An install takes effect. -/
def State.solInstall (s : State) (p : Nat) : State :=
  let (bs, s1) := if p < s.sol.cnt then s.fetch 5 8 (s.solSlot p) 0x4000 else (none, s)
  let c := match bs with | some b => (probWords b).check | none => 1
  let others := s1.sol.resident.filter (· ≠ p)
  if c = 0 then ((s1.setSol (fun q => { q with resident := setIns p q.resident })).solGen p).raise 0x60000 8
  else (s1.setSol (fun q => { q with resident := others })).pageErr 0x60000 0x0100 (p + c * 2 ^ 16)

/-- A pair of an update packet: the slot offset it writes, if the pair is valid for a slot's header words (Table SOL-6). -/
def pairTarget (w : SlotWords) (idx v : Nat) : Option Nat :=
  let el := fld idx 0 13
  let at_ (lim o : Nat) : Option Nat := if el < lim then some (o + 4 * el) else none
  if idx / 2 ^ 16 ≠ 0 then none
  else match fld idx 13 3 with
    | 0 => at_ w.nnz 0x1900
    | 1 => at_ w.m 0x3900
    | 2 => if v = nanWord then none else at_ w.n 0x3A00
    | 3 => if v = nanWord then none else at_ w.n 0x3B00
    | 4 => if v = nanWord then none else at_ w.n 0x3C00
    | 5 => if v = nanWord || w.n ≤ el then none else some (0x108 + 32 * el)
    | 6 => if v = nanWord || w.n ≤ el then none else some (0x10C + 32 * el)
    | _ =>
      let ok : Bool := match el with
        | 3 => v < 2 ^ 31
        | 4 => 1 ≤ v && v ≤ 4095
        | 5 => true
        | 6 => 1 ≤ v && v ≤ 40
        | 7 => v ≠ nanWord
        | 8 => v / 2 ^ 30 = 0 && fld v 24 6 ≤ 48
        | _ => false
      if ok then some (4 * el) else none

/-- A rejected packet: the first rejection of a list is recorded. -/
def State.updReject (s : State) (list place : Nat) : State :=
  let s1 := s.bump A.solUpdRej
  if s.sol.listBad.contains list then s1
  else (s1.setSol (fun q => { q with listBad := list :: q.listBad })).pageErr 0x60000 0x0101 (place % 2 ^ 16)

/-- Index and value of each pair of a packet's body. -/
def pairsOf : List Nat → List (Nat × Nat)
  | a :: b :: t => (a, b) :: pairsOf t
  | _ => []

/-- A packet of problem p takes effect whole or not at all; the flag says that it did. -/
def State.updApply (s : State) (p list place : Nat) (body : List Byte) : State × Bool :=
  if !s.sol.resident.contains p then (s.updReject list place, false)
  else match s.fetch 5 8 (s.solSlot p) 0x40 with
    | (none, s1) => (s1.updReject list place, false)
    | (some h, s1) =>
      let w := probWords h
      let ps := pairsOf (fullWords body)
      let ts := ps.map (fun x => (pairTarget w x.1 x.2, x.2))
      if ts.any (fun x => x.1.isNone) then (s1.updReject list place, false)
      else
        let s2 := ts.foldl (fun t x => t.poke32 (t.solSlot p + x.1.getD 0) x.2) s1
        ((s2.solGen p).bump32 A.solUpdPairs ps.length, true)

/-- A change to a problem: held while the problem is queued, preloaded or running, else applied; the flag is false when it was
refused now. -/
def State.solChange (s : State) (p : Nat) (c : SolChange) : State × Bool :=
  if (s.solItem p).isSome then
    ((s.setSol (fun q => { q with held := q.held ++ [(p, c)] })).bump A.solHeld, true)
  else match c with
    | .install => (s.solInstall p, true)
    | .packet l i b => s.updApply p l i b

/-- The packets of an update list, from the one numbered `place`; the flag says that none was rejected.  A packet without MAGIC or
pairs is rejected (log entry 219); reserved header bits are ignored (R6). -/
def State.updPackets (s : State) (a list place : Nat) : Nat → State × Bool
  | 0 => (s, true)
  | k + 1 =>
    match s.fetchLocal 8 a 16 with
    | (none, s1) => (s1.updReject list place, false)
    | (some h, s1) =>
      let n := fld (uWord h 8) 0 12
      match s1.fetchLocal 8 (a + 16) (8 * n) with
      | (none, s2) => (s2.updReject list place, false)
      | (some body, s2) =>
        let good : Bool := fld (uWord h 0) 0 16 = 0x5550 && 1 ≤ n
        let (s3, ok) := if good then s2.solChange (fld (uWord h 4) 0 13) (.packet list place body) else (s2.updReject list place, false)
        let (s4, rest) := s3.updPackets (alignUp 16 (a + 16 + 8 * n)) list (place + 1) k
        (s4, ok && rest)

/-- An update list is issued: its packets take effect in order, and it stands as being applied until UPD_DONE. -/
def State.updList (s : State) (a cnt : Nat) : State × Bool :=
  let n := s.sol.listNo + 1
  let live := s.sol.held.filterMap (fun x => match x.2 with | .packet l _ _ => some l | .install => none)
  let s1 := (s.setSol (fun q => { q with lists := q.lists + 1, listNo := n, listBad := q.listBad.filter live.contains })).wrb A.solStat 1 true
  let (s2, ok) := s1.updPackets a n 0 cnt
  (s2.solBusy, ok)

/-! ## Launches (R199, R200) -/

def solTakesNew (s : State) : Bool := (rangeFrom 0 16).any (fun g => s.svc (solPage g) = 0)

/-- Preloaded BACKGROUND problems go back to the head of their queue. -/
def State.solRelease (s : State) (f : SolItem → Bool) : State :=
  s.setSol (fun q => { q with items := q.items.map (fun x => match x.place with
    | .preloaded _ => if f x then { x with place := .queued, load := .none } else x
    | _ => x) })

/-- While a PASS problem waits in its queue, no BACKGROUND problem is held ready to start (R30, R199). -/
def State.solYield (s : State) : State :=
  if s.sol.items.any (fun x => x.isQueued && !x.bg) then s.solRelease (fun y => y.bg) else s

/-- Launch one problem. -/
def State.solLaunch1 (s : State) (p : Nat) (bg : Bool) (by_ : Option (Nat × Nat)) : State :=
  if (s.solItem p).isSome then (s.bump A.solRelaunch).solDone by_ (if solTakesNew s then .dataFault else .unitOut)
  else if !solTakesNew s then s.solAtOnce p by_ .unitOut
  else if !s.sol.resident.contains p then s.solAtOnce p by_ .dataFault
  else if !bg && !s.pass.isOpen then s.solAtOnce p by_ .expired
  else match s.fetch 5 8 (s.solSlot p) 0x40 with
    | (none, s1) => s1.solAtOnce p by_ .dataFault
    | (some h, s1) =>
      let us := fld (uWord h 0x20) 0 24
      let x : SolItem := { prob := p, bg := bg, by_ := by_, gate := if bg then none else some s.pass.num
                           dl := if us = 0 then none else some (s.now + 1000 * us) }
      ((s1.setSol (fun q => { q with items := q.items ++ [x] })).solYield).solBusy

/-- The write of SOL_LAUNCH. -/
def State.solLaunch (s : State) (v : Nat) : State :=
  if s.solReady then s.solLaunch1 (fld v 0 13) (tbit v 16) none else s.pageErr 0x60000 0x0102 0

/-- The launch of a SOL descriptor for a barge and handle (Table BPG-5): the update list first; a rejected list launches nothing. -/
def State.solUnit (s : State) (first count : Nat) (bg : Bool) (upd cnt : Nat) (k : Nat × Nat) : State :=
  if !s.solReady then (s.pageErr 0x60000 0x0102 0).stepEnded (some k) (statusCode .dataFault) 0
  else
    let (s1, ok) := if cnt = 0 then (s, true) else s.updList upd cnt
    if !ok then s1.stepEnded (some k) (statusCode .dataFault) 0
    else if count = 0 then s1.stepEnded (some k) 0 0
    else
      let s2 := s1.setSol (fun q => { q with batches := q.batches ++ [{ by_ := k, left := count, status := .ok, good := 0 }] })
      (rangeFrom first count).foldl (fun t p => t.solLaunch1 p bg (some k)) s2

/-! ## Loading and binding (R201, R203) -/

/-- A S32 value held in its range, and its saturations. -/
def satS32 (v : Int) : Int × Nat :=
  if 2 ^ 31 - 1 < v then (2 ^ 31 - 1, 1) else if v < -(2 ^ 31 - 1) then (-(2 ^ 31 - 1), 1) else (v, 0)

/-- Fraction bits of a joint value: P32 for a prismatic joint, else A32 (R7). -/
def jointFrac (d : Desc) (j : Nat) : Nat := match nth none (d.joints.map some) j with | some x => if x.typ = 2 then 12 else 28 | none => 28

/-- The top-K entry that a bound problem names, with its robot. -/
def State.boundTo (s : State) (x : SolItem) (robot rank : Nat) : Option (Res × PassRobot) :=
  match s.pass.cur with
  | none => none
  | some p =>
    if x.bg || x.gate ≠ some p.num then none
    else match p.robotOf robot with
      | none => none
      | some y => (nth none ((y.top.take y.topk).map some) rank).map (fun r => (r, y))

/-- The points of a candidate that a problem may map. -/
def Cand.points (c : Cand) : List (List Int) := if c.form = 0 then c.smp else c.cps

/-- The box of a mapped unknown: x0, lo, hi, b and the saturations. -/
def fillOne (p : SolProb) (e : List Nat) (j frac : Nat) (v : Int) : (Int × Int × Int × Int) × Nat :=
  let w (i : Nat) : Int := sgn 32 (nth 0 e i)
  let (x0, k0) := satS32 (roundShift v ((frac : Int) - qAt p.qx j))
  let (l, k1) := satS32 (x0 - w 2)
  let (h, k2) := satS32 (x0 + w 2)
  let lo := max l (w 4)
  let hi := min h (w 5)
  let dl := (x0 - w 4).natAbs
  let dh := (w 5 - x0).natAbs
  let near := if dl < dh || (dl = dh && Config.nearTie x0 (w 4) (w 5) = 1) then w 4 else w 5
  let (b, k3) := accOne (qAt p.qr j) [termMul (w 3) (qAt p.qa j) x0 (qAt p.qx j)]
  let box := if hi < lo then (near, near) else (lo, hi)
  if w 2 = nar || w 4 = nar || w 5 = nar then ((x0, nar, nar, b), k0 + k3) else ((x0, box.1, box.2, b), k0 + k1 + k2 + k3)

/-- Fill one mapped unknown of a problem. -/
def SolProb.fill (p : SolProb) (d : Desc) (pts : List (List Int)) (e : List Nat) (j : Nat) : SolProb :=
  let m := nth 0 e 1
  if !tbit m 15 then p
  else
    let pt := fld m 0 6
    let jt := fld m 8 3
    let fr := jointFrac d jt
    let ((x0, lo, hi, b), k) := fillOne p e j fr (ith (nth [] pts pt) jt)
    { p with
      x0 := upd (fun _ => x0) p.x0 j, lo := upd (fun _ => lo) p.lo j, hi := upd (fun _ => hi) p.hi j
      b := upd (fun _ => b) p.b j, sat0 := p.sat0 + k, maps := p.maps ++ [(j, pt, jt, fr)] }

/-- A mapped unknown names a point or a joint that the candidate does not have. -/
def mapsBeyond (pts : List (List Int)) (nj : Nat) (e : List Nat) : Bool :=
  let m := nth 0 e 1
  tbit m 15 && (pts.length ≤ fld m 0 6 || nj ≤ fld m 8 3)

/-- Load a problem for lane group g: read the slot. -/
def State.solLoad (s : State) (x : SolItem) (g : Nat) : SolLoad × State :=
  let a := s.solSlot x.prob
  if !s.sol.resident.contains x.prob then (.absent, s)
  else match s.fetch 5 8 a 0x40 with
    | (none, s1) => (.bad, s1.pageErr (solPage g) 0x0104 0)
    | (some h, s1) =>
      match s1.fetch 5 8 (a + 0x100) 0x3C00 with
      | (none, s2) => (.bad, s2.pageErr (solPage g) 0x0104 0)
      | (some body, s2) =>
        let w := probWords (h ++ List.replicate 0xC0 0 ++ body)
        let p := w.prob
        (if !w.runnable then .bad
         else if !w.bind then .good p
         else .toBind p (fld (w.h 9) 1 2) (fld (w.h 9) 4 4) (w.vars.take w.n), s2)

/-- The lane group takes a loaded problem: a bound one is filled from its candidate (R201). -/
def State.solBind (s : State) (x : SolItem) : SolLoad :=
  match x.load with
  | .toBind p robot rank vars =>
    (match s.boundTo x robot rank with
     | none => .noSource
     | some (r, y) =>
       let pts := r.cand.points
       if vars.any (mapsBeyond pts y.nj) then .noSource
       else
         let q := ((rangeFrom 0 p.n).zip vars).foldl (fun p e => p.fill y.desc pts e.2 e.1) p
         .good { q with src := some (r.cand, r.cost) })
  | l => l

/-! ## Lane groups (R184, R199, R203, R251) -/

/-- A lane group takes problems. -/
def State.solTakes (s : State) (g : Nat) : Bool := s.svc (solPage g) = 0 && s.pageOpen (solPage g) && s.pageOpen 0x60000

/-- The lane groups that run a BACKGROUND problem or hold one preloaded (R251). -/
def State.bgGroups (s : State) : List Nat := (rangeFrom 0 16).filter (fun g => s.sol.items.any (fun x => x.bg && (x.runsOn g || x.waitsOn g)))

/-- The problem that a lane group takes next: the head of the PASS queue, else of the BACKGROUND queue while fewer than SOL_BG_MAX
groups run or hold one (R199, R251). -/
def State.solHead (s : State) : Option SolItem :=
  match s.sol.items.find? (fun x => x.isQueued && !x.bg) with
  | some x => some x
  | none =>
    if s.bgGroups.length < min 16 (s.rdf A.calBw 0 5) then
      s.sol.items.find? (fun x => x.isQueued && x.bg)
    else none

/-- Times in thirds of a ns: a load takes 0.35 µs and 256 DCLK cycles; a preloaded problem starts one cycle after the run before. -/
def solLoad3 : Nat := 1050 + 512

/-- A lane group takes the head of the queues, to run it or to preload it. -/
def State.solTake (s : State) (g : Nat) (pre : Bool) : State :=
  match s.solHead with
  | none => s
  | some x =>
    let (l, s1) := s.solLoad x g
    let y : SolItem := { x with load := l, tStart := s.now, from3 := 3 * s.now + solLoad3 }
    if pre then (s1.setItem x.prob (fun _ => { y with place := .preloaded g })).solBusy
    else (s1.setItem x.prob (fun _ => { y with place := .running g, load := s1.solBind y })).solBusy.heatCut

/-- A preloaded problem starts on its lane group. -/
def State.solBegin (s : State) (x : SolItem) (g : Nat) : State :=
  (s.setItem x.prob (fun y => { y with place := .running g, load := s.solBind x, from3 := max y.from3 (3 * s.now + 2) })).solBusy.heatCut

/-- A free lane group starts its preloaded problem or takes the next one; a running one preloads. -/
def State.solTurn (s : State) (g : Nat) (pre : Bool) : State :=
  if !s.solTakes g then s
  else
    let running := s.sol.items.any (fun x => x.runsOn g)
    match s.sol.items.find? (fun x => x.waitsOn g) with
    | some x => if running || pre then s else s.solBegin x g
    | none => if running = pre then s.solTake g pre else s

/-- The refined path of a bound problem and the saturations of its conversion (R201). -/
def SolProb.refined (p : SolProb) (x : List Int) (prob : Nat) (q : List Int) (nj : Nat) : Option Cand × Nat :=
  match p.src with
  | none => (none, 0)
  | some (c, cost) =>
    let vs := p.maps.map (fun m => (m.2.1, m.2.2.1, roundShift (ith x m.1) (qAt p.qx m.1 - (m.2.2.2 : Int))))
    let k := (vs.filter (fun v => sat32 v.2.2 ≠ v.2.2)).length
    let pts := vs.foldl (fun l v => upd (fun pt => upd (fun _ => sat32 v.2.2) pt v.2.1) l v.1) c.points
    (some (finishCand { c with src := 3, tag := prob, orig := cost } pts q nj c.smp.length), k)

/-- A run ends by itself, or is cut by a deadline or an abort.  Its result waits to be written (Table SOL-7). -/
def State.runEnds (s : State) (x : SolItem) (g : Nat) (cut : Option RunCut) (abort : Bool) : State :=
  let write (t : State) (f : SolItem → SolItem) : State := t.setItem x.prob (fun y => f { y with place := .writing g })
  match x.load with
  | .good p =>
    let f (w k : Nat) : Nat := (Config.freeValue w (s.freeCnt + k)).toNat
    let o := p.run ((rangeFrom 0 p.n).map (fun i => sgn 32 (f 32 i)), f 64 p.n, f 64 (p.n + 1)) cut
    let s1 := { s with freeCnt := s.freeCnt + p.n + 2 }
    let (q, nj) := match s.pass.cur with
      | some r => (match (p.src.bind (fun c => r.robotOf c.1.robot)) with | some y => (y.q, y.nj) | none => ([], 0))
      | none => ([], 0)
    let (path, k) := if o.cause = 0 && !(o.cut && abort) then p.refined o.x x.prob q nj else (none, 0)
    let o1 := { o with sat := o.sat + k }
    let st : Status :=
      if o.cut && abort then .abortHost else if o.cause ≠ 0 then .narResult else if o1.sat ≠ 0 then .sat
      else if o.conv then .ok else .timeoutBest
    let keep := if st = .ok || st = .timeoutBest then path else none
    write s1 (fun y => { y with status := st, res := some o1, path := keep })
  | _ => write s (fun y => { y with status := if abort then .abortHost else .dataFault })

/-- An uncorrectable error in a lane buffer ends the run of group g (R203). -/
def State.bufFails (s : State) (x : SolItem) (g : Nat) : State :=
  (s.setItem x.prob (fun y => { y with place := .writing g, status := .dataFault, load := .bad })).pageErr (solPage g) 0x0104 0

/-- The lane group whose run has ended holds no work when nothing is preloaded. -/
def State.groupLeft (s : State) (g : Nat) : State :=
  let s1 := s.solBusy
  if s1.sol.items.any (fun x => x.runsOn g || x.waitsOn g) then s1 else s1.drained (solPage g)

/-- A launched problem is complete: held changes apply in the order in which they were issued, and the completion is delivered. -/
def State.solFinish (s : State) (x : SolItem) (st : Status) : State :=
  let mine := s.sol.held.filter (fun y => y.1 = x.prob)
  let s1 := s.setSol (fun q => { q with
    items := q.items.filter (fun y => y.prob ≠ x.prob), held := q.held.filter (fun y => y.1 ≠ x.prob)
    last := Sparse.set (fun _ => 0) q.last x.prob (statusCode st) })
  let s2 := mine.foldl (fun t y => (t.solChange y.1 y.2).1) (s1.countSol st)
  (s2.solDone x.by_ st).solBusy

/-- The slot data of a problem that has not started cannot run: an uncorrectable word was found, or the problem is not resident
(Table SOL-7, DATA_FAULT). -/
def State.unfit (s : State) (x : SolItem) : Bool := x.load = .bad || x.load = .absent || (x.isQueued && !s.sol.resident.contains x.prob)

/-- A deadline or an abort ends a launched problem: one that has not started is retired, with the first status of Table SOL-7 that applies; a
running one stops and discards the iteration in progress (R195, R197, R200). -/
def State.solStop (s : State) (x : SolItem) (abort : Bool) : State :=
  let st : Status := if abort then .abortHost else if s.unfit x then .dataFault else .expired
  match x.place with
  | .queued => (s.recordUnstarted x.prob st).solFinish x st
  | .preloaded g => ((s.recordUnstarted x.prob st).solFinish x st).groupLeft g
  | .running g =>
    let at_ := if abort then s.now else min s.now (x.dl.getD s.now)
    let cut := match x.load with | .good p => p.cutAt x.from3 (3 * at_) | _ => .load
    (s.runEnds x g (some cut) abort).groupLeft g
  | .writing _ => s

/-- Problems whose deadline has passed before they start are retired (R200). -/
def State.solExpire (s : State) : State :=
  (s.sol.items.filter (fun x => x.dl.any (fun t => decide (t ≤ s.now)))).foldl (fun t x =>
    match t.solItem x.prob with
    | some y => (match y.place with | .queued => t.solStop y false | .preloaded _ => t.solStop y false | _ => t)
    | none => t) s

/-- The turn of a lane group: no problem starts whose deadline has passed. -/
def State.problemStart (s : State) (g : Nat) (pre : Bool) : State := s.solExpire.solTurn g pre

/-- A gate closes or its pass is aborted: every PASS problem of it ends. -/
def State.solGateClose (s : State) (gate : Nat) (abort : Bool) : State :=
  (s.sol.items.filter (fun x => !x.bg && x.gate = some gate)).foldl (fun t x =>
    match t.solItem x.prob with | some y => t.solStop y abort | none => t) s

/-- A lane group leaves service: its preload goes back to the queue (R203), and BACKGROUND preloads yield to it (R30). -/
def State.solDrop (s : State) (g : Nat) : State := ((s.solRelease (fun x => x.waitsOn g)).solYield).groupLeft g

/-- What a run gives that its copy must give too (R203): its record but for the times and the group, and x, bit for bit. -/
def SolItem.outcome (x : SolItem) : List Int :=
  statusCode x.status :: (x.flags : Int) :: (match x.res with
    | some o => (o.iters : Int) :: o.best :: o.cause :: o.sat :: (o.res2.getD 0 : Nat) :: (o.res20.getD 0 : Nat) :: o.x
    | none => [])

/-- The result and record of a run are written. -/
def State.resultWritten (s : State) (p : Nat) : State :=
  match s.solItem p with
  | none => s
  | some x =>
    match x.place with
    | .writing g =>
      let s1 := ((s.recordRun x g).bump32 (A.solGRuns g) 1).shadowCopy (.solver (Fin.ofNat 16 g)) x.outcome
      let s2 := if x.load = .noSource then s1.bump A.solNoSource else s1
      let s3 := match x.path, s.pass.cur with
        | some c, some r => if x.gate = some r.num && r.closed.isNone then s2.setRun_ (fun q => { q with refined := q.refined ++ [(p, c)] }) else s2
        | _, _ => s2
      s3.solFinish x x.status
    | _ => s

/-! ## Commands and initialisation (R185, R204) -/

/-- The write of SOL_CMD. -/
def State.solCmd (s : State) (v : Nat) : State :=
  let p := fld v 0 13
  let notInit := s.pageErr 0x60000 0x0102 0
  match fld v 16 3 with
  | 1 => if s.solReady then (s.solChange p .install).1 else notInit
  | 2 => s.setSol (fun q => { q with resident := q.resident.filter (· ≠ p) })
  | 3 => (match s.solItem p with | some x => s.solStop x true | none => s)
  | 4 =>
    if !s.solReady then notInit
    else if s.sol.lists ≠ 0 then s.bump A.solUpdBusy
    else (s.updList (s.rd64 A.solUpdAddr % 2 ^ 48) (s.rdf A.solUpdCnt 0 16)).1
  | _ => s

/-- The memory configuration that R185 refuses. -/
def State.solMemBad (s : State) : Bool :=
  let base := s.rd64 A.solMemBase % 2 ^ 48
  let n := s.rdf A.solProbCnt 0 14
  let hi := base + n * 0x4000
  base % 0x4000 ≠ 0 || n = 0 || 8192 < n || !inHbm base (n * 0x4000) || s.hitsIngress base hi ||
    ((s.wldReady || s.wld.initRun) && meetRange base hi s.wld.base (poolEnd s.wld.base s.wld.cCnt s.wld.fCnt))

/-- The write of SOL_CTRL.INIT. -/
def State.solInit (s : State) : State :=
  if s.sol.initRun.isSome then s
  else if s.solMemBad then s.pageErr 0x60000 0x0103 0
  else
    let a := (s.rd64 A.solMemBase % 2 ^ 48, s.rdf A.solProbCnt 0 14)
    (s.setSol (fun q => { q with initRun := some a })).solBusy

/-! ## What registers show -/

def State.solStatNow (s : State) : Nat :=
  putFld (s.rd A.solStat) 16 5 ((rangeFrom 0 16).filter (fun g => s.svc (solPage g) = 0)).length
def State.solQueuedNow (s : State) : Nat :=
  let n (bg : Bool) : Nat := min 0x3FFF (s.sol.items.filter (fun x => x.isQueued && x.bg = bg)).length
  n false + n true * 2 ^ 16
def State.solQueryNow (s : State) : Nat :=
  let p := s.rdf A.solQuery 0 13
  let st := if s.sol.held.any (fun x => x.1 = p) then 5
    else match s.solItem p with
      | some x => (match x.place with | .queued => 2 | .preloaded _ => 3 | _ => 4)
      | none => if s.sol.resident.contains p then 1 else 0
  st + Sparse.get (fun _ => 0) s.sol.last p * 2 ^ 8
def State.solGNow (s : State) (g : Nat) (next : Bool) : Nat :=
  match s.sol.items.find? (fun x => if next then x.waitsOn g else x.runsOn g) with
  | some x => x.prob + 2 ^ 16
  | none => 0

/-! ## Meanings -/

def execUpdDone (s : State) : Host.Outcome State Fault Refusal :=
  .next (if s.sol.lists = 0 then s
    else
      let s1 := s.setSol (fun q => { q with lists := q.lists - 1 })
      ((s1.wrb A.solStat 1 (s1.sol.lists ≠ 0)).raise 0x60000 9).solBusy)

def execProblemStart (g : Fin 16) (pre : Bool) (s : State) : Host.Outcome State Fault Refusal := .next (if s.poolpath then s.problemStart g pre else s)

/-- The run of group g ends: by itself, by an uncorrectable buffer error, or by its deadline where that has passed; `corr` buffer
errors were corrected. -/
def execRunEnd (g : Fin 16) (corr : Nat) (ue : Bool) (s : State) : Host.Outcome State Fault Refusal :=
  .next (match (if s.datapath then s.sol.items.find? (fun x => x.runsOn g) else none) with
    | some x =>
      let s1 := s.bumpBy (A.solGEccCorr g) corr
      if ue then (s1.bufFails x g).groupLeft g
      else if x.dl.any (fun t => decide (t < s.now)) then s1.solStop x false
      else (s1.runEnds x g none false).groupLeft g
    | none => s)

/-- The deadline of a problem passes, while DCLK runs (R470). -/
def execSolDeadline (p : Fin 8192) (s : State) : Host.Outcome State Fault Refusal :=
  .next (match (if s.runs 0 then s.solItem p else none) with
    | some x => (match x.dl with | some t => if t ≤ s.now then s.solStop x false else s | none => s)
    | none => s)

def execResultWritten (p : Fin 8192) (s : State) : Host.Outcome State Fault Refusal := .next (if s.hbmRuns then s.resultWritten p else s)

def execSolInitDone (s : State) : Host.Outcome State Fault Refusal :=
  .next (match (if s.hbmRuns then s.sol.initRun else none) with
    | none => s
    | some (b, n) =>
      ((s.setSol (fun q => { q with initRun := none, base := b, cnt := n, resident := [] })).wrb A.solStat 0 true).solBusy)

end Sys2Proof.Machine
end

