-- ==== Sys2Proof/Machine/Chg.lean ====
section
/-!
DEFINITION. The charge arrays: models and their programming, evaluations slot by slot, requests, reference checks, drift scans,
refreshes and wear (R207 to R231, R247).
-/
namespace Sys2Proof.Machine

def State.arr (s : State) (a : Nat) : ChgArray := nth {} s.chg.arrays a
def State.setChg (s : State) (f : ChgState → ChgState) : State := { s with chg := f s.chg }
def State.setArr (s : State) (a : Nat) (f : ChgArray → ChgArray) : State := s.setChg (fun q => { q with arrays := upd f q.arrays a })
/-- Set an array's interrupt and the global one. -/
def State.chgBoth (s : State) (a i g : Nat) : State := (s.raise (chgPage a) i).raise 0x80000 g
/-- The array serves evaluations (R221, R229). -/
def State.arrOk (s : State) (a : Nat) : Bool := svcTakes (s.svc (chgPage a)) && s.enabled (chgPage a)
/-- The key of a cell. -/
def cellKey (a row col : Nat) : Nat := a * 2 ^ 17 + row * 2 ^ 8 + col
def State.level (s : State) (a row col : Nat) : Nat := Sparse.get (fun _ => 0) s.chg.levels (cellKey a row col)
def State.setLevel (s : State) (a row col v : Nat) : State :=
  s.setChg (fun q => { q with levels := Sparse.set (fun _ => 0) q.levels (cellKey a row col) v })
def State.chgModel (s : State) (m : Nat) : Option ChgModel := (s.chg.models.find? (fun x => x.1 = m)).map (·.2)

/-! ## Trims as applied (Tables CAL-5 and CAL-7) -/

def State.chgTrim (s : State) (a o : Nat) : Nat := s.calVal (5 + a / 64) (88 * (a % 64) + o) 1
def State.offOf (s : State) (a conv : Nat) : Int := (s.chgTrim a conv : Nat)
def State.gcOf (s : State) (a conv : Nat) : Int := 16384 + 16 * sgn 8 (s.chgTrim a (34 + conv))
/-- t_c − OFF_c of reference column c (0 to 15). -/
def State.targetOf (s : State) (a c : Nat) : Int := 16 * (4 * (c / 2) + 3 : Nat) + sgn 8 (s.chgTrim a (68 + c))
def State.rboOf (s : State) (a : Nat) : Int := sgn 8 (s.chgTrim a 84)
/-- The region of the die's CHG record is valid (R245). -/
def State.dieOk (s : State) (a : Nat) : Bool := tbit (s.rd64 A.calValid) (5 + a / 64)
/-- The array has trims of a valid CHG record: those of an earlier record stay until the apply (R246, R247). -/
def State.trimmed (s : State) (a : Nat) : Bool := s.dieOk a && (s.cal.inUse.contains (5 + a / 64) || !s.cal.chgWait.any (fun x => x.1 = a))

/-! ## Requests -/

def State.setReq (s : State) (n : Nat) (f : ChgReq → ChgReq) : State :=
  s.setChg (fun q => { q with reqs := q.reqs.map (fun r => if r.num = n then f r else r) })

/-- BUSY of the global page. -/
def State.chgBusy (s : State) : State := s.setBusy 0x80000 (s.chg.prog.isSome || !s.chg.reqs.isEmpty)

/-- An array holds work while a row operation runs on it or an accepted request needs it. -/
def State.arrHolds (s : State) (a : Nat) : Bool :=
  (s.arr a).rowop.isSome || s.chg.reqs.any (fun r => match r.taken with | some m => m.tiles.any (fun t => t.array = a) | none => false)

/-- A draining array without work goes OUT_OF_SERVICE. -/
def State.arrDrained (s : State) (a : Nat) : State := if s.arrHolds a then s else s.drained (chgPage a)

/-- A request completes (R221). -/
def State.reqEnds (s : State) (r : ChgReq) (st : Status) : State :=
  let s1 := s.setChg (fun q => { q with reqs := q.reqs.filter (fun x => x.num ≠ r.num), evals := q.evals.filter (fun e => e.req ≠ r.num) })
  let s2 := if st = .expired then s1.bump A.chgExpired else s1
  let s3 := match r.by_ with
    | .handle acc h => s2.stepEnded (some (acc, h)) (statusCode st) (min r.done 0xFFFF)
    | .learned _ => s2
  let as_ : List Nat := match r.taken with | some m => m.tiles.map (fun t => t.array) | none => []
  (as_.foldl (fun t a => t.arrDrained a) s3).chgBusy

/-- Requests that satisfy `f` end with a status. -/
def State.reqsEnd (s : State) (f : ChgReq → Bool) (st : ChgReq → Status) : State :=
  (s.chg.reqs.filter f).foldl (fun t r => match t.chg.reqs.find? (fun x => x.num = r.num) with | some q => t.reqEnds q (st q) | none => t) s

def ChgReq.uses (r : ChgReq) (a : Nat) : Bool := match r.taken with | some m => m.tiles.any (fun t => t.array = a) | none => false

/-- Starts no further evaluation; the request ends once the started ones are over. -/
def State.reqStop (s : State) (r : ChgReq) (st : Status) : State :=
  if r.next ≤ r.done then s.reqEnds r st else s.setReq r.num (fun x => { x with stop := some st })

/-- `n` runs of `size` bytes from `a` on, `stride` apart, lie in local memory (R218). -/
def runsLocal (a stride n size : Nat) : Bool := inLocal a ((n - 1) * stride + size)

/-- Inputs and outputs of a handle's request lie in local HBM or the scratchpad (R218); learned proposals have no output area. -/
def ChgReq.placed (r : ChgReq) (m : ChgModel) : Bool :=
  match r.by_ with
  | .learned _ => true
  | .handle _ _ => runsLocal r.inA r.inS r.count ((m.layers.head?.map (·.inN)).getD 0) &&
      runsLocal r.outA r.outS r.count (2 * (m.layers.getLast?.map (·.outN)).getD 0)

/-- What stands against a request that has not started (rows UNIT_OUT and DATA_FAULT of Table CHG-6). -/
def State.reqFault (s : State) (r : ChgReq) : Option Status :=
  match s.chgModel r.model with
  | none => some .dataFault
  | some m =>
    let as_ := m.tiles.map (·.array)
    if as_.any (fun a => !s.arrOk a) then some .unitOut
    else if !m.ready || as_.any (fun a => s.rdb (A.chgAStat a) 4) || !r.placed m then some .dataFault else none

/-- The status of a request whose deadline or gate ends it: the first row of Table CHG-6 that applies. -/
def State.lateStatus (s : State) (r : ChgReq) : Status :=
  match r.stop with
  | some st => st
  | none => if r.next = 0 then (s.reqFault r).getD .expired else if r.sat then .sat else .timeoutBest

/-- A gate closes, or its pass is aborted: every PASS request of it ends (R218, R221). -/
def State.chgGateClose (s : State) (gate : Nat) (abort : Bool) : State :=
  s.reqsEnd (fun r => !r.bg && r.gate = some gate) (fun r => if abort then .abortHost else s.lateStatus r)

/-- Submit a request. -/
def State.chgSubmit (s : State) (r : ChgReq) : State :=
  (s.setChg (fun q => { q with reqs := q.reqs ++ [{ r with num := q.reqNo }], reqNo := q.reqNo + 1 })).chgBusy

/-- The oldest submitted request is accepted for its arrays, or completes at once. -/
def State.chgAccept (s : State) : State :=
  if !s.pageOpen 0x80000 then s
  else match s.chg.reqs.find? (fun r => r.taken.isNone) with
    | none => s
    | some r =>
      let late : Bool := (match r.dl with | some t => t ≤ s.now | none => false) || (!r.bg && !(s.pass.isOpen && r.gate = some s.pass.num))
      match s.reqFault r with
      | some st => s.reqEnds r st
      | none => if late then s.reqEnds r .expired else s.setReq r.num (fun x => { x with taken := s.chgModel r.model })

/-! ## Model descriptors (R211 to R214) -/

def bWord (bs : List Byte) (o : Nat) : Nat := leNat ((bs.drop o).take 4)
def signedBytes (bs : List Byte) (o n : Nat) : List Int := ((bs.drop o).take n).map (fun b => sgn 8 b.toNat)
def signedHalves (bs : List Byte) (o n : Nat) : List Int := (halfWords ((bs.drop o).take (2 * n))).map (sgn 16)

/-- A layer entry. -/
def layerOf (bs : List Byte) (l : Nat) : ChgLayer :=
  let w (i : Nat) : Nat := bWord bs (0x40 + 32 * l + 4 * i)
  let n := fld (w 0) 16 13
  let act := fld (w 1) 4 2
  let sb := (fullWords ((bs.drop (w 3)).take (4 * n))).map (fun v => (sgn 16 v, sgn 16 (v / 2 ^ 16)))
  { inN := fld (w 0) 0 13, outN := n, gsel := fld (w 1) 0 3, act := act, sh := fld (w 1) 8 5, osh := fld (w 1) 16 4, clo := sgn 16 (w 2)
    chi := sgn 16 (w 2 / 2 ^ 16), sb := sb, tab := if act = 3 then signedHalves bs (w 4) 256 else [] }

/-- A tile entry. -/
def tileOf (bs : List Byte) (t : Nat) : ChgTile :=
  let w (i : Nat) : Nat := bWord bs (0x140 + 16 * t + 4 * i)
  let rn := fld (w 1) 12 10
  let cn := fld (w 2) 8 8
  { array := fld (w 0) 0 8, layer := fld (w 0) 8 3, rt := fld (w 0) 12 3, ct := fld (w 0) 16 6, r0 := fld (w 1) 0 9, rn := rn
    c0 := fld (w 2) 0 7, cn := cn, w := (rangeFrom 0 rn).map (fun i => signedBytes bs (w 3 + i * cn) cn) }

/-- The fields of the entries lie in their ranges (check 2). -/
def modelFields (bs : List Byte) (nl nt size : Nat) : Bool :=
  let lw (l i : Nat) : Nat := bWord bs (0x40 + 32 * l + 4 * i)
  let tw (t i : Nat) : Nat := bWord bs (0x140 + 16 * t + 4 * i)
  let area (o n : Nat) : Bool := 0x540 ≤ o && o + n ≤ size
  1 ≤ nl && nl ≤ 8 && 1 ≤ nt && nt ≤ 64 &&
    (rangeFrom 0 nl).all (fun l =>
      let i := fld (lw l 0) 0 13
      let o := fld (lw l 0) 16 13
      1 ≤ i && i ≤ 4096 && 1 ≤ o && o ≤ 4096 && area (lw l 3) (4 * o) &&
        (if fld (lw l 1) 4 2 = 3 then area (lw l 4) 512 else lw l 4 = 0)) &&
    (rangeFrom 0 nt).all (fun t =>
      let x := tileOf bs t
      x.layer < nl && 1 ≤ x.rn && x.rn ≤ 512 && x.r0 + x.rn ≤ 512 && 1 ≤ x.cn && x.cn ≤ 128 && x.c0 + x.cn ≤ 128 &&
        area (tw t 3) (x.rn * x.cn)) &&
    ((bs.drop (0x40 + 32 * nl)).take (32 * (8 - nl))).all (· = 0) && ((bs.drop (0x140 + 16 * nt)).take (16 * (64 - nt))).all (· = 0)

/-- The layers chain and the tiles cover each layer exactly once (check 3). -/
def modelCovers (ls : List ChgLayer) (ts : List ChgTile) : Bool :=
  ((ls.zip (ls.drop 1)).all (fun x => x.1.outN = x.2.inN)) &&
    ((rangeFrom 0 ls.length).zip ls).all (fun e =>
      let mine := ts.filter (fun t => t.layer = e.1)
      let nr := (e.2.inN + 511) / 512
      let nc := (e.2.outN + 127) / 128
      mine.length = nr * nc && (rangeFrom 0 nr).all (fun i => (rangeFrom 0 nc).all (fun j =>
        mine.any (fun t => t.rt = i && t.ct = j && t.rn = min 512 (e.2.inN - 512 * i) && t.cn = min 128 (e.2.outN - 128 * j)))))

/-- Two blocks share a cell. -/
def tilesMeet (a b : ChgTile) : Bool :=
  a.array = b.array && meetRange a.r0 (a.r0 + a.rn) b.r0 (b.r0 + b.rn) && meetRange a.c0 (a.c0 + a.cn) b.c0 (b.c0 + b.cn)

/-- Some two blocks of a list share a cell. -/
def anyMeet : List ChgTile → Bool
  | [] => false
  | t :: l => l.any (tilesMeet t) || anyMeet l

/-- Activation tables that resident models hold. -/
def tablesOf (m : ChgModel) : Nat := (m.layers.filter (fun l => l.act = 3)).length

/-- The number of the first check of R214 that a descriptor fails, 0 when it passes, and the model. -/
def State.modelCheck (s : State) (m : Nat) (bs : Option (List Byte)) : Nat × ChgModel :=
  let none_ : ChgModel := { layers := [], tiles := [] }
  match bs with
  | none => (1, none_)
  | some b =>
    let size := bWord b 8
    if fld (bWord b 0) 0 24 ≠ 0x014D44 || b.length ≠ size || zeroedCrc b 12 ≠ bWord b 12 then (1, none_)
    else
      let nl := fld (bWord b 4) 0 4
      let nt := fld (bWord b 4) 8 7
      if !modelFields b nl nt size then (2, none_)
      else
        let ls := (rangeFrom 0 nl).map (layerOf b)
        let ts := (rangeFrom 0 nt).map (tileOf b)
        let all := s.chg.models.flatMap (fun x => x.2.tiles)
        let c :=
          if !modelCovers ls ts then 3
          else if ts.any (fun t => t.w.any (fun r => r.any (fun v => v < -31 || 31 < v))) then 4
          else if (s.chgModel m).isSome then 5
          else if ts.any (fun t => !s.arrOk t.array) then 6
          else if anyMeet ts || ts.any (fun t => all.any (tilesMeet t)) then 7
          else if 64 < (s.chg.models.map (fun x => tablesOf x.2)).sum + tablesOf { layers := ls, tiles := ts } then 8
          else 0
        (c, { layers := ls, tiles := ts })

/-- The two cells of a weight (R208). -/
def weightCells (k : Nat) (w : Int) : List (Nat × Nat) := [(2 * k, w.toNat), (2 * k + 1, (-w).toNat)]

/-- The row operations that program a model. -/
def progRows (m : ChgModel) : List (Nat × Nat × List (Nat × Nat)) :=
  m.tiles.flatMap (fun t => ((rangeFrom 0 t.rn).zip t.w).map (fun r =>
    (t.array, t.r0 + r.1, ((rangeFrom 0 t.cn).zip r.2).flatMap (fun c => weightCells (t.c0 + c.1) c.2))))

/-- A command ends: CHG_CMD_STAT and CMD_DONE. -/
def State.chgCmdEnd (s : State) (st : Status) (check : Nat) : State :=
  (s.wr A.chgCmdStat (statusCode st + check * 2 ^ 8)).raise 0x80000 8

/-- CMD_BUSY follows the running REGISTER. -/
def State.setProg (s : State) (p : Option ChgProg) : State := ((s.setChg (fun q => { q with prog := p })).wrb A.chgStat 1 p.isSome).chgBusy

/-- REGISTER. -/
def State.chgRegister (s : State) (m : Nat) : State :=
  if s.chg.prog.isSome then s.pageErr 0x80000 0x0103 0
  else
    let a := s.rd64 A.chgModelAddr % 2 ^ 48
    let (h, s1) := s.fetchLocal 9 a 64
    let size := match h with | some b => bWord b 8 | none => 0
    let (bs, s2) := if size < 0x540 || 8388608 < size then (none, s1) else s1.fetchLocal 9 a size
    let (c, mod) := s2.modelCheck m bs
    if c ≠ 0 then (s2.pageErr 0x80000 (if c = 7 then 0x0101 else if c = 8 then 0x0106 else 0x0100) 0).chgCmdEnd .dataFault c
    else (s2.setChg (fun q => { q with models := q.models ++ [(m, mod)] })).setProg (some { model := m, rows := progRows mod })

/-- RETIRE: no cell is written; evaluations that have started complete, so a request with none left to start ends by them (R215). -/
def State.chgRetire (s : State) (m : Nat) : State :=
  let s1 := s.setChg (fun q => { q with models := q.models.filter (fun x => x.1 ≠ m) })
  let s2 := (s1.chg.reqs.filter (fun r => r.model = m && r.taken.isSome && r.next < r.count)).foldl (fun t r => t.reqStop r .dataFault) s1
  match s2.chg.prog with
  | some p => if p.model = m then (s2.setProg none).chgCmdEnd .abortHost 0 else s2.chgCmdEnd .ok 0
  | none => s2.chgCmdEnd .ok 0

/-- Queue a drift scan of an array; a running one absorbs it. -/
def State.chgScan (s : State) (a : Nat) : State := s.setArr a (fun x => { x with scan := some (x.scan.getD 0) })

/-- The write of CHG_CMD. -/
def State.chgCmd (s : State) (v : Nat) : State :=
  let m := fld v 0 10
  let a := fld v 24 8
  match fld v 16 3 with
  | 1 => s.chgRegister m
  | 2 => s.chgRetire m
  | 3 => (s.chgScan a).chgCmdEnd .ok 0
  | 5 => (s.setArr a (fun x => { x with refDue := true })).chgCmdEnd .ok 0
  | _ => s

/-! ## One evaluation (R209, R210, R217) -/

/-- u and s of an input (R209). -/
def inputU (x : Int) : Nat := (x % 128).toNat
def inputS (x : Int) : Nat := if x < 0 then 1 else 0

/-- The converter code of a column: nominal by R209, off by an error of the analogue path that the spec leaves open (`err`). -/
def colCode (off : Int) (q gsel : Nat) (err : Int) : Int := clampI 0 1023 (min 1023 (off + ((q / 2 ^ (12 - gsel) : Nat) : Int)) + err)

/-- c'' of a code (R210). -/
def colTrim (off gc trim code : Int) : Int := divNear (divNear ((code - off) * gc) (2 ^ 14) * trim) (2 ^ 14)

/-- TRIM as it applies. -/
def State.trimNow (s : State) (a : Nat) : Int := if s.rdb A.chgCtrl 4 then (s.rd (A.chgATrim a) : Nat) else 16384

/-- The array is within the refresh window: no row is marked, and no drift or hold stands (R210, R225, R227). -/
def State.inWindow (s : State) (a : Nat) : Bool := (s.arr a).marks.isEmpty && fld (s.rd (A.chgAStat a)) 3 2 = 0

/-- The values that d_k can have within the refresh window: within 3 codes and 0.5 % of (Q_p + Q_n) / 2^(12 − GSEL) of its nominal value, in whole
codes (R210).  The nominal value is (Q_p − Q_n) / 2^(12 − GSEL), or where a nominal code clips what the two nominal codes give, `clip`. -/
def windowHold (gsel qp qn : Nat) (clip : Option Int) (d : Int) : Int :=
  let u : Int := 200 * 2 ^ (12 - gsel)
  let mid : Int := match clip with | some n => n * u | none => 200 * ((qp : Int) - qn)
  let slack : Int := 3 * u + (qp + qn : Nat)
  clampI (-((slack - mid) / u)) ((mid + slack) / u) d

/-- The error of the `k`-th code of a slot. -/
def State.codeErr (s : State) (k : Nat) : Int := sgn 11 (Config.freeValue 11 (s.freeCnt + k)).toNat

/-- d of pair `k` of a tile, from the rows' inputs, and the codes that clip; `n` numbers the codes of the slot.  Of the free errors of
the two codes only those count that keep d within its window (log entry 221). -/
def State.pairOut (s : State) (t : ChgTile) (gsel : Nat) (rows : List (Nat × Int)) (k n : Nat) : Int × Nat :=
  let charge (c : Nat) (other : Nat) : Nat :=
    (rows.map (fun r => s.level t.array r.1 c * inputU r.2 + 128 * s.level t.array r.1 other * inputS r.2)).sum
  let qp := charge (2 * k) (2 * k + 1)
  let qn := charge (2 * k + 1) (2 * k)
  let col (c q : Nat) (err : Int) : Int × Nat :=
    let off := s.offOf t.array (c / 8)
    let code := colCode off q gsel err
    (colTrim off (s.gcOf t.array (c / 8)) (s.trimNow t.array) code, if code = 1023 then 1 else 0)
  let p := col (2 * k) qp (s.codeErr n)
  let m := col (2 * k + 1) qn (s.codeErr (n + 1))
  let p0 := col (2 * k) qp 0
  let m0 := col (2 * k + 1) qn 0
  let clip : Option Int := if p0.2 + m0.2 = 0 then none else some (p0.1 - m0.1)
  (if s.inWindow t.array then windowHold gsel qp qn clip (p.1 - m.1) else p.1 - m.1, p.2 + m.2)

/-- The rows a tile drives, with their inputs. -/
def tileRows (t : ChgTile) (x : List Int) : List (Nat × Int) :=
  (rangeFrom 0 t.rn).map (fun i => (t.r0 + i, ith x (t.rt * 512 + i)))

/-- A value held in n signed bits, and whether it saturated. -/
def satBits (n : Nat) (v : Int) : Int × Nat :=
  let w := clampI (-(2 ^ (n - 1))) (2 ^ (n - 1) - 1) v
  (w, if w = v then 0 else 1)

/-- The activation of y (Table CHG-5). -/
def activate (l : ChgLayer) (y : Int) : Int :=
  match l.act with
  | 0 => y
  | 1 => max 0 y
  | 2 => min (max y l.clo) l.chi
  | _ => ith l.tab (y / 256 + 128).toNat

/-- Output k of a layer from its sum: the activation, and the saturations. -/
def postUnit (l : ChgLayer) (k : Nat) (acc : Int) (last : Bool) : Int × Nat :=
  let sb := nth (0, 0) l.sb k
  let (y, n) := satBits 16 (divNear (acc * sb.1) (2 ^ l.sh) + sb.2)
  let a := activate l y
  if last then (a, n)
  else
    let (b, m) := satBits 8 (divNear a (2 ^ l.osh))
    (b, n + m)

/-- The tiles of a layer, by their place in the model. -/
def layerTiles (m : ChgModel) (l : Nat) : List Nat :=
  ((rangeFrom 0 m.tiles.length).zip m.tiles).filterMap (fun x => if x.2.layer = l then some x.1 else none)

def noLayer : ChgLayer := { inN := 0, outN := 0, gsel := 0, act := 0, sh := 0, osh := 0, clo := 0, chi := 0, sb := [] }
def noTile : ChgTile := { array := 0, layer := 0, rt := 0, ct := 0, r0 := 0, rn := 0, c0 := 0, cn := 0, w := [] }

/-- An evaluation enters a layer. -/
def ChgEval.enter (e : ChgEval) (m : ChgModel) (l : Nat) (x : List Int) : ChgEval :=
  { e with layer := l, x := x, todo := layerTiles m l, acc := List.replicate (nth noLayer m.layers l).outN 0 }

/-- The d of every pair of a tile with the codes that clip, for an evaluation that needs it. -/
def State.tileOuts (s : State) (m : ChgModel) (e : ChgEval) (ti : Nat) : List (Int × Nat) :=
  let t := nth noTile m.tiles ti
  (rangeFrom 0 t.cn).map (fun j => s.pairOut t (nth noLayer m.layers e.layer).gsel (tileRows t e.x) (t.c0 + j) (2 * j))

/-- A tile of an evaluation runs on its array: the evaluation after, saturations and clips, and the state with the codes drawn. -/
def State.runTile (s : State) (m : ChgModel) (e : ChgEval) (ti : Nat) : ChgEval × Nat × Nat × State :=
  let t := nth noTile m.tiles ti
  let l := nth noLayer m.layers e.layer
  let outs := s.tileOuts m e ti
  let acc := ((rangeFrom 0 t.cn).zip outs).foldl (fun (a : List Int) y => upd (fun v => v + y.2.1) a (t.ct * 128 + y.1)) e.acc
  let clips := (outs.map (·.2)).sum
  let s1 := { s with freeCnt := s.freeCnt + 2 * t.cn }
  let e1 := { e with acc := acc, todo := e.todo.filter (· ≠ ti) }
  if e1.todo ≠ [] then (e1, 0, clips, s1)
  else
    let last : Bool := e.layer + 1 = m.layers.length
    let ys := ((rangeFrom 0 l.outN).zip acc).map (fun y => postUnit l y.1 y.2 last)
    let v := ys.map (·.1)
    let n := (ys.map (·.2)).sum
    if last then ({ e1 with fin := some v }, n, clips, s1) else (e1.enter m (e.layer + 1) v, n, clips, s1)

/-! ## Inputs (R147, R218) -/

/-- The inputs of evaluation `e` of a robot's learned range. -/
def learnedInput (p : PassRobot) (seed seq e : Nat) (bs : List Byte) : List Byte :=
  let noise := fld (p.word 0xA4) 24 7
  let keep := bs.length - noise
  bs.take keep ++ ((rangeFrom 0 (noise / 8)).flatMap (fun g => leBytes 8 (genZ seed (genCtr seq p.robot 1 e g)))).take noise

/-- Read the inputs of evaluation `k` of a request; inputs that the configured bytes do not reach are open. -/
def State.chgInput (s : State) (r : ChgReq) (n k : Nat) : Option (List Int) × State :=
  match r.by_ with
  | .handle _ _ =>
    match s.fetchLocal 9 (r.inA + k * r.inS) n with
    | (some bs, s1) => (some (bs.map (fun b => sgn 8 b.toNat)), s1)
    | (none, s1) => (none, s1)
  | .learned rb =>
    match s.pass.cur with
    | none => (none, s)
    | some p => match p.robotOf rb with
      | none => (none, s)
      | some x =>
        let len := fld (x.word 0xB0) 0 10
        match s.fetchLocal 9 ((x.word 0xA8 + x.word 0xAC * 2 ^ 32) % 2 ^ 48) len with
        | (none, s1) => (none, s1)
        | (some bs, s1) =>
          let got := (learnedInput x p.seed p.seq k bs).map (fun b => sgn 8 b.toNat)
          let open_ := (rangeFrom 0 (n - len)).map (fun i => sgn 8 (Config.freeValue 8 (s1.freeCnt + i)).toNat)
          (some (got ++ open_), { s1 with freeCnt := s1.freeCnt + (n - len) })

/-! ## Reference checks (R224 to R226) -/

/-- RGSEL of U + 128 S. -/
def rgselOf (x : Nat) : Nat := (([7, 6, 5, 4, 3, 2, 1].find? (fun g => 31 * x ≤ 1000 * 2 ^ (12 - g)))).getD 0

/-- TRIM from the 16 pairs (t − OFF, m − OFF); where a reading equals its offset it has no stated value. -/
def trimOf (x d : Nat) (l : List (Int × Int)) (free : Int) : Nat :=
  let v : Int :=
    if l.any (fun y => y.2 = 0) then free
    else
      let sum : Rat := (l.map (fun y => ((y.1 * (x : Int) : Int) : Rat) / ((16 * (d : Int) * y.2 : Int) : Rat))).sum
      ratNear (sum * (2 ^ 14 : Nat) / (16 : Nat))
  (clampI 15360 17408 v).toNat

/-- (t_c − OFF_c, m_c − OFF_c) of the 16 reference columns, from their codes (R224). -/
def State.refPairs (s : State) (a : Nat) (codes : List Nat) : List (Int × Int) :=
  ((rangeFrom 0 16).zip codes).map (fun c => (s.targetOf a c.1, (c.2 : Int) - s.offOf a (32 + c.1 / 8)))

/-- 16 (m_c − E_c) × x / K of the columns in a slot that drives `x`, with d = x / K: whole numbers, since 16 E_c and K are fractions. -/
def refNums (x d : Nat) (two : List (Int × Int)) : List Int := two.map (fun y => 16 * (d : Int) * y.2 - y.1 * x)

/-- No column of a dedicated reference slot is beyond REF_TH; the slot drives every row with input 1 (R224, R229). -/
def State.refClean (s : State) (a : Nat) (codes : List Nat) : Bool :=
  (refNums 512 (2 ^ (12 - rgselOf 512)) (s.refPairs a codes)).all (fun v => v.natAbs ≤ s.rdf A.chgDriftCfg 0 8 * 512)

/-- A reference check in a slot that drives `x` = U + 128 S: the 16 codes are what the converters read, which is open. -/
def State.refCheck (s : State) (a x : Nat) : State :=
  let d := 2 ^ (12 - rgselOf x)
  if x < 16 * d then (s.setArr a (fun y => { y with carry := true })).bump A.chgVoidChecks
  else
    let codes := (rangeFrom 0 16).map (fun c => (Config.freeValue 10 (s.freeCnt + c)).toNat)
    let free := (Config.freeValue 16 (s.freeCnt + 16)).toNat
    let s0 : State := { s with freeCnt := s.freeCnt + 17 }
    let two := s.refPairs a codes
    let num := refNums x d two
    let devs := num.map (fun v => divNear v x)
    let s1 := ((rangeFrom 0 16).zip (codes.zip devs)).foldl (fun t c =>
      t.wr (A.chgARef a c.1) (c.2.1 + enc 10 (clampI (-511) 511 c.2.2) * 2 ^ 16)) s0
    let big := ((rangeFrom 0 16).zip devs).foldl (fun (m : Nat × Nat) c => if m.1 < c.2.natAbs then (c.2.natAbs, c.1) else m) (0, 0)
    let s2 := (s1.wr (A.chgARefMax a) (min 255 big.1 + big.2 * 2 ^ 16)).bump32 A.chgRefChecks 1
    let s3 := s2.setArr a (fun y => { y with checked := s.now, since := 0, carry := false, refDue := false })
    let beyond (th : Nat) : Bool := num.any (fun v => th * x < v.natAbs)
    let th := s.rdf A.chgDriftCfg 0 8
    let hold := s.rdf A.chgDriftCfg 8 8
    let s4 := if beyond th then ((s3.wrb (A.chgAStat a) 3 true).chgBoth a 8 9).chgScan a else s3
    let s5 :=
      if beyond hold then
        let t := if s4.rdb (A.chgAStat a) 4 then s4 else (s4.wrb (A.chgAStat a) 4 true).chgBoth a 12 13
        t.reqsEnd (fun r => r.uses a) (fun _ => .dataFault)
      else if num.all (fun v => v.natAbs < hold * x) then s4.wrb (A.chgAStat a) 4 false else s4
    if s.rdb A.chgCtrl 4 then s5.wr (A.chgATrim a) (trimOf x d two (clampI 15360 17408 (free : Nat))) else s5

/-- After a traffic slot: the check it carries, and a dedicated slot when none has been valid for long. -/
def State.refTraffic (s : State) (a x : Nat) : State :=
  if !(s.rdb A.chgCtrl 0 && s.trimmed a) then s
  else
    let dutyN := max 1 (s.rdf A.chgRefCfg 0 8)
    let y := s.arr a
    let run : Bool := y.carry || dutyN ≤ y.duty + 1
    let s1 := s.setArr a (fun z => { z with duty := if dutyN ≤ z.duty + 1 then 0 else z.duty + 1, since := z.since + 1 })
    let s2 := if run then s1.refCheck a x else s1
    if 4 * dutyN ≤ (s2.arr a).since then s2.setArr a (fun z => { z with refDue := true }) else s2

/-! ## The slots of an array (R219, R220) -/

/-- The oldest work of a class that waits for an array: a started evaluation with a tile there, or the start of the next one. -/
def State.findWork (s : State) (a : Nat) (bg : Bool) : Option (ChgReq × ChgModel × Option ChgEval × Nat) :=
  s.chg.reqs.findSome? (fun r =>
    if r.bg ≠ bg then none
    else match r.taken with
      | none => none
      | some m =>
        let here (l : List Nat) : Option Nat := l.find? (fun t => (nth noTile m.tiles t).array = a)
        match s.chg.evals.findSome? (fun e => if e.req = r.num && e.fin.isNone then (here e.todo).map (fun t => (e, t)) else none) with
        | some (e, t) => some (r, m, some e, t)
        | none =>
          if r.next < r.count && r.stop.isNone then (here (layerTiles m 0)).map (fun t => (r, m, none, t)) else none)

/-- U + 128 S of driven rows. -/
def drivenOf (rows : List (Nat × Int)) : Nat := (rows.map (fun r => inputU r.2 + 128 * inputS r.2)).sum

/-- The block of array `a` with the weights of a block of another array: both hold it (R229). -/
def State.sameBlock (s : State) (a : Nat) (t : ChgTile) : Option ChgTile :=
  (s.chg.models.flatMap (·.2.tiles)).find? (fun x => x.array = a && x.rn = t.rn && x.cn = t.cn && x.w = t.w)

/-- Arrays that hold a block with identical weights share it (R229). -/
def State.sharesBlock (s : State) (a : Nat) (t : ChgTile) : Bool := (s.sameBlock a t).isSome

/-- Each array in SHADOW whose peer is array `a` takes a copy of the evaluation of a block that both hold (R229): it evaluates its own block with
the inputs `x` of the block's rows, with its own cells, trims and errors, and the pair of d values of each pair waits to be compared. -/
def State.tileCopied (s : State) (a : Nat) (t : ChgTile) (gsel : Nat) (x : List Int) (d : List Int) : State :=
  (s.shadowers (.array (Fin.ofNat 256 a))).foldl (fun u y => match y with
    | .array b =>
      (match u.sameBlock b t with
       | some o =>
         let rows := (rangeFrom 0 o.rn).map (fun i => (o.r0 + i, ith x i))
         let own := (rangeFrom 0 o.cn).map (fun j => (u.pairOut o gsel rows (o.c0 + j) (2 * j)).1)
         { u with freeCnt := u.freeCnt + 2 * o.cn }.shadowPut y (own ++ d)
       | none => u)
    | _ => u) s

/-- A slot carries a tile of an evaluation.  A request of which none has started ends where an array of its model has left service since, or
its model is no longer READY (Table CHG-6). -/
def State.evalSlot (s : State) (a : Nat) (w : ChgReq × ChgModel × Option ChgEval × Nat) : State :=
  let (r, m, e0, ti) := w
  match (if r.next = 0 then s.reqFault r else none) with
  | some st => s.reqEnds r st
  | none =>
  let (e, s1) := match e0 with
    | some e => (some e, s)
    | none =>
      match s.chgInput r (nth noLayer m.layers 0).inN r.next with
      | (none, t) => (none, t)
      | (some x, t) =>
        let e : ChgEval := { req := r.num, idx := r.next, layer := 0, x := [], todo := [], acc := [] }
        let e1 := e.enter m 0 x
        (some e1, (t.setChg (fun q => { q with evals := q.evals ++ [e1] })).setReq r.num (fun y => { y with next := y.next + 1 }))
  match e with
  | none => s1.reqEnds r .dataFault
  | some e =>
    let x := drivenOf (tileRows (nth noTile m.tiles ti) e.x)
    let t := nth noTile m.tiles ti
    let (e1, sats, clips, s2) := s1.runTile m e ti
    let s2 := s2.tileCopied a t (nth noLayer m.layers e.layer).gsel ((tileRows t e.x).map (·.2)) ((s1.tileOuts m e ti).map (·.1))
    let s3 := s2.setChg (fun q => { q with evals := q.evals.map (fun y => if y.req = e.req && y.idx = e.idx then e1 else y) })
    let s4 := if sats + clips = 0 then s3 else s3.setReq r.num (fun y => { y with sat := true })
    let s5 := ((s4.bumpBy A.chgSatOut sats).bump32 A.chgClip clips).bumpBy (A.chgAClip a) clips
    ((s5.bump32 (A.chgAEvals a) 1).refTraffic a x).heatCut

/-- A scan reads one row: cells whose code is off by CELL_TH or more are marked; the codes read are open. -/
def State.scanRow (s : State) (a row : Nat) : State :=
  let th := s.rdf A.chgDriftCfg 16 8
  let bad := (rangeFrom 0 256).filter (fun c =>
    let code : Int := ((Config.freeValue 10 (s.freeCnt + c)).toNat : Int) - s.rboOf a
    th ≤ (code - (32 * s.level a row c + 16 : Nat)).natAbs)
  let s1 : State := { s with freeCnt := s.freeCnt + 256 }
  let mark (x : ChgArray) : ChgArray :=
    if bad.isEmpty then x
    else match x.marks.find? (fun m => m.1 = row) with
      | some m => { x with marks := x.marks.map (fun y => if y.1 = row then (row, bad.foldl (fun l c => setIns c l) m.2) else y) }
      | none => { x with marks := x.marks ++ [(row, bad)] }
  let s2 := s1.setArr a mark
  if row < 511 then s2.setArr a (fun x => { x with scan := some (row + 1) })
  else ((s2.setArr a (fun x => { x with scan := none, scanned := s.now, cut := false })).bump A.chgScans).raise (chgPage a) 9

/-- Row operations that run on a die. -/
def State.rowOpsOn (s : State) (die : Nat) : Nat := ((rangeFrom (64 * die) 64).filter (fun a => (s.arr a).rowop.isSome)).length

/-- Refresh is deferred for an array (R228). -/
def State.deferred (s : State) (a : Nat) : Bool :=
  s.rdb A.chgCtrl 5 && !nth false s.chg.settled (a / 64) && !s.rdb (A.chgAStat a) 4

/-- The highest row count of an array and its row. -/
def ChgArray.top (x : ChgArray) : Nat × Nat := x.wear.foldl (fun m r => if m.1 < r.2 then (r.2, r.1) else m) (0, 0)

/-- The wear of a row rises by one before the first pulse (R222, R223). -/
def State.wearRow (s : State) (a row : Nat) : State :=
  let s1 := s.setArr a (fun x => { x with wear := Sparse.set (fun _ => 0) x.wear row (Sparse.get (fun _ => 0) x.wear row + 1), total := x.total + 1 })
  let n := (s1.arr a).top.1
  let reaches (k : Nat) : Bool := (s.arr a).top.1 < k && k ≤ n
  let s2 := if reaches 90000 then (if s1.svc (chgPage a) = 0 then s1.setSvc (chgPage a) 5 1 else s1).raise 0x80000 10 else s1
  if reaches 100000 then ((s2.setSvc (chgPage a) 2 1).raise 0x80000 11).reqsEnd (fun r => r.uses a) (fun _ => .unitOut) else s2

/-- Row operations may start on an array. -/
def State.rowMay (s : State) (a : Nat) : Bool :=
  !s.tripped && s.rdf A.thmStat 0 3 = 0 && s.chg.vppOk && s.rowOpsOn (a / 64) < 4 && !(s.rdb A.chgCtrl 3 && s.pass.isOpen) && (s.arr a).top.1 < 100000 && s.trimmed a

/-- The row operation that an array would start: of the running REGISTER, else the refresh of a marked row (R222, R228). -/
def State.nextRow (s : State) (a : Nat) : Option RowOp :=
  match s.chg.prog.bind (fun p => (p.rows.find? (fun r => r.1 = a)).map (fun r => (p.model, r))) with
  | some (m, r) => some { row := r.2.1, cells := r.2.2, model := some m }
  | none =>
    let x := s.arr a
    let rate := max 1 (s.rdf A.chgRefreshCfg 0 8)
    let ok : Bool := match x.refresh with | some t => t + 1000000000 / rate ≤ s.now | none => true
    match x.marks with
    | m :: _ => if s.rdb A.chgCtrl 2 && ok && !s.deferred a then some { row := m.1, cells := m.2.map (fun c => (c, s.level a m.1 c)), model := none } else none
    | [] => none

/-- The start of a row operation. -/
def State.rowStart (s : State) (a : Nat) (o : RowOp) : State :=
  let s1 := s.setArr a (fun x => { x with rowop := some o, refresh := if o.model.isNone then some s.now else x.refresh })
  let drop (p : ChgProg) : ChgProg := { p with rows := p.rows.filter (fun r => !(r.1 = a && r.2.1 = o.row && o.model.isSome && r.2.2 = o.cells)) }
  (s1.setChg (fun q => { q with prog := q.prog.map drop })).wearRow a o.row

/-- The new trims of an array take effect (R247). -/
def State.chgApply (s : State) (a : Nat) : State :=
  if !s.cal.chgWait.any (fun x => x.1 = a) then s
  else
    let r := 5 + a / 64
    let o := 16 + 88 * (a % 64)
    let bs := ((calBytes s.cal.store r).drop o).take 88
    let rest := s.cal.chgWait.filter (fun x => x.1 ≠ a)
    let c : CalState := { s.cal with applied := Memory.write s.cal.applied (calOffset r + o) bs, chgWait := rest }
    let s1 := (({ s with cal := c }).wr (A.chgATrim a) 16384).setArr a (fun x => { x with marks := [], scan := some 0 })
    if rest.any (fun x => x.1 / 64 = a / 64) then s1 else s1.calApply r

/-- An empty slot. -/
def State.emptySlot (s : State) (a : Nat) : State := (s.setArr a (fun x => { x with empty := s.now })).chgApply a

/-- The `k`-th slot of an array starts an evaluation at the throttle level that stands: a fraction 3/4, 1/2, 1/4 or 1/8 of the slots does, spread
evenly (R411, Table THM-4; log entry 200). -/
def State.issues (s : State) (k : Nat) : Bool :=
  match s.rdf A.thmStat 0 3 with
  | 0 => true
  | 1 => k % 4 ≠ 1
  | 2 => k % 2 = 0
  | 3 => k % 4 = 0
  | _ => k % 8 = 0

/-- An array has another slot. -/
def State.slotPasses (s : State) (a : Nat) : State := s.setArr a (fun x => { x with slots := x.slots + 1 })

/-- An array fills a slot by the first rule of R219 that applies; scans and row operations start from READY on (R231). -/
def State.fillSlot (s : State) (a : Nat) : State :=
  let x := s.arr a
  let serves : Bool := !s.tripped && (svcTakes (s.svc (chgPage a)) || s.svc (chgPage a) = 1)
  if x.refDue && s.rdb A.chgCtrl 0 && s.trimmed a then s.refCheck a 512
  else match (if serves then s.findWork a false else none), (if serves then s.findWork a true else none) with
    | some w, _ => s.evalSlot a w
    | none, some w => s.evalSlot a w
    | none, none =>
      match (if s.ready 0x80000 then x.scan else none), (if s.rowMay a && s.ready 0x80000 then s.nextRow a else none) with
      | some row, o =>
        if s.rdb A.chgCtrl 1 && s.trimmed a then s.scanRow a row
        else (match o with | some o => s.rowStart a o | none => s.emptySlot a)
      | none, some o => s.rowStart a o
      | none, none => s.emptySlot a

/-- The next slot of an array, unless a row operation holds it: the throttle leaves it empty (R411), or it is filled. -/
def State.arraySlot (s : State) (a : Nat) : State :=
  if (s.arr a).rowop.isSome || !s.runs (38 + a / 64) then s
  else if s.issues (s.arr a).slots then (s.slotPasses a).fillSlot a
  else (s.slotPasses a).emptySlot a

/-- The model becomes READY. -/
def readied (m : Nat) (y : Nat × ChgModel) : Nat × ChgModel := if y.1 = m then (m, { y.2 with ready := true }) else y

/-- A row operation ends: every selected cell has verified, or one has not (R222). -/
def State.rowDone (s : State) (a : Nat) (ok : Bool) : State :=
  match (s.arr a).rowop with
  | none => s
  | some o =>
    let s1 := s.setArr a (fun x => { x with rowop := none })
    let s2 := if ok then s1 else s1.pageErr 0x80000 0x0102 (a + o.row * 2 ^ 16)
    let s3 := match o.model with
      | some m =>
        let s4 := o.cells.foldl (fun (t : State) (c : Nat × Nat) => t.setLevel a o.row c.1 c.2) s2
        let running : Bool := (rangeFrom 0 256).any (fun b => match (s4.arr b).rowop with | some q => decide (q.model = some m) | none => false)
        (match s4.chg.prog with
         | none => s4
         | some p =>
           if p.model ≠ m then s4
           else if !ok then ((s4.setChg (fun q => { q with models := q.models.filter (fun y => y.1 ≠ m) })).setProg none).chgCmdEnd .dataFault 0
           else if p.rows.isEmpty && !running then
             ((s4.setChg (fun q => { q with models := q.models.map (readied m) })).setProg none).chgCmdEnd .ok 0
           else s4)
      | none =>
        if !ok then s2
        else
          let t := s2.setArr a (fun x => { x with marks := x.marks.filter (fun y => y.1 ≠ o.row) })
          let u := (t.bump32 A.chgRefreshRows 1).bump32 (A.chgARefreshed a) o.cells.length
          if (u.arr a).marks.isEmpty then u.raise (chgPage a) 10 else u
    s3.arrDrained a

/-- The outputs of a finished evaluation are written, or its codes failed the charge network's CRC.  The request ends with its last evaluation, by
the first row of Table CHG-6 that applies. -/
def State.evalDone (s : State) (req idx : Nat) (crcOk : Bool) : State :=
  match s.chg.evals.find? (fun e => e.req = req && e.idx = idx), s.chg.reqs.find? (fun r => r.num = req) with
  | some e, some r =>
    (match e.fin with
     | none => s
     | some ys =>
       if !crcOk then ((s.bump A.chgNetErr).raise 0x80000 12).pageErr 0x80000 0x0104 0 |>.reqEnds r .dataFault
       else
         let s1 := (s.setChg (fun q => { q with evals := q.evals.filter (fun y => !(y.req = req && y.idx = idx)) })).bump32 A.chgEvals 1
         let s2 := match r.by_ with
           | .handle _ _ => s1.store (r.outA + idx * r.outS) (ys.flatMap (fun v => leBytes 2 (enc 16 v)))
           | .learned rb => s1.setRun_ (fun p => { p with learned := p.learned ++ [(rb, idx, ys)] })
         let r1 := { r with done := r.done + 1 }
         let s3 := s2.setReq req (fun _ => r1)
         match r1.stop with
         | some st => if r1.next ≤ r1.done then s3.reqEnds r1 st else s3
         | none => if r1.done = r1.count then s3.reqEnds r1 (if r1.sat then .sat else .ok) else s3)
  | _, _ => s

/-! ## What registers show -/

def State.chgAStatNow (s : State) (a : Nat) : Nat :=
  let x := s.arr a
  let b (c : Bool) (i : Nat) : Nat := if c then 2 ^ i else 0
  let prog : Bool := match x.rowop with | some o => o.model.isSome | none => false
  let blocks := ((s.chg.models.flatMap (fun m => m.2.tiles)).filter (fun t => t.array = a)).length
  b prog 0 + b (x.scan.any (· ≠ 0) && s.rdb A.chgCtrl 1) 1 + fld (s.rd (A.chgAStat a)) 3 2 * 2 ^ 3 + b (s.deferred a) 5 + blocks % 256 * 2 ^ 8 + x.marks.length % 1024 * 2 ^ 16
def State.chgMtNow (s : State) : Nat :=
  match s.chgModel (s.rdf A.chgMtQuery 0 10) with
  | none => 0
  | some m =>
    let st := if s.chg.prog.any (fun p => p.model = s.rdf A.chgMtQuery 0 10) then 1
      else if !m.ready || m.tiles.any (fun t => !s.arrOk t.array) then 3 else 2
    st + m.tiles.length * 2 ^ 8 + m.layers.length * 2 ^ 16
def State.chgStatNow (s : State) : Nat := s.rd A.chgStat % 4 + s.chg.models.length % 2048 * 2 ^ 16
def State.chgWearSum (s : State) : Nat :=
  let tops := s.chg.arrays.map (fun x => x.top.1)
  ((rangeFrom 0 256).filter (fun a => s.svc (chgPage a) = 5)).length + (tops.filter (fun n => 100000 ≤ n)).length * 2 ^ 16

/-- A learned model fits a robot's proposals: resident, READY and with outputs enough (R147). -/
def State.lpFits (s : State) (model outs : Nat) : Bool :=
  match s.chgModel model with
  | some m => m.ready && m.tiles.all (fun t => s.arrOk t.array) && (match m.layers.getLast? with | some l => outs ≤ l.outN | none => false)
  | none => false

/-- Running row operations stop (R230, R412): their counts and marks stay, and those of a REGISTER start again later. -/
def State.stopRowOps (s : State) : State :=
  let back := (rangeFrom 0 256).filterMap (fun a => match (s.arr a).rowop with
    | some o => if o.model.isSome then some (a, o.row, o.cells) else none
    | none => none)
  let prog := s.chg.prog.map (fun p => { p with rows := back ++ p.rows })
  s.setChg (fun q => { q with prog := prog, arrays := q.arrays.map (fun x => { x with rowop := none }) })

/-! ## Meanings -/

def execChgRequest (s : State) : Host.Outcome State Fault Refusal := .next s.chgAccept
def execArraySlot (a : Fin 256) (s : State) : Host.Outcome State Fault Refusal := .next (s.arraySlot a)
def execRowOperationDone (a : Fin 256) (ok : Bool) (s : State) : Host.Outcome State Fault Refusal := .next (s.rowDone a ok)
/-- The post units write while the datapath runs (R412, R470). -/
def execEvaluationComplete (req idx : Nat) (crcOk : Bool) (s : State) : Host.Outcome State Fault Refusal :=
  .next (if s.datapath then s.evalDone req idx crcOk else s)

def execChgRequestDeadline (req : Nat) (s : State) : Host.Outcome State Fault Refusal :=
  .next (s.reqsEnd (fun r => r.num = req && (match r.dl with | some t => t ≤ s.now | none => false)) s.lateStatus)

def execRefIdleDue (a : Fin 256) (s : State) : Host.Outcome State Fault Refusal :=
  .next (if (s.arr a).checked + 1000 * max 1 (s.rdf A.chgRefCfg 8 16) ≤ s.now then s.setArr a (fun x => { x with refDue := true }) else s)

def execRefreshDeferEnd (die : Fin 4) (s : State) : Host.Outcome State Fault Refusal :=
  .next (match nth none s.chg.within die with
    | some t =>
      if t + 1000000000 * s.rdf A.chgRefreshCfg 16 8 ≤ s.now then s.setChg (fun q => { q with settled := upd (fun _ => true) q.settled die }) else s
    | none => s)

/-- VPP_CA leaves its range: running row operations stop. -/
def execVppFail (s : State) : Host.Outcome State Fault Refusal :=
  .next ((s.stopRowOps.setChg (fun q => { q with vppOk := false })).pageErr 0x80000 0x0105 0)

def execVppRestored (s : State) : Host.Outcome State Fault Refusal := .next (s.setChg (fun q => { q with vppOk := true }))

/-- An uncorrectable model-table error: the model is no longer READY. -/
def execTableEcc (m : Fin 1024) (s : State) : Host.Outcome State Fault Refusal :=
  let s1 := s.setChg (fun q => { q with models := q.models.map (fun x => if x.1 = m.val then (x.1, { x.2 with ready := false }) else x) })
  let s2 := (s1.chg.reqs.filter (fun r => r.model = m.val && r.taken.isSome)).foldl (fun t r => t.reqStop r .dataFault) s1
  .next (s2.pageErr 0x80000 0x0107 m.val)

/-- An array has had no empty slot for APPLY_MAX since the commit: its next slot is left empty for the apply. -/
def execForcedApply (a : Fin 256) (s : State) : Host.Outcome State Fault Refusal :=
  .next (match s.cal.chgWait.find? (fun x => x.1 = a.val) with
    | some w =>
      if max w.2 (s.arr a).empty + 1000 * max 1 (s.rdf A.calBw 16 16) ≤ s.now && (s.arr a).rowop.isNone then (s.bump A.calForced).emptySlot a else s
    | none => s)

end Sys2Proof.Machine
end

