-- ==== Sys2Proof/Machine/Pass.lean ====
section
/-!
DEFINITION. The planning pass: gate open, the pass steps that barges launch, the gate-close causes, commit, pass results and their
delivery (R15 to R29, R77, R173, R271, R294, R339 to R342).
-/
namespace Sys2Proof.Machine

/-! ## Pass opens (R77) -/

/-- A value in a field of `w` bits; what the field shows of a value it cannot hold is open. -/
def State.fits (s : State) (w v : Nat) : Nat × State :=
  if v < 2 ^ w then (v, s) else ((s.draw w).1.toNat, (s.draw w).2)

/-- A pass open that finds one waiting merges into it. -/
def State.passOvr (s : State) : State := (s.bump A.towPassOvr).raise 0x10000 10

/-- A CLOSE_GATE firing finds no pass open. -/
def State.closeIdle (s : State) : State := s.bump A.towCloseIdleCnt

/-! ## Gate open (R16, R18, R134, R149, R160, R170 to R172, R181, R271) -/

/-- The lane groups that take part: in service, their pages and the global page open. -/
def State.passGroups (s : State) : List Nat :=
  (rangeFrom 0 8).filter (fun g => s.svc (lgPage g) = 0 && s.pageOpen (lgPage g) && s.pageOpen 0x50000)

/-- Every robot's staged records take effect. -/
def State.robotsAtGate (s : State) : State :=
  (rangeFrom 0 4).foldl (fun t r => (t.setCnd r (fun x => x.atGate)).cndShow r) s

/-- PASS_SEQ moves on unless it is held. -/
def State.seqAtGate (s : State) : State := if s.rdb A.cndCtrl 8 then s else s.wr A.cndPassSeq ((s.rd A.cndPassSeq + 1) % 2 ^ 32)

/-- The newest epoch is pinned for the pass. -/
def State.pinPass (s : State) : Option Epoch × State :=
  let e := s.wld.alive.getLast?
  (e, (s.wr A.wldPinPass (match e with | some x => x.num | none => 0)).pinsetSend)

/-- Candidate slots cut off by the limit of 131,072. -/
def truncated (l : List PassRobot) : Nat := (l.map (fun x => x.total - (x.ranges.1 + x.ranges.2.1 + x.ranges.2.2))).sum

/-- Read every pair list, in robot order. -/
def State.pairLists (s : State) (p : PassRun) (noted : Bool) : List Nat → PassRun × State
  | [] => (p, s)
  | r :: t => let (q, n, s1) := s.pairList p r noted; s1.pairLists q n t

/-- Offer the pass templates from `t` on. -/
def State.templatesFrom (s : State) (t : Nat) : Nat → State
  | 0 => s
  | n + 1 =>
    if !s.rdb A.dspCtrl t then s.templatesFrom (t + 1) n
    else
      let words := s.rebase (upd (fun w => putBit w 26 true) (s.regWords (A.dspPassTemplate (16 * t))) 0) s.now
      let (c, s1) := s.offer 4 t words false false
      (if c = 0 then s1 else (s1.bump A.dspPassRefused).raise 0x200000 9).templatesFrom (t + 1) n

/-- The gate opens: everything the pass uses to its end is fixed. -/
def State.openGate (s : State) : State :=
  let s1 := ((s.pathsAtGate).robotsAtGate).seqAtGate
  let (ep, s2) := s1.pinPass
  let (rs, s3) := s2.gateRobots s2.lpFits 0 [0, 1, 2, 3]
  let gs := s3.passGroups
  let s4 := (s3.wr A.cndTrunc (min 0x3FFFF (truncated rs))).wr A.swpGroups (robotMask gs)
  let p : PassRun := {
    num := s4.pass.num + 1, seq := s4.rd A.cndPassSeq, epoch := ep, gate := s4.now, len := s4.rdf A.towPassLen 0 14
    swp := (rangeFrom 0 128).map (fun i => s4.rd (0x50040 + 4 * i)), att := (rangeFrom 0 16).map (fun n => s4.attCfg n)
    groups := gs, robots := rs, seed := s4.rd64 A.cndSeed, paths := s4.pass.paths }
  let (q, s5) := s4.pairLists p false (rs.map (·.robot))
  let ps : PassState := { s5.pass with isOpen := true, num := p.num, cur := some q, waiting := false }
  { s5 with pass := ps }.heatCut.templatesFrom 0 8

/-! ## Steps launched by barges (R294) -/

/-- The learned-proposal evaluations of a sweep are requested (R147, R218). -/
def State.askLearned (s : State) (p : PassRun) (x : PassRobot) : State :=
  if !x.sweeps p.epoch.isSome || x.learnN = 0 then s
  else s.chgSubmit {
    num := 0, by_ := .learned x.robot, bg := false, gate := some p.num, model := fld (x.word 0xA4) 0 10
    count := (x.learnN + x.perEval - 1) / x.perEval, inA := 0, inS := 0, outA := 0, outS := 0, dl := none }

/-- SWEEP is launched in a pass with a lane group: it ends at once without an epoch, else seeding and sweep begin. -/
def State.launchSweep (s : State) (p : PassRun) (k : Nat × Nat) : State :=
  let s1 := s.setRun_ (fun q => { q with swept := true })
  if p.epoch.isNone then s1.stepEnded (some k) (statusCode .dataFault) 0
  else (p.robots.foldl (fun t x => t.askLearned p x) (s1.queueStep { kind := .sweep, by_ := some k })).sweepOver

/-- The pass that a launch acts on: the one open when a PASS_BOUND barge was accepted, else the one open now, if one is (R294). -/
def State.namedPass (s : State) (b : Barge) : Option Nat :=
  if b.passBound then b.gate
  else match s.pass.cur with | some p => if s.pass.isOpen && p.closed.isNone then some p.num else none | none => none

/-- SWEEP has been launched in pass `n`. -/
def State.sweptPass (s : State) (n : Option Nat) : Bool :=
  match n with
  | none => false
  | some n => s.pass.sweptIn.contains n || (match s.pass.cur with | some p => p.num = n && p.swept | none => false)

/-- A pass step is launched by handle `k` of a barge; of the cases that end it at once the one of the lowest precedence number
counts (R11, R294). -/
def State.launchStep (s : State) (b : Barge) (k : Nat × Nat) (kind : StepKind) : State :=
  let n := s.namedPass b
  let swept := s.sweptPass n
  let wrong : Bool := if kind = .sweep then swept else n.isSome && !swept
  match s.pass.cur with
  | none => s.stepEnded (some k) (statusCode (if wrong then .dataFault else .expired)) 0
  | some p =>
    let out : Bool := kind = .sweep && p.groups.isEmpty && n = some p.num
    if out then (s.setRun_ (fun q => { q with swept := true })).stepEnded (some k) (statusCode .unitOut) 0
    else if wrong then s.stepEnded (some k) (statusCode .dataFault) 0
    else if !s.pass.isOpen || p.closed.isSome || n ≠ some p.num then s.stepEnded (some k) (statusCode .expired) 0
    else if kind = .sweep then s.launchSweep p k else s.queueStep { kind := kind, by_ := some k }

/-! ## Commit (R22, R173) -/

/-- A lower-index robot in the commit check: description, sphere set and samples of its path. -/
def State.checkPath (s : State) (p : PassRun) (b : Nat) : Option (Desc × List (Nat × Sphere) × List (List Int)) :=
  match p.decided.find? (fun x => x.1 = b) with
  | some (_, some r) => (p.robotOf b).map (fun x => (x.desc, x.set, r.cand.smp))
  | _ => match nth none s.pass.paths b with
    | some k => some ((p.bodyOf b k).1, (p.bodyOf b k).2, k.res.cand.smp)
    | none => none

/-- One step of the check: every sphere of a against every sphere of b keeps the margin. -/
def checkStep (x : PassRobot) (smp : List (List Int)) (o : Desc × List (Nat × Sphere) × List (List Int)) (w m k : Nat) : Bool :=
  let i := min k (smp.length - 1)
  let j := min k (o.2.2.length - 1)
  let as_ := x.desc.centres x.set (nth [] smp i)
  let bs := o.1.centres o.2.1 (nth [] o.2.2 j)
  as_.all (fun a => bs.all (fun b =>
    decide ((m : Int) ≤ pairClear a.2.2 b.2.2 (a.2.1.radius + b.2.1.radius)
      (inflation x.desc a.2.1 smp i + windowDisp o.1 b.2.1 o.2.2 w j + fkAllow))))

/-- A path of robot x passes the commit check against every lower-index robot. -/
def State.commitOk (s : State) (p : PassRun) (x : PassRobot) (r : Res) : Bool :=
  (rangeFrom 0 x.robot).all (fun b =>
    match s.checkPath p b with
    | none => true
    | some o =>
      (rangeFrom 0 (max r.cand.smp.length o.2.2.length)).all (fun k =>
        checkStep x r.cand.smp o p.win (max (p.pmargin x.robot) (p.pmargin b)) k))

/-- The path a robot commits: the first of its commit list that passes. -/
def State.commitChoice (s : State) (p : PassRun) (x : PassRobot) : Option Res :=
  if x.state.isNone || p.epoch.isNone then none else x.commitList.find? (fun r => s.commitOk p x r)

/-- The status of a robot's result (Table CYC-4). -/
def PassRun.resultStatus (p : PassRun) (x : PassRobot) (got : Option Res) : Status :=
  if p.closed = some .abortHost then .abortHost
  else if p.groups.isEmpty then .unitOut
  else if p.epoch.isNone || x.state.isNone then .dataFault
  else if p.closed = some .superseded then .superseded
  else if got.isNone then .noClear
  else if p.closed = some .timeoutBest then .timeoutBest else .ok

/-! ## Pass results (R23, R339) -/

/-- Points of eight words each, `n` of them; missing joints and points are zero. -/
def pointBytes (n : Nat) (pts : List (List Int)) : List Byte :=
  (rangeFrom 0 n).flatMap (fun c => (rangeFrom 0 8).flatMap (fun j => leBytes 4 (enc 32 (ith (nth [] pts c) j))))

/-- The record of a robot (Table HST-5) with a value for its CRC. -/
def State.passRecord (s : State) (p : PassRun) (x : PassRobot) (st : Status) (got : Option Res) (swept unswept crc : Nat) : List Byte :=
  let w1 := x.nj * 2 ^ 20 + (match got with
    | some r => 1 + r.cand.form % 2 * 2 + (if r.cand.src = 3 then 4 else 0) + r.cand.smp.length % 128 * 2 ^ 8 +
        r.cand.cps.length % 16 * 2 ^ 16 + r.cand.src % 4 * 2 ^ 24
    | none => 0)
  let f (g : Res → Nat) : Nat := match got with | some r => g r | none => 0
  leBytes 4 (0x5052 + x.robot % 4 * 2 ^ 16 + statusCode st * 2 ^ 24) ++ leBytes 4 w1 ++ leBytes 4 p.seq ++
    leBytes 4 (match x.state with | some v => v.2.2 | none => 0) ++ leBytes 4 (match p.epoch with | some e => e.num | none => 0) ++
    leBytes 4 (f (fun r => r.cand.index % 2 ^ 17)) ++ leBytes 8 p.gate ++ leBytes 8 s.now ++ leBytes 4 (f (·.cost)) ++
    leBytes 4 (f (fun r => enc 16 r.minclr + r.sample % 64 * 2 ^ 16 + r.sphere % 128 * 2 ^ 22 + r.kind % 8 * 2 ^ 29)) ++
    leBytes 4 (f (fun r => r.cand.tag)) ++ leBytes 4 swept ++ leBytes 4 unswept ++ leBytes 4 crc ++
    pointBytes 8 (match got with | some r => r.cand.cps | none => []) ++ pointBytes 64 (match got with | some r => r.cand.smp | none => [])

/-- A robot's result is written to its ring. -/
def State.deliver_ (s : State) (p : PassRun) (x : PassRobot) (st : Status) (got : Option Res) : State :=
  let (sw, s1) := s.fits 18 x.swept
  let (un, s2) := s1.fits 18 (x.total - x.swept)
  let crc := crc32 (s2.passRecord p x st got sw un 0)
  s2.prPush x.robot (s2.passRecord p x st got sw un crc)

/-- Show the counts of a delivered pass for robot r. -/
def State.publishRobot (s : State) (p : PassRun) (r : Nat) : State :=
  let x := p.robotOf r
  let n (f : PassRobot → Nat) : Nat := match x with | some y => f y | none => 0
  let best : Option Res := x.bind (fun y => y.top.head?)
  let b (f : Res → Nat) : Nat := match best with | some y => f y | none => 0
  let (l, s1) := s.fits 6 (n (fun y => y.commitList.length))
  let (a0, s2) := s1.fits 18 (n (fun y => y.counts.1))
  let (a1, s3) := s2.fits 18 (n (fun y => y.counts.2.1))
  let (a2, s4) := s3.fits 18 (n (fun y => y.counts.2.2.1))
  let (a3, s5) := s4.fits 18 (n (fun y => y.counts.2.2.2))
  let (a4, s6) := s5.fits 18 (n (fun y => y.total - y.swept))
  (((((((((s6.wr (A.swpRBest r) (b (fun y => y.cand.index % 2 ^ 17 + 2 ^ 17 + y.cand.src % 4 * 2 ^ 18))).wr
    (A.swpRBestCost r) (b (·.cost))).wr (A.swpRMinClr r) (b (fun y => enc 16 y.minclr))).wr (A.swpRList r) l).wr
    (A.swpRNOk r) a0).wr (A.swpRNNoclr r) a1).wr (A.swpRNUnder r) a2).wr (A.swpRNFault r) a3).wr (A.swpRNUnswept r) a4)

/-- A PASS_BOUND barge that has not retired names gate `n`. -/
def State.gateNamed (s : State) (n : Nat) : Bool :=
  (s.dsp.ready ++ s.dsp.waiting ++ s.dsp.engines.flatMap (fun e => (e.run.toList ++ e.saved).flatMap (fun c =>
    c.barge :: (match c.given with | some g => [g.1] | none => [])))).any (fun b => b.passBound && b.gate = some n)

/-- The results of a pass are delivered: counts, and what the pass held is let go (R15, R16, R175, R178). -/
def State.passOver (s : State) : State :=
  match s.pass.cur with
  | none => s
  | some p =>
    let s1 := (rangeFrom 0 4).foldl (fun t r => t.publishRobot p r) s
    let (n, s2) := s1.fits 18 p.records
    let (a, s3) := s2.fits 18 (p.robots.map (·.swept)).sum
    let (b, s4) := s3.fits 18 (p.robots.map (fun x => x.total - x.swept)).sum
    let t := match p.lastAt with | some u => (u - p.gate) / 10 | none => 0
    let s5 := ((((s4.wr A.swpResCnt n).wr A.swpSwept a).wr A.swpUnswept b).wr A.swpSweepTime (t % 2 ^ 24)).wr A.wldPinPass 0
    let keep := (if p.swept then [p.num] else []) ++ s5.pass.sweptIn
    let ps : PassState := { s5.pass with isOpen := false, cur := none, sweptIn := keep.filter s5.gateNamed }
    ({ s5 with pass := ps }.setBusy 0x50000 false).retire

/-! ## Gate close (R25, R26, R29, R77) -/

/-- PASS work of the solver and charge arrays ends with its gate (R195, R200, R218). -/
def State.gateWorkEnds (s : State) (num : Nat) (abort : Bool) : State := (s.solGateClose num abort).chgGateClose num abort

/-- The gate closes by a cause other than commit and abort: the pass stops where it stands. -/
def State.closeGate (s : State) (c : Status) : State :=
  match s.pass.cur with
  | none => s
  | some p =>
    if !s.pass.isOpen then s
    else
      let ps : PassState := { s.pass with isOpen := false, cur := some { p with closed := some c } }
      (({ s with pass := ps }.gateWorkEnds p.num false).sweepStop).closeSteps

/-- A supersede. -/
def State.supersede (s : State) : State := (s.bump32 A.towSupersedeCnt 1).closeGate .superseded

/-- A pass open takes effect (R29, R77); while the device is tripped it only counts (R412). -/
def State.passOpened (s : State) : State :=
  if s.tripped then s.bump A.thmTripOpens
  else if s.pass.waiting then s.passOvr
  else
    let s1 := if s.pass.isOpen then s.supersede else s
    let ps : PassState := { s1.pass with waiting := true }
    { s1 with pass := ps }

/-- The oldest pass open meets its DCLK edge; a gate close of the same tick meets the same edge. -/
def State.passOpenRequest (s : State) : State :=
  match s.req.opens with
  | [] => s
  | t :: rest =>
    let both := s.req.closes.contains t
    let rq : PassReq := { s.req with opens := rest, closes := s.req.closes.filter (fun u => u ≠ t) }
    let s1 := { s with req := rq }
    let s2 := if both && !s.pass.isOpen then s1.closeIdle else s1
    s2.passOpened.quietEdge 0x10000 (s.busy 0x10000)

/-- The oldest gate close meets its DCLK edge; with a pass open of the same tick it acts as a supersede. -/
def State.closeRequest (s : State) : State :=
  match s.req.closes with
  | [] => s
  | t :: rest =>
    if s.req.opens.contains t && s.req.opens.head? = some t then s.passOpenRequest
    else
      let rq : PassReq := { s.req with closes := rest }
      let s1 := { s with req := rq }
      (if s.pass.isOpen then s1.closeGate .timeoutBest else s1.closeIdle).quietEdge 0x10000 (s.busy 0x10000)

/-- The pass deadline falls (R17); a pass open that is due on the same edge makes it a supersede. -/
def State.passDeadline (s : State) : State :=
  match s.pass.cur with
  | none => s
  | some p =>
    if !s.pass.isOpen || s.now < p.gate + p.len * 1000 then s
    else match s.req.opens with
      | t :: _ => if t + 20 ≤ s.now then s.passOpenRequest else s.closeGate .timeoutBest
      | [] => s.closeGate .timeoutBest

/-- Commits of an aborted pass are withdrawn. -/
def State.undoCommits (s : State) (p : PassRun) : State :=
  let l := p.undo.foldl (fun (l : List (Option (Option PathRec))) u => upd (fun _ => u.2) l u.1) s.pass.next
  let ps : PassState := { s.pass with next := l }
  { s with pass := ps }

/-- Host software aborts the running pass, also one whose gate has closed and whose commit still runs: nothing is committed, and
every robot reports ABORT_HOST, in a further record where it has been decided (R25, R26, R27, R159, R200, R277, R342). -/
def State.passAbort (s : State) : State :=
  match s.pass.cur with
  | none => s
  | some p =>
      let q : PassRun := { p with closed := some .abortHost, running := none, waiting := [] }
      let ps : PassState := { s.pass with isOpen := false, cur := some q }
      let s1 := ({ s with pass := ps }.gateWorkEnds p.num true).sweepStop
      let s2 := (p.running.toList ++ p.waiting).foldl (fun t st => t.stepEnded st.by_ (statusCode .abortHost) 0) s1
      let s3 := (s2.flushWhere (fun b => b.passBound)).settle
      ((p.robots.foldl (fun t x => t.deliver_ q x .abortHost none) s3).undoCommits p).passOver

/-! ## The commit step -/

/-- Commit is complete: it closes the gate unless another cause has, hands the paths on and ends the pass (R23, R25, R294). -/
def State.commitOver (s : State) : State :=
  match s.pass.cur with
  | none => s
  | some p =>
    let st := p.stepStatus
    let done := robotMask ((p.decided.filter (fun d => d.2.isSome)).map (·.1))
    let s1 :=
      if p.closed.isSome then s
      else
        let ps : PassState := { s.pass with isOpen := false, cur := some { p with closed := some .ok } }
        { s with pass := ps }.gateWorkEnds p.num false
    let s2 := match p.running with | some x => s1.stepEnded x.by_ st done | none => s1
    let end_ := if p.closed.isSome then st else statusCode .expired
    let s3 := p.waiting.foldl (fun t x => t.stepEnded x.by_ end_ 0) s2
    let hand (h : List (Option (PathRec × Nat × Nat))) (d : Nat × Option Res) : List (Option (PathRec × Nat × Nat)) :=
      match (if p.gone.contains d.1 then none else d.2), p.robotOf d.1 with
      | some r, some x => upd (fun _ => some ({ res := r, tc := p.gate, desc := x.desc, set := x.set }, s.now, s.itime)) h d.1
      | _, _ => h
    let ps : PassState := { s3.pass with handed := p.decided.foldl hand s3.pass.handed }
    { s3 with pass := ps }.passOver

/-- One robot's commit decision: its path, its record, and its path from the next gate open (R22, R171, R340). -/
def State.commitRobot (s : State) (p : PassRun) (x : PassRobot) : State :=
  let got := s.commitChoice p x
  let old := nth none s.pass.next x.robot
  let s1 := s.setRun_ (fun q => { q with decided := q.decided ++ [(x.robot, got)] })
  let s2 := match got with
    | some r =>
      let k : PathRec := { res := r, tc := p.gate, desc := x.desc, set := x.set }
      let ps : PassState := { s1.pass with next := upd (fun _ => some (some k)) s1.pass.next x.robot }
      { s1 with pass := ps }.setRun_ (fun q => { q with undo := q.undo ++ [(x.robot, old)] })
    | none => s1
  s2.deliver_ p x (p.resultStatus x got) got

/-- Commit decides the next robot in index order; after the last one it is complete. -/
def State.commitStep (s : State) : State :=
  match s.pass.cur with
  | none => s
  | some p =>
    match p.running with
    | none => s
    | some st =>
      if st.kind ≠ .commit then s
      else
        let left := p.robots.filter (fun x => !p.decided.any (fun d => d.1 = x.robot))
        match left with
        | [] => s.commitOver
        | [x] => (s.commitRobot p x).commitOver
        | x :: _ => s.commitRobot p x

/-! ## Meanings -/

/-- A pass open takes effect on its DCLK edge. -/
def execPassOpenRequest (s : State) : Host.Outcome State Fault Refusal := .next s.passOpenRequest

/-- A waiting pass open goes without effect (R412). -/
def State.dropOpen (s : State) : State :=
  let ps : PassState := { s.pass with waiting := false }
  { s with pass := ps }.bump A.thmTripOpens

/-- The gate opens for the pass open that waits, once no other pass runs (R15). -/
def execGateOpen (s : State) : Host.Outcome State Fault Refusal :=
  .next (if s.pass.waiting && s.pass.cur.isNone then (if s.tripped then s.dropOpen else s.openGate) else s)

def execPassDeadline (s : State) : Host.Outcome State Fault Refusal := .next s.passDeadline

def execCloseGateRequest (s : State) : Host.Outcome State Fault Refusal := .next s.closeRequest

/-- One robot's turn in the commit that runs. -/
def execPassCommit (s : State) : Host.Outcome State Fault Refusal := .next (if s.datapath then s.commitStep else s)

end Sys2Proof.Machine
end

