-- ==== Sys2Proof/Machine/Svc.lean ====
section
/-!
DEFINITION. The service-state machine of every unit, and what the fabric makes of the links and the node themselves (R353 to R359,
R371 to R377, R526).
-/
namespace Sys2Proof.Machine

/-! ## Units -/

/-- The page that records a unit's errors, its interrupt bit of a mismatch, and its codes of a failed test and SHADOW run. -/
def unitErrPage : SvcUnit → Nat
  | .cluster _ => 0x200000
  | u => unitPage u
def unitMmBit : SvcUnit → Nat
  | .lane _ => 8
  | .solver _ => 8
  | _ => 11
def unitTestCode : SvcUnit → Nat
  | .link _ => 0x0102
  | .node => 0x0102
  | _ => 0x0006
def unitShadowCode : SvcUnit → Nat
  | .link _ => 0x0103
  | .node => 0x0103
  | _ => 0x0007

/-- The service state of a unit. -/
def State.unitSvc (s : State) (u : SvcUnit) : Nat :=
  match u with
  | .node => s.nodeSvc
  | u => s.svc (unitPage u)

/-- AQD_NODES_UP of a node; NODES counts the bits. -/
def State.setNodeUp (s : State) (n : Nat) (up : Bool) : State :=
  let s1 := s.wrb (A.aqdNodesUp (n / 32)) (n % 32) up
  s1.wrf A.aqdNodeStat 8 8 s1.nodesUp.length

/-- The payload of an LSTATE of this node: the node, its links up, and whether it has left service; one that drains has not (R372, R375). -/
def State.lstatePay (s : State) : List Nat := [s.ownNode, s.linksOfNode s.ownNode, if s.nodeSvc ≤ 1 then 1 else 0]

/-- Tell every node that a packet reaches which links are up and whether the node is in service (R359). -/
def State.lstateSend (s : State) : State := s.nodesReached.foldl (fun t n => t.control n 0x02 s.lstatePay) s

/-- The node's service state changes. -/
def State.setNodeSvc (s : State) (new cause : Nat) : State :=
  let old := s.nodeSvc
  if old = new then s
  else
    let s1 := ((s.wrf A.aqdNodeStat 0 3 new).raise 0x320000 21).fleetEvent 5
      ([0x0E, 0] ++ beBytes 2 0 ++ [BitVec.ofNat 8 old, BitVec.ofNat 8 new, BitVec.ofNat 8 cause, 0])
    (s1.setNodeUp s.ownNode (decide (new ≤ 1))).lstateSend

/-- A unit's service state changes; every engine page of a cluster shows it (R274). -/
def State.setUnitSvc (s : State) (u : SvcUnit) (new cause : Nat) : State :=
  match u with
  | .node => s.setNodeSvc new cause
  | .cluster c =>
    let es := (rangeFrom (c * 16) 16).filter (fun e => e ≠ 63 && e ≠ c.val * 16)
    (es.foldl (fun t e => (t.wrf (enginePage e + 0x00C) 2 3 new).raise (enginePage e) 4) s).setSvc (enginePage (c * 16)) new cause
  | u => s.setSvc (unitPage u) new cause

/-! ## Links (R353, R354, R371, R377) -/

/-- A change in which links are up: new routes here, and an LSTATE to every member (R359). -/
def State.linksChanged (s : State) : State := (s.raise 0x320000 18).lstateSend

/-- TRAIN of a link. -/
def State.train (s : State) (n : Nat) : Nat := s.rdf (A.aqdLStat n) 0 2

/-- A link stops: nothing of its state stands. -/
def State.linkStop (s : State) (n : Nat) (cause : Nat) : State :=
  let was := s.linkUp n
  let s1 := (s.wr (A.aqdLStat n) 0).setSvc (linkPage n) 2 cause
  let s2 := { s1 with aqd := { s1.aqd with
    resent := s1.aqd.resent.filter (fun x => x.1 ≠ n), retry := s1.aqd.retry.filter (fun x => x.1 ≠ n) } }
  (if was then s2.linksChanged else s2).quietEdge (linkPage n) (s.busy (linkPage n))

/-- A link that is in TESTING and neither trains nor is tested yet. -/
def State.linkIdle (s : State) (n : Nat) : Bool := s.svc (linkPage n) = 3 && s.train n = 0

/-- A link leaves OUT_OF_SERVICE for TESTING; it trains while EN and FABRIC_EN are 1 and the topology can form, and one that reached TESTING
by a request before that trains from then on (R353, R373, R377).  A link whose page is disabled or quiesced starts no work (R51, R52). -/
def State.linkStart (s : State) (n cause : Nat) : State :=
  let on : Bool := s.rdb (A.aqdLCfg n) 0 && s.rdb A.aqdNode 8
  if (s.svc (linkPage n) ≠ 2 && !(on && s.linkIdle n)) || !s.pageOpen (linkPage n) then s
  else if s.badTopo then s.pageErr 0x320000 0x0110 0
  else (s.starting (linkPage n) (fun t => t.wr (A.aqdLStat n) (if on then 1 else 0))).setSvc (linkPage n) 3 cause

/-- A link that starts by itself when EN and FABRIC_EN are both 1: it has not gone down since EN was written to 1, or waits in TESTING. -/
def State.linkSelf (s : State) (n : Nat) : State :=
  if s.rdb (A.aqdLCfg n) 0 && s.rdb A.aqdNode 8 && (!s.aqd.fallen.contains n || s.linkIdle n) then s.linkStart n 1 else s

/-- A link that trains or is tested stops doing so while EN or FABRIC_EN is 0; it stays in TESTING (R353, R376). -/
def State.trainStop (s : State) (n : Nat) : State :=
  if s.svc (linkPage n) = 3 && s.train n ≠ 0 then (s.wr (A.aqdLStat n) 0).quietEdge (linkPage n) (s.busy (linkPage n)) else s

/-- The write of AQD_L_CFG. -/
def State.linkCfg (s : State) (n old v : Nat) : State :=
  let off (l : List Nat) : List Nat := if tbit v 0 then l else l.filter (fun k => k ≠ n)
  let s1 := { s with aqd := { s.aqd with fallen := off s.aqd.fallen } }
  if tbit v 0 then (if tbit old 0 then s1 else s1.linkSelf n) else s1.trainStop n

/-- The HELLO of a link: node, link number, AQD_TOPO and WLD_ORIGIN. -/
def State.helloOn (s : State) (n : Nat) : State :=
  s.sendOn n { dst := s.rdf (A.aqdLStat n) 8 7, kind := 5, len := 3, op := 0x01 }
    [s.ownNode, n, s.rd A.aqdTopo, s.rd (A.wldOrigin 0), s.rd (A.wldOrigin 1), s.rd (A.wldOrigin 2)]

/-- Training ends, its PLL locked, with a mask of the lanes that have trained, from the presets of the SERDES record (R246, R352). -/
def State.trained (s0 : State) (n lanes : Nat) : State :=
  if s0.svc (linkPage n) ≠ 3 || s0.train n ≠ 1 || s0.rdf (A.aqdLStat n) 24 8 ≠ 0 then s0
  else
    let s := (s0.serdesTrain n).wrb A.clkPllLock (11 + n) true
    let half := s.rdb (A.aqdLCfg n) 1
    let use := if lanes % 256 = 255 then 255 else if half && lanes % 16 = 15 then 15 else if half && fld lanes 4 4 = 15 then 240 else 0
    if use = 0 then (s.linkStop n 1).pageErr (linkPage n) 0x0101 0
    else ((s.wrb (A.aqdLStat n) 2 (use ≠ 255)).wrf (A.aqdLStat n) 24 8 use).helloOn n

/-- A packet of a node has come over a link. -/
def State.heardFrom (s : State) (l node : Nat) : State :=
  let s1 := s.bump32 (A.aqdLRx l) 1
  { s1 with aqd := { s1.aqd with heard := (node, s1.now) :: s1.aqd.heard.filter (fun x => x.1 ≠ node) } }

/-- A message or request of a node comes over a link, and `f` is what it does.  A link that is not IN_SERVICE carries only HELLO and its own
test traffic: whatever else comes over it is not taken (R377). -/
def State.hears (s : State) (l node : Nat) (f : State → State) : State := if s.linkUp l then f (s.heardFrom l node) else s

/-- WLD_ORIGIN of the peer agrees modulo 256 mm with the own one (R356). -/
def State.viewFits (s : State) (o : Nat × Nat × Nat) : Bool :=
  let fits (k v : Nat) : Bool := decide ((sgn 32 (s.rd (A.wldOrigin k)) - sgn 32 v) % (256 * 4096) = 0)
  fits 0 o.1 && fits 1 o.2.1 && fits 2 o.2.2

/-- A HELLO arrives, and `corr` codewords have been corrected on the link since the last one: the origin of the node's view is known from
then on, and a link that trains learns its peer, or stays down. -/
def State.hello (s : State) (l node plink corr : Nat) (o : Nat × Nat × Nat) : State :=
  let s0 := (s.bump32 (A.aqdLFecCorr l) corr).heardFrom l node
  let s1 := { s0 with aqd := { s0.aqd with
    views := (node, sgn 32 o.1, sgn 32 o.2.1, sgn 32 o.2.2) :: s0.aqd.views.filter (fun x => x.1 ≠ node) } }
  if s.svc (linkPage l) ≠ 3 || s.train l ≠ 1 || s.rdf (A.aqdLStat l) 24 8 = 0 then s1
  else if node = s.ownNode then (s1.linkStop l 1).pageErr 0x320000 0x0112 0
  else if s.linkPeer s.ownNode l ≠ some (node, plink) then
    ((s1.linkStop l 1).pageErr (linkPage l) 0x0100 0).raise (linkPage l) 10
  else if !s.viewFits o then (s1.linkStop l 1).pageErr 0x320000 0x0111 0
  else
    let s2 := ((s1.wrf (A.aqdLStat l) 0 2 2).wrf (A.aqdLStat l) 8 7 node).wrf (A.aqdLStat l) 16 3 plink
    { s2 with aqd := { s2.aqd with testFrom := (l, s2.now) :: s2.aqd.testFrom.filter (fun x => x.1 ≠ l) } }

/-! ## Entering SHADOW and leaving it -/

/-- A unit enters SHADOW: its figures and copies clear and SHADOW_N is read. -/
def State.enterShadow (s : State) (u : SvcUnit) (cause : Nat) : State :=
  let n := max 1 (s.rdf A.aqdSvcCfg 0 16)
  let p := unitReq u
  let s1 := { s with aqd := { s.aqd with
    shadowN := (p, n) :: s.aqd.shadowN.filter (fun x => x.1 ≠ p), copies := s.aqd.copies.filter (fun x => x.1 ≠ u)
    peers := s.aqd.peers.filter (fun x => x.1 ≠ u), nodePeer := (match u with | .node => none | _ => s.aqd.nodePeer) } }
  ((((s1.wr (unitMm u) 0).wr (unitCnt u) 0)).setUnitSvc u 4 cause).peerKeep u

/-- SHADOW_N of a unit's run. -/
def State.shadowOf (s : State) (u : SvcUnit) : Nat :=
  match s.aqd.shadowN.find? (fun x => x.1 = unitReq u) with | some x => x.2 | none => 1

/-- WLD_ORIGIN of node 0: the own one, the one its HELLO has brought, or one that the outside has and this node has not been told (log entry 130). -/
def State.originZero (s : State) : Int × Int × Int :=
  if s.ownNode = 0 then s.origin
  else match s.aqd.views.find? (fun x => x.1 = 0) with
    | some x => x.2
    | none => (Config.nodeZeroOrigin 0, Config.nodeZeroOrigin 1, Config.nodeZeroOrigin 2)

/-- The offset of a view from node 0's, in regions of 256 mm (R356). -/
def State.offsetOf (s : State) (o : Int × Int × Int) : Int × Int × Int :=
  let z := s.originZero
  ((o.1 - z.1) / 2 ^ 20, (o.2.1 - z.2.1) / 2 ^ 20, (o.2.2 - z.2.2) / 2 ^ 20)
def State.viewOff (s : State) : Int × Int × Int := s.offsetOf s.origin

/-- The fabric region of a region of a view at an offset, 16 bits an axis (R356, log entry 130). -/
def fabRegion (o : Int × Int × Int) (r : Nat) : Nat :=
  (((r % 16 : Nat) + o.1) % 65536).toNat + (((r / 16 % 16 : Nat) + o.2.1) % 65536).toNat * 2 ^ 16 + (((r / 256 : Nat) + o.2.2) % 65536).toNat * 2 ^ 32

/-- The region of a view at an offset that is a fabric region, if the view holds it. -/
def ownRegion (o : Int × Int × Int) (f : Nat) : Option Nat :=
  let x := (((fld f 0 16 : Nat) - o.1) % 65536).toNat
  let y := (((fld f 16 16 : Nat) - o.2.1) % 65536).toNat
  let z := (((fld f 32 16 : Nat) - o.2.2) % 65536).toNat
  if x < 16 && y < 16 && z < 8 then some (x + 16 * y + 256 * z) else none

/-- The fabric directory index of a coarse brick: the brick within its region, and the fabric region from bit 9 on. -/
def fabBrick (o : Int × Int × Int) (i : Nat) : Nat :=
  fld i 0 7 % 8 + fld i 7 7 % 8 * 8 + fld i 14 6 % 8 * 64 + fabRegion o (brickRegion i) * 2 ^ 9

/-- The coarse brick of the own view that a fabric directory index names. -/
def ownBrick (o : Int × Int × Int) (f : Nat) : Option Nat :=
  (ownRegion o (f / 2 ^ 9)).map (fun r => (r % 16 * 8 + f % 8) + (r / 16 % 16 * 8 + f / 8 % 8) * 128 + (r / 256 * 8 + f / 64 % 8) * 16384)

/-- The homes whose directories a node needs: those named by its working region table (R375). -/
def State.homesOf (s : State) : List Nat :=
  match s.wld.working with
  | some e => (e.regions.map (fun r => fld r 48 7)).foldl (fun l n => if n = s.ownNode then l else setIns n l) []
  | none => []

/-- A node that is tested asks for directories once every enabled link is in service (R375 step 2). -/
def State.nodeTest (s : State) : State :=
  let on := (rangeFrom 0 8).filter (fun n => s.rdb (A.aqdLCfg n) 0)
  if s.nodeSvc ≠ 3 || s.aqd.sync.isSome || on.isEmpty || on.any (fun n => !s.linkUp n) then s
  else
    let homes := s.homesOf
    let s1 := { s with aqd := { s.aqd with sync := some homes } }
    homes.foldl (fun t n => t.control n 0x0D (((rangeFrom 0 2048).filter (fun r =>
      match t.wld.working with | some e => fld (nth 0 e.regions r) 48 7 = n | none => false)).map (fabRegion s.viewOff))) s1

/-- A unit joins: IN_SERVICE, or WEARING for a worn array (R373). -/
def State.joinService (s : State) (u : SvcUnit) : State :=
  match u with
  | .array a => s.setUnitSvc u (if 90000 ≤ (s.arr a).top.1 then 5 else 0) 1
  | .link n => ((((((s.wrf (A.aqdLStat n) 0 2 3).setUnitSvc u 0 1).raise (linkPage n) 8).linksChanged).nodeTest)).quietEdge (linkPage n)
      (s.busy (linkPage n))
  | u => s.setUnitSvc u 0 1

/-- A unit fails its test or its SHADOW run; PAGE_ERR_INFO names an engine cluster (R54). -/
def State.unitFails (s : State) (u : SvcUnit) (code : Nat) : State :=
  let s1 := match u with
    | .link n => s.linkStop n 1
    | u => s.setUnitSvc u 2 1
  s1.pageErr (unitErrPage u) code (match u with | .cluster c => c.val | _ => 0)

/-- A work item has been compared (R526). -/
def State.itemCompared (s : State) (u : SvcUnit) (same : Bool) : State :=
  let s1 := s.bump32 (unitCnt u) 1
  if !same then ((s1.bump (unitMm u)).raise (unitErrPage u) (unitMmBit u)).unitFails u (unitShadowCode u)
  else if s.shadowOf u ≤ s1.rd (unitCnt u) then s1.joinService u else s1

/-- The copy that a unit has run agrees with what its peer's work gave: the d values that an array has found, which `peer` holds before those of
the peer, within CHG_SHADOW_TOL codes (R229), all else exactly (R181, R203, R275). -/
def State.copyAgrees (s : State) (u : SvcUnit) (own peer : List Int) : Bool :=
  match u with
  | .array _ =>
    let n := peer.length / 2
    ((peer.take n).zip (peer.drop n)).all (fun x => (x.1 - x.2).natAbs ≤ s.rdf A.chgShadowTol 0 4)
  | _ => own == peer

/-- No resident block is held by both an array and its peer, so that its work items are reference slots (R229). -/
def State.noneShared (s : State) (a : Nat) : Bool :=
  match s.peerOf (.array (Fin.ofNat 256 a)) with
  | some (.array b) => (s.chg.models.flatMap (·.2.tiles)).all (fun t => t.array ≠ b.val || !s.sharesBlock a t)
  | _ => false

/-- As the peer of a node in SHADOW this node evaluates a block of queries at points that it picks against an epoch that it pins, in idle gaps,
and sends points and results (R375 step 3); the spec does not say how it picks them. -/
def State.queryBlock (s : State) (dst : Nat) (pts : List (Int × Int × Int)) : State :=
  if s.nodeSvc ≠ 0 || s.nodeUp dst || dst = s.ownNode then s
  else match s.ownPins with
    | [] => s
    | k :: _ => match s.epoch k with
      | none => s
      | some e =>
        let qs := pts.map (fun p => s.field e p)
        let coord (v : Int) : Nat := (v % 2 ^ 32).toNat
        (qs.foldl (fun t q => t.note 5 7 q.2) s).control dst 0x0E
          (k :: pts.flatMap (fun p => [coord p.1, coord p.2.1, coord p.2.2]) ++ qs.map (fun q => d16 (q.1 / fieldOne)))

/-- A work item of a unit in SHADOW completes (R526; log entry 222): the copy of the peer's oldest work not compared yet, a dedicated
reference slot of an array, or a test packet of a link or a query block of the node, which others have compared.  `block` is the work of
this node for another one in SHADOW. -/
def State.shadowItem (s : State) (u : SvcUnit) (w : ShadowWork) : State :=
  match w, u with
  | .block dst pts, .node => s.queryBlock dst pts
  | w, u =>
    if s.unitSvc u ≠ 4 || !s.hasPeer u then s
    else match w, u with
      | .copy own, _ =>
        (match takeCopy u s.aqd.copies with
         | some (peer, rest) => { s with aqd := { s.aqd with copies := rest } }.itemCompared u (s.copyAgrees u own peer)
         | none => s)
      | .slot codes, .array a => if s.noneShared a then s.itemCompared u (s.refClean a codes) else s
      | .generated same, .link _ => s.itemCompared u same
      | .generated same, .node => s.itemCompared u same
      | _, _ => s

/-! ## Requests (R373) -/

/-- The blocked TAKEs of a draining cluster return empty (R274). -/
def State.takesEnd (s : State) (c : Nat) : State :=
  (rangeFrom (c * 16) 16).foldl (fun t e =>
    if e = 63 then t
    else match (t.eng e).run with
      | some x => (match x.wait with | .take rd _ _ _ _ _ => t.takeReturns e rd 0 | _ => t)
      | none => t) s

/-- The node homes no region that an alive epoch refers to: a draining node goes OUT_OF_SERVICE (R375). -/
def State.nodeDrained (s : State) : State :=
  if s.nodeSvc = 1 && !s.wld.alive.any (fun e => e.regions.any (fun r => fld r 48 7 = s.ownNode)) then s.setNodeSvc 2 1 else s

/-- A unit that has begun to drain leaves service at once when it holds no work. -/
def State.drainStart (s : State) (u : SvcUnit) : State :=
  match u with
  | .lane g =>
    (match s.pass.cur with
     | some p => if (nth none p.jobs g).isSome then s else s.drained (lgPage g)
     | none => s.drained (lgPage g))
  | .solver g => s.solDrop g
  | .array a => s.arrDrained a
  | .cluster c => (s.takesEnd c).clusterDrained c
  | .link n => s.linkStop n 0
  | .node => s.nodeDrained

/-- A request for TESTING is refused (R223, R245). -/
def State.testRefused (s : State) (u : SvcUnit) : Bool :=
  match u with
  | .array a => 100000 ≤ (s.arr a).top.1 || !s.dieOk a
  | _ => false

/-- A request written to a SVC_REQ register has its effect on the unit. -/
def State.svcMove (s : State) (u : SvcUnit) (v : Nat) : State :=
  let cur := s.unitSvc u
  let r := v % 8
  if r = 0 then s
  else if (r = 1 || r = 2) && (cur = 0 || cur = 5) then (s.setUnitSvc u 1 0).drainStart u
  else if (r = 1 || r = 2) && (cur = 3 || cur = 4) then
    match u with
    | .link n => s.linkStop n 0
    | u => s.setUnitSvc u 2 0
  else if r = 3 && cur = 2 && !s.testRefused u then
    match u with
    | .link n => s.linkStart n 0
    | .node => ({ s with aqd := { s.aqd with testAt := s.now, sync := none } }.setNodeSvc 3 0).nodeTest
    | u => s.setUnitSvc u 3 0
  else s.bump A.aqdSvcIgnored

/-- A request written to a SVC_REQ register; a unit that no longer qualifies as a peer is replaced (R373, R374). -/
def State.svcRequest (s : State) (u : SvcUnit) (v : Nat) : State := (s.svcMove u v).peersFollow

/-- The test of a lane group, solver group, array or cluster is over. -/
def State.unitTested (s : State) (u : SvcUnit) (ok : Bool) : State :=
  if s.unitSvc u ≠ 3 then s
  else match u with
    | .link _ => s
    | .node => s
    | u => if ok then s.enterShadow u 1 else s.unitFails u (unitTestCode u)

/-- The test patterns of a link have run for AQD_L_TEST_US. -/
def State.linkTested (s : State) (n : Nat) (ok : Bool) : State :=
  let from_ := match s.aqd.testFrom.find? (fun x => x.1 = n) with | some x => x.2 | none => 0
  if s.svc (linkPage n) ≠ 3 || s.train n ≠ 2 || s.now < from_ + max 1 (s.rdf (A.aqdLTestUs n) 0 24) * 1000 then s
  else if ok then s.enterShadow (.link (Fin.ofNat 8 n)) 1 else s.unitFails (.link (Fin.ofNat 8 n)) 0x0102

/-- How often the packet at the head of a link's retry buffer has been sent again. -/
def State.resends (s : State) (n : Nat) : Nat := match s.aqd.resent.find? (fun x => x.1 = n) with | some x => x.2 | none => 0

/-- A link goes down. -/
def State.linkDown (s : State) (n : Nat) : State :=
  if s.train n = 0 then s
  else
    let l := if s.rdb (A.aqdLCfg n) 0 then setIns n s.aqd.fallen else s.aqd.fallen
    let s1 := { s with aqd := { s.aqd with fallen := l } }
    ((s1.bump (A.aqdLDownCnt n)).raise (linkPage n) 9).linkStop n 1

/-! ## Node registers -/

/-- The write of AQD_NODE: FABRIC_EN starts the links that are enabled, and while it is 0 no link trains (R376, R377). -/
def State.nodeWrite (s : State) (old v : Nat) : State :=
  let s1 := if tbit v 9 then s else { s with aqd := { s.aqd with homeOut := false } }
  if !tbit v 8 then (rangeFrom 0 8).foldl (fun t n => t.trainStop n) s1
  else if !tbit old 8 then (rangeFrom 0 8).foldl (fun t n => t.linkSelf n) s1
  else s1

/-- The write of AQD_TOPO. -/
def State.topoWrite (s : State) : State := if s.badTopo then s.pageErr 0x320000 0x0110 0 else s

/-! ## Meanings -/

def execLinkTrainingDone (n : Fin 8) (lanes : Nat) (s : State) : Host.Outcome State Fault Refusal := .next (s.trained n lanes)
def execLinkTestDone (n : Fin 8) (ok : Bool) (s : State) : Host.Outcome State Fault Refusal := .next (s.linkTested n ok)
def execLinkDown (n : Fin 8) (s : State) : Host.Outcome State Fault Refusal := .next (s.linkDown n)
def execHelloMsg (l : Fin 8) (node : Fin 128) (plink : Fin 8) (ox oy oz corr : Nat) (s : State) : Host.Outcome State Fault Refusal :=
  .next (s.hello l node plink corr (ox, oy, oz))
def execUnitTestDone (u : SvcUnit) (ok : Bool) (s : State) : Host.Outcome State Fault Refusal := .next (s.unitTested u ok)
def execShadowItem (u : SvcUnit) (w : ShadowWork) (s : State) : Host.Outcome State Fault Refusal := .next (s.shadowItem u w)

/-- The retry buffers after the far end of link `n` has acknowledged its oldest `k` packets. -/
def acked (n : Nat) : Nat → List (Nat × List Nat × List Nat) → List (Nat × List Nat × List Nat)
  | _, [] => []
  | 0, l => l
  | k + 1, x :: t => if x.1 = n then acked n k t else x :: acked n (k + 1) t

/-- The packet at the head of a link's retry buffer goes out again. -/
def State.sendAgain (s : State) (n : Nat) : State :=
  match s.aqd.retry.find? (fun x => x.1 = n) with | some x => s.emit (.packet n x.2.1 x.2.2) | none => s

/-- The oldest packet of a link that has not been acknowledged is sent again, because its CRC failed or a codeword of it was uncorrectable;
`acks` packets have been acknowledged since the last resend, and with none it is the same packet as then.  After 8 failed resends of one
packet the link goes down (R354).  `corr` codewords have been corrected since the last resend or HELLO. -/
def execPacketResend (n : Fin 8) (uncorr : Bool) (acks corr : Nat) (s : State) : Host.Outcome State Fault Refusal :=
  let s1 := s.bump32 (A.aqdLFecCorr n) corr
  let s2 := if uncorr then s1.bump (A.aqdLFecUncorr n) else s1
  let k := if acks = 0 then s.resends n else 0
  if 8 ≤ k then .next (s2.linkDown n)
  else
    let s3 := s2.bump (A.aqdLRetry n)
    .next ({ s3 with aqd := { s3.aqd with
      resent := (n.val, k + 1) :: s3.aqd.resent.filter (fun x => x.1 ≠ n), retry := acked n acks s3.aqd.retry } }.sendAgain n)

/-- A HELLO goes out on every link that is up (R372). -/
def execHelloTimer (s : State) : Host.Outcome State Fault Refusal :=
  .next ((rangeFrom 0 8).foldl (fun t n => if t.linkUp n then t.helloOn n else t) s)

/-- No enabled link has reached service within 10 ms of the request (R375). -/
def execNodeTestTimeout (s : State) : Host.Outcome State Fault Refusal :=
  .next (if s.nodeSvc ≠ 3 || s.now < s.aqd.testAt + 10000000 || (rangeFrom 0 8).any (fun n => s.rdb (A.aqdLCfg n) 0 && s.linkUp n) then s
    else s.unitFails .node 0x0102)

end Sys2Proof.Machine
end

