-- ==== Sys2Proof/Machine/Aqd.lean ====
section
/-!
DEFINITION. Epoch cuts, local and fabric-wide, membership of the fabric, synchronisation and rehoming of the world, and the remote
requests of this node (R125, R362, R365 to R372, R375).
-/
namespace Sys2Proof.Machine

def State.setAqd (s : State) (f : AqdState → AqdState) : State := { s with aqd := f s.aqd }

/-! ## The directory entries that cross the fabric (R366, R369, R372) -/

/-- An entry of node `n` as other nodes hold it: a brick of its own becomes REMOTE. -/
def remoteEntry (n d : Nat) : Nat := if fld d 30 2 = 1 then 2 ^ 31 + n % 128 * 2 ^ 23 + fld d 0 22 else d

/-- The bricks listed in the working or the newest directory of a layer. -/
def State.dirTouched (s : State) (layer : Nat) : List Nat :=
  let old := match s.wld.alive.getLast? with | some e => s.dirListed e.set layer | none => []
  old.foldl (fun l i => setIns i l) (s.dirListed s.wSet layer)

/-- The entries of the homed regions that have changed since the newest epoch, or all of them after HOME_EN (R369, R375). -/
def State.deltasOf (s : State) : List (Nat × Nat × Nat) :=
  if !s.rdb A.aqdNode 9 then []
  else [0, 1].flatMap (fun layer => (s.dirTouched layer).filterMap (fun i =>
    let d := s.dirNow layer i
    let was := match s.wld.alive.getLast? with | some e => some (s.peek32 (s.wDir e.set layer i)) | none => none
    if fld (s.wRegion i) 48 7 = s.ownNode && (!s.aqd.homeOut || was ≠ some d) then some (layer, i, d) else none))

/-- Messages of up to 31 pairs. -/
def pairChunks : Nat → List (Nat × Nat × Nat) → List (List (Nat × Nat × Nat))
  | 0, _ => []
  | _, [] => []
  | n + 1, l => l.take 31 :: pairChunks n (l.drop 31)

/-- The view of a node holds a coarse brick of this view, as far as its HELLO has told where it lies (R356, R369). -/
def State.inViewOf (s : State) (dst i : Nat) : Bool :=
  match s.aqd.views.find? (fun x => x.1 = dst) with
  | some x => (ownBrick (s.offsetOf x.2) (fabBrick s.viewOff i)).isSome
  | none => true

/-- Send to a node the entries that lie in its view, by their fabric directory indices, and their end. -/
def State.deltaSend (s : State) (epoch : Nat) (l : List (Nat × Nat × Nat)) (dst : Nat) : State :=
  let m := l.filter (fun x => s.inViewOf dst x.2.1)
  ((pairChunks m.length m).foldl (fun t c => t.control dst 0x0A (c.flatMap (fun x => [x.1, fabBrick s.viewOff x.2.1, x.2.2]))) s).control dst 0x0B
    [epoch, m.length]

/-- The entries of a message of node `node` that lie in this view: layer, brick here, and the entry as this node holds it. -/
def State.entriesIn (s : State) (node : Nat) (l : List (Nat × Nat × Nat)) : List (Nat × Nat × Nat) :=
  l.filterMap (fun x => (ownBrick s.viewOff x.2.1).map (fun i => (x.1, i, remoteEntry node x.2.2)))

/-- Entries received become REMOTE or UNIFORM entries of the working directories. -/
def State.merge (s : State) (l : List (Nat × Nat × Nat)) : State :=
  l.foldl (fun t x => ((t.setUniform x.1 x.2.1 0x8000).setDir x.1 x.2.1 x.2.2)) s

/-- The bricks of a region. -/
def regionBricks (r : Nat) : List Nat :=
  (rangeFrom 0 512).map (fun k => brickIdx (64 * (r % 16) + 8 * (k % 8)) (64 * (r / 16 % 16) + 8 * (k / 8 % 8)) (64 * (r / 256) + 8 * (k / 64)))

/-- A region reads UNKNOWN everywhere in the working epoch. -/
def State.regionUnknown (s : State) (r : Nat) : Bool := (regionBricks r).all (fun i => s.dirNow 0 i = 0x8000 && s.dirNow 1 i = 0x8000)

/-- Every region homed on a lost node becomes UNIFORM UNKNOWN in both layers.  A region so lost counts in AQD_LOST_REGIONS until something
of it is known again. -/
def State.unknownLost (s : State) : State :=
  match s.wld.working with
  | none => s
  | some e =>
    let rs := (rangeFrom 0 2048).filter (fun r => s.aqd.lost.contains (fld (nth 0 e.regions r) 48 7))
    let s1 := rs.foldl (fun t r => (regionBricks r).foldl (fun u i => (u.setUniform 0 i 0x8000).setUniform 1 i 0x8000) t) s
    let l := (rs.foldl (fun m r => setIns r m) s1.aqd.lostReg).filter s1.regionUnknown
    (s1.setAqd (fun q => { q with lostReg := l })).wr A.aqdLostRegions l.length

/-! ## The coordinator (R369, R370) -/

/-- The node that coordinates: the configured one, or the lowest in service once that is lost. -/
def State.coordinator (s : State) : Nat :=
  let c := s.rdf A.aqdCutCfg 0 7
  if s.nodeUp c || !s.aqd.lost.contains c then c else match s.nodesUp with | n :: _ => n | [] => c
def State.isCoord (s : State) : Bool := s.coordinator = s.ownNode

/-! ## A cut on this node -/

/-- A local cut on a node that is in no fabric, else a request to the coordinator; `coord` is what the coordinator does with its
own request. -/
def State.fabRequest (s : State) (coord : State → State) : State :=
  if !s.wldReady then s.pageErr 0x30000 0x0104 0
  else if s.wld.cut.isSome || s.aqd.asked.isSome then s.bump A.wldCutMerged
  else
    let s1 := s.setAqd (fun q => { q with asked := some s.now })
    if s.isCoord then coord s1 else s1.control s.coordinator 0x04 []

/-- A request of this node that waits has been merged with another one into the cut of this PREPARE (R369). -/
def State.askMerged (s : State) (merged : Bool) : State := if merged && s.aqd.asked.isSome then s.bump A.wldCutMerged else s

/-- A PREPARE begins a cut here: steps 1 and 2 of R125.  WLD_CUT_LAT counts from this node's own request, where it made one. -/
def State.fabPrepare (s : State) (epoch : Nat) : State :=
  match s.wld.working with
  | none => s
  | some w =>
    if !s.wldReady || s.wld.cut.isSome then s
    else
      let c : FabCut := { epoch := epoch, since := s.now }
      let x : WldState := { s.wld with cut := some { step := .drain, asked := s.aqd.asked.getD s.now }, working := some { w with num := epoch } }
      let s1 := s.starting 0x320000 (fun s => { s with wld := x }.setAqd (fun q => { q with cut := some c, prepAt := some s.now, asked := none }))
      (s1.wrb A.wldStat 2 true).wldBusy

/-- Home nodes in service whose DELTA_END a cut needs. -/
def State.homesWaited (s : State) : List Nat := s.homesOf.filter (fun n => s.nodeUp n)

/-- COMMIT has come and so has every DELTA_END: the entries are merged, lost regions become UNKNOWN, and the epoch is published. -/
def State.fabPublish (s : State) : State :=
  match s.aqd.cut with
  | none => s
  | some c =>
    if !c.commit || s.homesWaited.any (fun n => !c.ends.contains n) then s
    else
      let s1 := (((s.merge c.deltas).unknownLost).publish).setAqd (fun q => { q with cut := none, coord := none, homeOut := s.rdb A.aqdNode 9 })
      let s2 := s1.wr A.aqdEpochFab c.epoch
      let s3 :=
        if s2.nodeSvc = 3 && s2.aqd.sync = some [] then
          ((s2.wrb A.aqdNodeStat 3 true).raise 0x320000 20).enterShadow .node 1
        else s2
      s3.nodeDrained.quietEdge 0x320000 (s.busy 0x320000)

/-- COMMIT for the cut: this node sends its changed entries. -/
def State.fabCommit (s : State) (epoch : Nat) : State :=
  match s.aqd.cut with
  | none => s
  | some c =>
    if c.epoch ≠ epoch || c.commit || !c.ready then s
    else
      let l := s.deltasOf.map (fun x => (x.1, x.2.1, remoteEntry s.ownNode x.2.2))
      let s1 := s.members.foldl (fun t n => t.deltaSend epoch l n) s
      (s1.setAqd (fun q => { q with cut := some { c with commit := true } })).fabPublish

/-- Every node in service is READY: the coordinator commits. -/
def State.coordCheck (s : State) : State :=
  match s.aqd.coord with
  | none => s
  | some c => if s.nodesUp.all (fun n => c.ready.contains n) then (s.broadcast 0x08 [c.epoch]).fabCommit c.epoch else s

/-- An answer reaches the coordinator: READY or WAITING. -/
def State.coordAnswer (s : State) (node epoch : Nat) (ready : Bool) : State :=
  match s.aqd.coord with
  | none => s
  | some c =>
    if c.epoch ≠ epoch then s
    else
      let r := if ready then setIns node c.ready else c.ready
      (s.setAqd (fun q => { q with coord := some { c with ready := r, answer := c.answer.filter (fun x => x.1 ≠ node) } })).coordCheck

/-- This node answers its PREPARE: READY once it can publish, WAITING until then. -/
def State.fabAnswer (s : State) : State :=
  match s.aqd.cut, s.wld.cut with
  | some c, some w =>
    if c.ready || w.step ≠ .propagated then s
    else
      let ok := s.canPublish
      let s1 := if ok then s.setAqd (fun q => { q with cut := some { c with ready := true } }) else s.cutWaits w
      if s1.isCoord then s1.coordAnswer s1.ownNode c.epoch ok
      else s1.control s1.coordinator (if ok then 0x06 else 0x07) [c.epoch]
  | _, _ => s

/-- The coordinator broadcasts PREPARE for an epoch, or again for the one that runs. -/
def State.coordPrepare (s : State) (epoch : Nat) (ready : List Nat) : State :=
  let c : CoordCut := { epoch := epoch, ready := ready, answer := s.nodesUp.map (fun n => (n, s.now)) }
  ((s.setAqd (fun q => { q with coord := some c })).broadcast 0x05 [epoch])

/-- A request reaches the coordinator, from itself or another node: it starts a cut, or merges into the one that runs. -/
def State.coordRequest (s : State) : State :=
  if s.aqd.coord.isSome || s.wld.cut.isSome then s
  else match s.wld.working with
    | none => s
    | some w => (s.coordPrepare w.num []).fabPrepare w.num

/-- A cut is requested (R125, R369). -/
def State.cutRequest (s : State) : State := if s.inFabric then s.fabRequest State.coordRequest else s.cutStart

/-- A PREPARE arrives: it begins a cut, or finds that its epoch has been committed already.  `merged` says that a request of this node has
been merged into it. -/
def State.prepare (s : State) (node epoch : Nat) (merged : Bool) : State :=
  let done : Bool := (match s.aqd.cut with | some c => c.epoch = epoch && c.commit | none => false) ||
    (match s.wld.alive.getLast? with | some e => e.num = epoch | none => false)
  let takes : Bool := s.inFabric && (s.nodeSvc ≠ 3 || s.aqd.sync = some [])
  if !takes then s
  else if done then s.control node 0x09 [epoch]
  else match s.aqd.cut with
    | some c =>
      if c.epoch = epoch && c.ready then s.control node 0x06 [epoch] else s
    | none => (s.askMerged merged).fabPrepare epoch

/-! ## Membership (R359, R370, R372) -/

/-- A node that becomes coordinator without a cut of its own has published the fabric's newest epoch, which others may still wait for: it sends
PREPARE for that epoch and its COMMIT again (R370). -/
def State.coordRepeat (s : State) : State :=
  if s.rd A.aqdEpochFab = 0 then s else (s.broadcast 0x05 [s.rd A.aqdEpochFab]).broadcast 0x08 [s.rd A.aqdEpochFab]

/-- Node `n` is lost: its bit clears, its pins end, and what waited for it goes on.  A node that is itself declared lost goes OUT_OF_SERVICE
(Table AQD-7). -/
def State.nodeLost (s : State) (n : Nat) : State :=
  if n = s.ownNode then (if s.nodeSvc = 2 then s else ((s.raise 0x320000 16).setNodeSvc 2 1).peersFollow)
  else if !s.nodeUp n then s
  else
    let was := s.isCoord
    let s1 := ((s.setNodeUp n false).raise 0x320000 16).setAqd (fun q => { q with
      lost := setIns n q.lost, heard := q.heard.filter (fun x => x.1 ≠ n), reports := q.reports.filter (fun x => x.1 ≠ n) })
    let w : WldState := { s1.wld with pinsets := s1.wld.pinsets.filter (fun x => x.1 ≠ n) }
    let s2 := ({ s1 with wld := w }.retire).peersFollow
    let s3 :=
      if s2.isCoord && !was then
        match s2.aqd.cut with
        | some c =>
          let t := s2.coordPrepare c.epoch (if c.ready then [s2.ownNode] else [])
          if c.commit then t.broadcast 0x08 [c.epoch] else t
        | none => let t := s2.coordRepeat; if t.aqd.asked.isSome then t.coordRequest else t
      else if !s2.isCoord && s2.aqd.asked.isSome && s2.coordinator ≠ s.coordinator then s2.control s2.coordinator 0x04 []
      else s2
    (s3.coordCheck).fabPublish

/-- The coordinator declares a node lost. -/
def State.declareLost (s : State) (n : Nat) : State := (s.broadcast 0x0C [n]).nodeLost n

/-- Another node announces the own ID: DUP_ID, and a node that is not in service yet, the later one to train, stays out (R355). -/
def State.dupId (s : State) : State :=
  let s1 := s.pageErr 0x320000 0x0112 0
  if s.nodeSvc ≤ 1 then s1 else (rangeFrom 0 8).foldl (fun t n => if t.svc (linkPage n) = 2 then t else t.linkStop n 1) s1

/-- The links of a node change as it reports them: new routes here, and an LSTATE to every node that a packet newly reaches (R359). -/
def State.reported (s : State) (node links : Nat) : State :=
  if s.linksOfNode node = links then s
  else
    let s1 := (s.setAqd (fun q => { q with reports := (node, links) :: q.reports.filter (fun x => x.1 ≠ node) })).raise 0x320000 18
    (s1.nodesReached.filter (fun n => !s.nodesReached.contains n)).foldl (fun t n => t.control n 0x02 s.lstatePay) s1

/-- An LSTATE arrives: the links up of a node, and whether it is in service or drains. -/
def State.lstate (s : State) (node links : Nat) (inSvc : Bool) : State :=
  if node = s.ownNode then s.dupId
  else
    let s2 := s.reported node links
    if s2.nodeUp node = inSvc then s2
    else if inSvc then
      ((s2.setNodeUp node true).raise 0x320000 17).setAqd (fun q => { q with lost := q.lost.filter (fun x => x ≠ node) })
    else if s2.isCoord then s2.declareLost node
    else s2

/-- When a packet of a node last came. -/
def State.lastHeard (s : State) (n : Nat) : Nat := match s.aqd.heard.find? (fun x => x.1 = n) with | some x => x.2 | none => 0

/-- The node that would coordinate were `n` lost. -/
def State.coordWithout (s : State) (n : Nat) : Nat :=
  if s.coordinator ≠ n then s.coordinator else match s.nodesUp.filter (fun k => k ≠ n) with | k :: _ => k | [] => s.ownNode

/-- No packet has come from a node for AQD_NODE_TO: the coordinator declares it lost. -/
def State.nodeTimeout (s : State) (n : Nat) : State :=
  if n = s.ownNode || !s.nodeUp n || s.now < s.lastHeard n + max 30 (s.rdf A.aqdNodeTo 0 16) * 1000 || s.coordWithout n ≠ s.ownNode then s
  else s.declareLost n

/-- A node has sent neither READY nor WAITING within CUT_TO of a PREPARE. -/
def State.cutTimeout (s : State) (n : Nat) : State :=
  match s.aqd.coord with
  | none => s
  | some c =>
    match c.answer.find? (fun x => x.1 = n) with
    | some x =>
      if !s.nodeUp n || n = s.ownNode || s.now < x.2 + s.rdf A.aqdCutCfg 16 16 * 1000 then s
      else (s.raise 0x320000 19).declareLost n
    | none => s

/-! ## Synchronisation and rehoming (R368, R375) -/

/-- A home answers a SYNC_REQ, which names fabric regions, with the entries of its regions in the newest epoch. -/
def State.syncAnswer (s : State) (node : Nat) (regions : List Nat) : State :=
  match s.wld.alive.getLast? with
  | none => s
  | some e =>
    let rs := (regions.filterMap (ownRegion s.viewOff)).filter (fun r => fld (nth 0 e.regions r) 48 7 = s.ownNode)
    let l := if !s.rdb A.aqdNode 9 then []
      else [0, 1].flatMap (fun layer => rs.flatMap (fun r => (regionBricks r).map (fun i =>
        (layer, i, remoteEntry s.ownNode (s.peek32 (s.wDir e.set layer i))))))
    s.deltaSend e.num l node

/-- The answer of a home arrives at a node that is tested. -/
def State.syncTake (s : State) (node epoch : Nat) (l : List (Nat × Nat × Nat)) : State :=
  match s.aqd.sync with
  | none => s
  | some homes =>
    if s.nodeSvc ≠ 3 || !homes.contains node then s
    else
      ((s.merge (s.entriesIn node l)).wr A.aqdEpochFab epoch).setAqd
        (fun q => { q with sync := some (homes.filter (fun n => n ≠ node)) })

/-- A block of field queries of the peer node (R375 step 3). -/
def State.shadowBlock (s : State) (node epoch : Nat) (pts : List (Int × Int × Int)) (res : List Nat) : State :=
  if s.nodeSvc ≠ 4 || s.nodePeerOf ≠ some node then s
  else match s.epoch epoch with
    | none => s
    | some e =>
      let qs := pts.map (fun p => s.field e p)
      (qs.foldl (fun t q => t.note 5 7 q.2) (s.peerKeep .node)).shadowItem .node (.generated (qs.map (fun q => d16 (q.1 / fieldOne)) == res))

/-- Store a copied brick in the working epoch. -/
def State.putBrick (s : State) (b : SentBrick) : State :=
  let layer := b.layer
  let i := b.index
  let v := b.value
  if b.voxels.isEmpty then (s.setUniform layer i v).dirtied i
  else match s.ownCoarse layer i with
    | none => s.pageErr 0x30000 0x0105 0
    | some (c, s1) =>
      let s2 := (((s1.store (s1.wCoarse c) (b.voxels.take 0x400)).putHdr false c i v layer 0 (if layer = 0 then crc32 (b.voxels.take 0x400) else 0)).touched false c).dirtied i
      b.fines.foldl (fun t f =>
        match t.ownFine layer i f.octant with
        | none => t.pageErr 0x30000 0x0105 0
        | some (k, c2, u) =>
          let u1 := (u.store (u.wFine k) (f.voxels.take 0x400)).putHdr true k (fineKey i f.octant) f.value layer 0 (if layer = 0 then crc32 (f.voxels.take 0x400) else 0)
          ((if layer = 1 then u1.showPred k else u1).touched true k).touched false c2) s2

/-- The bricks of a rehomed region have come. -/
def State.rehomed (s : State) (r : Nat) (bs : List SentBrick) : State :=
  if !s.aqd.rehome.any (fun x => x.1 = r) then s
  else ((bs.foldl (fun t b => t.putBrick b) s).setAqd (fun q => { q with rehome := q.rehome.filter (fun x => x.1 ≠ r) })).quietEdge 0x320000
    (s.busy 0x320000)

/-- Regions whose HOME has become this node with the new region table copy, with the old home where it is in service. -/
def newHomes (s : State) (old new : List Nat) : List (Nat × Nat) :=
  (rangeFrom 0 2048).filterMap (fun r =>
    let a := fld (nth 0 old r) 48 7
    if fld (nth 0 new r) 48 7 = s.ownNode && a ≠ s.ownNode && s.nodeUp a then some (r, a) else none)

/-- Step 4 of a cut: the new working epoch, extrinsics records that wait apply, fusion resumes (R125, R246, R250). -/
def State.cutDone (s : State) : State :=
  match s.wld.cut with
  | none => s
  | some c =>
    if c.step ≠ .copying then s
    else
      let s1 := s.newWorking.calApplyAll (calRegions.filter (fun r => calType r = some 6))
      let moved := match s.wld.alive.getLast?, s1.wld.working with
        | some e, some w => if s1.inFabric then newHomes s1 e.regions w.regions else []
        | _, _ => []
      let s2 := (s1.setAqd (fun q => { q with rehome := moved ++ q.rehome.filter (fun x => !moved.any (fun m => m.1 = x.1)) })).cutEnd
      match s.aqd.prepAt with
      | none => s2
      | some t =>
        let (v, s3) := s2.fits 24 ((s.now - t) / 10)
        (s3.wr A.aqdCutLat v).setAqd (fun q => { q with prepAt := none })

/-- Publication (R125 step 3), or on a node of a fabric the answer to PREPARE that still waits. -/
def State.epochPublish (s : State) : State :=
  match s.wld.cut with
  | none => s
  | some c =>
    if c.step ≠ .propagated then s
    else if s.aqd.cut.isSome then s.fabAnswer
    else if s.canPublish then s.publish
    else s.cutWaits c

/-! ## Remote requests (R362, R364) -/

/-- A DMA has one request less to wait for; the last one completes it. -/
def State.jobStep (s : State) (k : Nat × Nat) (bad : Nat) : State :=
  match s.aqd.jobs.find? (fun j => j.by_ = k) with
  | none => s
  | some j =>
    let st := if bad ≠ 0 then bad else j.status
    let rest := s.aqd.jobs.filter (fun x => x.by_ ≠ k)
    if j.left ≤ 1 then (s.setAqd (fun q => { q with jobs := rest })).stepEnded (some k) st 0
    else s.setAqd (fun q => { q with jobs := rest ++ [{ j with left := j.left - 1, status := st }] })

/-- Put a request on its route, or end it UNREACHABLE; a read is tried once more.  LEN of a read is the length that it asks for. -/
def State.reqSend (s : State) (r : FabReq) : State :=
  let pay := if r.kind = 0 then [] else r.data.map (fun b => b.toNat)
  match s.packet { dst := r.dst, kind := r.kind, len := r.len / 8, tag := r.tag, addr := r.addr } pay with
  | (true, s1) => s1.setAqd (fun q => { q with reqs := q.reqs ++ [{ r with issued := s.now }] })
  | (false, s1) =>
    let s2 := if r.kind = 0 && !r.again then s1.bump A.aqdRdRetry else s1
    (s2.bump A.aqdReqFail).jobStep r.by_ (statusCode .dataFault)

/-- A request under the next tag: what comes for an earlier one under another tag is no response to it (R362). -/
def State.reqTag (s : State) (r : FabReq) : FabReq × State :=
  ({ r with tag := s.aqd.tagNo }, s.setAqd (fun q => { q with tagNo := (q.tagNo + 1) % 2 ^ 16 }))

/-- A request is issued: at most 768 at once (R363). -/
def State.reqIssue (s : State) (r : FabReq) : State :=
  s.starting 0x320000 (fun s =>
  let (x, s1) := s.reqTag r
  if 768 ≤ s1.aqd.reqs.length then s1.setAqd (fun q => { q with reqQ := q.reqQ ++ [x] }) else s1.reqSend x)

/-- The oldest request that waits takes a freed place. -/
def State.reqNext (s : State) : State :=
  match s.aqd.reqQ with
  | [] => s
  | r :: t => if 768 ≤ s.aqd.reqs.length then s else (s.setAqd (fun q => { q with reqQ := t })).reqSend r

/-- Where the bytes of a remote read go: local memory, or a write to yet another node. -/
def State.reqPut (s : State) (r : FabReq) (data : List Byte) : State :=
  if tbit r.put 47 && fld r.put 40 7 ≠ s.ownNode then
    let a := r.put % 2 ^ 40
    s.reqIssue { r with
      kind := if a = 0x320800 && data.length = 64 then 2 else 1, dst := fld r.put 40 7, addr := a, data := data, again := false }
  else
    let a := if tbit r.put 47 then r.put % 2 ^ 40 else r.put
    if !s.memRuns a data.length then s
    else if regionOf a = .pound && s.sealState ≠ 0 then s.jobStep r.by_ (statusCode .sealed)
    else
      let (ue, t) := s.storeTold 4 r.eng a data
      t.jobStep r.by_ (if ue then statusCode .dataFault else 0)

/-- A request ends with a status of Table AQD-5; `code` is the result of an offer. -/
def State.reqEnd (s : State) (r : FabReq) (st code : Nat) (data : List Byte) : State :=
  let s1 := s.setAqd (fun q => { q with reqs := q.reqs.filter (fun x => x.tag ≠ r.tag) })
  let s2 :=
    if r.kind = 0 && !r.again && (st = 4 || st = 5) then (let (x, t) := (s1.bump A.aqdRdRetry).reqTag { r with again := true }; t.reqSend x)
    else if st ≠ 0 then (s1.bump A.aqdReqFail).jobStep r.by_ (statusCode .dataFault)
    else if r.kind = 2 && code ≠ 0 then (s1.bump A.aqdOfferRef).jobStep r.by_ (statusCode .dataFault)
    else if r.kind = 0 then s1.reqPut r data
    else s1.jobStep r.by_ 0
  s2.reqNext.quietEdge 0x320000 (s.busy 0x320000)

/-- The request of a tag. -/
def State.reqOf (s : State) (tag : Nat) : Option FabReq := s.aqd.reqs.find? (fun r => r.tag = tag)

/-! ## Meanings -/

/-- Propagation ends; on a node of a fabric the answer to PREPARE follows (R126, R369). -/
def execPropagationDone (s : State) : Host.Outcome State Fault Refusal := .next s.cutPropagated.fabAnswer

def execEpochPublish (s : State) : Host.Outcome State Fault Refusal := .next s.epochPublish
def execCutDone (s : State) : Host.Outcome State Fault Refusal := .next s.cutDone

def execLstate (l : Fin 8) (node : Fin 128) (links : Nat) (inSvc : Bool) (s : State) : Host.Outcome State Fault Refusal :=
  .next (s.hears l node (fun t => t.lstate node links inSvc))

/-- A pin set arrives (R367): epochs that no node pins any more retire. -/
def execPinset (l : Fin 8) (node : Fin 128) (epochs : List Nat) (s : State) : Host.Outcome State Fault Refusal :=
  .next (s.hears l node (fun t =>
    { t with wld := { t.wld with pinsets := (node.val, epochs.take 6) :: t.wld.pinsets.filter (fun x => x.1 ≠ node) } }.retire))

def execCutReq (l : Fin 8) (node : Fin 128) (s : State) : Host.Outcome State Fault Refusal :=
  .next (s.hears l node (fun t => if t.isCoord && t.inFabric then t.coordRequest else t))

def execPrepareMsg (l : Fin 8) (node : Fin 128) (epoch : Nat) (merged : Bool) (s : State) : Host.Outcome State Fault Refusal :=
  .next (s.hears l node (fun t => t.prepare node epoch merged))

def execReadyMsg (l : Fin 8) (node : Fin 128) (epoch : Nat) (s : State) : Host.Outcome State Fault Refusal :=
  .next (s.hears l node (fun t => t.coordAnswer node epoch true))

def execWaitingMsg (l : Fin 8) (node : Fin 128) (epoch : Nat) (s : State) : Host.Outcome State Fault Refusal :=
  .next (s.hears l node (fun t => t.coordAnswer node epoch false))

def execCutCommitMsg (l : Fin 8) (node : Fin 128) (epoch : Nat) (s : State) : Host.Outcome State Fault Refusal :=
  .next (s.hears l node (fun t => t.fabCommit epoch))

/-- A node had COMMIT already: the new coordinator sends it again (R370). -/
def execCommittedMsg (l : Fin 8) (node : Fin 128) (epoch : Nat) (s : State) : Host.Outcome State Fault Refusal :=
  .next (s.hears l node (fun t => match t.aqd.coord with
    | some c => if c.epoch = epoch then (t.broadcast 0x08 [epoch]).fabCommit epoch else t
    | none => t))

def execDeltaMsg (l : Fin 8) (node : Fin 128) (pairs : List (Nat × Nat × Nat)) (s : State) : Host.Outcome State Fault Refusal :=
  let got := s.entriesIn node (pairs.take 31)
  .next (s.hears l node (fun t => t.setAqd (fun q => { q with cut := q.cut.map (fun c => { c with deltas := c.deltas ++ got }) })))

def execDeltaEnd (l : Fin 8) (node : Fin 128) (epoch : Nat) (s : State) : Host.Outcome State Fault Refusal :=
  .next (s.hears l node (fun t => (t.setAqd (fun q => { q with
    cut := q.cut.map (fun c => if c.epoch = epoch then { c with ends := setIns node c.ends } else c) })).fabPublish))

def execNodeLostMsg (l : Fin 8) (node : Fin 128) (lost : Fin 128) (s : State) : Host.Outcome State Fault Refusal :=
  .next (s.hears l node (fun t => t.nodeLost lost))

def execSyncReq (l : Fin 8) (node : Fin 128) (regions : List Nat) (s : State) : Host.Outcome State Fault Refusal :=
  .next (s.hears l node (fun t => t.syncAnswer node regions))

def execSyncAnswer (l : Fin 8) (node : Fin 128) (epoch : Nat) (entries : List (Nat × Nat × Nat)) (s : State) :
    Host.Outcome State Fault Refusal :=
  .next (s.hears l node (fun t => t.syncTake node epoch entries))

def execShadowQ (l : Fin 8) (node : Fin 128) (epoch : Nat) (pts : List (Int × Int × Int)) (res : List Nat) (s : State) :
    Host.Outcome State Fault Refusal :=
  .next (s.hears l node (fun t => t.shadowBlock node epoch pts res))

def execNodeTimeout (node : Fin 128) (s : State) : Host.Outcome State Fault Refusal := .next (s.nodeTimeout node)
def execCutTimeout (node : Fin 128) (s : State) : Host.Outcome State Fault Refusal := .next (s.cutTimeout node)

/-- The pin set is sent again (R367). -/
def execPinsetTimer (s : State) : Host.Outcome State Fault Refusal :=
  .next (if s.inFabric then s.broadcast 0x03 s.ownPins else s)

def execRehomeCopyDone (r : Fin 2048) (bricks : List SentBrick) (s : State) : Host.Outcome State Fault Refusal :=
  .next (s.rehomed r bricks)

def execReadResponse (l : Fin 8) (node : Fin 128) (tag status : Nat) (data : List Byte) (s : State) : Host.Outcome State Fault Refusal :=
  .next (s.hears l node (fun t => match t.reqOf tag with | some r => t.reqEnd r status 0 data | none => t))

def execWriteResponse (l : Fin 8) (node : Fin 128) (tag status code : Nat) (s : State) : Host.Outcome State Fault Refusal :=
  .next (s.hears l node (fun t => match t.reqOf tag with | some r => t.reqEnd r status code [] | none => t))

/-- No response within AQD_REQ_TO (R362). -/
def execRequestTimeout (tag : Nat) (s : State) : Host.Outcome State Fault Refusal :=
  .next (match s.reqOf tag with
    | some r => if s.now < r.issued + max 1 (s.rdf A.aqdReqTo 0 16) * 1000 then s else s.reqEnd r 5 0 []
    | none => s)

end Sys2Proof.Machine
end

