-- ==== Sys2Proof/Machine/TowFire.lean ====
section
/-!
DEFINITION. The firing of event-table entries: actions, the event log, re-arming and the backstop (R69 to R74, R78, R81).
-/
namespace Sys2Proof.Machine

/-- Enter a record in the event log (R81, Table TOW-5). -/
def State.towLog (s : State) (e : Nat) (x : TowEntry) (status : Nat) : State :=
  let seq := s.tow.logSeq
  let p := s.tpPos x.tp
  let s1 := { s with tow := { s.tow with logSeq := (seq + 1) % 2 ^ 32 } }
  match ringSlot (s1.rdf A.towLogWr 0 6) (s1.rdf A.towLogRd 0 6) with
  | none => (s1.bump A.towLogLost).raise 0x10000 13
  | some k =>
    ((s1.wrWords (A.towLogRec (k * 8))
      [p % 2 ^ 32, p / 2 ^ 32, s1.now % 2 ^ 32, s1.now / 2 ^ 32,
        e % 512 + x.tp % 16 * 2 ^ 12 + status % 256 * 2 ^ 16 + x.action % 16 * 2 ^ 24, seq,
        x.pos % 2 ^ 32, x.pos / 2 ^ 32]).wr A.towLogWr ((k + 1) % 64)).raise 0x10000 9

/-- Inject a copy of a barge template (R78); a refused one is dropped and counted. -/
def State.injectBarge (s : State) (t e : Nat) : State :=
  let r := s.offer 1 e (s.rebase (s.regWords (A.towTemplate (16 * t))) s.now) false false
  if r.1 = 0 then r.2 else (r.2.bump A.towInjRefused).raise 0x10000 12

/-- The action of a firing (Table TOW-3). -/
def State.towAct (s : State) (e : Nat) (x : TowEntry) : State :=
  match x.action with
  | 1 => s.trigger x.arg0 x.arg1
  | 2 => s.eventOpen
  | 3 => s.askClose
  | 4 => s.injectBarge x.arg0 e
  | 5 => s.offerWork 0x30000 .cut State.cutRequest
  | _ => s

/-- The steps a repeating entry has already passed when its next target is `pos` (R71). -/
def stepsPassed (x : TowEntry) (pos at_ : Nat) : Nat :=
  let d := t48Diff at_ pos
  if x.dir = 1 then (if d < 0 then ((-d).toNat + x.step - 1) / x.step else 0)
  else if 0 ≤ d then d.toNat / x.step + 1 else 0

/-- A target `n` steps further on in the direction of an entry. -/
def stepOn (x : TowEntry) (pos n : Nat) : Nat :=
  if x.dir = 1 then (pos + 2 ^ 48 - (n * x.step) % 2 ^ 48) % 2 ^ 48 else (pos + n * x.step) % 2 ^ 48

/-- An entry after its firing: disarmed, waiting to re-arm, or armed for its next step (R71, R72).  Skipped steps count on every towpath;
whether TOW_TP_SKIP_CNT of towpath 8 does, which R85 does not list among the registers that take effect there, the spec leaves open
(DESIGN CHOICE, log entry 208). -/
def State.afterFire (s : State) (e : Nat) (x : TowEntry) (back : Bool) : State :=
  if x.step = 0 then s.setEntry e { x with armed := false, crossed := none, waitRearm := x.rearm }
  else if back then s.setEntry e (rearmed x (stepOn x (s.tpPos x.tp) 1) s.now)
  else
    let p := stepOn x x.pos 1
    let k := stepsPassed x p (s.tpPos x.tp)
    (s.setEntry e (rearmed x (stepOn x p k) s.now)).bumpBy (A.towTpSkipCnt x.tp) k

/-- A firing: the action, the log record, and the entry afterwards. -/
def State.towFire (s : State) (e : Nat) (back : Bool) : State :=
  let x := s.entry e
  let s1 := s.towAct e x
  let s2 := if back then (s1.bump32 A.towBackstopCnt 1).raise 0x10000 8 else s1
  let s3 := if back || x.log || x.action = 6 then s2.towLog e x (if back then 7 else 0) else s2
  s3.afterFire e x back

/-- The crossing of an entry lies before the tick of `now`: its action begins on the tick after the crossing (R69). -/
def TowEntry.fireDue (x : TowEntry) (now : Nat) : Bool :=
  match x.crossed with
  | some t => decide (t / 10 < now / 10)
  | none => false

/-- Entry `e` is due to fire by its crossing: its page is enabled (R69, R522) and not quiesced (R52). -/
def State.entryDue (s : State) (e : Nat) : Bool := (s.entry e).armed && (s.entry e).fireDue s.now && s.pageOpen (entryPage e)

/-- The backstop of entry `e` has expired without a crossing, and its page is enabled and not quiesced (R52, R70, R522). -/
def State.backDue (s : State) (e : Nat) : Bool :=
  let x := s.entry e
  x.armed && !x.crossed.isSome && decide (expiry x / 10 < s.now / 10) && s.pageOpen (entryPage e)

/-- Entry `e` fires if it is due, by its crossing or by its backstop. -/
def State.fireDue (s : State) (e : Nat) : State :=
  if s.entryDue e then s.towFire e false else if s.backDue e then s.towFire e true else s

/-- The entries up to `e` that are due fire on this tick, in ascending order (R73).  A backstop firing may come up to 1 µs after its
expiry (R70); one of lower index comes no later than this firing (DESIGN CHOICE, log entry 242). -/
def State.fireUpTo (s : State) (e : Nat) : State := (rangeFrom 0 (e + 1)).foldl State.fireDue s

/-- Entry `e`, whose crossing is due as its W1 is written, fires first with its old contents, after those of lower index that are due. -/
def State.firesTo (s : State) (e : Nat) : State := if s.entryDue e then s.fireUpTo e else s

/-! ## Meanings -/

/-- An entry whose crossing was seen fires while its page is enabled; those of lower index that are due fire before it, in ascending
order (R69, R73, R522). -/
def execEntryFire (e : Fin 512) (s : State) : Host.Outcome State Fault Refusal :=
  .next (s.firesTo e)

/-- An entry that has not crossed fires after the tick of its expiry, once its page is enabled and not quiesced, and those of lower index
that are due fire before it (R52, R70, R73, R522). -/
def execEntryBackstop (e : Fin 512) (s : State) : Host.Outcome State Fault Refusal :=
  .next (if s.backDue e then s.fireUpTo e else s)

end Sys2Proof.Machine
end

