-- ==== Sys2Proof/Machine/CalJob.lean ====
section
/-!
DEFINITION. Calibration jobs: triggers, steps, their end and their timeout (R248, R249).
-/
namespace Sys2Proof.Machine

/-- The calibration job page. -/
abbrev jobPage : Nat := 0x371000

/-- A step of job `j` runs; one is pending. -/
def State.jobRunning (s : State) (j : Nat) : Bool := s.rdb (A.calJobStat j) 0
def State.jobPending (s : State) (j : Nat) : Bool := s.rdb (A.calJobStat j) 1

/-- When the last step of job `j` started, in ns. -/
def State.jobStart (s : State) (j : Nat) : Option Nat := (nth {} s.cal.jobs j).lastStart

/-- MIN_GAP has passed since the previous step started. -/
def State.jobGapOver (s : State) (j : Nat) : Bool :=
  match s.jobStart j with
  | none => true
  | some t => t + s.rdf (A.calJobGap j) 0 24 * 1000 ≤ s.now

/-- BUSY of the job page follows the running steps (R52). -/
def State.jobBusy (s : State) : State := s.setBusy jobPage ((rangeFrom 0 8).any (fun j => s.jobRunning j))

/-- The running step of a job ends. -/
def State.jobEnds (s : State) (j : Nat) : State := (s.wrb (A.calJobStat j) 0 false).jobBusy

/-- The copy of the template that a step offers (R249). -/
def State.jobCopy (s : State) (j seq : Nat) : List Nat :=
  let w := upd (fun _ => seq) (s.regWords (A.calJobTemplate (16 * j))) 15
  let t := (nth 0 w 4 + nth 0 w 5 * 2 ^ 32 + s.now) % 2 ^ 64
  if tbit (nth 0 w 0) 28 then upd (fun _ => t % 2 ^ 32) (upd (fun _ => t / 2 ^ 32) w 5) 4 else w

/-- A step starts (R249). -/
def State.jobStepStart (s : State) (j : Nat) : State :=
  let seq := (s.rdf (A.calJobStat j) 16 16 + 1) % 2 ^ 16
  let job : CalJob := { lastStart := some s.now }
  let c : CalState := { s.cal with jobs := upd (fun _ => job) s.cal.jobs j }
  let s1 := { s with cal := c }
  let s2 := ((s1.wr (A.calJobStat j) (1 + seq * 2 ^ 16)).jobBusy).raise jobPage 11
  match s2.offer 2 j (s2.jobCopy j seq) false false with
  | (0, s3) => s3
  | (_, s3) => ((s3.jobEnds j).bumpF (A.calJobTo j) 16).raise jobPage 10

/-- A trigger of job `j` (R248): it starts a step, waits, or is dropped. -/
def State.jobTrigger (s : State) (j : Nat) : State :=
  if !s.rdb (A.calJobCfg j) 0 then s
  else if s.jobPending j then (s.bump (A.calJobOvr j)).raise jobPage 8
  else if s.jobRunning j || !s.jobGapOver j || s.quiesced jobPage then s.wrb (A.calJobStat j) 1 true
  else s.jobStepStart j

/-- A pending step starts, once nothing keeps it from starting. -/
def State.jobPendingStart (s : State) (j : Nat) : State :=
  if s.jobPending j && !s.jobRunning j && s.jobGapOver j && !s.quiesced jobPage then s.jobStepStart j else s

/-- The write of CAL_JOB_DONE_n (R249): the step's SEQ ends it; any other value is stale. -/
def State.jobDone (s : State) (j v : Nat) : State :=
  if s.jobRunning j && s.rdf (A.calJobStat j) 16 16 = v % 2 ^ 16 then s.jobEnds j else s.bump (A.calJobStale j)

/-- STEP_TO has passed before the step ended (R249). -/
def State.jobTimeout (s : State) (j : Nat) : State :=
  let lim := s.rdf (A.calJobCfg j) 16 16
  match s.jobStart j with
  | none => s
  | some t =>
    if s.jobRunning j && lim ≠ 0 && decide (t + lim * 1000000 ≤ s.now) then
      ((s.jobEnds j).bumpF (A.calJobTo j) 0).raise jobPage 9
    else s

/-! ## Meanings -/

def execCalJobStepStart (j : Fin 8) (s : State) : Host.Outcome State Fault Refusal := .next (s.jobPendingStart j)

def execCalJobTimeout (j : Fin 8) (s : State) : Host.Outcome State Fault Refusal := .next (s.jobTimeout j)

end Sys2Proof.Machine
end

