-- ==== Sys2Proof/Machine/HstIn.lean ====
section
/-!
DEFINITION. The host interface: BAR windows, inlet rings, host DMA channels, poisoned writes, hot reset and link-up (R328 to R335,
R343 to R348).
-/
namespace Sys2Proof.Machine

/-- The host global page and the inlet page. -/
abbrev hstPage : Nat := 0x310000
abbrev inletPage : Nat := 0x311000

/-! ## Inlet rings (R332 to R335) -/

/-- The entries of inlet ring `n`. -/
def State.inSize (s : State) (n : Nat) : Nat := ringSize 4 12 (s.rdf (A.hstInCfg n) 4 4)

/-- BASIN of inlet ring `n`. -/
def State.inBasin (s : State) (n : Nat) : Nat := s.rdf (A.hstInCfg n) 8 5

/-- Accepted PI - CI of inlet ring `n`. -/
def State.inUsed (s : State) (n : Nat) : Nat := (s.rd (A.hstInPi n) + 2 ^ 32 - s.rd (A.hstInCi n)) % 2 ^ 32

/-- The result of a doorbell that asks for `count` entries (Table HST-4). -/
def State.doorbellResult (s : State) (n count : Nat) : Nat :=
  if s.rdb (A.hstInStat n) 3 then 4
  else if !s.rdb (A.hstInCfg n) 0 || s.inBasin n = 31 || !s.rdb (A.dspBCfg (s.inBasin n)) 0 then 3
  else if s.inSize n < count + s.inUsed n then 2
  else if count = 0 then 0
  else if s.credit (s.inBasin n) < count then 1
  else 0

/-- The read requests for the entries from index `i` on: entry i lies at BASE + 64 * (i mod 2^LOG2SZ), and a request covers at most
64 entries that lie side by side (R332, R334). -/
def State.inletReads (s : State) (n i : Nat) : Nat → Nat → List Out
  | 0, _ => []
  | f + 1, cnt =>
    if cnt = 0 then []
    else
      let at_ := i % s.inSize n
      let k := min (min cnt 64) (s.inSize n - at_)
      .hostRead (s.rd64 (A.hstInBase n) + 64 * at_) (64 * k) :: s.inletReads n (i + k) f (cnt - k)

/-- A doorbell (R333): accepted whole with its reservation, or refused with nothing changed but status and counters.  The reads of the
entries of an accepted one go out (R334). -/
def State.inletDoorbell (s : State) (n v : Nat) : State :=
  let count := (v + 2 ^ 32 - s.rd (A.hstInPi n)) % 2 ^ 32
  let r := s.doorbellResult n count
  let s1 := s.wrf (A.hstInStat n) 0 3 r
  if r ≠ 0 then (s1.bumpF (A.hstInRef n) 0).raise inletPage 8
  else
    let s2 := (s1.wr (A.hstInPi n) v).basinGrown (s.inBasin n) (s.credit (s.inBasin n))
    (s.inletReads n (s.rd (A.hstInPi n)) 4097 count).foldl (fun t x => t.emit x) s2

/-- One fetched entry is offered (R334). -/
def State.inletEntry (s : State) (n : Nat) (words : List Nat) : State :=
  if !s.rdb (A.hstInCfg n) 0 || s.rdb (A.hstInStat n) 3 || s.inUsed n = 0 then s
  else
    let ci := s.rd (A.hstInCi n)
    let s1 := s.wr (A.hstInCi n) ((ci + 1) % 2 ^ 32)
    let w := (rangeFrom 0 16).map (fun k => nth 0 words k % 2 ^ 32)
    let r : Nat × State := if fld (nth 0 w 0) 16 5 ≠ s.inBasin n then (1, s1) else s1.offer 0 n w false true
    (if r.1 = 0 then r.2
     else ((r.2.bumpF (A.hstInRef n) 16).raise inletPage 9).pageErr inletPage 0x0101
       (n + r.1 * 2 ^ 8 + ci % 2 ^ 16 * 2 ^ 16)).quietEdge inletPage (s.busy inletPage)

/-- Fetched entries in index order. -/
def State.inletEntries (s : State) (n : Nat) : List (List Nat) → State
  | [] => s
  | w :: t => (s.inletEntry n w).inletEntries n t

/-- A failed fetch puts the ring in fault (R335). -/
def State.inletFault (s : State) (n : Nat) : State :=
  if s.inletResv n = 0 then s
  else (((s.wrb (A.hstInStat n) 3 true).raise inletPage 10).pageErr inletPage 0x0100 n).quietEdge inletPage (s.busy inletPage)

/-- The write of HST_IN_CFG: enabling sets both indices to 0, and EN = 0 clears a fault (R332, R335). -/
def State.inletCfg (s : State) (n old v : Nat) : State :=
  if tbit v 0 then (if tbit old 0 then s else (s.wr (A.hstInPi n) 0).wr (A.hstInCi n) 0)
  else
    let held : Bool := tbit old 0 && !s.rdb (A.hstInStat n) 3 && s.rd (A.hstInPi n) ≠ s.rd (A.hstInCi n)
    (s.wrb (A.hstInStat n) 3 false).quietEdge inletPage held

/-- HST_IN_STAT with FETCHING as it stands: entries are still to be offered. -/
def State.inletStat (s : State) (n : Nat) : Nat := putBit (s.rd (A.hstInStat n)) 4 (s.inletResv n ≠ 0)

/-! ## Host DMA (R343, R344) -/

/-- The descriptors of the ring of channel `c`. -/
def State.dmaSize (s : State) (c : Nat) : Nat := ringSize 2 12 (s.rdf (A.hstDmaCfg c) 4 4)

/-- Descriptors of channel `c` accepted and not completed. -/
def State.dmaUsed (s : State) (c : Nat) : Nat := (nth 0 s.hst.dmaPi c + 2 ^ 32 - s.rd (A.hstDmaCi c)) % 2 ^ 32

/-- Set the accepted producer index of a channel. -/
def State.setDmaPi (s : State) (c v : Nat) : State := { s with hst := { s.hst with dmaPi := upd (fun _ => v) s.hst.dmaPi c } }

/-- What a channel knows of the descriptor that it runs. -/
def State.setDmaCur (s : State) (c : Nat) (x : Option (Bool × Nat)) : State :=
  { s with hst := { s.hst with dmaCur := upd (fun _ => x) s.hst.dmaCur c } }

/-- The host address of the descriptor at CI: BASE + 32 * (CI mod 2^LOG2SZ) (R332, R343). -/
def State.dmaAt (s : State) (c : Nat) : Nat := s.rd64 (A.hstDmaBase c) + 32 * (s.rd (A.hstDmaCi c) % s.dmaSize c)

/-- A doorbell on a host DMA channel, under the index rules of R332; one that breaks them has no effect.  A channel that was idle
reads its next descriptor. -/
def State.dmaDoorbell (s : State) (c v : Nat) : State :=
  let count := (v + 2 ^ 32 - nth 0 s.hst.dmaPi c) % 2 ^ 32
  if !s.rdb (A.hstDmaCfg c) 0 || s.rdb (A.hstDmaStat c) 8 || count = 0 || s.dmaSize c < count + s.dmaUsed c then s
  else
    let s1 := s.starting hstPage (fun t => (t.setDmaPi c v).wrb (A.hstDmaStat c) 9 true)
    if s.dmaUsed c = 0 then s1.emit (.hostRead (s.dmaAt c) 32) else s1

/-- The descriptor at CI ends with a status: its last word is written, CI passes it, and its message is sent (R344, Table
HST-6); a channel that runs on reads its next descriptor. -/
def State.dmaEnd (s : State) (c status : Nat) (irq : Bool) : State :=
  let ci := s.rd (A.hstDmaCi c)
  let s1 := s.emit (.hostWrite (s.dmaAt c + 0x1C) (leBytes 4 (status + 2 ^ 8)))
  let s2 := (s1.wr (A.hstDmaCi c) ((ci + 1) % 2 ^ 32)).setDmaCur c none
  let on : Bool := status ≠ 9 && s2.dmaUsed c ≠ 0
  let s3 := s2.wr (A.hstDmaStat c) (status + (if status = 9 then 2 ^ 8 else 0) + (if on then 2 ^ 9 else 0))
  let s4 := if irq && s3.rdb (A.hstDmaCfg c) 1 then s3.sendMsix (s3.rdf (A.hstDmaCfg c) 8 11) else s3
  (if on && status ≠ 8 then s4.emit (.hostRead (s4.dmaAt c) 32) else s4).quietEdge hstPage (s.busy hstPage)

/-- A descriptor as fetched: DIR, IRQ, LEN, host address, device address (Table HST-6). -/
structure HostDesc where
  toHost : Bool
  irq    : Bool
  len    : Nat
  host   : Nat
  dev    : Nat
deriving DecidableEq, Repr

/-- The descriptor of eight words. -/
def hostDesc (w : List Nat) : HostDesc := {
  toHost := tbit (nth 0 w 0) 0
  irq := tbit (nth 0 w 0) 1
  len := nth 0 w 1
  host := nth 0 w 2 + nth 0 w 3 * 2 ^ 32
  dev := nth 0 w 4 + nth 0 w 5 * 2 ^ 32 }

/-- LEN or an address breaks Table HST-6, or the device bytes do not lie wholly in local HBM or the scratchpad (R344). -/
def HostDesc.bad (d : HostDesc) : Bool :=
  d.len % 8 ≠ 0 || d.len < 8 || 2 ^ 30 < d.len || d.host % 8 ≠ 0 || d.dev % 8 ≠ 0 || !inLocal d.dev d.len

/-- The bytes from `k` on of a transfer are moved, `n` of them.  The flag says that an uncorrectable word was read. -/
def State.dmaMove (s : State) (c : Nat) (d : HostDesc) (k n : Nat) (data : List Byte) : Bool × State :=
  if !d.toHost then s.storeTold 4 c (d.dev + k) ((data.take n).take (d.len - k))
  else
    match s.fetch 4 c (d.dev + k) n with
    | (some bs, s1) => (false, s1.emit (if tbit s.hst.devCtl 4 then .hostRelaxed (d.host + k) bs else .hostWrite (d.host + k) bs))
    | (none, s1) => (true, s1)

/-- The bytes that the descriptor at CI has moved so far. -/
def State.dmaMoved (s : State) (c : Nat) : Nat := match nth none s.hst.dmaCur c with | some x => x.2 | none => 0

/-- The transfer of the descriptor at CI goes on: it has been fetched as `w`, and the bytes that `data` has, or as many of the
device's, have been moved. -/
def State.dmaPart (s : State) (c : Nat) (w : List Nat) (data : List Byte) : State :=
  if !s.rdb (A.hstDmaCfg c) 0 || s.rdb (A.hstDmaStat c) 8 || s.dmaUsed c = 0 then s
  else
    let d := hostDesc w
    let k := s.dmaMoved c
    let n := min data.length (d.len - k)
    if d.bad then s.setDmaCur c (some (d.irq, 0))
    else
      match s.dmaMove c d k n data with
      | (true, s1) => s1.dmaEnd c 9 d.irq
      | (false, s1) => s1.setDmaCur c (some (d.irq, k + n))

/-- The transfer of the descriptor at CI ends.  `w` is the descriptor as fetched; `data` what the host's memory gave for the rest of
a transfer to the device, and `failed` that a host read failed. -/
def State.dmaRun (s : State) (c : Nat) (w : List Nat) (data : List Byte) (failed : Bool) : State :=
  if !s.rdb (A.hstDmaCfg c) 0 || s.rdb (A.hstDmaStat c) 8 || s.dmaUsed c = 0 then s
  else
    let d := hostDesc w
    let k := s.dmaMoved c
    if d.bad then s.dmaEnd c 9 d.irq
    else if failed && d.toHost then s.dmaEnd c 9 d.irq
    else
      let (ue, s1) := s.dmaMove c d k (d.len - k) data
      s1.dmaEnd c (if ue || (!d.toHost && (failed || k + data.length < d.len)) then 9 else 0) d.irq

/-- The write of HST_DMA_CFG: EN = 1 sets both indices to 0; EN = 0 ends a running transfer with ABORT_HOST, its message included and
the bytes moved so far left in place, and clears a fault (R343, R344). -/
def State.dmaCfg (s : State) (c old v : Nat) : State :=
  if tbit v 0 then (if tbit old 0 then s else (s.setDmaPi c 0).wr (A.hstDmaCi c) 0)
  else
    let irq : Bool := match nth none s.hst.dmaCur c with | some x => x.1 | none => false
    let s1 := if tbit old 0 && !s.rdb (A.hstDmaStat c) 8 && s.dmaUsed c ≠ 0 then s.dmaEnd c 8 irq else s
    (s1.wrf (A.hstDmaStat c) 8 2 0).quietEdge hstPage (s1.busy hstPage)

/-! ## BAR windows (R328 to R330) -/

/-- An access beyond what a BAR maps: counted and recorded. -/
def State.bar2Miss (s : State) (off : Nat) : State := (s.bump A.hstBar2Unmap).pageErr hstPage 0x0100 (off % 2 ^ 27)

/-- The HBM address of a BAR4 offset: bits of the window below the BAR size are ignored. -/
def State.bar4Addr (s : State) (off : Nat) : Nat :=
  0x1000000000 + s.rd64 A.hstBar4Win / 2 ^ s.hst.bar4Log * 2 ^ s.hst.bar4Log + off

/-- The bytes a host read returns: each 32-bit word of an uncorrectable word reads as 0xFFFF_FFFF (Table SPD-2). -/
def maskUe (ue : List Nat) (a : Nat) : List Byte → List Byte
  | [] => []
  | b :: t => (if ue.contains (wordAddr a) then 0xFF else b) :: maskUe ue (a + 1) t

/-- A host read of device memory. -/
def State.hostFetch (s : State) (a n : Nat) : List Byte × State := (maskUe s.spd.ue a (s.readMem a n), s.readAll 0 0 a n)

/-- Errors that the HBM controllers find in the words of an access (R525): the word's number within it, and whether it is
uncorrectable (log entry 13). -/
def State.hbmErrs (s : State) (a n : Nat) : List (Nat × Bool) → State
  | [] => s
  | (k, bad) :: t => (if 8 * k < n then s.found (wordAddr a + 8 * k) (if bad then 2 else 1) else s).hbmErrs a n t

/-- A host access through BAR4 (R330): a write carries its bytes, a read the number of bytes asked for. -/
def State.bar4 (s0 : State) (off : Nat) (wr : Option (List Byte)) (n : Nat) (errs : List (Nat × Bool)) : State :=
  let s := s0.hbmErrs (s0.bar4Addr off) (match wr with | some bs => bs.length | none => n) (if inHbm (s0.bar4Addr off) 1 then errs else [])
  let len := match wr with | some bs => bs.length | none => n
  let a := s.bar4Addr off
  if 2 ^ s.hst.bar4Log < off + len then s
  else if !inHbm a len then
    let s1 := s.bar2Miss off
    if wr.isNone then s1.emit (.barData 4 off (List.replicate n 0)) else s1
  else match wr with
    | some bs => s.storeAs 0 0 a bs
    | none => (s.hostFetch a n).2.emit (.barData 4 off (s.hostFetch a n).1)

/-! ## The MSI-X structures (R57, R329, R345) -/

/-- The host masks a vector. -/
def State.vectorMask (s : State) (v : Nat) : State := { s with msix := { s.msix with unmasked := setDel v s.msix.unmasked } }

/-- The host unmasks a vector: a message held for it is sent once, unless the function is masked (R57). -/
def State.vectorUnmask (s : State) (v : Nat) : State :=
  let m : MsixState := { s.msix with unmasked := setIns v s.msix.unmasked }
  if m.pend.contains v && !m.funcMask then { s with msix := { m with pend := setDel v m.pend } }.emit (m.msg v) else { s with msix := m }

/-- The host masks or unmasks the function: on unmask, every message held for an unmasked vector is sent once (R57). -/
def State.funcMasked (s : State) (on : Bool) : State :=
  let s1 := { s with msix := { s.msix with funcMask := on } }
  if on then s1 else (s.msix.pend.filter (fun v => s.msix.unmasked.contains v)).foldl (fun t v => t.vectorUnmask v) s1

/-- A 32-bit word of the MSI-X structures, by its number from 0x0600_0000: entries of address, data and vector control, whose bit 0
is the mask; then the pending bits. -/
def State.msixRead (s : State) (i : Nat) : Nat :=
  if i < 0x2000 then (if i % 4 = 3 then (if s.msix.unmasked.contains (i / 4) then 0 else 1) else s.msix.word (i / 4) (i % 4))
  else ((rangeFrom 0 32).map (fun k => b2n (s.msix.pend.contains ((i - 0x2000) * 32 + k)) k)).sum

/-- The host writes a word of the MSI-X table; the pending bits take no write. -/
def State.msixWrite (s : State) (i v : Nat) : State :=
  if 0x2000 ≤ i then s
  else if i % 4 = 3 then (if tbit v 0 then s.vectorMask (i / 4) else s.vectorUnmask (i / 4))
  else { s with msix := { s.msix with
    table := Sparse.set (fun _ => (0 : Word)) s.msix.table i (BitVec.ofNat 32 (if i % 4 = 0 then v / 4 * 4 else v)) } }

/-- The words of a write, one after another. -/
def State.msixPuts (s : State) (i : Nat) : List Byte → State
  | a :: b :: c :: d :: t => (s.msixWrite i (leNat [a, b, c, d])).msixPuts (i + 1) t
  | _ => s

/-- The bytes of a read of the MSI-X structures. -/
def State.msixBytes (s : State) (o n : Nat) : List Byte :=
  (((rangeFrom (o / 4) (n / 4 + 2)).flatMap (fun i => leBytes 4 (s.msixRead i))).drop (o % 4)).take n

/-- A bank cycle after every one in which a port or a reservation is in use. -/
def State.idleCycle (s : State) : Nat :=
  (s.spd.ports.map (fun (u : PortUse) => u.last + 4) ++ s.spd.resv.map (fun (r : Resv) => r.last + 1)).foldl max 0

/-- The request of a host access for the word at `w`: as the sender says it meets its bank, or in a cycle of its own. -/
def State.hostReq (s : State) (w : Nat) (q : Option BankAt) : BankReq :=
  match q with
  | some b => { addr := w, cls := 0, id := 0, tag := b.tag, cyc := b.cyc, age := b.age, secure := false, found := b.found, met := b.met, again := b.again }
  | none => { addr := w, cls := 0, id := 0, tag := 0, cyc := s.idleCycle, age := 0, secure := false, found := 0, met := none }

/-- The bytes of the word at `w` that a write of `bs` from `a` gives: byte enables and data. -/
def wordPart (a w : Nat) (bs : List Byte) : Nat × Nat :=
  ((rangeFrom 0 8).map (fun k => if a ≤ w + k && w + k < a + bs.length then (2 ^ k, (nth 0 bs (w + k - a)).toNat * 2 ^ (8 * k)) else (0, 0))).foldl
    (fun x y => (x.1 + y.1, x.2 + y.2)) (0, 0)

/-- The bank has taken a host request: the word that a read gives, and the state. -/
def State.hostWordGo (s : State) (q : BankReq) (wr : Option (Nat × Nat)) : List Byte × State :=
  match wr with
  | none => let (v, t) := s.bankLoad q false; (hostWord v, t)
  | some (be, data) => ([], if be = 255 then s.bankPut q data else (s.bankChange q false (fun old => mergeBytes old data be 8)).2)

/-- The words of a host access from `w` on go to their banks through port B, one after another (R306, R331); the sender says how each
request meets its bank, a request that is not taken being presented again.  The flag says that the banks refuse requests (R322). -/
def State.hostWords (s : State) (a : Nat) (wr : Option (List Byte)) : Nat → Nat → Nat → List BankAt → Bool × List Byte × State
  | 0, _, _, _ => (false, [], s)
  | f + 1, w, n, qs =>
    if n = 0 then (false, [], s)
    else
      let q := s.hostReq w qs.head?
      let part := wr.map (wordPart a w)
      let k := match part with | none => 0 | some p => if p.1 = 255 then 1 else 2
      match s.bankGate q k with
      | .taken =>
        let (l, t) := s.hostWordGo q part
        let (no, m, u) := t.hostWords a wr f (w + 8) (n - 1) qs.tail
        (no, l ++ m, u)
      | .stalled => (s.bankStall q false).hostWords a wr f w n qs.tail
      | .waits => s.hostWords a wr f w n qs.tail
      | _ => (true, [], s)

/-- A host access to the scratchpad window.  What a read returns while the banks refuse requests is a free value. -/
def State.hostSpd (s : State) (off : Nat) (wr : Option (List Byte)) (n : Nat) (qs : List BankAt) : State :=
  let a := 0x0100000000 + off
  let len := match wr with | some bs => bs.length | none => n
  let w := wordAddr a
  let words := (a + len - w + 7) / 8
  let (no, bs, t) := s.hostWords a wr (words + qs.length) w words qs
  if wr.isSome then t
  else if no then (let (v, u) := t.draw 64; u.emit (.barData 2 off ((rangeFrom 0 n).map (fun k => BitVec.ofNat 8 (v.toNat / 2 ^ (8 * (k % 8)))))))
  else t.emit (.barData 2 off ((bs.drop (a - w)).take n))

/-- A host access through BAR2 (R328, R329, R331): the scratchpad window, the MSI-X structures, and what lies above them. -/
def State.bar2 (s : State) (off : Nat) (wr : Option (List Byte)) (n : Nat) (qs : List BankAt) : State :=
  let len := match wr with | some bs => bs.length | none => n
  if 0x08000000 < off + len then s
  else if 0x06008100 < off + len then
    let s1 := s.bar2Miss off
    if wr.isNone then s1.emit (.barData 2 off (List.replicate n 0)) else s1
  else if 0x06000000 ≤ off then
    match wr with
    | some bs => if off % 4 = 0 then s.msixPuts ((off - 0x06000000) / 4) bs else s
    | none => s.emit (.barData 2 off (s.msixBytes (off - 0x06000000) n))
  else if 0x06000000 < off + len then s
  else s.hostSpd off wr n qs

/-! ## Configuration space (R326, R327, R330, R346) -/

/-- log2 of the size of a BAR, 0 to 2 for BAR0, BAR2 and BAR4 (Table HST-3). -/
def HstState.barLog (h : HstState) (k : Nat) : Nat := match k with | 0 => 26 | 1 => 27 | _ => h.bar4Log

/-- A BAR as it reads: the base address, aligned on the size; 64-bit, BAR4 prefetchable (R328). -/
def HstState.barRead (h : HstState) (k : Nat) : Nat := nth 0 h.bars k / 2 ^ h.barLog k * 2 ^ h.barLog k + (if k = 2 then 0xC else 0x4)

/-- The host writes the low (0) or high (1) half of a BAR. -/
def HstState.barWrite (h : HstState) (k half v : Nat) : HstState :=
  { h with bars := upd (fun b => (b - fld b (32 * half) 32 * 2 ^ (32 * half) + v % 2 ^ 32 * 2 ^ (32 * half)) / 2 ^ h.barLog k * 2 ^ h.barLog k) h.bars k }

/-- Device control takes the bits that the options of Table HST-2 give a meaning: error enables and relaxed ordering, a payload of 128 to
512 bytes, and a read request of 128 to 4,096. -/
def HstState.devWrite (h : HstState) (v : Nat) : HstState :=
  let mps := if fld v 5 3 ≤ 2 then fld v 5 3 else fld h.devCtl 5 3
  let mrrs := if fld v 12 3 ≤ 5 then fld v 12 3 else fld h.devCtl 12 3
  { h with devCtl := v % 2 ^ 5 + mps * 2 ^ 5 + mrrs * 2 ^ 12, devSta := maskOut h.devSta (fld v 16 4) }

/-- The uncorrectable errors that the device reports: a poisoned write and a failed read, bits 12 and 14 as PCI Express numbers them. -/
abbrev aerBits : Nat := 2 ^ 12 + 2 ^ 14

/-- A word of configuration space.  IDs, revision and class are those of R327 and the BARs those of R328; where the other structures lie is
the model's choice (log entry 205): power management at 0x044, PCI Express at 0x070, MSI-X at 0x0B0, AER at 0x100, Resizable BAR at
0x204. -/
def State.cfgRead (s : State) (o : Nat) : Nat :=
  let h := s.hst
  match o with
  | 0x000 => Config.vendorId.toNat + 0x0C20 * 2 ^ 16
  | 0x008 => 0xA1 + 0x120000 * 2 ^ 8
  | 0x010 => h.barRead 0 % 2 ^ 32
  | 0x014 => h.barRead 0 / 2 ^ 32
  | 0x018 => h.barRead 1 % 2 ^ 32
  | 0x01C => h.barRead 1 / 2 ^ 32
  | 0x020 => h.barRead 2 % 2 ^ 32
  | 0x024 => h.barRead 2 / 2 ^ 32
  | 0x044 => h.power
  | 0x074 => 2 + 2 ^ 5 + 2 ^ 28
  | 0x078 => h.devCtl + h.devSta * 2 ^ 16
  | 0x07C => 5 + 16 * 2 ^ 4 + 2 * 2 ^ 10
  | 0x080 => b2n h.aspmL1 1 + s.rdf A.hstLink 0 3 * 2 ^ 16 + s.rdf A.hstLink 4 5 * 2 ^ 20
  | 0x094 => 2 ^ 16 + 2 ^ 17
  | 0x0B0 => 2047 * 2 ^ 16 + b2n s.msix.funcMask 30 + 2 ^ 31
  | 0x0B4 => 0x06000000 + 2
  | 0x0B8 => 0x06008000 + 2
  | 0x104 => h.aer
  | 0x108 => h.aerMask
  | 0x10C => h.aerSev
  | 0x118 => 2 ^ 5 + b2n h.ecrcGen 6 + 2 ^ 7 + b2n h.ecrcChk 8
  | 0x204 => 0xFF000
  | 0x208 => 4 + 1 * 2 ^ 5 + (h.bar4Log - 20) * 2 ^ 8
  | _ => 0

/-! ## Link (R346 to R348) -/

/-- The three host pages become READY once the link is in L0 and the calibration block is ready (R348). -/
def State.hstReady (s : State) : State :=
  if s.rdb A.hstLink 16 && s.ready 0x370000 then s.makeReady 0x0D else s

/-- A register word of the host interface that a hot reset keeps: PAGE_LOCK, and HST_BAR4_WIN while it is locked (R49, R347). -/
def State.hotKeeps (s : State) (a : Nat) : Bool :=
  a % 0x1000 = 0x010 || ((a = A.hstBar4Win || a = A.hstBar4Win + 4) && s.rdb (hstPage + 0x010) 0)

/-- A hot reset, a function level reset or a link-down event (R347); `down` says that the link leaves L0. -/
def State.hotReset (s0 : State) (down : Bool) : State :=
  let s := s0.bump A.rstHotCnt
  let link := s.rd A.hstLink
  let inHst (p : Nat) : Bool := 0x310000 ≤ p && p < 0x313000
  let s1 := { s with
    regs := s.regs.filter (fun x => !inHst x.1 || s.hotKeeps x.1)
    latches := s.latches.filter (fun x => !inHst x.page)
    staged := s.staged.filter (fun x => !inHst x.page)
    waitIn := s.waitIn.filter (fun x => !inHst x.1)
    msix := {}
    hst := {} }
  if down then s1.raise hstPage 8 else s1.wr A.hstLink link

/-- The host writes a word of configuration space: the BARs, the power state, device control with its Function Level Reset, ASPM L1, the
function mask, AER with the bits to clear, and the BAR4 size from 256 MiB to 32 GiB (R326, R328, R330, R347). -/
def State.cfgWrite (s : State) (o v : Nat) : State :=
  let set (h : HstState) : State := { s with hst := h }
  match o with
  | 0x010 => set (s.hst.barWrite 0 0 v)
  | 0x014 => set (s.hst.barWrite 0 1 v)
  | 0x018 => set (s.hst.barWrite 1 0 v)
  | 0x01C => set (s.hst.barWrite 1 1 v)
  | 0x020 => set (s.hst.barWrite 2 0 v)
  | 0x024 => set (s.hst.barWrite 2 1 v)
  | 0x044 => if v % 4 = 0 || v % 4 = 3 then set { s.hst with power := v % 4 } else s
  | 0x078 => if tbit v 15 then s.hotReset false else set (s.hst.devWrite v)
  | 0x080 => set { s.hst with aspmL1 := tbit v 1 }
  | 0x0B0 => s.funcMasked (tbit v 30)
  | 0x104 => set { s.hst with aer := maskOut s.hst.aer v }
  | 0x108 => set { s.hst with aerMask := v &&& aerBits }
  | 0x10C => set { s.hst with aerSev := v }
  | 0x118 => set { s.hst with ecrcGen := tbit v 6, ecrcChk := tbit v 8 }
  | 0x208 => if 8 ≤ fld v 8 6 && fld v 8 6 ≤ 15 then set { s.hst with bar4Log := 20 + fld v 8 6 } else s
  | _ => s

/-- An uncorrectable error is reported through AER (R346): its status bit is set and the error detected; where it is not masked, a message
goes out for its severity, if device control enables that. -/
def State.aerReport (s : State) (bit : Nat) : State :=
  let h := s.hst
  let fatal := tbit h.aerSev bit
  let s1 := { s with hst := { h with aer := putBit h.aer bit true, devSta := putBit h.devSta (if fatal then 2 else 1) true } }
  if !tbit h.aerMask bit && tbit h.devCtl (if fatal then 2 else 1) then s1.emit (.errMsg (if fatal then 2 else 1)) else s1

/-- The link reaches L0 at a speed and width of Table HST-2 (R326, R348). -/
def State.pcieUp (s : State) (speed width : Nat) : State :=
  if !(1 ≤ speed && speed ≤ 5 && [1, 2, 4, 8, 16].contains width) then s
  else
    let v := speed + width * 2 ^ 4 + 2 ^ 16
    let s1 := if s.rd A.hstLink = v then s else (s.wr A.hstLink v).raise hstPage 8
    ((s1.serdesTrain 8).wrb A.clkPllLock 4 true).hstReady

/-! ## Meanings -/

/-- Read requests answered for an inlet ring, or a failed one. -/
def execInletEntryFetched (n : Fin 64) (entries : List (List Nat)) (failed : Bool) (s : State) : Host.Outcome State Fault Refusal :=
  .next (if failed then s.inletFault n else s.inletEntries n (entries.take 64))

/-- The descriptor at CI ends, or (`part`) goes on with the bytes given. -/
def execDmaDescriptorDone (c : Fin 8) (words : List Nat) (data : List Byte) (failed part : Bool) (s : State) :
    Host.Outcome State Fault Refusal :=
  let w := (rangeFrom 0 8).map (fun k => nth 0 words k % 2 ^ 32)
  let d := hostDesc w
  .next (if !d.bad && !s.memRuns d.dev d.len then s else if part then s.dmaPart c w data else s.dmaRun c w data failed)

/-- A received write with poisoned data is dropped, counted and reported through AER; so is a device read of host memory that fails, other
than a ring fetch or a DMA (`failed`) (R346). -/
def execPoisonedTlp (failed : Bool) (s : State) : Host.Outcome State Fault Refusal :=
  .next (if failed then ((s.bump A.hstCplErr).aerReport 14).raise hstPage 9 else ((s.bump A.hstPoison).aerReport 12).raise hstPage 9)

def execHotReset (down : Bool) (s : State) : Host.Outcome State Fault Refusal :=
  .next (if s.pwr.held.isSome then s else s.hotReset down)

def execPcieLinkUp (speed width : Nat) (s : State) : Host.Outcome State Fault Refusal := .next (s.pcieUp speed width)

def execBar4Access (off : Nat) (wr : Option (List Byte)) (n : Nat) (errs : List (Nat × Bool)) (s : State) :
    Host.Outcome State Fault Refusal :=
  .next (if s.memRuns (s.bar4Addr off) (match wr with | some bs => bs.length | none => n) then s.bar4 off wr n errs else s)

/-- A host access through BAR2; `qs` says how its words meet their banks. -/
def execBar2Unmapped (off : Nat) (wr : Option (List Byte)) (n : Nat) (qs : List BankAt) (s : State) : Host.Outcome State Fault Refusal :=
  .next (s.bar2 off wr n qs)

end Sys2Proof.Machine
end

