-- ==== Sys2Proof/Machine/Saf.lean ====
section
/-!
DEFINITION. The safety island: arming, telegrams, corridors and their verification on the mooring lane, the stop channels and the
diagnostics (R380 to R404).
-/
namespace Sys2Proof.Machine

abbrev safPage : Nat := 0x330000

/-- Change the island; one robot of it. -/
def State.setSaf (s : State) (f : SafState → SafState) : State := { s with saf := f s.saf }
def State.safRobot (s : State) (r : Nat) : SafRobot := nth {} s.saf.robots r
def State.setSafRobot (s : State) (r : Nat) (f : SafRobot → SafRobot) : State := s.setSaf (fun x => { x with robots := upd f x.robots r })

/-- Robots under SAF_CFG.ROBOTS. -/
def State.monitored (s : State) : List Nat := (rangeFrom 0 4).filter (fun r => s.rdb A.safCfg r)
def State.armed (s : State) : Bool := s.rdb A.safStat 0
def State.permit (s : State) : Bool := s.rdb A.safStat 1

/-! ## Parameters (R381, R388) -/

/-- The greatest SAF_R_CYCLE_US of a monitored robot. -/
def State.maxCycle (s : State) : Nat := s.monitored.foldl (fun m r => max m (s.rdf (A.safRCycleUs r) 0 13)) 0

/-- LEAD in µs. -/
def State.safLead (s : State) : Nat := s.rdf A.safLagUs 0 16 + 3 * s.maxCycle + 2 * s.rdf A.safPeriodUs 0 10 + 1000

/-- TSAMP in µs and WIN of the island. -/
def State.safTs (s : State) : Nat := s.rdf A.safTsamp 0 24
def State.safWin (s : State) : Nat := s.rdf A.safTsamp 24 4

/-- The registers of lock group 0 in offset order. -/
def safParams : List Nat :=
  [A.safCfg, A.safPeriodUs, A.safLagUs, A.safTsamp, A.safRestartN, A.safChCfg] ++
    (rangeFrom 0 4).flatMap (fun r => [A.safRCfg r, A.safRConn r, A.safRCycleUs r, A.safRMargin r, A.safRDescCrc r, A.safRToolCrc r]) ++
    (rangeFrom 0 32).map A.safRTrack

/-- SAF_PARAM_CRC. -/
def State.safParamCrc (s : State) : Nat := crc32 (safParams.flatMap (fun a => leBytes 4 (s.rd a)))

/-! ## Stop causes (R396, R399) -/

/-- A stop cause: log, both channels low, every path in force dropped. -/
def State.safStop (s : State) (code robot detail : Nat) : State :=
  let s1 := s.safLog code robot true detail
  let st := putFld (putBit (putBit (s1.rd A.safStat) 1 false) 2 true) 4 4 0
  let s2 := ((s1.wr A.safStat st).wrf A.safChStat 0 2 0).raise safPage 8
  let edge := (rangeFrom 0 2).map (fun c => if s.rdb A.safChStat c then s.itime else nth 0 s.saf.edge c)
  let s3 := s2.setSaf (fun x => { x with
    acked := false, pulse := [none, none], edge := edge, robots := x.robots.map (fun (y : SafRobot) => { y with path := none }) })
  let p : PassState := { s3.pass with handed := List.replicate 4 none }
  { s3 with pass := p }.dropPaths

/-- A diagnostic of Table SAF-3 has failed: it is latched and stops the device. -/
def State.safDiag (s : State) (code : Nat) : State :=
  let s1 := (s.wrb A.safDiag code true).pageErr safPage 0x0101 code
  let s2 := if code = 0x0E then s1 else (s1.wrb A.safStat 3 true).raise safPage 12
  s2.safStop code 0 0

/-! ## Arming (R382) -/

/-- The description of a robot in CND, and its tool set in the slot the island uses. -/
def State.armTool (s : State) (r : Nat) : Option ToolSet := nth none (s.cnd r).tools (s.rdf (A.safRCfg r) 1 3)

/-- The number of the first check that fails; 0 when all pass. -/
def State.armCheck (s : State) : Nat :=
  let ts := s.safTs
  let within (lo hi v : Nat) : Bool := lo ≤ v && v ≤ hi
  if !s.rdb (safPage + 0x010) 0 then 1
  else if s.monitored.any (fun r => (s.cnd r).desc.isNone) then 2
  else if s.monitored.any (fun r => (s.cnd r).desc.map (·.crc) ≠ some (s.rd (A.safRDescCrc r))) then 3
  else if s.monitored.any (fun r => s.rdb (A.safRCfg r) 0 && (s.armTool r).map (·.crc) ≠ some (s.rd (A.safRToolCrc r))) then 4
  else if ts = 0 || 7 < (s.safLead + ts - 1) / ts + 2 * s.safWin + 3 then 5
  else if !(within 250 1000 (s.rdf A.safPeriodUs 0 10) && within 10 250 (s.rdf A.safChCfg 0 16) &&
      (rangeFrom 0 4).all (fun r => within 250 4000 (s.rdf (A.safRCycleUs r) 0 13))) then 6
  else if s.armed then 7 else 0

/-- The sphere set of the corridor: link spheres, and the island's tool set with TOOL_EN. -/
def State.armSet (s : State) (r : Nat) (d : Desc) : List (Nat × Sphere) :=
  let link := (rangeFrom 0 d.spheres.length).zip d.spheres
  match s.rdb (A.safRCfg r) 0, s.armTool r with
  | true, some t => link ++ (rangeFrom 64 t.spheres.length).zip t.spheres
  | _, _ => link

/-- The write of SAF_CTRL.ARM. -/
def State.safArm (s : State) : State :=
  match s.armCheck with
  | 0 =>
    let copy (r : Nat) (x : SafRobot) : SafRobot :=
      match s.rdb A.safCfg r, (s.cnd r).desc with
      | true, some d => { x with desc := some d, set := s.armSet r d, newest := none, waive := true, last := none, offs := [] }
      | _, _ => x
    let s1 := (rangeFrom 0 4).foldl (fun t r => t.setSafRobot r (copy r)) s
    (s1.setSaf (fun x => { x with tickAt := s.itime + s.rdf A.safPeriodUs 0 10 * 1000 })).wrb A.safStat 0 true
  | n => (s.pageErr safPage 0x0100 n).safLog 0x25 0 false n

/-! ## Telegrams (R153, R383 to R385) -/

/-- Reject a telegram. -/
def State.tgReject (s : State) (r reason : Nat) : State :=
  ((s.bumpF (A.safRTgRej r) 16).wrf (A.safRTgRej r) 0 4 reason).safLog 0x21 r false reason

/-- The write of the CRC word of an inbox submits its 96 bytes. -/
def State.tgSubmit (s : State) (r : Nat) : State :=
  if 4 ≤ (s.safRobot r).inbox.length then s.tgReject r 9
  else
    let bs := (rangeFrom 0 24).flatMap (fun k => leBytes 4 (s.rd (A.safInbox (32 * r + k))))
    s.setSafRobot r (fun x => { x with inbox := x.inbox ++ [(bs, s.itime / 1000)] })

/-- TIME of a telegram. -/
def tgTime (bs : List Byte) : Nat := leNat ((bs.drop 8).take 8)

/-- The lag of a telegram submitted at `a` µs against the recent window. -/
def tgLag (offs : List Int) (bs : List Byte) (a : Nat) : Int :=
  let o : Int := (a : Int) - tgTime bs
  o - offs.foldl min o

/-- The reason of the first check of Table SAF-2 that fails; 0 when all pass. -/
def State.tgCheck (s : State) (r : Nat) (x : SafRobot) (bs : List Byte) (a : Nat) : Nat :=
  let j := match x.desc with | some d => d.joints.length | none => 0
  let zero (o n : Nat) : Bool := ((bs.drop o).take n).all (fun b => b = 0)
  let d (l : Nat × Nat) : Int := sgn 32 ((uWord bs 0 + 2 ^ 32 - l.1) % 2 ^ 32)
  let dt (l : Nat × Nat) : Int := (tgTime bs : Int) - l.2
  if crc32c (bs.take 92) ≠ uWord bs 92 then 1
  else if fld (uWord bs 4) 16 2 ≠ r || !s.rdb A.safCfg r || !s.armed then 2
  else if fld (uWord bs 4) 0 16 ≠ s.rdf (A.safRConn r) 0 16 then 3
  else if fld (uWord bs 4) 24 4 ≠ j then 4
  else if !(zero 0x50 12 && zero (0x10 + 4 * j) (4 * (8 - j)) && zero (0x30 + 4 * j) (4 * (8 - j))) then 5
  else if !x.waive && (match x.last with | some l => !(1 ≤ d l && d l ≤ 65536) | none => false) then 6
  else if !x.waive && (match x.last with | some l => !(1 ≤ dt l && dt l ≤ 4 * s.rdf (A.safRCycleUs r) 0 13) | none => false) then 7
  else if (s.rdf A.safLagUs 0 16 : Int) < tgLag x.offs bs a then 8 else 0

/-- Check the oldest submitted telegram of a robot; while the page is quiesced the telegrams wait (R52). -/
def State.tgTake (s : State) (r : Nat) : State :=
  let x := s.safRobot r
  match if s.pageOpen safPage then x.inbox else [] with
  | [] => s
  | (bs, a) :: rest =>
    let s1 := s.setSafRobot r (fun y => { y with inbox := rest })
    match s.tgCheck r x bs a with
    | 0 =>
      let seq := uWord bs 0
      let d : Int := match x.last with | some l => sgn 32 ((seq + 2 ^ 32 - l.1) % 2 ^ 32) | none => 1
      let s2 := s1.setSafRobot r (fun y => { y with
        newest := some (sWords bs 0x10 8, (rangeFrom 0 8).map (fun i => (uWord bs (0x30 + 4 * i) : Int)))
        accAt := s.itime, waive := false, last := some (seq, tgTime bs)
        offs := (((a : Int) - tgTime bs) :: y.offs).take 256 })
      let s3 := ((s2.wrb (A.safRStat r) 0 false).wr (A.safRTgSeq r) seq).wr (A.safRLag r) (min 0xFFFF (tgLag x.offs bs a).toNat)
      if 1 < d then s3.bumpBy (A.safRTgLost r) (d - 1).toNat else s3
    | n => s1.tgReject r n

/-- No telegram has been accepted for more than 3 controller cycles (R385). -/
def State.robotStale (s : State) (r : Nat) : State :=
  let x := s.safRobot r
  if s.armed && s.rdb A.safCfg r && !s.rdb (A.safRStat r) 0 && x.accAt + 3 * s.rdf (A.safRCycleUs r) 0 13 * 1000 < s.itime then
    ((s.setSafRobot r (fun y => { y with waive := true })).wrb (A.safRStat r) 0 true).safStop 0x12 r 0
  else s

/-! ## Corridors (R387, R389) -/

/-- The stop inflation E_s, in units of 2^-29 of a P32 LSB. -/
def stopDisp (d : Desc) (sp : Sphere) (stop : List Int) : Nat := 2 * dispSum sp.link 1 d.joints sp.levers [] stop

/-- The first and last path sample of a corridor formed at island time `now`, in ns. -/
def corridorWindow (now tsamp win lead len : Nat) (k : PathRec × Nat × Nat) : Nat × Nat :=
  let e : Int := (now : Int) - k.2.2 + k.2.1 - k.1.tc
  let step : Int := (tsamp * 1000 : Nat)
  let top : Int := (len : Int) - 1
  ((max 0 (min top (e / step - win - 1))).toNat, (max 0 (min top ((e + (lead * 1000 : Nat)) / step + win + 1))).toNat)

/-- Form the corridor of a robot; a stale robot has no telegram. -/
def State.corridor (s : State) (r : Nat) : Corridor :=
  let x := s.safRobot r
  let w := match x.path with
    | some k => corridorWindow s.itime (max 1 s.safTs) s.safWin s.safLead k.1.res.cand.smp.length k
    | none => (0, 0)
  { robot := r, tele := if s.rdb (A.safRStat r) 0 then none else x.newest, path := x.path.map (·.1), ja := w.1, jb := w.2 }

/-- A sphere of a pose: number, radius, centre, what is subtracted from its clearances. -/
structure PoseSphere where
  num : Nat
  rad : Nat
  at_ : Int × Int × Int
  sub : Nat
deriving DecidableEq, Repr

/-- The poses of a corridor. -/
def State.poses (s : State) (c : Corridor) : List (List PoseSphere) :=
  let x := s.safRobot c.robot
  match x.desc, c.tele with
  | some d, some (q, stop) =>
    let pose (v : List Int) (sub : Sphere → Nat) : List PoseSphere :=
      (d.centres x.set v).map (fun y => { num := y.1, rad := y.2.1.radius, at_ := y.2.2, sub := sub y.2.1 + stopDisp d y.2.1 stop })
    let first := pose q (fun _ => fkAllow)
    match c.path with
    | none => [first]
    | some k =>
      let smp := k.res.cand.smp
      first :: (rangeFrom c.ja (c.jb + 1 - c.ja)).map (fun i => pose (nth [] smp i) (fun sp => inflation d sp smp i))
  | _, _ => []

/-- Conformance of a corridor (R390). -/
def State.conforms (s : State) (c : Corridor) : Bool :=
  match (s.safRobot c.robot).desc, c.tele, c.path with
  | some d, some (q, _), some k =>
    (rangeFrom 0 d.joints.length).all (fun j =>
      let l := (rangeFrom c.ja (c.jb + 1 - c.ja)).map (fun i => ith (nth [] k.res.cand.smp i) j)
      let track := sgn 32 (s.rd (A.safRTrack (8 * c.robot + j)))
      l.any (fun v => v - track ≤ ith q j) && l.any (fun v => ith q j ≤ v + track))
  | _, _, _ => true

/-- Every world test of a corridor: pose, sphere, clearance, and what the query met. -/
def State.worldTests (s : State) (e : Epoch) (ps : List (List PoseSphere)) : List (Nat × Nat × Int × Seen) :=
  ((rangeFrom 0 ps.length).zip ps).flatMap (fun p => p.2.map (fun y =>
    let (v, q) := s.field e y.at_
    (p.1, y.num, fieldClear v y.rad y.sub, q)))

/-- The first test with the least clearance: pose, sphere, clearance. -/
def leastWorld : List (Nat × Nat × Int × Seen) → Option (Nat × Nat × Int)
  | [] => none
  | a :: t =>
    match leastWorld t with
    | none => some (a.1, a.2.1, a.2.2.1)
    | some b => if a.2.2.1 ≤ b.2.2 then some (a.1, a.2.1, a.2.2.1) else some b

/-- Two corridors keep the distance. -/
def apart (m : Int) (a b : List (List PoseSphere)) : Bool :=
  a.all (fun p => b.all (fun q => p.all (fun x => q.all (fun y => m ≤ pairClear x.at_ y.at_ (x.rad + y.rad) (x.sub + y.sub)))))

/-! ## The static layer (R392) -/

/-- The coarse slot that holds a coarse voxel of the static layer: its node (none for this one), and its number. -/
def State.staticBrick (s : State) (e : Epoch) (x y z : Nat) : List (Option Nat × Bool × Nat) :=
  match entryOf (s.peek32 (s.wDir e.set 0 (brickIdx x y z))) with
  | .brick node c => [(node, false, c)]
  | _ => []

/-- The slots of the static layer that the query of a point reads. -/
def State.staticSlots (s : State) (e : Epoch) (p : Int × Int × Int) : List (Option Nat × Bool × Nat) :=
  let o := s.origin
  let cell (n : Int) : Int × Int × Int := ((p.1 - o.1 - n / 2) / n, (p.2.1 - o.2.1 - n / 2) / n, (p.2.2 - o.2.2 - n / 2) / n)
  let f := cell 2048
  let c := cell 16384
  let fine := corners.flatMap (fun k =>
    let (a, b, d) := (f.1 + k.1, f.2.1 + k.2.1, f.2.2 + k.2.2)
    if a < 0 || 8192 ≤ a || b < 0 || 8192 ≤ b || d < 0 || 4096 ≤ d then []
    else
      let (x, y, z) := (a.toNat / 8, b.toNat / 8, d.toNat / 8)
      s.staticBrick e x y z ++ (match (s.fineOf e 0 x y z).1 with | some (node, n) => [(node, true, n)] | none => []))
  let coarse := corners.flatMap (fun k =>
    let (a, b, d) := (c.1 + k.1, c.2.1 + k.2.1, c.2.2 + k.2.2)
    if a < 0 || 1024 ≤ a || b < 0 || 1024 ≤ b || d < 0 || 512 ≤ d then [] else s.staticBrick e a.toNat b.toNat d.toNat)
  if (fine.filter (·.2.1)).length = 8 then fine else fine ++ coarse

/-- Whether the CRC field of a slot's header matches its values (Table WLD-4), and what the read of both meets: an uncorrectable word, or a line
of another node that has not come (R393, R305). -/
def State.slotCheck (s : State) (k : Option Nat × Bool × Nat) : Bool × Seen :=
  let (node, fine, n) := k
  let (bs, _, q) := s.slotBytes node fine n 0 1024
  match node with
  | none => (crc32 bs = s.peek32 (s.wHdr fine n + 8), q.and (s.meets (s.wHdr fine n + 8) 4))
  | some m => (crc32 bs = (match s.cacheLine (some m) fine n 0 with | some l => l.crc | none => 0), q)

/-- Numbers of slots without repeats. -/
def slotSet (l : List (Option Nat × Bool × Nat)) : List (Option Nat × Bool × Nat) := l.foldl (fun t k => if t.contains k then t else k :: t) []

/-- The checks of every static slot that the corridors read. -/
def State.staticChecks (s : State) (e : Epoch) (ps : List (List (List PoseSphere))) : List (Bool × Seen) :=
  (slotSet (ps.flatMap (fun c => c.flatMap (fun p => p.flatMap (fun y => s.staticSlots e y.at_))))).map s.slotCheck

/-- Every static slot that the corridors read passes. -/
def State.staticOk (s : State) (e : Epoch) (ps : List (List (List PoseSphere))) : Bool := (s.staticChecks e ps).all (·.1)

/-! ## Verification (R391, R393) -/

/-- The verification is over: its pin goes. -/
def State.verifyOver (s : State) : State :=
  (((s.setSaf (fun x => { x with run := none })).wr A.wldPinMoor 0).retire).quietEdge safPage (s.busy safPage)

/-- The verification cannot complete. -/
def State.verifyIncomplete (s : State) : State := s.verifyOver.safStop 0x11 0 0

/-- Paths handed over since the last tick come into force. -/
def State.takePaths (s : State) : State :=
  let s1 := (rangeFrom 0 4).foldl (fun t r =>
    match nth none s.pass.handed r with | some k => t.setSafRobot r (fun x => { x with path := some k }) | none => t) s
  let p : PassState := { s1.pass with handed := List.replicate 4 none }
  { s1 with pass := p }

/-- The words of the mooring barge: basin 31, the program the firmware names. -/
def State.mooringBarge (s : State) : List Nat := [31 * 2 ^ 16, s.sec.mooringProg] ++ List.replicate 14 0

/-- The verification of a tick starts: a monitored robot without a telegram gives no corridor, so it ends there (R393, Timing SAF-1). -/
def State.verifyStart (s : State) : State :=
  let cs := s.monitored.map s.corridor
  if cs.any (fun c => c.tele.isNone) then s.verifyIncomplete
  else
    let acc := s.dsp.accNo
    let (code, s1) := s.offer 5 0 s.mooringBarge false false
    if code ≠ 0 then s1.verifyIncomplete
    else s1.setSaf (fun x => { x with run := some { tick := s.itime, cors := cs }, barges := x.barges ++ [(acc, s.itime)] })

/-- A verification waits at the input of the quiesced page (R52). -/
def State.verifyWaits (s : State) : Bool := s.waitIn.any (fun x => x.2 = Work.verify)

/-- A verification tick: the verification of the tick before that has not completed, run or waiting, cannot complete (R393), and else that of
this tick starts, or waits while the page is quiesced (R52). -/
def State.verifyTick (s : State) : State :=
  if !s.armed || s.itime < s.saf.tickAt then s
  else
    let s1 := (s.setSaf (fun x => { x with tickAt := x.tickAt + s.rdf A.safPeriodUs 0 10 * 1000 })).takePaths
    if s1.saf.run.isSome || s1.verifyWaits then { s1 with waitIn := s1.waitIn.filter (fun x => x.2 ≠ Work.verify) }.verifyIncomplete
    else s1.offerWork safPage .verify State.verifyStart

/-- The write of SAF_ML_CMD.GO: the newest epoch is pinned and the lane starts. -/
def State.laneGo (s : State) : State :=
  match s.saf.run with
  | none => s
  | some v =>
    if s.rdb A.safMlStat 0 || v.lane then s
    else
      let e := s.wld.alive.getLast?
      let n := match e with | some x => x.num | none => 0
      (((s.setSaf (fun x => { x with run := some { v with lane := true, epoch := e.map (·.num) } })).wr A.wldPinMoor n).wr
        A.safMlStat 1).pinsetSend

/-- The channels rise once every condition of R398 holds. -/
def State.energise (s : State) : State :=
  if s.armed && !s.permit && !s.rdb A.safStat 3 && s.saf.acked && max 1 (s.rdf A.safRestartN 0 4) ≤ s.rdf A.safStat 4 4 then
    let s1 := ((s.wr A.safStat (putBit (putBit (s.rd A.safStat) 1 true) 2 false)).wrf A.safChStat 0 2 3).raise safPage 9
    s1.setSaf (fun x => { x with
      due := [s.itime + 20000000, s.itime + 30000000], edge := [s.itime, s.itime], pulse := [none, none] })
  else s

/-- A verification has passed. -/
def State.verifyPassed (s : State) : State :=
  if s.saf.acked && !s.permit then (s.wrf A.safStat 4 4 (min 15 (s.rdf A.safStat 4 4 + 1))).energise else s

/-- Show the result of a robot's corridor; SAF_R_STAT.PATH follows the path in force (R387). -/
def State.showCorridor (s : State) (c : Corridor) (least : Option (Nat × Nat × Int)) : State :=
  let st := s.rd (A.safRStat c.robot) % 2 + (if s.conforms c then 4 else 0) + c.ja % 64 * 2 ^ 8 +
    c.jb % 64 * 2 ^ 16
  let m := match least with | some (p, n, v) => enc 16 v + p % 8 * 2 ^ 16 + n % 128 * 2 ^ 19 | none => 0
  (s.wr (A.safRStat c.robot) st).wr (A.safRMinclr c.robot) m

/-- A robot of the corridor set is clear (R390). -/
def State.corridorClear (s : State) (all : List (Corridor × List (List PoseSphere))) (c : Corridor)
    (world : List (Nat × Nat × Int × Seen)) : Bool :=
  let margin : Int := (s.rdf (A.safRMargin c.robot) 0 16 : Nat)
  let pm (b : Nat) : Int := (max (s.rdf (A.safRMargin c.robot) 16 16) (s.rdf (A.safRMargin b) 16 16) : Nat)
  s.conforms c && world.all (fun t => margin ≤ t.2.2.1) &&
    all.all (fun y => y.1.robot = c.robot || apart (pm y.1.robot) (s.poses c) y.2)

/-- The island judges the corridors in an epoch. -/
def State.judgeCors (s : State) (v : SafRun) (e : Epoch) (same : Bool) : State :=
  let all := v.cors.map (fun c => (c, s.poses c))
  let worlds := all.map (fun y => (y.1, s.worldTests e y.2))
  let seen := worlds.flatMap (fun y => y.2.map (·.2.2.2)) ++ (s.staticChecks e (all.map (·.2))).map (·.2)
  let s1 := seen.foldl (fun t q => t.note 5 0x0F q) s
  if seen.any (·.fault) then s1.verifyIncomplete
  else if !same then s1.verifyOver.safDiag 0x07
  else if !s.staticOk e (all.map (·.2)) then s1.verifyOver.safDiag 0x0B
  else
    let s2 := worlds.foldl (fun t y => t.showCorridor y.1 (leastWorld y.2)) s1
    let s3 := (s2.wr A.safVerify (min 0xFFFF ((s.itime - v.tick) / 1000) + e.num % 2 ^ 16 * 2 ^ 16)).verifyOver
    let bad := (worlds.filter (fun y => !s.corridorClear all y.1 y.2)).map (·.1.robot)
    match bad with
    | [] => s3.verifyPassed
    | l => l.foldl (fun t r => t.safStop 0x10 r 0) s3

/-- The corridors need a brick of another node that the cache does not hold: the lane waits for its fetch (R157, R392). -/
def State.moorWaits (s : State) (v : SafRun) (e : Epoch) : Bool :=
  v.cors.any (fun c => (s.worldTests e (s.poses c)).any (fun t => t.2.2.2.miss)) ||
    (s.staticChecks e (v.cors.map s.poses)).any (fun x => x.2.miss)

/-- The lane of the verification in force cannot complete before a brick has come. -/
def State.laneWaits (s : State) : Bool :=
  match s.saf.run with
  | some v => v.lane && (match v.epoch.bind s.epoch with | some e => s.moorWaits v e | none => false)
  | none => false

/-- The mooring lane has completed its passes; `same` says that they agree. -/
def State.laneDone (s : State) (same : Bool) : State :=
  if !s.rdb A.safMlStat 0 || s.laneWaits then s
  else
    let s1 := s.wr A.safMlStat 2
    match s1.saf.run with
    | none => s1
    | some v =>
      if !v.lane then s1
      else match v.epoch.bind s1.epoch with
        | none => s1.verifyIncomplete
        | some e => if v.cors.any (fun c => c.tele.isNone) then s1.verifyIncomplete else s1.judgeCors v e same

/-! ## Acknowledgement, pulses and readback (R395, R398) -/

/-- The write of SAF_ACK. -/
def State.ackSaf (s : State) (v : Nat) : State :=
  if v % 2 ^ 16 ≠ 0xA5C3 then s.safLog 0x24 0 false 0
  else if s.saf.acked then s
  else (s.setSaf (fun x => { x with acked := true })).wrf A.safStat 4 4 0

/-- A test pulse of a channel begins; the pulses of the two never overlap (R395). -/
def State.pulseStart (s : State) (c : Nat) : State :=
  if s.permit && nth 0 s.saf.due c ≤ s.itime && s.saf.pulse.all (·.isNone) then
    (s.setSaf (fun x => { x with
      due := upd (· + 20000000) x.due c, pulse := upd (fun _ => some s.itime) x.pulse c, edge := upd (fun _ => s.itime) x.edge c })).wrb
        A.safChStat c false
  else s

/-- It ends after 300 µs. -/
def State.pulseEnd (s : State) (c : Nat) : State :=
  match nth none s.saf.pulse c with
  | none => s
  | some t =>
    if t + 300000 ≤ s.itime then
      (s.setSaf (fun x => { x with pulse := upd (fun _ => none) x.pulse c, edge := upd (fun _ => s.itime) x.edge c })).wrb
        A.safChStat c s.permit
    else s

/-- A readback that has had its time disagrees with the output. -/
def State.readback (s : State) (c : Nat) (fb : Bool) : State :=
  let s1 := s.wrb A.safChStat (2 + c) fb
  if fb == s.rdb A.safChStat c then s1 else s1.safDiag 0x0E

/-- FB_DLY_US has passed since the channel's last edge. -/
def State.readbackDue (s : State) (c : Nat) : Bool := nth 0 s.saf.edge c + s.rdf A.safChCfg 0 16 * 1000 ≤ s.itime

/-- The mooring barge has not posted within 900 µs of its acceptance. -/
def State.engWd (s : State) : State :=
  let live (k : Nat × Nat) : Bool := (s.dsp.ready ++ s.dsp.waiting ++ s.inService).any (fun b => b.acc = k.1)
  let l := s.saf.barges.filter live
  let s1 := s.setSaf (fun x => { x with barges := l })
  if !(s.eng 63).wedged && l.any (fun k => k.2 + 900000 ≤ s.itime) then
    ((s1.setSaf (fun x => { x with barges := [] })).wedgeEngine 63).safDiag 0x0A
  else s1

/-! ## Meanings -/

def execTelegramCheck (r : Fin 4) (s : State) : Host.Outcome State Fault Refusal := .next (s.tgTake r)
def execRobotStale (r : Fin 4) (s : State) : Host.Outcome State Fault Refusal := .next (s.robotStale r)
def execVerifyTick (s : State) : Host.Outcome State Fault Refusal := .next s.verifyTick
def execMooringLaneDone (same : Bool) (s : State) : Host.Outcome State Fault Refusal := .next (s.laneDone same)
def execTestPulseStart (c : Fin 2) (s : State) : Host.Outcome State Fault Refusal := .next (s.pulseStart c)
def execTestPulseEnd (c : Fin 2) (s : State) : Host.Outcome State Fault Refusal := .next (s.pulseEnd c)

/-- The readback of a channel is checked FB_DLY_US after an edge. -/
def execReadbackCheck (c : Fin 2) (fb : Bool) (s : State) : Host.Outcome State Fault Refusal :=
  .next (if s.readbackDue c then s.readback c fb else s)

/-- The readback has disagreed for longer than FB_DLY_US outside a commanded edge, or left low while de-energised. -/
def execFeedbackDisagree (c : Fin 2) (fb : Bool) (s : State) : Host.Outcome State Fault Refusal := .next (s.readback c fb)

/-- The known-answer test of a lane group (R180); a failure stops the device. -/
def execKnownAnswerTest (g : Fin 8) (ok : Bool) (s : State) : Host.Outcome State Fault Refusal :=
  let s1 := s.bump (A.swpGKat g)
  .next (if ok then s1 else s1.safDiag 0x08)

/-- The mooring lane's known corridor and the reduction tree's known answers. -/
def execMlKat (ok : Bool) (s : State) : Host.Outcome State Fault Refusal := .next (if ok then s else s.safDiag 0x06)
def execRedKat (ok : Bool) (s : State) : Host.Outcome State Fault Refusal := .next (if ok then s else s.safDiag 0x09)
def execEngWd (s : State) : Host.Outcome State Fault Refusal := .next s.engWd
def execIslWd (s : State) : Host.Outcome State Fault Refusal := .next (s.safDiag 0x0D)
/-- The scrub of the island's SRAM finds an error: one that it corrects (`ce`) is a warning (R401), any other stops the device. -/
def execSramUe (ce : Bool) (s : State) : Host.Outcome State Fault Refusal := .next (if ce then s.safLog 0x22 0 false 0 else s.safDiag 0x02)
def execSafXtal (s : State) : Host.Outcome State Fault Refusal := .next (s.safDiag 0x03)
def execSafVolt (s : State) : Host.Outcome State Fault Refusal := .next (s.safDiag 0x04)
def execSafClkmon (s : State) : Host.Outcome State Fault Refusal := .next (s.safDiag 0x05)
/-- The island's own judgement of sensor 47, of which it finds `reading` in 1/256 °C: above 110 °C, as which an invalid sensor counts (R407). -/
def execSafTemp (reading : Int) (s : State) : Host.Outcome State Fault Refusal :=
  .next (if 28160 < reading || (!s.rdb (A.thmS 47) 16 && !(nth {} s.thm.sens 47).fresh) then s.safDiag 0x0C else s)
def execSafLockstep (s : State) : Host.Outcome State Fault Refusal := .next (s.safDiag 0x01)

end Sys2Proof.Machine
end

