-- ==== Sys2Proof/Machine/Thm.lean ====
section
/-!
DEFINITION. Thermal sensing and cooling: conversions, throttle, trip, keep-warm, coolant thermistors, the thermal-resistance estimate
and its warning (R405 to R421).
-/
namespace Sys2Proof.Machine

abbrev thmPage : Nat := 0x340000

/-! ## Readings (R405 to R407) -/

/-- A THM record is applied. -/
def State.thmCal (s : State) : Bool := s.cal.inUse.contains 0

/-- What every reading gains before a comparison while no THM record is applied: 2.5 K. -/
def State.thmAdd (s : State) : Int := if s.thmCal then 0 else 640

/-- The corrected value of a conversion of sensor `k`. -/
def State.thmValue (s : State) (k : Nat) (raw : Int) : Int :=
  if s.thmCal then
    let g := sgn 16 (s.calVal 0 (4 * k + 2) 2)
    raw + divNear (raw * g) (2 ^ 20) + sgn 16 (s.calVal 0 (4 * k) 2)
  else raw

/-- Reading and VALID of a sensor. -/
def State.sensT (s : State) (k : Nat) : Int := (nth {} s.thm.sens k).t
def State.sensOk (s : State) (k : Nat) : Bool := s.rdb (A.thmS k) 16

/-- A reading as a 16-bit register shows it: up to 127.996 °C; what it shows of a higher one, which is valid up to 150 °C, the spec does not say, so
a free value stands there (log entry 256). -/
def State.shown16 (s : State) (t : Int) : Nat × State :=
  if t < 32768 then (enc 16 t, s) else ((s.draw 16).1.toNat, (s.draw 16).2)

/-- One conversion of a sensor. -/
def State.sensConvert (s : State) (k : Nat) (raw : Int) (selfBad : Bool) : State :=
  let t := s.thmValue k raw
  let good : Bool := !selfBad && -10240 ≤ t && t ≤ 38400
  let h := nth {} s.thm.sens k
  let put (x : ThmSens) (u : State) : State := u.setThm (fun y => { y with sens := upd (fun _ => x) y.sens k })
  if good then
    let ok : Bool := s.sensOk k || h.fresh || 10 ≤ h.good + 1
    let (v, s1) := s.shown16 t
    if ok then put { fresh := false, good := h.good + 1, t := t } (s1.wr (A.thmS k) (v + 2 ^ 16)) else put { h with fresh := false, good := h.good + 1 } s
  else
    let s1 := s.wrb (A.thmS k) 16 false
    let s2 := if s.sensOk k || h.fresh then (s1.pageErr thmPage 0x0100 k).raise thmPage 11 else s1
    put { h with fresh := false, good := 0 } s2

/-- The valid sensors of a range. -/
def State.validIn (s : State) (a n : Nat) : List Nat := (rangeFrom a n).filter (fun k => s.sensOk k)

/-- The lowest sensor with the highest reading. -/
def State.hottest (s : State) : List Nat → Option Nat
  | [] => none
  | k :: t =>
    match s.hottest t with
    | none => some k
    | some j => if s.sensT j ≤ s.sensT k then some k else some j

/-- The sensors of die `d`: Ebras dies 0 to 3, planner die 4. -/
def dieSensors (d : Nat) : Nat × Nat := if d = 4 then (0, 48) else (48 + 4 * d, 4)

/-- The highest reading of a die as comparisons take it. -/
def State.dieHot (s : State) (d : Nat) : Option Int :=
  (s.hottest (s.validIn (dieSensors d).1 (dieSensors d).2)).map (fun k => s.sensT k + s.thmAdd)

/-- The keep-warm setpoint in 1/256 °C. -/
def State.kwSet (s : State) : Int := (s.rdf A.thmKwSet 0 7 * 256 : Nat)

/-! ## Throttle and trip (R410 to R413) -/

/-- Rise and fall thresholds of a level in 1/256 °C. -/
def riseAt (l : Nat) : Int := ((92 + 3 * l) * 256 : Nat)
def fallBelow (l : Nat) : Int := ((90 + 3 * l) * 256 : Nat)

/-- A THERMAL_WARN message (Table FIO-5). -/
def State.thermalWarn (s : State) (old : Nat) : State :=
  s.fleetEvent 2 ([BitVec.ofNat 8 old, BitVec.ofNat 8 (s.rdf A.thmStat 0 3), if s.rdb A.thmStat 3 then 1 else 0,
    BitVec.ofNat 8 (s.rdf A.thmStat 16 6)] ++ beBytes 2 (s.rd A.thmTmax) ++ [0, 0])

/-- The throttle level changes. -/
def State.setThrottle (s : State) (l : Nat) : State :=
  let old := s.rdf A.thmStat 0 3
  if old = l then s
  else
    let s1 := ((s.wrf A.thmStat 0 3 l).raise thmPage 8).thermalWarn old
    if l = 0 then s1 else s1.heatOff (fun _ => true)

/-- The level that T_max has reached. -/
def levelFor (t : Int) : Nat := if riseAt 4 ≤ t then 4 else if riseAt 3 ≤ t then 3 else if riseAt 2 ≤ t then 2 else if riseAt 1 ≤ t then 1 else 0

/-- The trip, which latches: a hold after a reset stands no longer for TRIPPED (R412, R413). -/
def State.trip (s : State) : State :=
  let s1 := ((s.setThm (fun x => { x with hold := false })).wrb A.thmStat 3 true).raise thmPage 9
  ((s1.thermalWarn (s1.rdf A.thmStat 0 3)).passAbort).stopRowOps

/-- The first cycle after a reset finds a die at 105 °C or more, or a later one finds none (R413). -/
def State.hotStart (s : State) : State :=
  let hot : Bool := (s.validIn 0 64).any (fun k => 26880 ≤ s.sensT k + s.thmAdd)
  if !s.thm.cycled then (if hot then (s.setThm (fun x => { x with hold := true })).wrb A.thmStat 3 true else s)
  else if s.thm.hold && !hot then (s.setThm (fun x => { x with hold := false })).wrb A.thmStat 3 false
  else s

/-- For each level since when T_max is below its fall threshold, in ns. -/
def State.fallTimes (s : State) (t : Int) : List (Option Nat) :=
  (rangeFrom 1 4).map (fun l =>
    if fallBelow l ≤ t then none else match nth none s.thm.below (l - 1) with | some x => some x | none => some s.now)

/-- Since when the sensors of each Ebras die stand within TWIN of the setpoint (R228): the valid ones, of which there is one at least (R406). -/
def State.twinTimes (s : State) : List (Option Nat) :=
  let w : Int := (s.rdf A.chgRefreshCfg 8 8 * 256 : Nat)
  (rangeFrom 0 4).map (fun d =>
    let near (k : Nat) : Bool :=
      let e := s.sensT k + s.thmAdd - s.kwSet
      decide (-w ≤ e) && decide (e ≤ w)
    let l := s.validIn (48 + 4 * d) 4
    if !l.isEmpty && l.all near then
      (match nth none s.chg.within d with | some x => some x | none => some s.now)
    else none)

/-- A die's heaters go off at the setpoint, and KW_SHORT of a die clears there (R414, R415). -/
def State.heatCheck (s : State) : State :=
  let off (d : Nat) : Bool := match s.dieHot d with | some t => s.kwSet ≤ t | none => true
  let short := (rangeFrom 0 5).map (fun d =>
    nth false s.thm.short d && !(match s.dieHot d with | some t => s.kwSet ≤ t | none => false))
  let near (d : Nat) : Bool := match s.dieHot d with | some t => s.kwSet ≤ t + 256 | none => true
  let s1 := s.heatOff off
  (s1.setThm (fun x => { x with
    short := short, limitAt := (rangeFrom 0 5).map (fun d => if near d then none else nth none x.limitAt d) })).wrb A.thmStat 6
      (short.any id)

/-- One conversion cycle: raw conversions of the 64 sensors, and those whose self-check failed. -/
def State.conversionCycle (s : State) (raw : List Int) (bad : List Nat) : State :=
  let a := s.calApplyIfPending 0
  let b := a.wrb A.thmStat 7 (!a.thmCal)
  let c := (rangeFrom 0 64).foldl (fun t k => t.sensConvert k (nth 0 raw k) (bad.contains k)) b
  let mask := ((rangeFrom 0 64).map (fun k => if c.sensOk k then 2 ^ k else 0)).sum
  let d := c.wr64 A.thmSensValid mask
  let e := if 1 ≤ s.rdf A.thmStat 0 3 then d.bump32 A.thmThrUs 100 else d
  let few : Bool := (e.validIn 0 48).length < 24
  let level (u : State) (n : Nat) : State := u.setThrottle (if few then 4 else max (u.rdf A.thmStat 0 3) n)
  let g := match e.hottest (e.validIn 0 64) with
    | none => level e.hotStart 0
    | some k =>
      let t := e.sensT k + e.thmAdd
      let (v, e0) := e.shown16 (e.sensT k)
      let e1 := ((e0.wr A.thmTmax v).wrf A.thmStat 16 6 k).hotStart
      let e2 := e1.setThm (fun x => { x with below := e1.fallTimes t, tSum := x.tSum + t, tN := x.tN + 1, tLast := t })
      let e3 := level e2 (levelFor t)
      if 28160 ≤ t && (!e3.rdb A.thmStat 3 || e3.thm.hold) then e3.trip else e3
  let h := g.setThm (fun x => { x with cycled := true })
  let i := h.setChg (fun q => { q with within := h.twinTimes })
  i.heatCheck

/-- The level falls by one. -/
def State.throttleFall (s : State) : State :=
  let l := s.rdf A.thmStat 0 3
  if l = 0 || (s.validIn 0 48).length < 24 then s
  else match nth none s.thm.below (l - 1) with
    | some t => if t + 1000000 ≤ s.now then s.setThrottle (l - 1) else s
    | none => s

/-! ## Keep-warm (R414, R415) -/

/-- The heater limit of a die in 1/16 W. -/
def State.heatMax (s : State) (d : Nat) : Nat :=
  if d = 4 then min 200 (s.rdf A.thmKwPmax 0 8) * 16 else min 10 (s.rdf A.thmKwPmax 8 4) * 16

/-- What the heaters may draw in all, in 1/16 W: the device stays within 380 W, and they rise by at most 20 W in a millisecond
(R414, R502).  A part of 1/16 W counts as a whole one. -/
def State.heatBudget (s : State) : Nat := min (380 * 16 - ((s.rd A.pwrTotal + 15) / 16 - s.thm.heat.sum)) (s.thm.heat.sum + 320)

/-- Adjust the dies from `d` on: each takes a power that no rule fixes within its limits. -/
def State.heatDies (s : State) (left d : Nat) : Nat → List (Nat × Bool) × State
  | 0 => ([], s)
  | n + 1 =>
    let want : Bool := match s.dieHot d with | some t => t < s.kwSet | none => false
    let lim := min (s.heatMax d) left
    let (v, s1) := s.draw 32
    let p := if want then v.toNat % (lim + 1) else 0
    let (l, s2) := s1.heatDies (left - p) (d + 1) n
    ((p, want && p = lim) :: l, s2)

/-- The adjustment of every millisecond: none comes sooner after the one before (R414, R502). -/
def State.keepWarm (s0 : State) : State :=
  if s0.thm.adjusted.any (fun t => decide (s0.now < t + 1000000)) then s0 else
  let s := s0.setThm (fun x => { x with adjusted := some s0.now })
  if !s.rdb A.thmCtrl 0 || s.rdf A.thmStat 0 3 ≠ 0 || !s.ready thmPage then s.heatOff (fun _ => true)
  else
    let (l, s1) := s.heatDies s.heatBudget 0 5
    let h := l.map (·.1)
    let cold (d : Nat) : Bool := match s1.dieHot d with | some t => t + 256 < s1.kwSet | none => false
    let lim := (rangeFrom 0 5).map (fun d =>
      if (nth (0, false) l d).2 && cold d then (match nth none s1.thm.limitAt d with | some t => some t | none => some s1.now) else none)
    ((s1.setThm (fun x => { x with heat := h, limitAt := lim })).wr A.thmKwPower h.sum).wrb A.thmStat 5 (h.any (fun p => p ≠ 0))

/-- A die's heaters have stood at their limit for 10 s. -/
def State.kwShort (s : State) (d : Nat) : State :=
  match nth none s.thm.limitAt d with
  | some t =>
    if t + 10000000000 ≤ s.now && !nth false s.thm.short d then
      ((s.setThm (fun x => { x with short := upd (fun _ => true) x.short d })).wrb A.thmStat 6 true).raise thmPage 13
    else s
  | none => s

/-! ## Thermistors (R408) -/

/-- The terms of 2·artanh(z) in units of 2^-60 from the k-th on. -/
def lnTerms (z2 : Int) : Nat → Nat → Int → Int
  | 0, _, _ => 0
  | n + 1, k, p => p / (k : Int) + lnTerms z2 n (k + 2) (p * z2 / 2 ^ 60)

/-- The natural logarithm of a positive number in units of 2^-60. -/
def ln60 (a : Nat) : Int :=
  let k := a.log2
  let z : Int := ((a : Int) - (2 ^ k : Nat)) * 2 ^ 60 / ((a : Int) + (2 ^ k : Nat))
  2 * lnTerms (z * z / 2 ^ 60) 40 1 z + k * 799144290325165979

/-- The temperature of a thermistor by the β-model, in 1/256 °C; none where the model gives none. -/
def ntcTemp (nom beta r : Nat) : Option Int :=
  if nom = 0 || beta = 0 || r = 0 then none
  else
    let inv := (2 ^ 60 * 100 / 29815 : Int) + (ln60 r - ln60 (10 * nom)) / (beta : Int)
    if inv ≤ 0 then none else some (divNear (1280 * 2 ^ 60 / inv - 349632) 5)

/-- The thermistor reads as open or shorted: above 1.75 V or below 0.02 V at the ball, behind 10.00 kΩ from 1.8 V (Table ELC-7, R506). -/
def ntcOpen (r : Nat) : Bool := 350000 < r || 178 * r < 20000

/-- One thermistor's conversion: its resistance in ohms, none for no contact at all. -/
def State.ntcOne (s : State) (n : Nat) (r : Option Nat) : State :=
  let t := ((r.bind (fun v => if ntcOpen v then none else some v)).bind (ntcTemp (s.rdf A.thmNtcCfg 0 16) (s.rdf A.thmNtcCfg 16 16))).bind (fun v => if -5120 ≤ v && v ≤ 25600 then some v else none)
  match t with
  | some v =>
    ((s.setThm (fun x => { x with ntcBad := upd (fun _ => false) x.ntcBad n })).wr (if n = 0 then A.thmTIn else A.thmTOut) (enc 16 v)).wrb
      A.thmStat (10 + n) true
  | none =>
    let s1 := (s.setThm (fun x => { x with ntcBad := upd (fun _ => true) x.ntcBad n })).wrb A.thmStat (10 + n) false
    if nth false s.thm.ntcBad n then s1 else s1.pageErr thmPage 0x0101 n

/-- The conversion of every 10 ms. -/
def State.ntcConversion (s : State) (rin rout : Option Nat) : State :=
  let s1 := (s.ntcOne 0 rin).ntcOne 1 rout
  if !s1.rdb A.thmStat 10 then s1
  else
    let t := sgn 16 (s1.rd A.thmTIn)
    let s2 := s1.setThm (fun x => { x with inSum := x.inSum + t, inN := x.inN + 1 })
    let out : Bool := t < 3840 || 10240 < t
    let s3 := s2.wrb A.thmStat 9 out
    if out && !s2.rdb A.thmStat 9 then s3.raise thmPage 12 else s3

/-! ## The estimate and the warning (R417, R418) -/

/-- Sum and count of a window, or the latest value where nothing came. -/
def meanOf (sum : Int) (n : Nat) (latest : Int) : Int × Nat := if n = 0 then (latest, 1) else (sum, n)

/-- The estimate of every 100 ms.  One that THM_RTH cannot hold is shown as a free value (log entry 161); what exceeds is the estimate itself. -/
def State.rthUpdate (s0 : State) : State :=
  let s := s0.calApplyIfPending 4
  let t := meanOf s.thm.tSum s.thm.tN s.thm.tLast
  let i := meanOf s.thm.inSum s.thm.inN (sgn 16 (s.rd A.thmTIn))
  let p := meanOf s.thm.pSum s.thm.pN (s.rd A.pwrTotal)
  let z := (s.setThm (fun x => { x with tSum := 0, tN := 0, inSum := 0, inN := 0, pSum := 0, pN := 0 })).wr A.thmPower
    (divNear p.1 p.2).toNat
  let formed : Bool := s.rdb A.thmCtrl 1 && s.rdb A.thmStat 10 && !(s.validIn 0 64).isEmpty &&
    (s.rdf A.thmRthCfg 16 12 * 256 * p.2 : Nat) ≤ p.1 && 0 < p.1
  if !formed then (z.setThm (fun x => { x with cnt := 0, clr := 0 })).wrb A.thmRth 31 false
  else
    let v := divNear (1000000 * (t.1 * i.2 - i.1 * t.2) * p.2) (t.2 * i.2 * p.1.toNat)
    let (r, y) := if 0 ≤ v && v < 2 ^ 31 then (v.toNat, z) else (z.draw 31 |>.1.toNat, (z.draw 31).2)
    let beyond : Bool := s.cal.inUse.contains 4 && ((s.calVal 4 0 4 * max 65 (s.rdf A.thmRthCfg 0 8) : Nat) : Int) < v * 64
    (y.setThm (fun x => { x with cnt := if beyond then x.cnt + 1 else 0, clr := if beyond then 0 else x.clr + 1 })).wr A.thmRth (r + 2 ^ 31)

/-- HOLD_S × 10. -/
def State.holdUpdates (s : State) : Nat := max 1 (s.rdf A.thmRthCfg 8 8) * 10

/-- The COOLING_DEGRADED message. -/
def State.coolingMsg (s : State) (set : Bool) : State :=
  s.fleetEvent 3 ([if set then 1 else 0, 0, 0, 0] ++ beBytes 4 (s.rdf A.thmRth 0 31) ++ beBytes 4 (s.calVal 4 0 4) ++
    [BitVec.ofNat 8 (s.rdf A.thmRthCfg 0 8), 0] ++ beBytes 2 (s.rd A.thmTIn))

/-- DEGRADED sets. -/
def State.degrade (s : State) : State :=
  if s.rdb A.thmStat 4 || s.thm.cnt < s.holdUpdates then s
  else (((s.wrb A.thmStat 4 true).raise thmPage 10).bump A.thmDegCnt).coolingMsg true

/-- DEGRADED clears. -/
def State.degradeClear (s : State) : State :=
  if !s.rdb A.thmStat 4 || s.thm.clr < s.holdUpdates then s else (s.wrb A.thmStat 4 false).coolingMsg false

/-! ## Meanings -/

def execConversionCycle (raw : List Int) (bad : List Nat) (s : State) : Host.Outcome State Fault Refusal := .next (if s.runs 52 then s.conversionCycle raw bad else s)
def execThrottleFall (s : State) : Host.Outcome State Fault Refusal := .next s.throttleFall
def execNtcConversion (rin rout : Option Nat) (s : State) : Host.Outcome State Fault Refusal := .next (if s.runs 52 then s.ntcConversion rin rout else s)
def execKeepWarmAdjust (s : State) : Host.Outcome State Fault Refusal := .next s.keepWarm
def execKwShort (die : Fin 5) (s : State) : Host.Outcome State Fault Refusal := .next (s.kwShort die)
def execRthUpdate (s : State) : Host.Outcome State Fault Refusal := .next s.rthUpdate
def execCoolingDegraded (s : State) : Host.Outcome State Fault Refusal := .next s.degrade
def execDegradedClear (s : State) : Host.Outcome State Fault Refusal := .next s.degradeClear

end Sys2Proof.Machine
end

