-- ==== Sys2Proof/Machine/Sec.lean ====
section
/-!
DEFINITION. Security and life cycle: secure boot, life-cycle states, tamper, sealing, the hold-up energy and the security commands
(R440 to R462).
-/
namespace Sys2Proof.Machine

abbrev secPage : Nat := 0x360000

/-- Change the security block's own state. -/
def State.setSec (s : State) (f : SecState → SecState) : State := { s with sec := f s.sec }

/-! ## What the registers show -/

/-- SEC_OTP_STAT. -/
def State.otpStat (s : State) : Nat :=
  ((rangeFrom 0 4).map (fun n => b2n (nth none s.sec.keyHash n).isSome n)).sum + s.sec.revoke % 16 * 16 + b2n s.sec.strict 8 +
    b2n s.sec.otk.isSome 9

/-- SEC_BOOT with SVN_MIN of OTP. -/
def State.secBootLive (s : State) : Nat := s.rd A.secBoot % 2 ^ 24 + s.sec.svnMin % 256 * 2 ^ 24

/-! ## Secure boot (R442 to R445) -/

/-- Big-endian field of an image. -/
def imgField (bs : List Byte) (o n : Nat) : Nat := beNat ((bs.drop o).take n)

/-- Bytes [o, o+n) are zero. -/
def zeroSpan (bs : List Byte) (o n : Nat) : Bool := ((bs.drop o).take n).all (fun b => b = 0)

/-- A length of Table SEC-3. -/
def imgLenOk (n hi : Nat) : Bool := n % 8 = 0 && 8 ≤ n && n ≤ hi

/-- KEY_HASH of a slot that is written and not revoked. -/
def State.keySlot (s : State) (n : Nat) : Option (List Byte) := if tbit s.sec.revoke n then none else nth none s.sec.keyHash n

/-- Check 3 of Table SEC-4. -/
def State.bootKeyOk (s : State) (slot : Nat) (key : List Byte) : Bool :=
  (match s.keySlot slot with | some h => slot < 4 && sha384 key = h | none => false) ||
    (s.sec.lc = 0 && s.sec.keyHash.all Option.isNone && sha384 key = Config.romKeyHash)

/-- The code of the first check of Table SEC-4 that an image fails; 0 when it passes.  An absent image could not be read. -/
def State.bootCheck (s : State) (img : Option (List Byte)) : Nat :=
  match img with
  | none => 2
  | some bs =>
    let isl := imgField bs 8 4
    let eng := imgField bs 12 4
    if imgField bs 0 2 ≠ 0x4249 || imgField bs 2 1 ≠ 1 || !zeroSpan bs 5 3 || !zeroSpan bs 0x10 0x30 || !imgLenOk isl 524288 ||
        !imgLenOk eng 262144 then 1
    else if bs.length < 0x100 + isl + eng then 2
    else if !s.bootKeyOk (imgField bs 4 1) ((bs.drop 0x40).take 96) then 3
    else if imgField bs 3 1 < s.sec.svnMin then 4
    else if !ecdsaOk ((bs.drop 0x40).take 96) (bs.take 0xA0 ++ (bs.drop 0x100).take (isl + eng)) ((bs.drop 0xA0).take 96) then 5
    else 0

/-- An accepted image runs: engine firmware, the payload in island SRAM, BOOT lock reason, the pages of phase 8.  `mooring` is where the image's
mooring service starts. -/
def State.bootAccept (s : State) (slot : Nat) (bs : List Byte) (failA failB mooring : Nat) : State :=
  let ks := imgField bs 4 1
  let svn := imgField bs 3 1
  let eng := (bs.drop (0x100 + imgField bs 8 4)).take (imgField bs 12 4)
  let img : BootImage := { keySlot := ks, svn := svn, key := (bs.drop 0x40).take 96
                           island := (bs.drop 0x100).take (imgField bs 8 4) }
  let s1 := { s with dsp := { s.dsp with store := Memory.write s.dsp.store 0xC0000 eng } }
  let s2 := s1.setSec (fun x => { x with image := some img, mooringProg := mooring % 2 ^ 20 })
  let s3 := s2.wr A.secBoot (1 + slot * 4 + ks % 4 * 16 + failA * 2 ^ 8 + failB * 2 ^ 12 + svn * 2 ^ 16)
  let s4 := if s.sec.lc = 4 then s3 else s3.wrb A.spdSealStat 4 false
  let s5 := ((s4.raise secPage 13).secLog 0x01 (slot + svn * 2 ^ 8)).wrb (A.dspBCfg 31) 0 true
  (s5.makeReady 0x0B).makeReady 0x0F

/-- Secure boot ends: the image of each slot as the flash gave it. -/
def State.bootDone (s : State) (a b : Option (List Byte)) (mooring : Nat) : State :=
  if !s.ready secPage || !s.runs 59 || s.rdf A.secBoot 0 2 ≠ 0 then s
  else
    let svn (x : Option (List Byte)) : Nat := match x with | some bs => imgField bs 3 1 | none => 0
    let firstB : Bool := svn a < svn b
    let ca := s.bootCheck a
    let cb := s.bootCheck b
    if firstB && cb = 0 then s.bootAccept 1 (b.getD []) 0 0 mooring
    else if ca = 0 then s.bootAccept 0 (a.getD []) 0 (if firstB then cb else 0) mooring
    else if cb = 0 then s.bootAccept 1 (b.getD []) ca 0 mooring
    else ((s.wr A.secBoot (2 + ca * 2 ^ 8 + cb * 2 ^ 12)).pageErr secPage 0x0101 0).secLog 0x02 0

/-! ## Tamper and supply (R450, R458) -/

/-- The condition that a source watches is present now, or no longer. -/
def State.tamperLive (s : State) (src : Nat) (live : Bool) : State := s.wrb A.secTamper (4 + src) live

/-- A tamper event of a source: 0 MESH, 1 VOLT, 2 CLK, 3 TEMP. -/
def State.tamper (s : State) (src : Nat) (live : Bool) : State :=
  let n := satAdd 0xFF (s.rdf A.secTamperCnt (8 * src) 8) 1
  let s1 := ((s.wrb A.secTamper src true).tamperLive src live).wrf A.secTamperCnt (8 * src) 8 n
  let s2 := (s1.raise secPage 9).secLog 0x10 src
  if s.sec.lc = 0 then s2 else s2.startWipe (src + 1)

/-! ## Sealing (R451, R452) -/

/-- The sealing class of a state (Table SEC-5). -/
def sealClass (lc : Nat) : Nat := if lc = 0 then 0 else if lc = 3 then 2 else 1

/-- The UID as its 8 bytes. -/
def State.uidBytes (s : State) : List Byte := Memory.read s.cal.store 8 8

/-- The device sealing key of the current class. -/
def State.sealKey (s : State) : List Byte := hkdf384 Config.rootKey (s.uidBytes ++ [BitVec.ofNat 8 (sealClass s.sec.lc)])

/-- The reserved bits of a record header are zero, its offset and length are in range. -/
def recHeadOk (h : List Byte) : Bool :=
  let off := uWord h 4
  let len := uWord h 8
  uWord h 0 / 2 ^ 25 = 0 && off % 8 = 0 && len % 8 = 0 && 8 ≤ len && len ≤ 65536 && off + len ≤ 2 ^ 22 && zeroSpan h 0x0C 4 &&
    zeroSpan h 0x24 12

/-- Read the record of IMPORT or UNSEAL at an address, and check it: the result code, the pound offset and the data. -/
def State.readRecord (s : State) (a : Nat) (blob : Bool) : (Nat × Nat × List Byte) × State :=
  if a % 64 ≠ 0 || !inLocal a 64 then ((7, 0, []), s)
  else match s.fetch 3 0 a 64 with
    | (none, s1) => ((3, 0, []), s1)
    | (some h, s1) =>
      let len := uWord h 8
      let wrap := tbit (uWord h 0) 24
      let plain : Bool := !blob && !wrap
      let uidOk : Bool := if plain then zeroSpan h 0x10 8 else (h.drop 0x10).take 8 = s.uidBytes
      if uWord h 0 % 2 ^ 16 ≠ (if blob then 0x5342 else 0x5349) || fld (uWord h 0) 16 8 ≠ 1 || (blob && wrap) || !recHeadOk h || !uidOk ||
          (plain && !(zeroSpan h 0x18 12 && zeroSpan h 0x30 16)) then ((3, 0, []), s1)
      else if plain && s.sec.lc ≠ 1 then ((1, 0, []), s1)
      else if !inLocal a (64 + len) then ((7, 0, []), s1)
      else match s1.fetch 3 0 (a + 64) len with
        | (none, s2) => ((3, 0, []), s2)
        | (some d, s2) =>
          if plain then ((0, uWord h 4, d), s2)
          else
            let key := if blob then some s.sealKey else s.sec.otk
            match key with
            | none => ((4, 0, []), s2)
            | some k =>
              let iv := (h.drop 0x18).take 12
              if gcmTag k iv (h.take 0x30) d = (h.drop 0x30).take 16 then ((0, uWord h 4, gcmCrypt k iv d), s2) else ((4, 0, []), s2)

/-- The blob of a pound range under an IV. -/
def State.blob (s : State) (off len : Nat) (iv : List Byte) : List Byte :=
  let d := s.readMem (0x0108000000 + off) len
  let h := leBytes 4 (0x5342 + 2 ^ 16) ++ leBytes 4 off ++ leBytes 4 len ++ leBytes 4 0 ++ s.uidBytes ++ iv ++ leBytes 12 0
  let c := gcmCrypt s.sealKey iv d
  h ++ gcmTag s.sealKey iv h c ++ c

/-! ## Commands (R441, R446, R448, R449, R459) -/

/-- A transition of Table SEC-6. -/
def State.lcMay (s : State) (new : Nat) : Bool :=
  match s.sec.lc, new with
  | 0, 1 => (nth none s.sec.keyHash 0).isSome
  | 1, 2 => true
  | 1, 3 => true
  | 2, 3 => true
  | 4, _ => false
  | _, 4 => true
  | _, _ => false

/-- The public key of a slot (R449). -/
def State.slotKey (s : State) (n : Nat) : Option (List Byte) :=
  (s.keySlot n).map (fun h => match s.sec.image with
    | some i => if sha384 i.key = h then i.key else Config.slotKey h
    | none => Config.slotKey h)

/-- The return token at an address serves (R449): its result code. -/
def State.tokenCheck (s : State) (a : Nat) : Nat × State :=
  if a % 64 ≠ 0 || !inLocal a 176 then (7, s)
  else match s.fetch 3 0 a 176 with
    | (none, s1) => (4, s1)
    | (some t, s1) =>
      let slot := leNat ((t.drop 0x18).take 1)
      let ok : Bool := uWord t 0 % 2 ^ 16 = 0x5254 && (t.drop 8).take 8 = s.uidBytes && leNat ((t.drop 0x10).take 8) = s.rd64 A.secNonce &&
        slot < 4 && (match s.slotKey slot with | some k => ecdsaOk k (t.take 0x50) ((t.drop 0x50).take 96) | none => false)
      (if ok then 0 else 4, s1)

/-- SEC_NONCE takes a new random value. -/
def State.newNonce (s : State) : State :=
  let (v, s1) := s.draw 64
  s1.wr64 A.secNonce v.toNat

/-- Some slot is written and not revoked. -/
def slotLeft (hashes : List (Option (List Byte))) (revoke : Nat) : Bool :=
  (rangeFrom 0 4).any (fun n => (nth none hashes n).isSome && !tbit revoke n)

/-- The result of OTP_WRITE's checks, before its data is read. -/
def State.otpCheck (s : State) (f arg : Nat) : Nat :=
  let x := s.sec
  let key : Nat := arg % 2 ^ 32
  match f with
  | 1 =>
    if x.lc ≠ 0 || 4 ≤ key || (nth none x.keyHash key).isSome || !slotLeft (upd (fun _ => some []) x.keyHash key) x.revoke then 1 else 0
  | 2 => if 3 ≤ x.lc || !slotLeft x.keyHash (x.revoke ||| (arg % 16)) then 1 else 0
  | 3 => if x.lc ≠ 1 || !slotLeft x.keyHash x.revoke then 1 else 0
  | 4 => if x.lc ≠ 1 || x.otk.isSome || !slotLeft x.keyHash x.revoke then 1 else 0
  | _ => 1

/-- Data of an OTP_WRITE. -/
def State.otpData (s : State) (a n : Nat) : Nat × List Byte × State :=
  if a % 64 ≠ 0 || !inLocal a n then (7, [], s)
  else match s.fetch 3 0 a n with
    | (some d, s1) => (0, d, s1)
    | (none, s1) => (3, [], s1)

/-- The checks of a command as it starts: its result, the field it concerns, its data. -/
def State.secCheck (s : State) (op key : Nat) : (Nat × Nat × List Byte) × State :=
  let a := s.rd64 A.secXferAddr % 2 ^ 48
  let arg0 := s.rd A.secArg0
  let arg1 := s.rd A.secArg1
  let lc := s.sec.lc
  match op with
  | 1 =>
    if key ≠ 0x7A5E then ((2, arg0, []), s)
    else if !s.lcMay arg0 then ((1, arg0, []), s)
    else if arg0 = 3 then
      let (r, s1) := s.tokenCheck a
      ((r, arg0, []), s1)
    else ((0, arg0, []), s)
  | 2 =>
    if lc ≠ 1 && lc ≠ 2 then ((1, 0, []), s) else if s.sealState ≠ 0 then ((5, 0, []), s) else s.readRecord a false
  | 3 =>
    if lc = 4 then ((1, 0, []), s) else if s.sealState ≠ 0 then ((5, 0, []), s)
    else if arg0 % 8 ≠ 0 || arg1 % 8 ≠ 0 || arg1 < 8 || 65536 < arg1 || 2 ^ 22 < arg0 + arg1 then ((3, 0, []), s)
    else if a % 64 ≠ 0 || !inLocal a (64 + arg1) then ((7, 0, []), s)
    else ((0, arg0, []), s)
  | 4 =>
    if lc = 4 then ((1, 0, []), s) else if s.sealState ≠ 0 then ((5, 0, []), s) else s.readRecord a true
  | 5 =>
    if key ≠ 0x7A5E then ((2, arg0, []), s)
    else match s.otpCheck arg0 arg1 with
      | 0 =>
        let n := if arg0 = 1 then 48 else if arg0 = 4 then 32 else 0
        if n = 0 then ((0, arg0, []), s)
        else
          let (r, d, s1) := s.otpData a n
          ((r, arg0, d), s1)
      | r => ((r, arg0, []), s)
  | 6 => ((if lc = 1 || lc = 2 || lc = 3 then 0 else 1, 0, []), s)
  | _ => ((if s.sealState ≤ 1 then 0 else 1, 0, []), s)

/-- A test discharge starts, or waits until 10 ms have passed since the last one ended (R457). -/
def State.testStart (s : State) : State :=
  let soon : Bool := match s.sec.testEnd with | some t => s.now < t + 10000000 | none => false
  if s.sec.test.isSome || soon then s.setSec (fun x => { x with deferred := true })
  else ((s.setSec (fun x => { x with test := some s.now, deferred := false })).wrb A.secHuStat 3 true).wrb A.secHuStat 5 false

/-- A command has failed: its result is logged and recorded. -/
def State.secFail (s : State) (op result : Nat) : State :=
  (s.secLog 0x38 result).pageErr secPage 0x0100 (result + op % 8 * 2 ^ 8)

/-- The write of SEC_CMD. -/
def State.secCmd (s : State) (v : Nat) : State :=
  let op := v % 16
  if op = 0 || 8 ≤ op then s
  else if s.sec.run.isSome then ((s.wrf A.secCmdStat 0 4 6).secFail op 6).raise secPage 8
  else
    let ((r, f, d), s1) := s.secCheck op (v / 2 ^ 16 % 2 ^ 16)
    let run : SecRun := {
      op := op, result := r, arg0 := f, arg1 := s.rd A.secArg1, addr := s.rd64 A.secXferAddr % 2 ^ 48, data := d }
    let s2 := (s1.starting secPage (fun t => t.setSec (fun x => { x with run := some run }))).wr A.secCmdStat (2 ^ 4 + op * 2 ^ 8)
    if op = 7 && r = 0 then s2.testStart else s2

/-- The bits of a byte string that `m` keeps. -/
def maskBytes (m : Nat) (d : List Byte) : List Byte := leBytes d.length (leNat d &&& m)

/-- What a programming of OTP leaves; after a bit that does not read back, the bits set before it stay. -/
def State.otpBurn (s : State) (r : SecRun) (bad : Bool) : State :=
  let (v, s1) := if bad then ((s.draw 384).1.toNat, (s.draw 384).2) else (2 ^ 384 - 1, s)
  s1.setSec (fun x =>
    match r.arg0 with
    | 1 => { x with keyHash := upd (fun _ => some (maskBytes v r.data)) x.keyHash (r.arg1 % 4) }
    | 2 => { x with revoke := x.revoke ||| (r.arg1 % 16 &&& v) }
    | 3 => { x with strict := x.strict || !bad }
    | _ => { x with otk := some (maskBytes v r.data) })

/-- SVN_MIN rises to the running image's SVN, or part of the way when a bit does not read back. -/
def State.svnRaise (s : State) (bad : Bool) : State :=
  let top := match s.sec.image with | some i => min 64 i.svn | none => 0
  if top ≤ s.sec.svnMin then s
  else
    let (v, s1) := if bad then ((s.draw 8).1.toNat % (top - s.sec.svnMin), (s.draw 8).2) else (top - s.sec.svnMin, s)
    s1.setSec (fun x => { x with svnMin := x.svnMin + v })

/-- The effect of a command that passed its checks: its result and the state after it.  `bad`: an OTP bit did not read back. -/
def State.secEffect (s : State) (r : SecRun) (bad : Bool) : Nat × State :=
  let otp : Nat := if bad then 8 else 0
  match r.op with
  | 1 =>
    if bad then (8, s)
    else
      let old := s.sec.lc
      let s1 := (s.startWipe 5).setSec (fun x => { x with lc := r.arg0 })
      (0, (if r.arg0 = 4 then s1.wrb A.spdSealStat 4 true else s1).secLog 0x30 (old * 16 + r.arg0))
  | 3 =>
    if s.sealState ≠ 0 then (5, s)
    else
      let (iv, s1) := s.draw 96
      match s1.fetch 3 0 (0x0108000000 + r.arg0) r.arg1 with
      | (none, s2) => (3, s2)
      | (some _, s2) => (0, s2.store r.addr (s2.blob r.arg0 r.arg1 (leBytes 12 iv.toNat)))
  | 5 => (otp, s.otpBurn r bad)
  | 6 => (otp, s.svnRaise bad)
  | 7 => (0, s)
  | _ => if s.sealState ≠ 0 then (5, s) else (0, s.store (0x0108000000 + r.arg0) r.data)

/-- The running command completes, while the crypto unit's clock and its memory's run (R470); one that names RETURN uses its nonce up (R449). -/
def State.secCmdDone (s : State) (bad : Bool) : State :=
  match s.sec.run with
  | none => s
  | some r =>
    if !s.runs 59 || !s.memRuns r.addr 64 then s else
    let s1 := s.setSec (fun x => { x with run := none })
    let (result, s2) := if r.result = 0 then s1.secEffect r bad else (r.result, s1)
    let s3 := ((if r.op = 1 && r.arg0 = 3 then s2.newNonce else s2).wr A.secCmdStat (result + r.op * 2 ^ 8)).raise secPage 8
    (if result = 0 then s3
     else if result = 8 then (s3.secLog 0x38 8).pageErr secPage 0x0102 0
     else s3.secFail r.op result).quietEdge secPage (s.busy secPage)

/-! ## Hold-up energy (R453 to R457) -/

/-- C in µF and SEC_HU_EMIN in µJ. -/
def State.huCap (s : State) : Nat := max 1 (s.rdf A.secHuCfg 0 16)
def State.huMin (s : State) : Nat := max 400 (s.rdf A.secHuEmin 0 16)

/-- E_V and E_CC as numerator and denominator, in µJ: from the bank voltage in mV, and from the charge in fC. -/
def State.eV (s : State) (v : Nat) : Int × Nat := ((s.huCap : Int) * ((v : Int) * v - 1600 * 1600), 2000000)
def State.eCC (s : State) (q : Nat) : Int × Nat :=
  (max 0 ((q : Int) * q - (s.huCap : Int) * s.huCap * 2560000000000000000), 2000000000000000000 * s.huCap)

/-- An estimate as a 16-bit number of µJ. -/
def microJ (e : Int × Nat) : Nat := (clampI 0 0xFFFF (divNear e.1 e.2)).toNat
/-- An estimate is at least SEC_HU_EMIN. -/
def State.enough (s : State) (e : Int × Nat) : Bool := (s.huMin * e.2 : Nat) ≤ e.1

/-- The charge in fC that a running test discharge has drawn by time `t`: 20 mA, for 250 µs (R457). -/
def State.testDrawn (s : State) (t : Nat) : Nat := match s.sec.test with | some t0 => min (t - t0) 250000 * 20000 | none => 0

/-- The charge after leakage and the draw of a test discharge up to now, with `fc` fC counted in (R453). -/
def State.chargeNow (s : State) (fc : Nat) : Nat :=
  s.sec.charge + fc - s.rdf A.secHuCfg 16 16 * (s.now - s.sec.chargeAt) - (s.testDrawn s.now - s.testDrawn s.sec.chargeAt)

/-- The judgement of every 100 µs: the bank voltage in mV, and the charge counted in since the last one in fC. -/
def State.huJudge (s : State) (v fc : Nat) : State :=
  let q := s.chargeNow fc
  let ev := s.eV v
  let ec := s.eCC q
  let vOk := s.enough ev
  let cOk := s.enough ec
  let s1 := (s.setSec (fun x => { x with charge := q, chargeAt := s.now })).wr A.secHuV (v % 2 ^ 16)
  let s2 := s1.wr A.secHuE (microJ ec + microJ ev * 2 ^ 16)
  let s3 := ((s2.wrb A.secHuStat 0 cOk).wrb A.secHuStat 1 vOk).wrb A.secHuStat 5 (v < 3200 && s.sec.test.isNone)
  let judged : Bool := s.sealState ≤ 1
  let dis : Bool := judged && cOk != vOk
  let s4 := s3.setSec (fun x => { x with disNow := dis })
  if dis && !s.sec.disNow then
    if s.sec.strict then (s4.secLog 0x20 0).startWipe 7
    else ((((s4.lockPound 5).wrb A.secHuStat 2 true).bump A.secHuDisCnt).raise secPage 10).secLog 0x20 0 |>.testStart
  else if judged && !cOk && !vOk && !s.rdb A.secHuStat 4 then
    (((s4.wrb A.secHuStat 4 true).raise secPage 10).secLog 0x21 0).testStart
  else s4

/-- A deferred test discharge starts. -/
def State.testDeferred (s : State) : State :=
  let gone10 : Bool := match s.sec.testEnd with | some t => t + 10000000 ≤ s.now | none => true
  if s.sec.deferred && s.sec.test.isNone && gone10 then s.testStart else s

/-- The decision of a test discharge: the voltages before and after, in 0.1 mV. -/
def State.testDecide (s : State) (before after : Nat) : State :=
  if s.sec.test.isNone then s
  else
    let d := before - after
    let c := s.huCap
    let near : Bool := 3 * c * d ≤ 200000 && 200000 ≤ 5 * c * d
    let e : Int × Nat := ((after : Int) * after - 16000 * 16000, 4000 * d)
    let ok := near && s.enough e
    let cm := if d = 0 then 0xFFFF else (clampI 0 0xFFFF (divNear 50000 d)).toNat
    let et := if d = 0 then 0xFFFF else microJ e
    let q :=
      if ok then isqrt (c * c * 2560000000000000000 + 500000000000000 * c * (after * after - 256000000) / d)
      else if near then c * after * 100000 else 0
    let s1 := s.setSec (fun x => { x with test := none, testEnd := some s.now, charge := q, chargeAt := s.now })
    let s2 := (((s1.wr A.secHuTest (cm + et * 2 ^ 16)).wrb A.secHuStat 3 false).wrb A.secHuStat 6 ok).raise secPage 11
    if ok then
      let s3 := ((s2.wrb A.secHuStat 2 false).wrb A.secHuStat 4 false).wrf A.secHuE 0 16 et
      (s3.clearHoldup).secLog 0x22 0
    else ((s2.startWipe 6).wrb A.spdSealStat 5 false).secLog 0x23 0

/-- The conditions under which the safety island opens the pound (R455). -/
def State.mayOpen (s : State) : Bool :=
  s.rdb A.secHuStat 0 && s.rdb A.secHuStat 1 && s.sec.test.isNone && !s.rdb A.secHuStat 4

/-! ## Meanings -/

def execBootDone (a b : Option (List Byte)) (mooring : Nat) (s : State) : Host.Outcome State Fault Refusal := .next (s.bootDone a b mooring)
def execSecCommandDone (otpBad : Bool) (s : State) : Host.Outcome State Fault Refusal := .next (s.secCmdDone otpBad)
/-- A detector reports an event (`fires`), or that its condition has come or gone. -/
def execTamperEvent (src : Fin 4) (fires live : Bool) (s : State) : Host.Outcome State Fault Refusal :=
  .next (if fires then s.tamper src live else s.tamperLive src live)

def execHoldupJudgement (v charge : Nat) (s : State) : Host.Outcome State Fault Refusal := .next (s.huJudge v charge)
def execTestDischargeStart (s : State) : Host.Outcome State Fault Refusal := .next s.testDeferred
def execTestDischargeDecision (before after : Nat) (s : State) : Host.Outcome State Fault Refusal := .next (s.testDecide before after)

/-- The supply fails: the hold-up domain wipes the pound. -/
def execPowerLoss (s : State) : Host.Outcome State Fault Refusal := .next (s.startWipe 8)

end Sys2Proof.Machine
end

