-- ==== Sys2Proof/Machine/Pwr.lean ====
section
/-!
DEFINITION. Power, clocks and reset: rails and their telemetry, PLLs and REFCLK, the resets and what they keep, readiness and wedge
candidates (R463 to R483).
-/
namespace Sys2Proof.Machine

/-- Change this block's own state. -/
def State.setPwr (s : State) (f : PwrState → PwrState) : State := { s with pwr := f s.pwr }

/-! ## Rails (R466, R467) -/

/-- PWR_STAT.ALL_GOOD follows the rails' flags. -/
def State.allGood (s : State) : State := s.wrb A.pwrStat 0 ((rangeFrom 0 13).all (fun r => s.rdf (A.pwrRFlags r) 0 2 = 0))

/-- Every rail is within its tolerance. -/
def State.railsGood (s : State) : Bool := (rangeFrom 0 13).all (fun r => s.rdf (A.pwrRFlags r) 0 2 = 0)

/-- A rail leaves its tolerance: its flag shows it, and while the device runs RAIL is raised as well (R466). -/
def State.railOut (s : State) (r : Nat) (high : Bool) : State :=
  let s1 := (s.wrf (A.pwrRFlags r) 0 3 (if high then 6 else 5)).allGood
  if s.pwr.held.isSome then s1 else (s1.pageErr 0x1000 0x0100 r).raise 0x1000 8

/-- A rail is back within its tolerance; the 2 ms of R466 start with the last one. -/
def State.railBack (s : State) (r : Nat) : State := ((s.wrf (A.pwrRFlags r) 0 2 0).allGood).setPwr (fun x => { x with goodAt := s.itime })

/-- One rail's measurement in mV and mA. -/
def State.railOne (s : State) (r v i : Nat) : State :=
  ((s.wr (A.pwrRV r) (v % 2 ^ 16)).wr (A.pwrRI r) (i % 2 ^ 24)).wr (A.pwrRMin r) (min (s.rd (A.pwrRMin r)) (v % 2 ^ 16))

/-- The measurement of every 100 µs. -/
def State.telemetry (s : State) (v i : List Nat) : State :=
  let s1 := (rangeFrom 0 13).foldl (fun t r => t.railOne r (nth 0 v r) (nth 0 i r)) s
  let uw := ((rangeFrom 0 13).map (fun r => nth 0 v r * nth 0 i r)).sum
  let total := (divNear (uw * 256) 1000000).toNat % 2 ^ 32
  let e := s.pwr.energy + uw
  let s2 := (s1.wr A.pwrTotal total).wr A.pwrPeak (max (s1.rd A.pwrPeak) total)
  let s3 := s2.wr64 A.pwrEnergy (s2.rd64 A.pwrEnergy + e / 10000000)
  (s3.setPwr (fun x => { x with energy := e % 10000000 })).setThm (fun x => { x with pSum := x.pSum + total, pN := x.pN + 1 })

/-! ## Clocks (R469 to R471) -/

/-- The domains of Table PWR-4 that stop with a PLL (R470). -/
def pllDomains (n : Nat) : List Nat :=
  match n with
  | 0 => [0, 1, 2, 3, 54, 59]
  | 1 => [57]
  | 2 => [4, 6]
  | 3 => [5, 7]
  | 5 => [49]
  | 7 => [38, 42]
  | 8 => [39, 43]
  | 9 => [40, 44]
  | 10 => [41, 45]
  | _ => []

/-- Domains stop. -/
def State.stopDomains (s : State) (l : List Nat) : State :=
  l.foldl (fun (t : State) d => t.wr64 A.clkDomRun (putBit (t.rd64 A.clkDomRun) d false)) s

/-- A PLL loses lock. -/
def State.pllLost (s : State) (n : Nat) : State :=
  let s1 := ((((s.wrb A.clkPllLock n false).wrb A.clkPllLost n true).pageErr 0x2000 0x0100 n).raise 0x2000 8).stopDomains (pllDomains n)
  if n = 4 then s1.hotReset true
  else if n = 6 then (s1.safDiag 0x01).safDiag 0x03
  else if 11 ≤ n then s1.linkDown (n - 11) else s1

/-- REFCLK is lost. -/
def State.refLost (s : State) : State :=
  let s1 := ((s.wrb A.clkRef 0 false).raise 0x2000 9).stopDomains [51, 52, 55, 56, 58]
  ((rangeFrom 0 19).foldl (fun t n => if n = 6 then t else t.pllLost n) s1).tamper 2 true

/-- REFCLK is back. -/
def State.refBack (s : State) : State := (s.wrb A.clkRef 0 true).wrb A.secTamper 6 false

/-- The pages whose blocks a domain serves, for the domains that an ENABLE gates (R51, R469, Table PWR-4; log entry 223): the datapath
with the post units of CHG, the engines, the scratchpad and the pound, both directions of a link, a receiver, both directions of the
management port, fusion and loads, and the loop controllers. -/
def domainPages (d : Nat) : List Nat :=
  if d = 0 then 0x40000 :: (rangeFrom 0 4).map (fun r => 0x41000 + r * 0x1000) ++ 0x50000 :: (rangeFrom 0 8).map lgPage ++
    0x60000 :: (rangeFrom 0 16).map solPage ++ [0x80000] ++ (rangeFrom 0 256).map chgPage
  else if d = 1 then 0x200000 :: (rangeFrom 0 64).map enginePage
  else if d = 2 then [0x300000, 0x301000]
  else if 8 ≤ d && d < 16 then [linkPage (d - 8)]
  else if 16 ≤ d && d < 24 then [linkPage (d - 16)]
  else if 26 ≤ d && d < 38 then [0x20000 + (d - 26) * 0x1000]
  else if d = 49 || d = 50 then [0x358000]
  else if d = 57 then [0x30000, 0x31000]
  else if d = 58 then [0x350000]
  else []

/-- A domain is gated: every page that it serves is disabled and holds no work. -/
def State.gated (s : State) (d : Nat) : Bool := !(domainPages d).isEmpty && (domainPages d).all (fun p => !s.enabled p && !s.busy p)

/-- CLK_DOM_RUN: the domains that run, without those that an ENABLE gates. -/
def State.domRunLive (s : State) : Nat :=
  ((rangeFrom 0 60).map (fun d => if s.runs d && !s.gated d then 2 ^ d else 0)).sum

/-- The frequency in kHz that Table PWR-4 gives a domain whose clock comes from REFCLK; none for the others, whose frequency the far end,
a pin, an RC oscillator or the crystal sets. -/
def domainKhz (d : Nat) : Option Nat :=
  if d = 0 || d = 2 then some 1500000
  else if d = 1 || d = 3 then some 2000000
  else if d = 4 || d = 5 || d = 57 then some 800000
  else if d = 6 || d = 7 then some 3200000
  else if 8 ≤ d && d < 16 then some 1750000
  else if d = 24 || d = 25 || d = 59 then some 1000000
  else if 38 ≤ d && d < 42 then some 1000000
  else if 42 ≤ d && d < 46 then some 2000000
  else if d = 49 then some 125000
  else if d = 51 || d = 55 || d = 56 then some 100000
  else if d = 52 || d = 58 then some 10000
  else if d = 54 then some 500000
  else none

/-- CLK_MEAS (Table PWR-10): a domain that stands shows 0; one that REFCLK feeds its frequency of Table PWR-4, which REFCLK's offset from
the crystal moves (DEDUCED, log entry 243); any other one an open value. -/
def State.clkMeasLive (s : State) : Nat :=
  let d := s.rdf A.clkMeasSel 0 6
  if !tbit s.domRunLive d then 0
  else match domainKhz d with
    | some f => (divNear (f * (1000000 + sgn 16 (s.rdf A.clkRefPpm 0 16))) 1000000).toNat
    | none => (Config.freeValue 32 s.freeCnt).toNat

/-- CLK_PLL_LOCK: a PLL that has lost its lock may lock again at any time, which starts nothing (R470, R475); whether it has is open. -/
def State.pllLockLive (s : State) : Nat :=
  s.rd A.clkPllLock ||| (s.rd A.clkPllLost &&& (Config.freeValue 19 s.freeCnt).toNat)

/-! ## Resets (R472 to R474) -/

/-- Registers that a reset keeps (Table PWR-6): the security log, REFCLK's presence, and over a full reset the safety log,
PWR_STAT and RST_FULL_CNT. -/
def resetKeeps (power : Bool) (a : Nat) : Bool :=
  a = A.secLogWr || a = A.secLogRd || (0x360800 ≤ a && a < 0x360C00) || a = A.clkRef ||
    (!power && (a = A.safLogWr || a = A.safLogRd || (0x330800 ≤ a && a < 0x330C00) || a = A.pwrStat || a = A.rstFullCnt))

/-- A calibration write that the reset cuts short leaves its regions with a CRC that nothing fixes (R240). -/
def State.calCut (s : State) : State :=
  match s.cal.run with
  | none => s
  | some r => r.written.foldl (fun (t : State) k =>
      let (v, u) := t.draw 32
      { u with cal := { u.cal with store := Memory.write u.cal.store (calOffset k + 12) (leBytes 4 v.toNat) } }) s

/-- A security command that the reset cuts short (R448): the old state or the new one; OTP bits set so far stay. -/
def State.secCut (s : State) : State :=
  match s.sec.run with
  | none => s
  | some r =>
    if r.result ≠ 0 then s
    else if r.op = 1 then
      let (v, s1) := s.draw 1
      if v = 1 then s1.setSec (fun x => { x with lc := r.arg0 }) else s1
    else if r.op = 5 then s.otpBurn r true
    else if r.op = 6 then s.svnRaise true
    else s

/-- The charge arrays after a reset (R231): cells, wear and models are kept, and an array cut in a row operation is scanned, also where
another reset comes before that scan has completed.  The model
table is built again from the directories, so that every model in them is READY. -/
def chgKept (c : ChgState) : ChgState :=
  let arr (x : ChgArray) : ChgArray :=
    let cut := x.cut || x.rowop.isSome
    { wear := x.wear, total := x.total, refDue := true, scan := if cut then some 0 else none, cut := cut }
  let gone : Option Nat := c.prog.map (·.model)
  { levels := c.levels, models := (c.models.filter (fun m => some m.1 ≠ gone)).map (fun m => (m.1, { m.2 with ready := true })), arrays := c.arrays.map arr, vppOk := c.vppOk }

/-- What is left of the security state. -/
def secKept (x : SecState) (power : Bool) : SecState :=
  { logSeq := x.logSeq, boots := x.boots, lc := x.lc, keyHash := x.keyHash, revoke := x.revoke, svnMin := x.svnMin, strict := x.strict
    otk := x.otk, optF := x.optF, charge := if power then 0 else x.charge, chargeAt := x.chargeAt }

/-- The device as a reset leaves it until its release. -/
def State.cleared (s : State) (power : Bool) : State :=
  let hbm (a : Nat) : Bool := !power && regionOf a = .hbm
  { State.reset with
    now := s.now
    itime := s.itime
    regs := s.regs.filter (fun x => resetKeeps power x.1)
    mem := s.mem.filter (fun c => hbm c.1)
    fills := s.fills.filter (fun f => hbm f.lo)
    out := s.out ++ [.gpio 0 0]
    freeCnt := s.freeCnt
    spd := { ue := s.spd.ue.filter hbm, ce := s.spd.ce.filter hbm }
    chg := chgKept s.chg
    sec := secKept { s.sec with charge := s.chargeNow 0, chargeAt := s.now } power
    saf := { logSeq := if power then 0 else s.saf.logSeq }
    cal := { store := s.cal.store }
    pwr := { held := some (s.itime, power), goodAt := s.pwr.goodAt, cold := power || (s.pwr.cold && decide (s.itime < 20950000)) }
    pending := s.pending }

/-- LOW and HIGH of the rails show what the rails do, through every reset. -/
def State.railsKept (s : State) (old : State) : State :=
  (rangeFrom 0 13).foldl (fun t r => t.wr (A.pwrRFlags r) (old.rdf (A.pwrRFlags r) 0 2)) s

/-- The pound is wiped by a reset, and BOOT is set (R319, R322). -/
def State.resetWipe (s : State) (cause : Nat) : State :=
  let s1 := ((s.wr A.spdSealStat (2 + 2 ^ 4)).wr A.spdSealCause cause).wr64 A.spdSealT s.now
  ({ s1 with spd := { s1.spd with wipe := some { start := s.now, retry := false } } }).secLog 0x18 cause

/-- A full reset is triggered with a cause of Table PWR-5; while one runs it merges, and PIN wins in the same cycle. -/
def State.fullReset (s : State) (cause : Nat) : State :=
  match s.pwr.held with
  | some (t, false) => if t = s.itime && cause = 1 then s.wr A.rstCause 1 else s
  | some (_, true) => s
  | none =>
    let s1 := ((s.safStop 0x13 0 0).calCut).secCut
    let s2 := (s1.cleared false).railsKept s
    ((s2.wr A.rstCause cause).bump A.rstFullCnt).resetWipe 11

/-- What a falling rail sets going before the brown-out (R466): the tamper event of VDD_CORE, VDD_AON and VDD_SAF unless its condition
stands, and the power-loss wipe of VDD_IO33 and VDD_AON unless it has begun. -/
def State.railFalls (s : State) (rail : Nat) : State :=
  let s1 := if [0, 11, 12].contains rail && !s.rdb A.secTamper 5 then s.tamper 1 true else s
  if (rail = 10 || rail = 11) && !(2 ≤ s1.sealState && s1.rd A.spdSealCause = 8) then s1.startWipe 8 else s1

/-- A brown-out: the rail stands below its tolerance, and SEQ_ERR and SEQ_RAIL stand unless VDD_AON itself has gone (R466, Table PWR-9;
log entry 244). -/
def State.brownout (s : State) (rail : Nat) : State :=
  if rail = 8 then s
  else
    let u := ((s.railFalls rail).calCut).secCut
    let s1 := (((u.cleared true).railsKept u).wrf (A.pwrRFlags rail) 0 2 1).wr A.rstCause (5 + rail * 2 ^ 8)
    (if rail = 11 then s1 else s1.wrf A.pwrStat 1 7 (u.rdf A.pwrStat 1 7)).allGood

/-- The domains that REFCLK, the crystal and the on-die oscillators feed at release; the others follow what is outside. -/
def ownDomains : Nat := 2 ^ 60 - 1 - (2 ^ 24 - 2 ^ 16) - (2 ^ 38 - 2 ^ 26) - 2 ^ 50 - 2 ^ 53

/-- The arrays of a die without a valid CHG record are OUT_OF_SERVICE from start-up (R245, R376). -/
def State.diesOut (s : State) : State :=
  ((rangeFrom 0 256).filter (fun a => !s.dieOk a)).foldl (fun t a => t.wrf (chgPage a + 0x00C) 2 3 2) s

/-- How long a reset has held the device, in ns. -/
def State.heldFor (s : State) : Nat := match s.pwr.held with | some (t, _) => s.itime - t | none => 0

/-- Every domain is released: straps, PLLs, domains, the calibration load, a new SEC_NONCE (R449) and BOOT_NONCE (R435), and one more
boot. -/
def State.release (s : State) (node smb : Nat) (bad : List Nat) (corr : Nat) : State :=
  let ran := s.heldFor
  let s0 : State := { s with now := 0, itime := 0, spd := { s.spd with wipe := s.spd.wipe.map (fun w => { w with start := 0, ran := w.ran + ran }) } }
  let s1 := s0.setPwr (fun x => { x with held := none, goodAt := 0, stuck := [], told := [] })
  let s2 := (s1.wr A.sysStraps (node % 128 + smb % 4 * 2 ^ 8)).wrf A.aqdNode 0 7 node
  let (d, s3) := s2.draw 60
  let (p, s4) := s3.draw 16
  let s5 := ((s4.wr A.clkPllLock (2 ^ 19 - 1)).wr64 A.clkDomRun (ownDomains ||| d.toNat)).wr A.clkRefPpm p.toNat
  let s6 := (s5.setSec (fun x => { x with boots := (x.boots + 1) % 256, charge := x.charge - s.rdf A.secHuCfg 16 16 * ran, chargeAt := 0 })).newNonce
  let (m, s6b) := s6.draw 64
  let s7 := (s6b.wr64 A.mgtNonce m.toNat).setChg (fun c => { c with arrays := c.arrays.map (fun (x : ChgArray) => { x with refDue := true }) })
  (s7.calLoad bad corr).diesOut

/-- 100 µs after its trigger a full reset is released. -/
def State.fullRelease (s : State) (node smb : Nat) (bad : List Nat) (corr : Nat) : State :=
  match s.pwr.held with
  | some (t, false) => if t + 100000 ≤ s.itime && s.rdb A.clkRef 0 then s.release node smb bad corr else s
  | _ => s

/-- Power-on reset ends: every rail has stood within its tolerance for 2 ms, REFCLK is present, and TEST_EN is low (R466, R492). -/
def State.powerGood (s : State) (testEn : Bool) : Bool :=
  s.rdb A.clkRef 0 && s.railsGood && decide (s.pwr.goodAt + 2000000 ≤ s.itime) && !testEn

/-- Power-on reset is released; `seq` names a rail that rose out of step, `testEn` is the level of TEST_EN. -/
def State.powerOn (s : State) (node smb : Nat) (bad : List Nat) (corr : Nat) (seq : Option Nat) (testEn : Bool) : State :=
  match s.pwr.held with
  | some (_, true) =>
    if !s.powerGood testEn then s
    else
      let s1 := (s.release node smb bad corr).resetWipe 10
      match seq with
      | some r => (s1.wrf A.pwrStat 1 7 (1 + r % 16 * 8)).raise 0x1000 9
      | none => s1
  | _ => s

/-- The write of SYS_RESET. -/
def State.sysReset (s : State) (src : Source) (v : Nat) : State :=
  if v % 2 ^ 16 ≠ 0x5EA1 then ((s.bump A.rstBadkey).pageErr 0x0 0x0100 0).raise 0x3000 8
  else s.fullReset (match src with | .smbus => 3 | .jtag => 4 | _ => 2)

/-! ## Readiness and wedge candidates (R476, R477) -/

/-- HBM is available (Table PWR-7): its clocks run, and after power-on its zero fill of 20.95 ms is over (R474). -/
def State.hbmUp (s : State) : Bool := [4, 5, 6, 7].all s.runs && (!s.pwr.cold || decide (20950000 ≤ s.itime))

/-- The conditions of Table PWR-7 for a block type. -/
def State.readyMay (s : State) (t : Nat) : Bool :=
  if s.pwr.held.isSome then false
  else if t = 0x01 || t = 0x02 || t = 0x13 then true
  else if t = 0x0C then s.rd A.clkPllLock % 2 ^ 19 = 2 ^ 19 - 1 && s.sealState = 3
  else if t = 0x14 then s.ready secPage
  else if !s.ready 0x370000 then false
  else if t = 0x10 then s.thm.cycled
  else if t = 0x09 || t = 0x0A then
    !s.rdb A.chgCtrl 0 || (rangeFrom 0 256).all (fun a => !(s.arr a).refDue || !s.dieOk a)
  else if t = 0x0D then s.rdb A.hstLink 16
  else if t = 0x0B || t = 0x0F then s.rdf A.secBoot 0 2 = 1
  else s.hbmUp

/-- A block has finished its own initialisation. -/
def State.blockReady (s : State) (t : Nat) : State :=
  if !s.readyMay t then s
  else if t = 0x09 then (s.wrb A.chgStat 0 true).makeReady 0x09
  else if t = 0x14 then (s.makeReady 0x14).hstReady
  else s.makeReady t

/-- SYS_READY. -/
def State.sysReadyLive (s : State) : Nat := ((rangeFrom 1 20).map (fun t => b2n (s.typeReady t) t)).sum

/-- A wedge candidate is reported. -/
def State.wedgeSeen (s : State) (t : Nat) : State :=
  if s.wedged t && !s.pwr.told.contains t && 1 ≤ t && t ≤ 20 then (s.setPwr (fun x => { x with told := t :: x.told })).raise 0x0 8 else s

/-! ## Pin states (R445, R491, R494) -/

/-- What a ball shows: Table PKG-9 while a reset holds the device, and after release what the state of its block gives. -/
def State.ball (s : State) (b : Ball) : Level :=
  let drive (p : Bool) : Level := if p then .high else .low
  let held := s.pwr.held.isSome
  match b with
  | .safStop c => if held then .low else drive (s.rdb A.safChStat c)
  | .trig t => if held then .low else drive (s.trgPin t)
  | .gpio t => if held || !tbit s.fio.drv.1 t then .released else drive (tbit s.fio.drv.2 t)
  | .encSclk e => if held then .high else drive (s.encSclk e)
  | .loopGate _ => if held then .low else .owner
  | .thermTrip => if s.tripped then .low else .released
  | .smbAlert => if s.fio.smbAlert then .low else .released
  | .smbSda => if held then .released else .owner
  | .boot => if held || s.rdf A.secBoot 0 2 ≠ 0 then .released else .owner
  | .mdc => if held then .low else .owner
  | .trace => if held then .low else .owner
  | .mdio => if held then .highZ else .owner
  | .tdo => if held then .highZ else .owner
  | .linkTx n => if held || s.rdf (A.aqdLStat n) 0 2 = 0 then .idle else .owner
  | .pcieTx => if held || !s.rdb A.hstLink 16 then .idle else .owner
  | .sgTx => if held then .idle else .owner

/-! ## Meanings -/

def execRailOutOfTolerance (r : Fin 13) (high : Bool) (s : State) : Host.Outcome State Fault Refusal := .next (s.railOut r high)
def execRailReturn (r : Fin 13) (s : State) : Host.Outcome State Fault Refusal := .next (s.railBack r)
def execRailTelemetry (v cur : List Nat) (s : State) : Host.Outcome State Fault Refusal := .next (s.telemetry v cur)
def execPllLost (n : Fin 19) (s : State) : Host.Outcome State Fault Refusal := .next (s.pllLost n)
def execRefLost (s : State) : Host.Outcome State Fault Refusal := .next s.refLost
def execRefclkReturn (s : State) : Host.Outcome State Fault Refusal := .next s.refBack
def execFullRstN (s : State) : Host.Outcome State Fault Refusal := .next (s.fullReset 1)
def execBrownout (r : Fin 13) (s : State) : Host.Outcome State Fault Refusal := .next (s.brownout r)
def execFullResetRelease (node smb : Nat) (bad : List Nat) (corr : Nat) (s : State) : Host.Outcome State Fault Refusal :=
  .next (s.fullRelease node smb bad corr)
def execPowerOn (node smb : Nat) (bad : List Nat) (corr : Nat) (seq : Option Nat) (testEn : Bool) (s : State) :
    Host.Outcome State Fault Refusal :=
  .next (s.powerOn node smb bad corr seq testEn)
def execBlockReady (block : Nat) (s : State) : Host.Outcome State Fault Refusal := .next (s.blockReady block)
def execWedgeReport (t : Nat) (s : State) : Host.Outcome State Fault Refusal := .next (s.wedgeSeen t)

end Sys2Proof.Machine
end

