-- ==== Sys2Proof/Machine/Prog.lean ====
section
/-!
DEFINITION. The program store and its loads (R281 to R284).
-/
namespace Sys2Proof.Machine

/-- The program store's state in the dispatcher, changed. -/
def State.setDsp (s : State) (f : DspState → DspState) : State := { s with dsp := f s.dsp }

/-- A load is held: a barge whose range overlaps its target is in service, saved or given by TAKE (R284). -/
def State.loadHeld (s : State) : Bool := s.inService.any s.loadBlocks

/-- A load that fails a check writes nothing (R283). -/
def State.badLoad (s : State) (result : Nat) : State := (s.wrf A.bpgLoadStat 2 2 result).pageErr 0x200000 0x0104 result

/-- The write of BPG_LOAD_CMD.GO: the checks, the read of the image and its CRC; none while a load runs (R283). -/
def State.progGo (s : State) : State :=
  if s.dsp.load.isSome then s
  else
    let src := s.rd64 A.bpgLoadSrc % 2 ^ 48
    let dst := s.rdf A.bpgLoadDst 0 20
    let len := s.rdf A.bpgLoadLen 0 17
    if !inLocal src len || len < 8 || 65536 < len || len % 8 ≠ 0 || dst % 8 ≠ 0 || 0xC0000 < dst + len then s.badLoad 1
    else match s.fetch 5 0x0B src len with
      | (none, s1) => s1.badLoad 3
      | (some bs, s1) =>
        if crc32 bs ≠ s1.rd A.bpgLoadCrc then s1.badLoad 2
        else ((s1.setDsp (fun d => { d with load := some { dst := dst, image := bs } })).wrf A.bpgLoadStat 2 2 0).wrb A.bpgLoadStat 0 true

/-- Step 3 of a load that nothing holds: the image is written, and barges that it kept waiting may start (R283, R284). -/
def State.progDone (s : State) : State :=
  match s.dsp.load with
  | none => s
  | some l =>
    if s.loadHeld then s
    else
      let s1 := s.setDsp (fun d => { d with load := none, store := Memory.write d.store l.dst l.image })
      ((((s1.wrb A.bpgLoadStat 0 false).bump A.bpgLoads).raise 0x200000 14).settle).quietEdge 0x200000 (s.busy 0x200000)

/-- BPG_LOAD_STAT with HELD as it stands. -/
def State.loadStatLive (s : State) : Nat := putBit (s.rd A.bpgLoadStat) 1 s.loadHeld

def execProgramLoadDone (s : State) : Host.Outcome State Fault Refusal := .next s.progDone

end Sys2Proof.Machine
end

