-- ==== Sys2Proof/Machine/RegBus.lean ====
section
/-!
DEFINITION. What each register of each page shows, who may write it, which of its bits an enable guards, and what its write sets
going (chapter 2 and the register sections of the chapters).
-/
namespace Sys2Proof.Machine

/-! ## What registers show -/

/-- The low or high word of a 64-bit value by the offset within its register. -/
def half (v o : Nat) : Nat := if o % 8 = 0 then v % 2 ^ 32 else v / 2 ^ 32 % 2 ^ 32

/-- The registers of a charge array page that follow its wear (Table CHG-8). -/
def State.chgALive (s : State) (n o a : Nat) : Nat :=
  let x := s.arr n
  match o with
  | 0x040 => s.chgAStatNow n
  | 0x044 => x.top.1 % 2 ^ 17
  | 0x048 => x.top.2 % 2 ^ 9
  | 0x04C => x.total % 2 ^ 32
  | 0x054 => Sparse.get (fun _ => 0) x.wear (s.rdf (A.chgARowSel n) 0 9) % 2 ^ 17
  | 0x0AC => min 0xFFFFFF ((s.now - x.scanned) / 1000000000)
  | _ => s.rd a

/-- The registers of the dispatcher's global page that follow its state (Tables DSP-6 to DSP-8). -/
def State.dspLive (s : State) (o a : Nat) : Nat :=
  if o = 0x044 then s.dspStatLive
  else if o = 0x064 then s.lockStatLive
  else if o = 0x070 then s.idleMaskLive % 2 ^ 32
  else if o = 0x074 then s.idleMaskLive / 2 ^ 32
  else if o = 0xC18 then s.loadStatLive
  else if 0x100 ≤ o && o < 0x500 then
    let b := (o - 0x100) / 0x20
    if o % 0x20 = 0x08 then s.held b + s.hostHeld b * 2 ^ 16
    else if o % 0x20 = 0x0C then s.credit b
    else s.rd a
  else if 0x500 ≤ o && o < 0x540 && o % 0x10 = 0x0C then s.engSvc ((o - 0x500) / 0x10 * 16)
  else s.rd a

/-- The registers of an engine page that follow its running barge (Table DSP-9). -/
def State.engLive (s : State) (e o a : Nat) : Nat :=
  match o with
  | 0x044 => s.engStatLive e
  | 0x048 => s.engShow e (fun c => c.barge.lock)
  | 0x04C => s.engShow e (fun c => c.barge.tag)
  | 0x050 => s.engShow e (fun c => (c.spent + (s.now - c.since)) / 1000 % 2 ^ 24)
  | _ => s.rd a

/-- The value a register word shows to a source: the stored one, or what the state behind it makes it. -/
def State.live (s : State) (src : Source) (a : Nat) : Nat :=
  match pageRow a with
  | none => 0
  | some r =>
    let n := (a - r.base) / 0x1000
    let o := a % 0x1000
    match r.kind with
    | .sys =>
      (match o with
       | 0x040 => putBit (s.rd a) 8 s.sec.optF
       | 0x048 => s.sysReadyLive
       | 0x050 => s.sysWedgeLive
       | _ => s.rd a)
    | .clk =>
      (match o with
       | 0x048 => s.pllLockLive
       | 0x050 => half s.domRunLive o
       | 0x054 => half s.domRunLive o
       | 0x05C => s.clkMeasLive
       | _ => s.rd a)
    | .towTrg => if o = 0x100 then s.trgStatNow else s.rd a
    | .towTp => if o = 0x058 then s.tpVel n else if o = 0x05C then s.tpStat n else s.rd a
    | .solG =>
      (match o with
       | 0x044 => s.solStatNow
       | 0x06C => s.solQueryNow
       | 0x070 => s.solQueuedNow
       | _ => s.rd a)
    | .solLg => if o = 0x040 then s.solGNow n false else if o = 0x044 then s.solGNow n true else s.rd a
    | .chgG =>
      (match o with
       | 0x044 => s.chgStatNow
       | 0x06C => s.chgMtNow
       | 0x094 => s.chgWearSum
       | _ => s.rd a)
    | .chgA => s.chgALive n o a
    | .dspG => s.dspLive o a
    | .dspE => s.engLive n o a
    | .hstG => if o = 0x058 || o = 0x05C then half s.now o else s.rd a
    | .hstIn => if (o - 0x40) % 0x20 = 0x10 then s.inletStat ((o - 0x40) / 0x20) else s.rd a
    | .saf =>
      (match o with
       | 0x044 => putBit (s.rd a) 8 s.sec.optF
       | 0x060 => s.safLead
       | 0x064 => s.safParamCrc
       | 0x070 => half (s.itime / 1000) o
       | 0x074 => half (s.itime / 1000) o
       | _ =>
         let r := (o - 0x118) / 0x40
         if 0x118 ≤ o && r < 4 && o = 0x118 + r * 0x40 then putBit (s.rd a) 1 (s.safRobot r).path.isSome else s.rd a)
    | .sec => if o = 0x040 then s.sec.lc else if o = 0x044 then s.secBootLive else if o = 0x048 then s.otpStat else s.rd a
    | .aqdN => if o = 0x408 then putBit (s.rd a) 4 (s.isCoord && s.rdb A.aqdNode 8) else s.rd a
    | .thm => if o = 0x044 then putBit (s.rd a) 8 (!s.cal.inUse.contains 4) else s.rd a
    | .cal => if o = 0x048 || o = 0x04C then half (s.calXfer src) o else if o = 0x078 then s.calQueryStat else s.rd a
    | _ => s.rd a

/-! ## Who may write (R48) -/

/-- The source is a barge engine whose running barge is in SECURE context. -/
def State.secureSource (s : State) : Source → Bool
  | .engine e => (match (s.eng e).run with | some c => c.barge.secure | none => false)
  | _ => false

/-- A register of lock group 0. -/
def inGroup0 (k : PageKind) (o : Nat) : Bool :=
  match findRow (rowsOf k) o with
  | some (row, _) => row.masks.any (fun x => x.1 = .rwl 0)
  | none => false

/-- Source is the host or a barge engine. -/
def hostOrEngine : Source → Bool
  | .host => true
  | .engine _ => true
  | _ => false

/-- Whether a source may write a register, given at its first word. -/
def State.allowed (s : State) (src : Source) (a : Nat) : Bool :=
  match pageRow a with
  | none => true
  | some r =>
    let n := (a - r.base) / 0x1000
    let o := a % 0x1000
    match r.kind with
    | .sys => o ≠ 0x060 || src = .host || src = .smbus || src = .jtag
    | .wldG => !(0x0A0 ≤ o && o < 0x0B0) || hostOrEngine src
    | .dspG => if o = 0x4E0 then src = .island else o ≠ 0xC14 || hostOrEngine src
    | .dspE => n ≠ 63 || o ≠ 0x040 || src = .island
    | .seal => src = .island || s.secureSource src
    | .saf =>
      if o = 0x0C0 then src = .engine 63
      else if o = 0x040 || o = 0x068 || (0x400 ≤ o && o < 0x600) || inGroup0 .saf o then src = .host
      else true
    | .sec => o ≠ 0x04C || src = .host || src = .island || src = .jtag
    | .cal => o ≠ 0x050 || hostOrEngine src
    | .calJob => !(o < 0x200 && (o - 0x40) % 0x20 = 0x08) || hostOrEngine src
    | .aqdN => !(0x800 ≤ o && o < 0x840)
    | _ => true

/-! ## Fields an enable guards (R332, R349, R351, R133, R355, R527) -/

/-- The bits of a word that refuse a write because of an enable as it stands. -/
def State.gateBits (s : State) (a : Nat) : Nat :=
  match pageRow a with
  | none => 0
  | some r =>
    let o := a % 0x1000
    match r.kind with
    | .hstIn =>
      let k := (o - 0x40) / 0x20
      let f := (o - 0x40) % 0x20
      if !s.rdb (A.hstInCfg k) 0 then 0 else if f < 8 then 0xFFFFFFFF else if f = 8 then 0x1FF0 else 0
    | .hstCq =>
      let k := (o - 0x40) / 0x30
      let f := (o - 0x40) % 0x30
      if !s.rdb (A.hstCqCfg k) 0 then 0 else if f < 8 then 0xFFFFFFFF else if f = 0x10 then 0x7C else 0
    | .hstG =>
      if 0x80 ≤ o && o < 0x100 then
        let f := o % 0x20
        if !s.rdb (A.hstPrCfg ((o - 0x80) / 0x20)) 0 then 0 else if f < 8 then 0xFFFFFFFF else if f = 0x10 then 0x7FF3C else 0
      else if 0x100 ≤ o && o < 0x200 then
        let f := o % 0x20
        if !s.rdb (A.hstDmaCfg ((o - 0x100) / 0x20)) 0 then 0 else if f < 8 then 0xFFFFFFFF else if f = 8 then 0x7FFF0 else 0
      else 0
    | .wldAtt => if (o - 0x40) % 0x20 < 0x0C && s.rdb (A.wldAttStat ((o - 0x40) / 0x20)) 16 then 0xFFFFFFFF else 0
    | .aqdN => if o = 0x400 && s.rdb A.aqdNode 8 then 0x7F else 0
    | _ => 0

/-! ## What a write sets going -/

/-- WLD_CTRL: FUSE_EN, CUT, LOAD_GO and POOL_INIT, in the order of their bits. -/
def State.wldCtrlWrite (s : State) (old v : Nat) : State :=
  let s1 := if tbit v 0 && !tbit old 0 then s.fusionEnabled s.ing.handover else s
  let s2 := if tbit old 0 && !tbit v 0 then s1.calApplyAll (calRegions.filter (fun r => calType r = some 6)) else s1
  let s3 := if tbit v 8 then s2.offerWork 0x30000 .cut State.cutRequest else s2
  let s4 := if tbit v 9 then s3.offerWork 0x30000 .loadGo State.loadGo else s3
  if tbit v 10 then s4.offerWork 0x30000 .poolInit State.poolInit else s4

/-- The write of MGT_MDIO: a GO starts a clause 22 access. -/
def State.mdioWrite (s : State) (v : Nat) : State :=
  if tbit v 31 then s.emit (.mdio (fld v 21 5) (fld v 16 5) (if tbit v 26 then some (v % 2 ^ 16) else none)) else s

/-- The access on MDIO is over: a read leaves its answer in DATA, and GO reads 0. -/
def State.mdioOver (s : State) (answer : Nat) : State :=
  let v := s.rd A.mgtMdio
  (s.wr A.mgtMdio (putBit (if tbit v 26 then v else putFld v 0 16 answer) 31 false)).quietEdge 0x358000 (s.busy 0x358000)

/-- An access on MDIO that still runs is over; what the PHY answers is open. -/
def State.mdioFree (s : State) : State :=
  if s.rdb A.mgtMdio 31 then (let (x, s1) := s.draw 16; s1.mdioOver x.toNat) else s

/-- The writes of the host interface's global page. -/
def State.hstHook (s : State) (o old v : Nat) : State :=
  if o = 0x050 then (if tbit v 0 then s.passAbort else s)
  else if 0x80 ≤ o && o < 0x100 then (if o % 0x20 = 0x10 then s.prCfg ((o - 0x80) / 0x20) old v else s)
  else if 0x100 ≤ o && o < 0x200 then
    let c := (o - 0x100) / 0x20
    if o % 0x20 = 0x08 then s.dmaCfg c old v else if o % 0x20 = 0x0C then s.offerWork hstPage (.dma c v) (fun t => t.dmaDoorbell c v) else s
  else s

/-- The writes of the dispatcher's global page. -/
def State.dspHook (s : State) (o old v : Nat) : State :=
  if o = 0xC14 then (let s1 := s.wr A.bpgLoadCmd 0; if tbit v 0 then s1.progGo else s1)
  else if 0x100 ≤ o && o < 0x500 then
    let b := (o - 0x100) / 0x20
    if o % 0x20 = 0 then ((if b = 31 then s.wrb (A.dspBCfg 31) 1 false else s).basinEdge b (s.creditUnder b (fld old 16 13))).settle
    else if o % 0x20 = 4 && tbit v 0 then (s.flushWhere (fun x => x.basin = b)).settle
    else s
  else if 0x500 ≤ o && o < 0x540 && o % 0x10 = 0 then
    match (o - 0x500) / 0x10 with
    | 0 => s.svcRequest (.cluster 0) v
    | 1 => s.svcRequest (.cluster 1) v
    | 2 => s.svcRequest (.cluster 2) v
    | _ => s.svcRequest (.cluster 3) v
  else s

/-- The writes of the safety page. -/
def State.safHook (s : State) (o v : Nat) : State :=
  if o = 0x040 then (if tbit v 0 then s.safArm else s)
  else if o = 0x068 then s.ackSaf v
  else if o = 0x0C0 then (if tbit v 0 then s.laneGo else s)
  else if 0x400 ≤ o && o < 0x600 && o % 0x80 = 0x5C then s.tgSubmit ((o - 0x400) / 0x80)
  else s

/-- The writes of the field I/O page (R422, R425, R428). -/
def State.fioHook (s : State) (o v : Nat) : State :=
  if o = 0x040 || o = 0x044 then s.driveGpio
  else if o = 0x048 then (s.wr A.fioGpioOut (s.rd A.fioGpioOut ||| v % 2 ^ 16)).driveGpio
  else if o = 0x04C then (s.wr A.fioGpioOut (maskOut (s.rd A.fioGpioOut) v)).driveGpio
  else if 0x100 ≤ o && o < 0x140 then
    let l := (o - 0x100) / 0x20
    match o % 0x20 with
    | 0x04 => s.wr (A.fioLCmd l) (limit 3000 23000 (s.rd (A.fioLCmd l)))
    | 0x08 => s.wr (A.fioLFail l) (limit 3000 3600 (s.failLo l) + limit 21000 23000 (s.failHi l) * 2 ^ 16)
    | 0x0C => if tbit v 0 then s.loopClear l else s
    | _ => s
  else s

/-- The writes of the management page (R434, R435, R439). -/
def State.mgtHook (s : State) (o old v : Nat) : State :=
  if o = 0x040 then (if tbit v 0 then s.keyReload else s)
  else if 0x050 ≤ o && o < 0x060 then (if old = s.rd (0x358000 + o) then s else s.wrb A.mgtStat 4 false)
  else if o = 0x068 then s.ackEnWritten
  else if o = 0x090 then s.mdioWrite v
  else s

/-- What the write of a register, given at its first word, sets going.  The value written already stands. -/
def State.regHook (src : Source) (a old v : Nat) (s : State) : State :=
  match pageRow a with
  | none => s
  | some r =>
    let n := (a - r.base) / 0x1000
    let o := a % 0x1000
    match r.kind with
    | .sys => if o = 0x060 then s.sysReset src v else s
    | .towG =>
      (match o with
       | 0x040 => s.towCtrlWrite old v
       | 0x044 => s.wr a (limit 250 16000 (s.rd a))
       | 0x048 => s.wr a (limit 250 16000 (s.rd a))
       | _ => s)
    | .towTrg => if 0x040 ≤ o && o < 0x0C0 && o % 8 = 4 then s.trgDelay ((o - 0x40) / 8) else s
    | .towEvt =>
      if (o - 0x40) % 16 = 4 then
        let e := n * 128 + (o - 0x40) / 16
        (s.firesTo e).writeW1 e v
      else s
    | .towTp =>
      (match o with
       | 0x040 => s.tpCfg n old v
       | 0x044 => s.ssiCheck n
       | 0x050 => s.setPos n (v % 2 ^ 48)
       | _ => s)
    | .ing =>
      if o = 0x040 || o = 0x044 then s.rxWrite n a old
      else if o = 0x13C then s.slotCtrl (2 * n) old v
      else if o = 0x23C then s.slotCtrl (2 * n + 1) old v
      else s
    | .wldG =>
      if o = 0x040 then s.wldCtrlWrite old v
      else if o = 0x064 || o = 0x068 then (if s.rd a = 0x8000 then s.wr a 0x8001 else s)
      else if 0x0A0 ≤ o && o < 0x0B0 then s.pinWrite ((o - 0x0A0) / 4) v
      else s
    | .wldAtt =>
      if (o - 0x40) % 0x20 = 0x0C then
        let k := (o - 0x40) / 0x20
        s.offerWork 0x31000 (.att k v) (fun t => t.attCmd k v)
      else s
    | .cndG => if o = 0x040 then s.robotEn v else s
    | .cndR =>
      (match o with
       | 0x050 => s.cndCmd n v
       | 0x060 => s.rsPutWrite n
       | 0x070 => s.hbPub n (v % 2 ^ 18)
       | _ => s)
    | .swpG =>
      if o = 0x040 then s.swpCtrl old v
      else if 0x100 ≤ o && o < 0x200 && o % 0x40 = 0x38 then s.pathDrop ((o - 0x100) / 0x40) v
      else s
    | .swpLg => if o = 0x054 then s.svcRequest (.lane (Fin.ofNat 8 n)) v else s
    | .solG =>
      (match o with
       | 0x040 => if tbit v 0 then s.solInit else s
       | 0x054 => s.solCmd v
       | 0x064 => s.solLaunch v
       | _ => s)
    | .solLg => if o = 0x05C then s.svcRequest (.solver (Fin.ofNat 16 n)) v else s
    | .chgG => if o = 0x050 then s.chgCmd v else s
    | .chgA => if o = 0x0B8 then s.svcRequest (.array (Fin.ofNat 256 n)) v else s
    | .dspG => s.dspHook o old v
    | .dspE => if o = 0x040 then s.wr a (if n = 63 then 0x80000000 else s.rd a % 2 ^ 31) else s
    | .seal => if o = 0x044 then s.sealCtrl src (if src = .island && !s.mayOpen then putBit v 0 false else v) else s
    | .hstG => s.hstHook o old v
    | .hstIn =>
      let k := (o - 0x40) / 0x20
      let f := (o - 0x40) % 0x20
      if f = 0x08 then s.inletCfg k old v
      else if f = 0x0C then s.offerWork inletPage (.inlet k v) (fun t => t.inletDoorbell k v)
      else s
    | .hstCq =>
      let k := (o - 0x40) / 0x30
      let f := (o - 0x40) % 0x30
      if f = 0x10 then s.cqCfg k old v else if f = 0x18 then s.cqCi k else s
    | .aqdN =>
      (match o with
       | 0x040 => s.linkCfg 0 old v
       | 0x064 => s.svcRequest (.link 0) v
       | 0x400 => s.nodeWrite old v
       | 0x404 => s.topoWrite
       | 0x434 => s.svcRequest .node v
       | _ => s)
    | .aqd => if o = 0x040 then s.linkCfg (n + 1) old v else if o = 0x064 then s.svcRequest (.link (Fin.ofNat 8 (n + 1))) v else s
    | .saf => s.safHook o v
    | .thm => if o = 0x04C then s.wr a (limit 30 85 (s.rd a)) else s
    | .fio => s.fioHook o v
    | .mgt => s.mgtHook o old v
    | .sec => if o = 0x04C then s.offerWork secPage (.sec v) (fun t => t.secCmd v) else s
    | .cal => if o = 0x048 then s.setCalXfer src v else if o = 0x050 then s.offerWork 0x370000 (.cal src v) (fun t => t.calCmd src v) else s
    | .calJob =>
      if o < 0x200 then
        let j := (o - 0x40) / 0x20
        let f := (o - 0x40) % 0x20
        if f = 0x08 then (if tbit v 0 then s.jobTrigger j else s) else if f = 0x0C then s.jobDone j v else s
      else s
    | _ => s

/-! ## PAGE_CTRL (R51, R52) -/

/-- Do work that was held at the input of a block. -/
def State.runWork (s : State) : Work → State
  | .poolInit => s.poolInit
  | .loadGo => s.loadGo
  | .cut => s.cutRequest
  | .fus addr cnt acc h => s.fusLaunch addr cnt acc h
  | .att n v => s.attCmd n v
  | .pulse n w => s.trigger n w
  | .passOpen => s.askOpen
  | .frameStart k num corr at_ stamp => (s.frameDrop k 0x50).frameBegin k num corr at_ stamp
  | .frameLine k dt data crcOk corr => s.frameLine k dt data crcOk corr
  | .frameEnd k hdr at_ => (s.frameCorr k hdr).frameEnd k at_
  | .frameBad k => s.hdrDamage k
  | .sec v => s.secCmd v
  | .cal src v => s.calCmd src v
  | .inlet n v => s.inletDoorbell n v
  | .dma c v => s.dmaDoorbell c v
  | .verify => s.verifyStart
  | .remoteRead _ _ _ _ => s
  | .remoteWrite _ _ _ _ => s
  | .remoteOffer _ _ _ => s

/-- Work held at the input of a page is released in arrival order, once the page takes work; requests of other nodes are served after the
register write that releases them (`State.freeRemote`). -/
def State.releaseWork (s : State) (p : Nat) : State :=
  let mine (x : Nat × Work) : Bool := x.1 = p && !x.2.remote
  if s.pageOpen p then (s.waitIn.filter mine).foldl (fun t x => t.runWork x.2) { s with waitIn := s.waitIn.filter (fun x => !mine x) } else s

/-- The crossings seen on an event page that has been disabled are forgotten (R522). -/
def State.forgetCrossings (s : State) (page : Nat) : State :=
  (rangeFrom (128 * page) 128).foldl (fun t e => if (t.entry e).crossed.isSome then t.setEntry e { t.entry e with crossed := none } else t) s

/-- What a change of PAGE_CTRL of the page at `p` sets going. -/
def State.ctrlHook (p old : Nat) (s : State) : State :=
  let s1 := (s.stuckUpd p).releaseWork p
  match pageRow p with
  | none => s1
  | some r =>
    let n := (p - r.base) / 0x1000
    match r.kind with
    | .towTrg => if s1.enabled p then s1 else (rangeFrom 0 16).foldl (fun t k => t.trgDisabled k) s1
    | .towEvt => if s1.enabled p then s1 else s1.forgetCrossings n
    | .wldG => s1.startLoad
    | .chgA => s1.peersFollow
    | .cndR => (s1.loadStart n).cndBusy n
    | .swpG => s1.groupsFill
    | .swpLg => s1.groupsFill
    | .dspG => s1.settle
    | .dspE => s1.settle
    | .fio => s1.driveGpio
    | .mgt => s1.queueFreed
    | .aqdN => if old % 4 ≠ 1 then s1.linkSelf 0 else s1
    | .aqd => if old % 4 ≠ 1 then s1.linkSelf (n + 1) else s1
    | _ => s1

/-- DSP_B_HWM starts again at the entries that are held as it is read: the highest ALL since that read (Table DSP-7).  PWR_R_MIN starts
again at its reset value, above every voltage, so that it shows the lowest one measured since the read (Table PWR-9; log entry 241). -/
def State.hwmRead (a : Nat) (s : State) : State :=
  let o := a % 0x1000
  if pageBase a = 0x200000 && 0x100 ≤ o && o < 0x500 && o % 0x20 = 0x18 then s.wr a (s.held ((o - 0x100) / 0x20))
  else if pageBase a = 0x1000 && 0x100 ≤ o && o < 0x1D0 && o % 0x10 = 0x0C then s.wr a 0xFFFF
  else s

/-- The register bus of the device. -/
def bus : Bus := {
  live := State.live
  gate := State.gateBits
  allowed := State.allowed
  hook := State.regHook
  ctrl := State.ctrlHook
  after := State.hwmRead }

/-! ## Accesses -/

/-- The life-cycle state gives JTAG boundary scan only (R447). -/
def State.jtagShut (s : State) : Bool := s.sec.lc ≠ 0 && s.sec.lc ≠ 3

/-- A write that no register of the device takes from its source: JTAG in a boundary-scan state, SMBus with WR_EN 0. -/
def State.sourceShut (s : State) : Source → Bool
  | .jtag => s.jtagShut
  | .smbus => !s.rdb A.mgtSmbCfg 0
  | _ => false

/-- An offset of a page at which a register stands. -/
def registerAt (r : PageRow) (o : Nat) : Bool := if o < 0x40 then o < 0x34 else (findRow (rowsOf r.kind) o).isSome

/-- A 32-bit write by a source.  The spec does not order R48 and R50 for a write that its source may not make to a page that is not
READY: where no register of the device takes the source's write at all (SMBus with WR_EN 0, JTAG shut by the life cycle, a remote write
that Machine/Remote.lean refuses) it is a rejection, and for every other restricted source it is NOT_READY (log entry 206). -/
def State.writeAt (s : State) (src : Source) (a be v : Nat) : State :=
  match pageRow a with
  | none => s.unmapped src a
  | some r =>
    if s.sourceShut src then (if registerAt r (a % 0x1000) then s.refuseWrite src r a else s) else (bus.write src a be v s).mdioFree

end Sys2Proof.Machine
end

