-- ==== Sys2Proof/Machine/Remote.lean ====
section
/-!
DEFINITION. What another node of the fabric does on this one: remote reads, writes and offers (R361, R364, Table AQD-4).
-/
namespace Sys2Proof.Machine

/-! ## Answers (Tables AQD-3 and AQD-5) -/

/-- An answer leaves for the requesting node; answers that carry DENIED are counted. -/
def State.answer (s : State) (node kind tag status : Nat) (data : List Byte) : State :=
  let s1 := if status = 2 then s.bump A.aqdRemoteDenied else s
  (s1.packet { dst := node, kind := kind, len := data.length / 8, tag := tag, status := status } (data.map (fun b => b.toNat))).2

/-- A remote access touches the sealed pound. -/
def touchesPound (a n : Nat) : Bool := regionOf a = .pound || regionOf (a + n - 1) = .pound

/-- A remote access lies in the register space. -/
def inRegisters (a n : Nat) : Bool := a + n ≤ 0x04000000

/-- The offer window (R364). -/
def inOfferWindow (a : Nat) : Bool := 0x320800 ≤ a && a < 0x320840

/-! ## Reads -/

/-- The little-endian bytes of `n` register words read by a node. -/
def State.remoteWords (s : State) (src : Source) (a : Nat) : Nat → List Byte × State
  | 0 => ([], s)
  | n + 1 =>
    let (v, s1) := if inOfferWindow a then (0, s) else bus.read src a s
    let (l, s2) := s1.remoteWords src (a + 4) n
    (leBytes 4 v ++ l, s2)

/-- A remote read of `n` bytes: status of Table AQD-5, data and state. -/
def State.remoteRead (s : State) (node a n : Nat) : Nat × List Byte × State :=
  if inHbm a n || inSpd a n then
    match s.fetch 2 node a n with
    | (some bs, s1) => (0, bs, s1)
    | (none, s1) => (3, [], s1)
  else if touchesPound a n then (2, [], s.sealDenied 2)
  else if inRegisters a n then
    let (l, s1) := s.remoteWords (.remote node) (a / 4 * 4) (n / 4)
    (0, l, s1)
  else (1, [], s)

/-! ## Writes -/

/-- Registers that no remote node ever writes: those of the SAF, SEC and CAL pages, and PAGE_LOCK of any page. -/
def remoteNever (r : PageRow) (a : Nat) : Bool := r.typ = 0x0F || r.typ = 0x13 || r.typ = 0x14 || a % 0x1000 = 0x010

/-- A register write is rejected in this state: PAGE_REJECT_CNT, cleared for the question, counts it. -/
def State.wouldReject (s : State) (src : Source) (a v : Nat) : Bool :=
  ((s.wr (pageBase a + 0x014) 0).writeAt src a 15 (v % 2 ^ 32)).rd (pageBase a + 0x014) ≠ 0

/-- One register word written by a node, and whether the write was rejected. -/
def State.remoteWord (s : State) (node a v : Nat) : Bool × State :=
  let src : Source := .remote node
  match pageRow a with
  | none => (false, s.unmapped src a)
  | some r =>
    if !registerAt r (a % 0x1000) then (false, s)
    else if inOfferWindow a || !s.rdb A.aqdRacl 1 || remoteNever r a then (true, s.refuseWrite src r a)
    else (s.wouldReject src a v, s.writeAt src a 15 (v % 2 ^ 32))

/-- Register words written one after another; whether any was rejected. -/
def State.remotePuts (s : State) (node a : Nat) : List Byte → Nat → Bool × State
  | _, 0 => (false, s)
  | bs, n + 1 =>
    let (x, s1) := s.remoteWord node a (leNat (bs.take 4))
    let (y, s2) := s1.remotePuts node (a + 4) (bs.drop 4) n
    (x || y, s2)

/-- A remote write to memory. -/
def State.remoteStore (s : State) (node a : Nat) (bs : List Byte) : Nat × State :=
  if !s.rdb A.aqdRacl 0 then (2, s)
  else
    let (ue, t) := s.storeTold 2 node a bs
    (if ue then 3 else 0, t)

/-- An offer by a node (R364): STATUS of the response, DENIED or the result code of Table DSP-4. -/
def State.remoteOffer (s : State) (node : Nat) (words : List Nat) : Bool × Nat × State :=
  if !s.rdb A.aqdRacl 2 then (true, 2, s)
  else if s.nodeSvc = 1 then (false, 2, s)
  else
    let (c, s1) := s.offer 6 node words false false
    (false, c, s1)

/-- The 16 words of 64 bytes. -/
def offerWords (bs : List Byte) : List Nat := (rangeFrom 0 16).map (fun i => leNat ((bs.drop (4 * i)).take 4))

/-- A remote write: status of Table AQD-5 and state. -/
def State.remoteWrite (s : State) (node a : Nat) (bs : List Byte) : Nat × State :=
  let n := bs.length
  if inHbm a n || inSpd a n then s.remoteStore node a bs
  else if touchesPound a n then (2, s.sealDenied 2)
  else if inRegisters a n then
    let (no, s1) := s.remotePuts node (a / 4 * 4) bs (n / 4)
    (if no then 2 else 0, s1)
  else (1, s)

/-- The answer to an offer: only a refusal by AQD_RACL is one that AQD_REMOTE_DENIED counts. -/
def offerAnswer (node tag : Nat) (r : Bool × Nat × State) : State :=
  let t := if r.1 then r.2.2.bump A.aqdRemoteDenied else r.2.2
  (t.packet { dst := node, kind := 4, len := 0, tag := tag, status := r.2.1 } []).2

/-! ## Requests served, and those held while a link's page is quiesced (R52, R361, R364) -/

/-- A read of `len` 8-byte words is served. -/
def State.serveRead (s : State) (node tag addr len : Nat) : State :=
  let (st, bs, s1) := s.remoteRead node (addr % 2 ^ 40) (8 * min len 32)
  s1.answer node 3 (tag % 2 ^ 16) st bs

/-- An offer is served. -/
def State.serveOffer (s : State) (node tag : Nat) (words : List Nat) : State := offerAnswer node (tag % 2 ^ 16) (s.remoteOffer node words)

/-- A write is served; 64 bytes to the whole offer window are an offer. -/
def State.serveWrite (s : State) (node tag addr : Nat) (data : List Byte) : State :=
  let a := addr % 2 ^ 40
  let bs := data.take (min 256 (data.length / 8 * 8))
  if a = 0x320800 && bs.length = 64 then s.serveOffer node tag (offerWords bs)
  else
    let (st, s1) := s.remoteWrite node a bs
    s1.answer node 4 (tag % 2 ^ 16) st []

/-- A request of another node is served. -/
def State.serve (s : State) (w : Work) : State :=
  match w with
  | .remoteRead node tag addr len => s.serveRead node tag addr len
  | .remoteWrite node tag addr data => s.serveWrite node tag addr data
  | .remoteOffer node tag words => s.serveOffer node tag words
  | _ => s

/-- The requests held whose link's page takes work again are served in arrival order, `n` of them at most. -/
def State.freeRemote (s : State) : Nat → State
  | 0 => s
  | n + 1 =>
    match s.waitIn.find? (fun x => x.2.remote && s.pageOpen x.1) with
    | none => s
    | some x => ({ s with waitIn := s.waitIn.erase x }.serve x.2).freeRemote n

/-- Every request held whose link's page takes work again is served. -/
def State.remoteFreed (s : State) : State := s.freeRemote s.waitIn.length

/-- The memory that a request names is clocked (R470). -/
def State.served (s : State) (w : Work) : Bool :=
  match w with
  | .remoteRead _ _ a len => s.memRuns (a % 2 ^ 40) (8 * min len 32)
  | .remoteWrite _ _ a data => s.memRuns (a % 2 ^ 40) (min 256 (data.length / 8 * 8))
  | _ => true

/-- A request comes over a link: it is served, or held while the link's page takes no work. -/
def State.remoteTake (s : State) (l node : Nat) (w : Work) : State :=
  s.hears l node (fun t => (t.offerWork (linkPage l) w (fun u => if u.served w then u.serve w else u)).remoteFreed)

/-! ## Meanings -/

/-- A read of `len` 8-byte words arrives. -/
def execRemoteRead (l : Fin 8) (node : Fin 128) (tag addr len : Nat) (s : State) : Host.Outcome State Fault Refusal :=
  .next (s.remoteTake l node (.remoteRead node tag addr len))

/-- A write arrives. -/
def execRemoteWrite (l : Fin 8) (node : Fin 128) (tag addr : Nat) (data : List Byte) (s : State) : Host.Outcome State Fault Refusal :=
  .next (s.remoteTake l node (.remoteWrite node tag addr data))

/-- An offer arrives. -/
def execRemoteOffer (l : Fin 8) (node : Fin 128) (tag : Nat) (words : List Nat) (s : State) : Host.Outcome State Fault Refusal :=
  .next (s.remoteTake l node (.remoteOffer node tag ((rangeFrom 0 16).map (fun i => nth 0 words i % 2 ^ 32))))

end Sys2Proof.Machine
end

