-- ==== Sys2Proof/Machine/RegOps.lean ====
section
/-!
DEFINITION. Every command that is a register access (chapter 2 and the register sections of the chapters).
-/
namespace Sys2Proof.Machine

/-! ## Accesses -/

/-- A 32-bit write by a source, and the requests of other nodes that it releases (R52). -/
def State.writeWord (s : State) (src : Source) (a be v : Nat) : State := (s.writeAt src a be v).remoteFreed

/-- An aligned write of 8 bytes: the low word and at once the high word (R37). -/
def State.writeDWord (s : State) (src : Source) (a be v : Nat) : State :=
  (s.writeWord src a (be % 16) (v % 2 ^ 32)).writeWord src (a + 4) (be / 16 % 16) (v / 2 ^ 32 % 2 ^ 32)

/-- A register written whole by a source. -/
def State.put (s : State) (src : Source) (a v : Nat) : State := s.writeWord src a 15 (v % 2 ^ 32)

/-- A read of one word by a source, whose data goes back to it. -/
def State.readWord (s : State) (src : Source) (a : Nat) : State :=
  let (v, s1) := bus.read src a s
  s1.emit (.readData src a (BitVec.ofNat 32 v))

/-- A read of fewer than 4 bytes of a register: the register is read, and the addressed bytes go back (R37). -/
def State.readBytes (s : State) (src : Source) (a n : Nat) : State :=
  let (v, s1) := bus.read src (a / 4 * 4) s
  s1.emit (.readData src a (BitVec.ofNat 32 (v / 256 ^ (a % 4) % 256 ^ n)))

/-- An address rounded down to a register word. -/
def regAddr (a : Nat) : Nat := a % 2 ^ 26 / 4 * 4

/-- A parity error is found in the configuration storage of the register read (Table PAG-6); nothing outside every page. -/
def State.parityFound (s : State) (src : Source) (a : Nat) : State :=
  if (pageRow a).isSome then s.pageErr (pageBase a) 0x0005 (errInfo src a) else s

/-- A configuration request, which ends with retry status until the HST page reports READY (R478). -/
def State.cfgAsked (s : State) (addr : Nat) (f : State → Nat → State) : State :=
  let o := (addr - 2 ^ 26) / 4 * 4
  if s.ready hstPage then f s o else s.emit (.cfgRetry o)

/-- A read of `n` bytes, 1, 2, 4 or 8 (R37): an aligned one of 8 bytes is the low word and at once the high word.  `parity` says that
it finds a parity error.  The host reaches configuration space from 2^26 on (log entry 205). -/
def State.readReg (s : State) (src : Source) (addr n : Nat) (parity : Bool) : State :=
  if src = .host && 2 ^ 26 ≤ addr then s.cfgAsked addr (fun t o => t.emit (.readData src addr (BitVec.ofNat 32 (t.cfgRead o))))
  else
    let s1 := if parity then s.parityFound src (regAddr addr) else s
    if n = 8 then (s1.readWord src (regAddr addr / 8 * 8)).readWord src (regAddr addr / 8 * 8 + 4)
    else if n = 1 || n = 2 then s1.readBytes src (addr % 2 ^ 26) n
    else s1.readWord src (regAddr addr)

/-! ## Meanings: chapter 2 -/

/-- REGISTER_WRITE (R37): `wide` is an aligned 8-byte write; `be` its byte enables.  The host reaches configuration space from 2^26
on (log entry 205). -/
def execRegisterWrite (src : Source) (addr be data : Nat) (wide : Bool) (s : State) : Host.Outcome State Fault Refusal :=
  if src = .host && 2 ^ 26 ≤ addr then .next (s.cfgAsked addr (fun t o => if be % 16 = 15 then t.cfgWrite o (data % 2 ^ 32) else t))
  else if wide then .next (s.writeDWord src (regAddr addr / 8 * 8) be data) else .next (s.writeWord src (regAddr addr) (be % 16) (data % 2 ^ 32))

/-- LOW_WORD_READ (R39). -/
def execLowWordRead (src : Source) (addr n : Nat) (parity : Bool) (s : State) : Host.Outcome State Fault Refusal :=
  .next (s.readReg src addr n parity)

/-- RC_READ (R42, R43). -/
def execRcRead (src : Source) (addr n : Nat) (parity : Bool) (s : State) : Host.Outcome State Fault Refusal :=
  .next (s.readReg src addr n parity)

/-- PAGE_LOCK_WRITE (R45). -/
def execPageLockWrite (src : Source) (page v : Nat) (s : State) : Host.Outcome State Fault Refusal :=
  .next (s.put src (pageBase (regAddr page) + 0x010) v)

/-- PAGE_REJECT_CNT_WRITE (R46). -/
def execPageRejectCntWrite (src : Source) (page v : Nat) (s : State) : Host.Outcome State Fault Refusal :=
  .next (s.put src (pageBase (regAddr page) + 0x014) v)

/-- PAGE_ENABLE_WRITE (R51): PAGE_CTRL is written whole. -/
def execPageEnableWrite (src : Source) (page v : Nat) (s : State) : Host.Outcome State Fault Refusal :=
  .next (s.put src (pageBase (regAddr page) + 0x008) v)

/-- QUIESCE_REQ_WRITE (R52): PAGE_CTRL is written whole. -/
def execQuiesceReqWrite (src : Source) (page v : Nat) (s : State) : Host.Outcome State Fault Refusal :=
  .next (s.put src (pageBase (regAddr page) + 0x008) v)

/-- VECTOR_UNMASK (R57, R345). -/
def execVectorUnmask (vector : Fin 2048) (s : State) : Host.Outcome State Fault Refusal := .next (s.vectorUnmask vector.val)

/-! ## Meanings: towpath, ingress, world map -/

def execPassAbort (src : Source) (s : State) : Host.Outcome State Fault Refusal := .next (s.put src A.hstPassAbort 1)

def execSetPosWrite (src : Source) (tp : Fin 9) (v : Nat) (s : State) : Host.Outcome State Fault Refusal :=
  .next (s.writeDWord src (A.towTpSetPos tp) 0xFF v)

def execTpCfgWrite (src : Source) (tp : Fin 9) (v : Nat) (s : State) : Host.Outcome State Fault Refusal := .next (s.put src (A.towTpCfg tp) v)

/-- ENTRY_ARM (R69): W1 is written with ARM set. -/
def execEntryArm (src : Source) (e : Fin 512) (w1 : Nat) (s : State) : Host.Outcome State Fault Refusal :=
  .next (s.put src (entryWord e 1) (putBit w1 23 true))

/-- ENTRY_DISARM (R69): W1 is written with ARM clear. -/
def execEntryDisarm (src : Source) (e : Fin 512) (w1 : Nat) (s : State) : Host.Outcome State Fault Refusal :=
  .next (s.put src (entryWord e 1) (putBit w1 23 false))

def execTimerEnWrite (src : Source) (v : Nat) (s : State) : Host.Outcome State Fault Refusal := .next (s.put src A.towCtrl v)

def execSlotEnable (src : Source) (k : Fin 24) (s : State) : Host.Outcome State Fault Refusal := .next (s.put src (slotReg k 0x3C) 1)
def execSlotDisable (src : Source) (k : Fin 24) (s : State) : Host.Outcome State Fault Refusal := .next (s.put src (slotReg k 0x3C) 0)

/-- REL (R98): EN is written as it stands. -/
def execSlotRel (src : Source) (k : Fin 24) (s : State) : Host.Outcome State Fault Refusal :=
  .next (s.put src (slotReg k 0x3C) (s.rd (slotReg k 0x3C) % 2 + 2))

/-- A command bit of WLD_CTRL, FUSE_EN and FABRIC written as they stand. -/
def State.wldCommand (s : State) (src : Source) (bit : Nat) : State := s.put src A.wldCtrl (s.rd A.wldCtrl % 4 + 2 ^ bit)

def execLoadGo (src : Source) (s : State) : Host.Outcome State Fault Refusal := .next (s.wldCommand src 9)
def execCutRequest (src : Source) (s : State) : Host.Outcome State Fault Refusal := .next (s.wldCommand src 8)
def execPoolInit (src : Source) (s : State) : Host.Outcome State Fault Refusal := .next (s.wldCommand src 10)
def execPinWrite (src : Source) (n : Fin 4) (v : Nat) (s : State) : Host.Outcome State Fault Refusal := .next (s.put src (A.wldPin n) v)
def execAttCapture (src : Source) (n : Fin 16) (s : State) : Host.Outcome State Fault Refusal := .next (s.put src (A.wldAttCmd n) 1)
def execAttRelease (src : Source) (n : Fin 16) (s : State) : Host.Outcome State Fault Refusal := .next (s.put src (A.wldAttCmd n) 2)

/-! ## Meanings: robots, sweep, solver, charge arrays -/

def execLoadDesc (src : Source) (r : Fin 4) (s : State) : Host.Outcome State Fault Refusal := .next (s.put src (A.cndRCmd r) 1)
def execLoadTool (src : Source) (r : Fin 4) (slot : Fin 8) (s : State) : Host.Outcome State Fault Refusal :=
  .next (s.put src (A.cndRCmd r) (2 + slot.val * 2 ^ 8))
def execRsPutWrite (src : Source) (r : Fin 4) (v : Nat) (s : State) : Host.Outcome State Fault Refusal := .next (s.put src (A.cndRRsPut r) v)
def execRobotEnWrite (src : Source) (v : Nat) (s : State) : Host.Outcome State Fault Refusal := .next (s.put src A.cndCtrl v)
def execHbPub (src : Source) (r : Fin 4) (count : Nat) (s : State) : Host.Outcome State Fault Refusal := .next (s.put src (A.cndRHbPub r) count)
def execPathDrop (src : Source) (r : Fin 4) (s : State) : Host.Outcome State Fault Refusal := .next (s.put src (A.swpRPath r) (2 ^ 16))

def execSolInstall (src : Source) (p : Fin 8192) (s : State) : Host.Outcome State Fault Refusal := .next (s.put src A.solCmd (p.val + 1 * 2 ^ 16))
def execSolUninstall (src : Source) (p : Fin 8192) (s : State) : Host.Outcome State Fault Refusal := .next (s.put src A.solCmd (p.val + 2 * 2 ^ 16))
def execSolAbort (src : Source) (p : Fin 8192) (s : State) : Host.Outcome State Fault Refusal := .next (s.put src A.solCmd (p.val + 3 * 2 ^ 16))
def execUpdGo (src : Source) (s : State) : Host.Outcome State Fault Refusal := .next (s.put src A.solCmd (4 * 2 ^ 16))
def execSolLaunch (src : Source) (p : Fin 8192) (bg : Bool) (s : State) : Host.Outcome State Fault Refusal :=
  .next (s.put src A.solLaunch (p.val + (if bg then 2 ^ 16 else 0)))
def execSolInit (src : Source) (s : State) : Host.Outcome State Fault Refusal := .next (s.put src A.solCtrl 1)

def execChgRegister (src : Source) (m : Fin 1024) (s : State) : Host.Outcome State Fault Refusal := .next (s.put src A.chgCmd (m.val + 1 * 2 ^ 16))
def execChgRetire (src : Source) (m : Fin 1024) (s : State) : Host.Outcome State Fault Refusal := .next (s.put src A.chgCmd (m.val + 2 * 2 ^ 16))
def execChgScan (src : Source) (a : Fin 256) (s : State) : Host.Outcome State Fault Refusal :=
  .next (s.put src A.chgCmd (3 * 2 ^ 16 + a.val * 2 ^ 24))
def execRefNow (src : Source) (a : Fin 256) (s : State) : Host.Outcome State Fault Refusal :=
  .next (s.put src A.chgCmd (5 * 2 ^ 16 + a.val * 2 ^ 24))

/-! ## Meanings: calibration store, dispatcher, sealed pound, program store -/

def execCalWrite (src : Source) (s : State) : Host.Outcome State Fault Refusal := .next (s.put src A.calCmd 1)
def execCalExport (src : Source) (s : State) : Host.Outcome State Fault Refusal := .next (s.put src A.calCmd 2)
def execCalRestore (src : Source) (s : State) : Host.Outcome State Fault Refusal := .next (s.put src A.calCmd 3)
def execCalJobTrig (src : Source) (j : Fin 8) (s : State) : Host.Outcome State Fault Refusal := .next (s.put src (A.calJobTrig j) 1)
def execCalJobDone (src : Source) (j : Fin 8) (v : Nat) (s : State) : Host.Outcome State Fault Refusal := .next (s.put src (A.calJobDone j) v)

def execBasinFlush (src : Source) (b : Fin 32) (s : State) : Host.Outcome State Fault Refusal := .next (s.put src (A.dspBCtrl b) 1)
def execProgramLoad (src : Source) (s : State) : Host.Outcome State Fault Refusal := .next (s.put src A.bpgLoadCmd 1)

/-- SEAL_OPEN (R318): the safety island writes OPEN only under the conditions of R455. -/
def execSealOpen (src : Source) (s : State) : Host.Outcome State Fault Refusal :=
  if src = .island && !s.mayOpen then .next s else .next (s.put src A.spdSealCtrl 1)
def execSealWipe (src : Source) (s : State) : Host.Outcome State Fault Refusal := .next (s.put src A.spdSealCtrl 2)
def execSealLock (src : Source) (s : State) : Host.Outcome State Fault Refusal := .next (s.put src A.spdSealCtrl 4)
def execSealUnlock (src : Source) (s : State) : Host.Outcome State Fault Refusal := .next (s.put src A.spdSealCtrl 8)

/-! ## Meanings: host interface, fabric -/

def execInletDoorbell (src : Source) (n : Fin 64) (v : Nat) (s : State) : Host.Outcome State Fault Refusal := .next (s.put src (A.hstInDb n) v)
def execInletEnWrite (src : Source) (n : Fin 64) (v : Nat) (s : State) : Host.Outcome State Fault Refusal := .next (s.put src (A.hstInCfg n) v)
def execCqCiWrite (src : Source) (n : Fin 64) (v : Nat) (s : State) : Host.Outcome State Fault Refusal := .next (s.put src (A.hstCqCi n) v)
def execDmaDoorbell (src : Source) (c : Fin 8) (v : Nat) (s : State) : Host.Outcome State Fault Refusal := .next (s.put src (A.hstDmaDb c) v)
def execLinkEnable (src : Source) (n : Fin 8) (v : Nat) (s : State) : Host.Outcome State Fault Refusal := .next (s.put src (A.aqdLCfg n) v)
def execSvcRequest (src : Source) (u : SvcUnit) (v : Nat) (s : State) : Host.Outcome State Fault Refusal := .next (s.put src (unitReq u) v)

/-! ## Meanings: safety, field I/O, management -/

def execSafArm (src : Source) (s : State) : Host.Outcome State Fault Refusal := .next (s.put src A.safCtrl 1)
def execTelegramSubmit (src : Source) (r : Fin 4) (v : Nat) (s : State) : Host.Outcome State Fault Refusal :=
  .next (s.put src (A.safInbox (32 * r.val + 23)) v)
def execMooringLaneGo (src : Source) (s : State) : Host.Outcome State Fault Refusal := .next (s.put src A.safMlCmd 1)
def execSafAck (src : Source) (v : Nat) (s : State) : Host.Outcome State Fault Refusal := .next (s.put src A.safAck v)

def execClrFault (src : Source) (l : Fin 2) (s : State) : Host.Outcome State Fault Refusal := .next (s.put src (A.fioLCtrl l) 1)
def execGpioSet (src : Source) (v : Nat) (s : State) : Host.Outcome State Fault Refusal := .next (s.put src A.fioGpioSet v)
def execGpioClr (src : Source) (v : Nat) (s : State) : Host.Outcome State Fault Refusal := .next (s.put src A.fioGpioClr v)
def execKeyReload (src : Source) (s : State) : Host.Outcome State Fault Refusal := .next (s.put src A.mgtCtrl 1)

/-- MDIO_GO (R439): `v` with GO set is written, and `answer` is what the PHY gives on a read. -/
def execMdioGo (src : Source) (v answer : Nat) (s : State) : Host.Outcome State Fault Refusal :=
  if s.sourceShut src then .next (s.put src A.mgtMdio (putBit v 31 true))
  else
    let s1 := bus.write src A.mgtMdio 15 (putBit v 31 true % 2 ^ 32) s
    .next (if s1.rdb A.mgtMdio 31 then s1.mdioOver answer else s1)

/-! ## Meanings: SMBus (R436, R437) -/

/-- The register-space offset advances by 4. -/
def State.smbNext (s : State) : State := { s with fio := { s.fio with smbAddr := (s.fio.smbAddr + 4) % 2 ^ 32 } }

/-- READ (Table FIO-6). -/
def execSmbusRead (count : Nat) (pec : Bool) (s : State) : Host.Outcome State Fault Refusal :=
  if count ≠ 4 then .next (s.emit .smbusNack)
  else if s.pecFails pec then .next (s.bump A.mgtSmbErr)
  else
    let (v, s1) := bus.read .smbus (s.fio.smbAddr / 4 * 4) s
    .next (s1.smbReturn (s.smbHead 2) (4#8 :: leBytes 4 v)).smbNext

/-- WRITE (Table FIO-6): with WR_EN 0 it is acknowledged and handled as a rejected write. -/
def execSmbusWrite (v count : Nat) (pec : Bool) (s : State) : Host.Outcome State Fault Refusal :=
  if count ≠ 4 then .next (s.emit .smbusNack)
  else if s.pecFails pec then .next (s.bump A.mgtSmbErr)
  else .next (s.put .smbus (s.fio.smbAddr / 4 * 4) v).smbNext

/-- STATUS: the byte is returned, and SMB_ALERT_N is released once the enabled bits have read 0. -/
def execSmbusStatus (pec : Bool) (s : State) : Host.Outcome State Fault Refusal :=
  if s.pecFails pec then .next (s.bump A.mgtSmbErr)
  else .next ({ s with fio := { s.fio with smbAlert := s.smbAlerts } }.smbReturn (s.smbHead 0x10) [BitVec.ofNat 8 s.smbStatus])

/-- The Alert Response Address is answered while SMB_ALERT_N is asserted. -/
def execAlertResponse (s : State) : Host.Outcome State Fault Refusal :=
  if s.fio.smbAlert || s.smbAlerts then
    .next ({ s with fio := { s.fio with smbAlert := true } }.smbReturn [0x19#8] [BitVec.ofNat 8 (2 * s.smbOwn)])
  else .next s

/-! ## Meanings: security and reset -/

/-- A write of SEC_CMD. -/
def State.putSec (s : State) (src : Source) (op key : Nat) : State := s.put src A.secCmd (op + key % 2 ^ 16 * 2 ^ 16)

def execLcAdvance (src : Source) (key : Nat) (s : State) : Host.Outcome State Fault Refusal := .next (s.putSec src 1 key)
def execSecImport (src : Source) (s : State) : Host.Outcome State Fault Refusal := .next (s.putSec src 2 0)
def execSecSeal (src : Source) (s : State) : Host.Outcome State Fault Refusal := .next (s.putSec src 3 0)
def execSecUnseal (src : Source) (s : State) : Host.Outcome State Fault Refusal := .next (s.putSec src 4 0)
def execOtpWrite (src : Source) (key : Nat) (s : State) : Host.Outcome State Fault Refusal := .next (s.putSec src 5 key)
def execSvnCommit (src : Source) (s : State) : Host.Outcome State Fault Refusal := .next (s.putSec src 6 0)
def execHuTest (src : Source) (s : State) : Host.Outcome State Fault Refusal := .next (s.putSec src 7 0)
def execSysReset (src : Source) (v : Nat) (s : State) : Host.Outcome State Fault Refusal := .next (s.put src A.sysReset v)

end Sys2Proof.Machine
end

