-- ==== Sys2Proof/Machine/Dma.lean ====
section
/-!
DEFINITION. The DMA that a handle launches: its rows, local and over the fabric (R293, Tables BPG-8 and BPG-9, R360).
-/
namespace Sys2Proof.Machine

/-- A DMA descriptor (Table BPG-8), with the barge's SECURE context and engine. -/
structure Dma where
  fill   : Bool
  src    : Nat
  dst    : Nat
  len    : Nat
  pat    : Nat
  rows   : Nat
  spitch : Nat
  dpitch : Nat
  secure : Bool
  eng    : Nat
deriving DecidableEq, Repr

/-- A fabric address of the own node is served locally (R32). -/
def State.home (s : State) (a : Nat) : Nat := if tbit a 47 && fld a 40 7 = s.ownNode then a % 2 ^ 40 else a

/-- The DMA of the 16 words of a descriptor. -/
def State.dmaOf (s : State) (w : List Nat) (secure : Bool) (e : Nat) : Dma := {
  fill := tbit (nth 0 w 0) 16
  src := s.home (nth 0 w 2 + nth 0 w 3 * 2 ^ 32)
  dst := s.home (nth 0 w 4 + nth 0 w 5 * 2 ^ 32)
  len := nth 0 w 6
  pat := nth 0 w 7
  rows := max 1 (fld (nth 0 w 8) 0 16)
  spitch := nth 0 w 9
  dpitch := nth 0 w 10
  secure := secure
  eng := e }

/-- Two runs of rows of `len` bytes, both ascending, share a byte: from row `i` of the one and row `j` of the other on. -/
def rowsMeet (d : Dma) (i j : Nat) : Nat → Bool
  | 0 => false
  | n + 1 =>
    if d.rows ≤ i || d.rows ≤ j then false
    else
      let a := d.src + i * d.spitch
      let b := d.dst + j * d.dpitch
      if a < b + d.len && b < a + d.len then true
      else if a < b then rowsMeet d (i + 1) j n else rowsMeet d i (j + 1) n

/-- The check of SETUP_DMA: LEN a multiple of 8, and no overlap of source and destination. -/
def Dma.ok (d : Dma) : Bool := d.len % 8 = 0 && (d.fill || !rowsMeet d 0 0 (2 * d.rows))

/-- Where `n` bytes of a DMA lie. -/
inductive Place
  | here | far (node addr : Nat) | gone (st : Status)
deriving DecidableEq, Repr

/-- The place of a DMA's bytes: the sealed pound for a SECURE barge only, and inaccessible unless it is OPEN (R289, R316). -/
def State.place (s : State) (d : Dma) (a n : Nat) : Place :=
  if tbit a 47 && a < 2 ^ 48 then .far (fld a 40 7) (a % 2 ^ 40)
  else if inLocal a n then .here
  else if inPound a n then (if !d.secure then .gone .dataFault else if s.sealState ≠ 0 then .gone .sealed else .here)
  else .gone .dataFault

/-- A DMA of a barge that is not SECURE has met the pound: the access is refused and counted (R316). -/
def State.dmaDenied (s : State) (d : Dma) (a n : Nat) : State := if inPound a n && !d.secure then s.sealDenied 4 else s

/-- The source and destination addresses of a row. -/
def Dma.row (d : Dma) (i : Nat) : Nat × Nat := (d.src + i * d.spitch, d.dst + i * d.dpitch)

/-- The bytes of a fill. -/
def patBytes (pat : Nat) : Nat → List Byte
  | 0 => []
  | n + 1 => leBytes 4 pat ++ patBytes pat n

/-- The requests that carry `n` bytes between a remote address and this node, at most 256 bytes each; 64 bytes for the whole
offer window are an offer (R364). -/
def chunks (kind dst addr put : Nat) (by_ : Nat × Nat) (e : Nat) (data : List Byte) : Nat → Nat → List FabReq
  | 0, _ => []
  | f + 1, n =>
    if n = 0 then []
    else
      let k := min 256 n
      let kd := if kind = 1 && addr = 0x320800 && k = 64 then 2 else kind
      let r : FabReq := { tag := 0, dst := dst, kind := kd, addr := addr, len := k, data := data.take k, by_ := by_, put := put, issued := 0, eng := e }
      r :: chunks kind dst (addr + k) (put + k) by_ e (data.drop k) f (n - k)

/-- Write a row's bytes locally; an uncorrectable word that would be covered in part ends the transfer (Table SPD-2). -/
def State.dmaStore (s : State) (d : Dma) (a : Nat) (bs : List Byte) : Nat × State :=
  let (ue, t) := s.storeTold 4 d.eng a bs
  (if ue then statusCode .dataFault else 0, t)

/-- One row: status, requests it needs, and state. -/
def State.dmaRow (s : State) (d : Dma) (by_ : Nat × Nat) (i : Nat) : Nat × List FabReq × State :=
  let (a, b) := d.row i
  let n := d.len
  match s.place d b n with
  | .gone st => (statusCode st, [], s.dmaDenied d b n)
  | pb =>
    if !d.fill && (match s.place d a n with | .far _ _ => true | _ => false) then
      (0, chunks 0 (fld a 40 7) (a % 2 ^ 40) b by_ d.eng [] (n / 256 + 1) n, s)
    else
      let got : Nat × List Byte × State :=
        if d.fill then (0, patBytes d.pat (n / 4), s)
        else match s.place d a n with
          | .gone st => (statusCode st, [], s.dmaDenied d a n)
          | _ => match s.fetch 4 d.eng a n with
            | (some bs, t) => (0, bs, t)
            | (none, t) => (statusCode .dataFault, [], t)
      match got with
      | (0, bs, t) =>
        (match pb with
         | .far node addr => (0, chunks 1 node addr 0 by_ d.eng bs (n / 256 + 1) n, t)
         | _ => let (st, u) := t.dmaStore d b bs; (st, [], u))
      | (st, _, t) => (st, [], t)

/-- Rows in order; the first that cannot be carried ends the transfer. -/
def State.dmaRows (s : State) (d : Dma) (by_ : Nat × Nat) (i : Nat) : Nat → Nat × List FabReq × State
  | 0 => (0, [], s)
  | n + 1 =>
    match s.dmaRow d by_ i with
    | (0, l, t) =>
      let (st, m, u) := t.dmaRows d by_ (i + 1) n
      (st, l ++ m, u)
    | (st, l, t) => (st, l, t)

/-- A local address that the rows of a DMA name lies in memory whose clock stands. -/
def State.dmaStands (s : State) (d : Dma) : Bool :=
  let here (a : Nat) : Bool := (match s.place d a d.len with | .here => true | _ => false) && !s.memRuns a d.len
  (rangeFrom 0 d.rows).any (fun i => (!d.fill && here (d.row i).1) || here (d.row i).2)

/-- The launch of a DMA: local rows are carried at once, remote rows by requests that it then waits for; one whose
memory has lost its clock never ends (R470). -/
def State.dmaLaunch (s : State) (d : Dma) (by_ : Nat × Nat) : State :=
  let (st, l, s1) := if d.len = 0 then (0, [], s) else s.dmaRows d by_ 0 d.rows
  if d.len ≠ 0 && s.dmaStands d then s.setAqd (fun q => { q with jobs := q.jobs ++ [{ by_ := by_, left := 1, status := 0 }] })
  else if l.isEmpty then s1.stepEnded (some by_) st 0
  else
    let job : DmaJob := { by_ := by_, left := l.length, status := st }
    l.foldl (fun t r => t.reqIssue r) (s1.setAqd (fun q => { q with jobs := q.jobs ++ [job] }))

end Sys2Proof.Machine
end

