-- ==== Sys2Proof/Machine/Bpg.lean ====
section
/-!
DEFINITION. Barge engines: the instruction fetch and its faults, the 44 opcodes, handles, setup descriptors, launches, the end of a
barge, and the completion of a handle (R285 to R300).
-/
namespace Sys2Proof.Machine

/-! ## Instructions (R287, R288) -/

/-- An instruction word in its fields (Table BPG-2); X and IMM are kept as bits. -/
structure Ins where
  op  : Nat
  rd  : Nat
  ra  : Nat
  rb  : Nat
  x   : Nat
  imm : Nat
deriving DecidableEq, Repr

/-- The fields of a word. -/
def insOf (w : Nat) : Ins :=
  { op := fld w 0 8, rd := fld w 8 4, ra := fld w 12 4, rb := fld w 16 4, x := fld w 20 12, imm := fld w 32 32 }

/-- The handle field H of a unit instruction. -/
def Ins.h (x : Ins) : Nat := x.x % 8

/-- Every opcode with the bits that its fields use (Table BPG-3): OP, RD, RA, RB, X or H, IMM. -/
def opFields : List (Nat × Nat) := [
  (0x01, 0xFF),
  (0x02, 0xFFFFF), (0x03, 0xFFFFF), (0x04, 0xFFFFF), (0x05, 0xFFFFF), (0x06, 0xFFFFF), (0x07, 0xFFFFF), (0x08, 0xFFFFF), (0x09, 0xFFFFF),
  (0x0A, 0xFFFFFFFF0000FFFF), (0x0B, 0xFFFFFFFF0000FFFF), (0x0C, 0xFFFFFFFF00000FFF), (0x0D, 0xFFFFFFFF00000FFF),
  (0x10, 0xFFFFFFFF0000FFFF), (0x11, 0xFFFFFFFF000FF0FF), (0x12, 0xFFFFFFFF0000FFFF), (0x13, 0xFFFFFFFF000FF0FF),
  (0x18, 0xFFFFFFFF000FF0FF), (0x19, 0xFFFFFFFF000FF0FF), (0x1A, 0xFFFFFFFF000FF0FF),
  (0x1C, 0xFFFFFFFF000FFFFF), (0x1D, 0xFFFFFFFF000FFFFF), (0x1E, 0xFFFFFFFF000FFFFF),
  (0x20, 0xFFFFF0FF), (0x21, 0xFFFFF0FF), (0x22, 0xFFFFF0FF), (0x23, 0xFFFFF0FF), (0x24, 0xFFF000FF), (0x25, 0xFFFFFFFFFFF0F0FF),
  (0x30, 0x70F0FF), (0x31, 0x70F0FF), (0x32, 0x70F0FF), (0x33, 0x70F0FF), (0x34, 0x70F0FF),
  (0x38, 0x7000FF), (0x39, 0x700FFF), (0x3A, 0xFFFFFFFF00000FFF),
  (0x40, 0xFFFF), (0x41, 0xFFFFFFFF000FFFFF), (0x42, 0xFFF), (0x43, 0xF0FF), (0x44, 0xF0FF),
  (0x48, 0xFFF), (0x49, 0xFFFFFFFF00000FFF)]

/-- A legal opcode, and zero in every field that it does not use. -/
def legalWord (w : Nat) : Bool :=
  match opFields.find? (fun x => x.1 = w % 256) with
  | some x => (w &&& x.2) = w
  | none => false

/-- The instruction word at a store offset; nothing is said of what lies past the end (log entry 187). -/
def State.insWord (s : State) (off : Nat) : Nat × State :=
  if 0x100000 ≤ off then (let (v, s1) := s.draw 64; (v.toNat, s1))
  else (leNat (Memory.read s.dsp.store off 8), s)

/-! ## Registers of a barge -/

/-- A general register; g0 reads zero (R285). -/
def Ctx.g (c : Ctx) (r : Nat) : Nat := if r = 0 then 0 else (nth 0 c.regs r).toNat

/-- The next instruction. -/
def Ctx.next (c : Ctx) : Ctx := { c with pc := c.pc + 1 }

/-- A branch by a signed 12-bit offset; an index below 0 or above 1,023 faults at its fetch. -/
def Ctx.jump (c : Ctx) (x : Nat) : Ctx := { c with pc := enc 16 (c.pc + sgn 12 x) }

/-- A 64-bit result goes to a register, and the next instruction follows. -/
def Ctx.put (c : Ctx) (rd v : Nat) : Ctx := (c.setReg rd (BitVec.ofNat 64 v)).next

/-- IMM sign-extended to 64 bits. -/
def Ins.simm (x : Ins) : Nat := enc 64 (sgn 32 x.imm)

/-- The address [ra + imm], modulo 2^64. -/
def Ctx.addr (c : Ctx) (x : Ins) : Nat := (c.g x.ra + x.simm) % 2 ^ 64

/-! ## The end of a barge (R292, R299, R300) -/

/-- A status above 0x0C is posted as DATA_FAULT (R299). -/
def postStatus (st : Nat) : Nat := if 0x0C < st then 0x09 else st

/-- The barge given by TAKE completes and hands its lock on. -/
def State.postGiven (s : State) (e : Nat) (g : Option (Barge × Nat)) (status result : Nat) : State :=
  match g with
  | none => s
  | some (b, _) => (((s.complete b status result e true).leave b).bump32 (A.dspEDone e) 1)

/-- A barge whose launched work is over completes; a barge it holds from TAKE follows with DATA_FAULT; the engine goes on. -/
def State.tryEnd (s : State) (e : Nat) : State :=
  match (s.eng e).run with
  | none => s
  | some c =>
    match c.wait with
    | .ending st res gres =>
      if c.handles.any (fun h => h.st = .launched) then s
      else
        let s1 := (((s.complete c.barge st res e true).leave c.barge).bump32 (A.dspEDone e) 1).runTraced e c
        ((s1.postGiven e c.given 0x09 gres).freeEngine e).settle
    | _ => s

/-- The barge of an engine ends: set handles are discarded, launched ones run to their end first. -/
def State.endBarge (s : State) (e st res gres : Nat) : State :=
  (s.setRun e (fun c => { c with
    wait := .ending st res gres
    handles := c.handles.map (fun h => if h.st = .set then {} else h) })).tryEnd e

/-- The instruction index as RESULT shows it. -/
def Ctx.index (c : Ctx) : Nat := c.pc % 4096

/-- A program fault (R300, Table BPG-10). -/
def State.progFault (s : State) (e : Nat) (c : Ctx) (code : Nat) : State :=
  let info := e % 64 + code % 16 * 2 ^ 12 + c.pc % 1024 * 2 ^ 16
  let s1 := (((s.wr A.bpgFaultInfo info).wr A.bpgFaultProg c.barge.prog).bump A.bpgFaultCnt).pageErr 0x200000 0x0103 info
  (s1.raise 0x200000 13).endBarge e 0x09 (code * 4096 + c.index) (code * 4096 + c.index)

/-- An uncorrectable word ends the barge with DATA_FAULT and the index (Table SPD-2). -/
def State.ueEnd (s : State) (e : Nat) (c : Ctx) : State := s.endBarge e 0x09 c.index c.index

/-- The inaccessible pound ends a SECURE barge with SEALED and the index (R289, R317). -/
def State.sealedEnd (s : State) (e : Nat) (c : Ctx) : State := s.endBarge e 0x0C c.index c.index

/-! ## Copies for a cluster in SHADOW (R275) -/

/-- The operands of an instruction as a copy is compared by: opcode, handle, address and value. -/
def Ctx.operands (c : Ctx) (x : Ins) : List Int := [x.op, x.h, c.addr x, c.g x.rb]

/-- The operands of an instruction that acts on the device (a store, a register write, an atomic, a setup, a launch, an enqueue or a
completion) join the trace of a barge of which a copy runs. -/
def State.traced (s : State) (e : Nat) (c : Ctx) (x : Ins) : State :=
  match c.trace with
  | none => s
  | some l => s.setRun e (fun k => { k with trace := some (l ++ c.operands x) })

/-! ## Fetch -/

/-- The barge of an engine that executes instructions now: not wedged, not stopped by a trip or a stopped clock, and waiting for
nothing. -/
def State.active (s : State) (e : Nat) : Option Ctx :=
  match (s.eng e).run with
  | none => none
  | some c => if (s.eng e).wedged || (e ≠ 63 && s.tripped) || !s.runs 1 || c.wait ≠ .none then none else some c

/-- Fetch at the program counter and run `f` when the word is a legal one of opcode `op`; `ue` says that the word cannot be
corrected (R281, R282, R287, R300).  A legal word of another opcode is another command's. -/
def State.opRun (s : State) (e op : Nat) (ue : Bool) (f : Ctx → Ins → State → State) : State :=
  match s.active e with
  | none => s
  | some c =>
    if c.barge.prog % 8 ≠ 0 || 1023 < c.pc then s.progFault e c 2
    else if c.barge.secure && c.barge.prog < 0xC0000 then s.progFault e c 9
    else if ue then s.progFault e c 10
    else
      let (w, s1) := s.insWord (c.barge.prog + 8 * c.pc)
      if !legalWord w then s1.progFault e c 1
      else if w % 256 ≠ op then s
      else f c (insOf w) s1

/-- An instruction that changes only the context. -/
def State.opCtx (s : State) (e op : Nat) (ue : Bool) (f : Ctx → Ins → Ctx) : State :=
  s.opRun e op ue (fun _ x t => t.setRun e (fun c => f c x))

/-- An arithmetic instruction rd := f ra rb. -/
def State.opAlu (s : State) (e op : Nat) (ue : Bool) (f : Nat → Nat → Nat) : State :=
  s.opCtx e op ue (fun c x => c.put x.rd (f (c.g x.ra) (c.g x.rb) % 2 ^ 64))

/-- A branch on two registers. -/
def State.opBranch (s : State) (e op : Nat) (ue : Bool) (f : Nat → Nat → Bool) : State :=
  s.opCtx e op ue (fun c x => if f (c.g x.ra) (c.g x.rb) then c.jump x.x else c.next)

/-! ## Memory (R289) -/

/-- What an access of a barge to memory meets. -/
inductive Reach
  | ok | fault (code : Nat) | inaccessible
deriving DecidableEq, Repr

/-- The reach of bytes of the scratchpad, or of the sealed pound in SECURE context. -/
def State.reachOf (s : State) (c : Ctx) (a n : Nat) : Reach :=
  if inSpd a n then .ok
  else if inPound a n then (if !c.barge.secure then .fault 4 else if s.sealState ≠ 0 then .inaccessible else .ok)
  else .fault 3

/-- The reach of an 8-byte word of LD, ST and the atomics. -/
def State.reachWord (s : State) (c : Ctx) (a : Nat) : Reach := if a % 8 ≠ 0 then .fault 3 else s.reachOf c a 8

/-- Go on with an access that reaches memory; else the barge ends, and a denied access to the pound is counted (R316). -/
def State.reached (s : State) (e : Nat) (c : Ctx) (r : Reach) (f : State → State) : State :=
  match r with
  | .ok => f s
  | .fault 4 => (s.sealDenied 1).progFault e c 4
  | .fault k => s.progFault e c k
  | .inaccessible => s.sealedEnd e c

/-- The request of an engine's barge to a bank. -/
def Ctx.bankReq (c : Ctx) (e a : Nat) (q : BankAt) : BankReq :=
  { addr := a, cls := 1, id := e, tag := q.tag, cyc := q.cyc, age := q.age, secure := c.barge.secure, found := q.found,
    met := q.met, again := q.again }

/-- An atomic operation; FADD, FADD2 and FSWAP also return the old word.  While the bank does not take the request the engine waits: the
command does no more than the bank's answer, and comes again (R309). -/
def State.opAtomic (s : State) (e op : Nat) (ue : Bool) (q : BankAt) (f : Nat → Nat → Nat) (ret : Bool) : State :=
  s.opRun e op ue (fun c x t =>
    let a := c.addr x
    let r := c.bankReq e a q
    t.reached e c (t.reachWord c a) (fun u => u.bankGo r 2 ret (fun v =>
      match (v.traced e c x).bankChange r ret (fun old => f old (c.g x.rb)) with
      | (none, w) => w.ueEnd e c
      | (some old, w) => w.setRun e (fun k => if ret then k.put x.rd old else k.next))))

/-! ## Setup descriptors (R291, R293, Tables BPG-4 to BPG-8) -/

/-- A 64-bit field of a descriptor. -/
def dw (w : List Nat) (i : Nat) : Nat := nth 0 w i + nth 0 w (i + 1) * 2 ^ 32

def swpOk (w : List Nat) : Bool :=
  let k := fld (nth 0 w 0) 8 2
  let first := fld (nth 0 w 1) 0 13
  let n := fld (nth 0 w 1) 16 13
  k ≠ 3 && (k ≠ 1 || (1 ≤ n && first + n ≤ 8192))

/-- The problems lie below SOL_PROB_CNT, and a named update list begins in local HBM or the scratchpad (R187); how far it reaches its own
packets say. -/
def State.solOk (s : State) (w : List Nat) : Bool :=
  fld (nth 0 w 1) 0 13 + fld (nth 0 w 1) 16 13 ≤ s.rdf A.solProbCnt 0 14 && (fld (nth 0 w 4) 0 16 = 0 || inLocal (dw w 2) 16)

/-- The request of a CHG descriptor for a handle. -/
def State.chgReqOf (s : State) (w : List Nat) (k : Nat × Nat) : ChgReq :=
  let dl := dw w 10
  { num := 0, by_ := .handle k.1 k.2, bg := tbit (nth 0 w 0) 16, gate := if s.pass.isOpen then some s.pass.num else none
    model := fld (nth 0 w 1) 0 10, count := fld (nth 0 w 2) 0 20, inA := dw w 4, inS := fld (nth 0 w 6) 0 16, outA := dw w 8
    outS := fld (nth 0 w 6) 16 16, dl := if dl = 0 then none else some dl }

/-- A CHG descriptor names at least one evaluation, and its inputs and outputs lie in local HBM or the scratchpad (R218): all of them where
the model is in the table, whose layers give their sizes, else the first byte of each input and the first word of each output. -/
def State.chgOk (s : State) (w : List Nat) : Bool :=
  let r := s.chgReqOf w (0, 0)
  1 ≤ r.count && (match s.chgModel r.model with
    | some m => r.placed m
    | none => runsLocal r.inA r.inS r.count 1 && runsLocal r.outA r.outS r.count 2)

def fusOk (w : List Nat) : Bool :=
  let n := fld (nth 0 w 4) 0 20
  1 ≤ n && inLocal (dw w 2) (n * 1088)

/-- The check of a descriptor for unit `u`. -/
def State.descOk (s : State) (e u : Nat) (secure : Bool) (w : List Nat) : Bool :=
  fld (nth 0 w 0) 0 4 = u &&
    (match u with
     | 1 => swpOk w
     | 2 => s.solOk w
     | 3 => s.chgOk w
     | 4 => fusOk w
     | _ => (s.dmaOf w secure e).ok)

/-- Change a handle of the running barge of an engine. -/
def Ctx.setHandle (c : Ctx) (h : Nat) (x : Handle) : Ctx := { c with handles := upd (fun _ => x) c.handles h }
def Ctx.handle (c : Ctx) (h : Nat) : Handle := nth {} c.handles h

/-- A descriptor that fails: the handle is done with DATA_FAULT and result 0. -/
def badDesc : Handle := { st := .done, status := 0x09 }

/-- SETUP of unit `u`: read the descriptor whole, check it, bind it to the handle. -/
def State.opSetup (s : State) (e op : Nat) (ue : Bool) (u : Nat) : State :=
  s.opRun e op ue (fun c x t =>
    let a := c.g x.ra
    if !t.memRuns a 64 then t else
    let done (v : State) (h : Handle) : State := (v.traced e c x).setRun e (fun k => (k.setHandle x.h h).next)
    if (c.handle x.h).st ≠ .free then t.progFault e c 5
    else if a % 64 ≠ 0 then done t badDesc
    else if inPound a 64 && !c.barge.secure then (t.sealDenied 1).progFault e c 4
    else if inPound a 64 && t.sealState ≠ 0 then t.sealedEnd e c
    else if !(inLocal a 64 || inPound a 64) then done t badDesc
    else match t.fetch 1 e a 64 with
      | (none, v) => done v badDesc
      | (some bs, v) =>
        let w := (rangeFrom 0 16).map (fun i => leNat ((bs.drop (4 * i)).take 4))
        done v (if v.descOk e u c.barge.secure w then { st := .set, desc := w } else badDesc))

/-! ## Launch (R291, R294) -/

/-- The step of an SWP descriptor. -/
def stepOf (w : List Nat) : StepKind :=
  match fld (nth 0 w 0) 8 2 with
  | 0 => .sweep
  | 1 => .resweep (fld (nth 0 w 1) 0 13) (fld (nth 0 w 1) 16 13)
  | _ => .commit

/-- Start the work of a descriptor for a handle. -/
def State.startUnit (s : State) (e : Nat) (b : Barge) (k : Nat × Nat) (w : List Nat) : State :=
  match fld (nth 0 w 0) 0 4 with
  | 1 => s.launchStep b k (stepOf w)
  | 2 => s.solUnit (fld (nth 0 w 1) 0 13) (fld (nth 0 w 1) 16 13) (tbit (nth 0 w 0) 16) (dw w 2) (fld (nth 0 w 4) 0 16) k
  | 3 => s.chgSubmit (s.chgReqOf w k)
  | 4 => s.offerWork 0x30000 (.fus (dw w 2) (fld (nth 0 w 4) 0 20) k.1 k.2) (fun t => t.fusLaunch (dw w 2) (fld (nth 0 w 4) 0 20) k.1 k.2)
  | _ => s.dmaLaunch (s.dmaOf w b.secure e) k

def State.launch (s : State) (e : Nat) (c : Ctx) (x : Ins) : State :=
  match (c.handle x.h).st with
  | .free => s.progFault e c 5
  | .set => ((s.traced e c x).setRun e (fun k => (k.setHandle x.h { c.handle x.h with st := .launched }).next)).startUnit e c.barge (c.barge.acc, x.h)
      (c.handle x.h).desc
  | _ => s.setRun e Ctx.next

/-! ## Waiting (R291, R295) -/

/-- The handles of a mask that are launched or done. -/
def Ctx.waitMask (c : Ctx) (m : Nat) : Nat :=
  ((rangeFrom 0 8).map (fun h => if tbit m h && ((c.handle h).st = .launched || (c.handle h).st = .done) then 2 ^ h else 0)).sum

/-- The ended work of a handle of a context. -/
def State.endOf (s : State) (c : Ctx) (h : Nat) : Option UnitEnd :=
  if (c.handle h).st = .launched then s.dsp.ended.find? (fun u => u.acc = c.barge.acc && u.h = h) else none

/-- The handle takes the completion of its work. -/
def Ctx.finish (c : Ctx) (h : Nat) (u : UnitEnd) : Ctx := c.setHandle h { c.handle h with st := .done, status := u.status, result := u.result }

/-- A completion reaches its handle, of the running barge or of a saved one; what waited for it goes on (R286, R292). -/
def State.handleComplete (s : State) (e h : Nat) : State :=
  let g := s.eng e
  match g.ctxs.findSome? (fun c => (s.endOf c h).map (fun u => (c, u))) with
  | none => s
  | some (c, u) =>
    let fin (k : Ctx) : Ctx := if k.barge.acc = c.barge.acc then k.finish h u else k
    let s1 := s.setDsp (fun d => { d with ended := dropEnd u d.ended })
    let s2 := s1.setEng e (fun q => { q with run := q.run.map (fun k => if g.wedged then fin k else (fin k).wake), saved := q.saved.map fin })
    if g.wedged then s2 else s2.tryEnd e
where
  dropEnd (u : UnitEnd) : List UnitEnd → List UnitEnd
    | [] => []
    | x :: t => if x = u then t else x :: dropEnd u t

/-! ## ENQ, TAKE, YIELD, POSTT (R296 to R298) -/

def State.enq (s : State) (e : Nat) (c : Ctx) (x : Ins) : State :=
  let a := c.g x.ra
  s.reached e c (s.reachOf c a 64) (fun t =>
    if !t.memRuns a 64 then t else
    match t.fetch 1 e a 64 with
    | (none, u) => u.ueEnd e c
    | (some bs, u) =>
      match (u.traced e c x).offer 3 e ((rangeFrom 0 16).map (fun i => leNat ((bs.drop (4 * i)).take 4))) c.barge.secure false with
      | (r, v) => v.setRun e (fun k => k.put x.rd r))

def State.take (s : State) (e : Nat) (c : Ctx) (x : Ins) : State :=
  let buf := c.g x.ra
  let us := x.imm % 2 ^ 24
  if c.given.isSome then s.progFault e c 6
  else if buf % 64 ≠ 0 then s.progFault e c 3
  else if inPound buf 64 && !c.barge.secure then (s.sealDenied 1).progFault e c 4
  else if !inSpd buf 64 then s.progFault e c 3
  else if s.engSvc e ≠ 0 then s.takeReturns e x.rd 0
  else
    let w : Wait := .take x.rd buf (c.g x.rb % 2 ^ 32) (if us = 0 then none else some (us * 1000)) s.now s.dsp.takeNo
    ((s.setDsp (fun d => { d with takeNo := d.takeNo + 1 })).setRun e (fun k => { k with wait := w })).settle

/-- The basin of a barge has a free entry for its source (R258). -/
def State.entryFree (s : State) (b : Barge) : Bool := if b.osrc = 0 then s.credit b.basin ≠ 0 else s.held b.basin < 4096

def State.yield (s : State) (e : Nat) (c : Ctx) (x : Ins) : State :=
  if c.given.isSome || c.handles.any (fun h => h.st ≠ .free) then s.progFault e c 7
  else if !s.entryFree c.barge then s.setRun e (fun k => k.put x.rd 0)
  else
    let before := s.credit c.barge.basin
    let s1 := (s.setDsp (fun d => { d with ready := d.ready ++ [{ c.barge with ran := some e }] })).basinGrown c.barge.basin before
    ((((s1.bump32 A.bpgYields 1).runTraced e c).freeEngine e)).settle

def State.postt (s : State) (e : Nat) (c : Ctx) (x : Ins) : State :=
  match c.given with
  | none => s.progFault e c 6
  | some _ =>
    let w := c.g x.ra
    let s1 := (s.traced e c x).postGiven e c.given (postStatus (w % 256)) (w / 2 ^ 16 % 2 ^ 16)
    (s1.setRun e (fun k => { k with given := none, pc := k.pc + 1 })).settle

/-! ## SELF -/

/-- The field of SELF. -/
def State.selfField (s : State) (e : Nat) (b : Barge) (k : Nat) : Nat :=
  match k % 8 with
  | 0 => e
  | 1 => b.basin
  | 2 => b.prio
  | 3 => b.lock
  | 4 => b.osrc
  | 5 => if b.secure then 1 else 0
  | 6 => s.rd A.cndPassSeq
  | _ => b.prog

/-! ## Meanings: arithmetic -/

def execOpNop (e : Fin 64) (ue : Bool) (s : State) : Host.Outcome State Fault Refusal := .next (s.opCtx e 0x01 ue (fun c _ => c.next))

def execOpAdd (e : Fin 64) (ue : Bool) (s : State) : Host.Outcome State Fault Refusal := .next (s.opAlu e 0x02 ue (fun a b => a + b))

def execOpSub (e : Fin 64) (ue : Bool) (s : State) : Host.Outcome State Fault Refusal := .next (s.opAlu e 0x03 ue (fun a b => a + 2 ^ 64 - b))

def execOpAnd (e : Fin 64) (ue : Bool) (s : State) : Host.Outcome State Fault Refusal := .next (s.opAlu e 0x04 ue (fun a b => a &&& b))

def execOpOr (e : Fin 64) (ue : Bool) (s : State) : Host.Outcome State Fault Refusal := .next (s.opAlu e 0x05 ue (fun a b => a ||| b))

def execOpXor (e : Fin 64) (ue : Bool) (s : State) : Host.Outcome State Fault Refusal := .next (s.opAlu e 0x06 ue (fun a b => a ^^^ b))

def execOpShl (e : Fin 64) (ue : Bool) (s : State) : Host.Outcome State Fault Refusal :=
  .next (s.opAlu e 0x07 ue (fun a b => a * 2 ^ (b % 64)))

def execOpShr (e : Fin 64) (ue : Bool) (s : State) : Host.Outcome State Fault Refusal :=
  .next (s.opAlu e 0x08 ue (fun a b => a / 2 ^ (b % 64)))

def execOpSar (e : Fin 64) (ue : Bool) (s : State) : Host.Outcome State Fault Refusal :=
  .next (s.opAlu e 0x09 ue (fun a b => enc 64 (sgn 64 a / (2 ^ (b % 64) : Nat))))

def execOpAddi (e : Fin 64) (ue : Bool) (s : State) : Host.Outcome State Fault Refusal :=
  .next (s.opCtx e 0x0A ue (fun c x => c.put x.rd ((c.g x.ra + x.simm) % 2 ^ 64)))

def execOpAndi (e : Fin 64) (ue : Bool) (s : State) : Host.Outcome State Fault Refusal :=
  .next (s.opCtx e 0x0B ue (fun c x => c.put x.rd (c.g x.ra &&& x.imm)))

def execOpLi (e : Fin 64) (ue : Bool) (s : State) : Host.Outcome State Fault Refusal :=
  .next (s.opCtx e 0x0C ue (fun c x => c.put x.rd x.simm))

def execOpLih (e : Fin 64) (ue : Bool) (s : State) : Host.Outcome State Fault Refusal :=
  .next (s.opCtx e 0x0D ue (fun c x => c.put x.rd (c.g x.rd % 2 ^ 32 + x.imm * 2 ^ 32)))

/-! ## Meanings: memory and registers -/

def execOpLd (e : Fin 64) (ue : Bool) (q : BankAt) (s : State) : Host.Outcome State Fault Refusal :=
  .next (s.opRun e 0x10 ue (fun c x t =>
    let r := c.bankReq e (c.addr x) q
    t.reached e c (t.reachWord c (c.addr x)) (fun u => u.bankGo r 0 true (fun v =>
      match v.bankLoad r false with
      | (none, w) => w.ueEnd e c
      | (some old, w) => w.setRun e (fun k => k.put x.rd old)))))

def execOpSt (e : Fin 64) (ue : Bool) (q : BankAt) (s : State) : Host.Outcome State Fault Refusal :=
  .next (s.opRun e 0x11 ue (fun c x t =>
    let r := c.bankReq e (c.addr x) q
    t.reached e c (t.reachWord c (c.addr x)) (fun u => u.bankGo r 1 false (fun v => ((v.traced e c x).bankPut r (c.g x.rb)).setRun e Ctx.next))))

/-- REGR reads as access source 1 (R289). -/
def execOpRegr (e : Fin 64) (ue : Bool) (s : State) : Host.Outcome State Fault Refusal :=
  .next (s.opRun e 0x12 ue (fun c x t =>
    let a := c.addr x
    if a % 4 ≠ 0 || 0x04000000 ≤ a then t.progFault e c 8
    else
      let (v, u) := bus.read (.engine e) a t
      u.setRun e (fun k => k.put x.rd v)))

/-- REGW writes as access source 1; a rejected write is no fault (R289). -/
def execOpRegw (e : Fin 64) (ue : Bool) (s : State) : Host.Outcome State Fault Refusal :=
  .next (s.opRun e 0x13 ue (fun c x t =>
    let a := c.addr x
    if a % 4 ≠ 0 || 0x04000000 ≤ a then t.progFault e c 8
    else ((t.traced e c x).put (.engine e) a (c.g x.rb)).setRun e Ctx.next))

def execOpAadd (e : Fin 64) (ue : Bool) (q : BankAt) (s : State) : Host.Outcome State Fault Refusal := .next (s.opAtomic e 0x18 ue q atomAdd false)
def execOpAadd2 (e : Fin 64) (ue : Bool) (q : BankAt) (s : State) : Host.Outcome State Fault Refusal := .next (s.opAtomic e 0x19 ue q atomAdd2 false)
def execOpAswap (e : Fin 64) (ue : Bool) (q : BankAt) (s : State) : Host.Outcome State Fault Refusal := .next (s.opAtomic e 0x1A ue q atomSwap false)
def execOpFadd (e : Fin 64) (ue : Bool) (q : BankAt) (s : State) : Host.Outcome State Fault Refusal := .next (s.opAtomic e 0x1C ue q atomAdd true)
def execOpFadd2 (e : Fin 64) (ue : Bool) (q : BankAt) (s : State) : Host.Outcome State Fault Refusal := .next (s.opAtomic e 0x1D ue q atomAdd2 true)
def execOpFswap (e : Fin 64) (ue : Bool) (q : BankAt) (s : State) : Host.Outcome State Fault Refusal := .next (s.opAtomic e 0x1E ue q atomSwap true)

/-! ## Meanings: branches -/

def execOpBeq (e : Fin 64) (ue : Bool) (s : State) : Host.Outcome State Fault Refusal := .next (s.opBranch e 0x20 ue (fun a b => decide (a = b)))
def execOpBne (e : Fin 64) (ue : Bool) (s : State) : Host.Outcome State Fault Refusal := .next (s.opBranch e 0x21 ue (fun a b => decide (a ≠ b)))

def execOpBlt (e : Fin 64) (ue : Bool) (s : State) : Host.Outcome State Fault Refusal :=
  .next (s.opBranch e 0x22 ue (fun a b => decide (sgn 64 a < sgn 64 b)))

def execOpBge (e : Fin 64) (ue : Bool) (s : State) : Host.Outcome State Fault Refusal :=
  .next (s.opBranch e 0x23 ue (fun a b => decide (sgn 64 b ≤ sgn 64 a)))

def execOpJmp (e : Fin 64) (ue : Bool) (s : State) : Host.Outcome State Fault Refusal :=
  .next (s.opCtx e 0x24 ue (fun c x => c.jump x.x))

def execOpBstat (e : Fin 64) (ue : Bool) (s : State) : Host.Outcome State Fault Refusal :=
  .next (s.opCtx e 0x25 ue (fun c x => if tbit x.imm (postStatus (c.g x.ra % 256)) then c.jump x.x else c.next))

/-! ## Meanings: handles -/

def execOpSetupSwp (e : Fin 64) (ue : Bool) (s : State) : Host.Outcome State Fault Refusal := .next (s.opSetup e 0x30 ue 1)
def execOpSetupSol (e : Fin 64) (ue : Bool) (s : State) : Host.Outcome State Fault Refusal := .next (s.opSetup e 0x31 ue 2)
def execOpSetupChg (e : Fin 64) (ue : Bool) (s : State) : Host.Outcome State Fault Refusal := .next (s.opSetup e 0x32 ue 3)
def execOpSetupFus (e : Fin 64) (ue : Bool) (s : State) : Host.Outcome State Fault Refusal := .next (s.opSetup e 0x33 ue 4)
def execOpSetupDma (e : Fin 64) (ue : Bool) (s : State) : Host.Outcome State Fault Refusal := .next (s.opSetup e 0x34 ue 5)

def execOpLaunch (e : Fin 64) (ue : Bool) (s : State) : Host.Outcome State Fault Refusal :=
  .next (s.opRun e 0x38 ue (fun c x t => t.launch e c x))

def execOpWait (e : Fin 64) (ue : Bool) (s : State) : Host.Outcome State Fault Refusal :=
  .next (s.opRun e 0x39 ue (fun c x t =>
    if c.waitMask (2 ^ x.h) = 0 then t.progFault e c 5 else t.setRun e (fun k => { k with wait := Wait.handle x.rd x.h }.wake)))

def execOpWaitany (e : Fin 64) (ue : Bool) (s : State) : Host.Outcome State Fault Refusal :=
  .next (s.opRun e 0x3A ue (fun c x t =>
    let m := c.waitMask (x.imm % 256)
    if m = 0 then t.progFault e c 5 else t.setRun e (fun k => { k with wait := Wait.any x.rd m }.wake)))

/-- A launched unit's work ends and its handle becomes done (R295). -/
def execHandleComplete (e : Fin 64) (h : Fin 8) (s : State) : Host.Outcome State Fault Refusal := .next (s.handleComplete e h)

/-! ## Meanings: offering, taking, yielding, ending -/

def execOpEnq (e : Fin 64) (ue : Bool) (s : State) : Host.Outcome State Fault Refusal :=
  .next (s.opRun e 0x40 ue (fun c x t => t.enq e c x))

def execOpTake (e : Fin 64) (ue : Bool) (s : State) : Host.Outcome State Fault Refusal :=
  .next (s.opRun e 0x41 ue (fun c x t => t.take e c x))

def execOpYield (e : Fin 64) (ue : Bool) (s : State) : Host.Outcome State Fault Refusal :=
  .next (s.opRun e 0x42 ue (fun c x t => t.yield e c x))

def execOpPost (e : Fin 64) (ue : Bool) (s : State) : Host.Outcome State Fault Refusal :=
  .next (s.opRun e 0x43 ue (fun c x t =>
    let w := c.g x.ra
    (t.traced e c x).endBarge e (postStatus (w % 256)) (w / 2 ^ 16 % 2 ^ 16) 0))

def execOpPostt (e : Fin 64) (ue : Bool) (s : State) : Host.Outcome State Fault Refusal :=
  .next (s.opRun e 0x44 ue (fun c x t => t.postt e c x))

/-! ## Meanings: TIME and SELF -/

def execOpTime (e : Fin 64) (ue : Bool) (s : State) : Host.Outcome State Fault Refusal :=
  .next (s.opRun e 0x48 ue (fun _ x t => t.setRun e (fun k => k.put x.rd (t.now % 2 ^ 64))))

def execOpSelf (e : Fin 64) (ue : Bool) (s : State) : Host.Outcome State Fault Refusal :=
  .next (s.opRun e 0x49 ue (fun c x t => t.setRun e (fun k => k.put x.rd (t.selfField e c.barge x.imm))))

end Sys2Proof.Machine
end

