-- ==== Sys2Proof/Machine/Dispatch.lean ====
section
/-!
DEFINITION. The dispatch of a command to its meaning, one arm for each constructor of Instr.
-/
namespace Sys2Proof.Machine

def exec (i : Instr) (s : State) : Host.Outcome State Fault Refusal :=
  match i with
  | .registerWrite src addr be data wide => Sys2Proof.Machine.execRegisterWrite src addr be data wide s
  | .lowWordRead src addr n parity => Sys2Proof.Machine.execLowWordRead src addr n parity s
  | .rcRead src addr n parity => Sys2Proof.Machine.execRcRead src addr n parity s
  | .pageLockWrite src page v => Sys2Proof.Machine.execPageLockWrite src page v s
  | .pageRejectCntWrite src page v => Sys2Proof.Machine.execPageRejectCntWrite src page v s
  | .pageEnableWrite src page v => Sys2Proof.Machine.execPageEnableWrite src page v s
  | .quiesceReqWrite src page v => Sys2Proof.Machine.execQuiesceReqWrite src page v s
  | .blockReady block => Sys2Proof.Machine.execBlockReady block s
  | .vectorUnmask vector => Sys2Proof.Machine.execVectorUnmask vector s
  | .passOpenRequest => Sys2Proof.Machine.execPassOpenRequest s
  | .gateOpen => Sys2Proof.Machine.execGateOpen s
  | .passDeadline => Sys2Proof.Machine.execPassDeadline s
  | .closeGateRequest => Sys2Proof.Machine.execCloseGateRequest s
  | .passAbort src => Sys2Proof.Machine.execPassAbort src s
  | .passCommit => Sys2Proof.Machine.execPassCommit s
  | .quadTransition tp a b stable => Sys2Proof.Machine.execQuadTransition tp a b stable s
  | .encLoss tp stable => Sys2Proof.Machine.execEncLoss tp stable s
  | .encLossEnd tp a b stable => Sys2Proof.Machine.execEncLossEnd tp a b stable s
  | .ssiPoll tp => Sys2Proof.Machine.execSsiPoll tp s
  | .ssiReadDone tp word err busy => Sys2Proof.Machine.execSsiReadDone tp word err busy s
  | .indexPulse tp stable => Sys2Proof.Machine.execIndexPulse tp stable s
  | .setPosWrite src tp v => Sys2Proof.Machine.execSetPosWrite src tp v s
  | .tpCfgWrite src tp v => Sys2Proof.Machine.execTpCfgWrite src tp v s
  | .entryArm src e w1 => Sys2Proof.Machine.execEntryArm src e w1 s
  | .entryDisarm src e w1 => Sys2Proof.Machine.execEntryDisarm src e w1 s
  | .entryFire e => Sys2Proof.Machine.execEntryFire e s
  | .entryBackstop e => Sys2Proof.Machine.execEntryBackstop e s
  | .pendingPulseStart n => Sys2Proof.Machine.execPendingPulseStart n s
  | .pulseSequenceEnd n => Sys2Proof.Machine.execPulseSequenceEnd n s
  | .passTimer => Sys2Proof.Machine.execPassTimer s
  | .timerEnWrite src v => Sys2Proof.Machine.execTimerEnWrite src v s
  | .csiLongPacket rx hdr vc dt data crcOk phy => Sys2Proof.Machine.execCsiLongPacket rx hdr vc dt data crcOk phy s
  | .frameStart rx hdr vc num phy => Sys2Proof.Machine.execFrameStart rx hdr vc num phy s
  | .frameEnd rx hdr vc phy => Sys2Proof.Machine.execFrameEnd rx hdr vc phy s
  | .frameTimeout k => Sys2Proof.Machine.execFrameTimeout k s
  | .slotEnable src k => Sys2Proof.Machine.execSlotEnable src k s
  | .slotDisable src k => Sys2Proof.Machine.execSlotDisable src k s
  | .slotRel src k => Sys2Proof.Machine.execSlotRel src k s
  | .deskewBurst rx ok phy => Sys2Proof.Machine.execDeskewBurst rx ok phy s
  | .fusionFrameStart => Sys2Proof.Machine.execFusionFrameStart s
  | .fusionFrameDone => Sys2Proof.Machine.execFusionFrameDone s
  | .loadGo src => Sys2Proof.Machine.execLoadGo src s
  | .loadPacket => Sys2Proof.Machine.execLoadPacket s
  | .cutRequest src => Sys2Proof.Machine.execCutRequest src s
  | .propagationDone => Sys2Proof.Machine.execPropagationDone s
  | .epochPublish => Sys2Proof.Machine.execEpochPublish s
  | .cutDone => Sys2Proof.Machine.execCutDone s
  | .pinWrite src n v => Sys2Proof.Machine.execPinWrite src n v s
  | .poolInit src => Sys2Proof.Machine.execPoolInit src s
  | .poolInitDone => Sys2Proof.Machine.execPoolInitDone s
  | .attCapture src n => Sys2Proof.Machine.execAttCapture src n s
  | .attRelease src n => Sys2Proof.Machine.execAttRelease src n s
  | .attDone n => Sys2Proof.Machine.execAttDone n s
  | .brickFetchDone node fine slot line eps crc data bad again => Sys2Proof.Machine.execBrickFetchDone node fine slot line eps crc data bad again s
  | .loadDesc src r => Sys2Proof.Machine.execLoadDesc src r s
  | .loadTool src r slot => Sys2Proof.Machine.execLoadTool src r slot s
  | .descDone r => Sys2Proof.Machine.execDescDone r s
  | .toolDone r => Sys2Proof.Machine.execToolDone r s
  | .rsPutWrite src r v => Sys2Proof.Machine.execRsPutWrite src r v s
  | .robotEnWrite src v => Sys2Proof.Machine.execRobotEnWrite src v s
  | .hbPub src r count => Sys2Proof.Machine.execHbPub src r count s
  | .candidateComplete index => Sys2Proof.Machine.execCandidateComplete index s
  | .candidateSwept g => Sys2Proof.Machine.execCandidateSwept g s
  | .reductionFinal => Sys2Proof.Machine.execReductionFinal s
  | .secondReductionFinal => Sys2Proof.Machine.execSecondReductionFinal s
  | .knownAnswerTest g ok => Sys2Proof.Machine.execKnownAnswerTest g ok s
  | .pathDrop src r => Sys2Proof.Machine.execPathDrop src r s
  | .solInstall src p => Sys2Proof.Machine.execSolInstall src p s
  | .solUninstall src p => Sys2Proof.Machine.execSolUninstall src p s
  | .solAbort src p => Sys2Proof.Machine.execSolAbort src p s
  | .updGo src => Sys2Proof.Machine.execUpdGo src s
  | .updDone => Sys2Proof.Machine.execUpdDone s
  | .solLaunch src p bg => Sys2Proof.Machine.execSolLaunch src p bg s
  | .problemStart g pre => Sys2Proof.Machine.execProblemStart g pre s
  | .runEnd g corr ue => Sys2Proof.Machine.execRunEnd g corr ue s
  | .solDeadline p => Sys2Proof.Machine.execSolDeadline p s
  | .resultWritten p => Sys2Proof.Machine.execResultWritten p s
  | .solInit src => Sys2Proof.Machine.execSolInit src s
  | .solInitDone => Sys2Proof.Machine.execSolInitDone s
  | .chgRegister src m => Sys2Proof.Machine.execChgRegister src m s
  | .chgRetire src m => Sys2Proof.Machine.execChgRetire src m s
  | .chgScan src a => Sys2Proof.Machine.execChgScan src a s
  | .refNow src a => Sys2Proof.Machine.execRefNow src a s
  | .chgRequest => Sys2Proof.Machine.execChgRequest s
  | .arraySlot a => Sys2Proof.Machine.execArraySlot a s
  | .rowOperationDone a ok => Sys2Proof.Machine.execRowOperationDone a ok s
  | .evaluationComplete req idx crcOk => Sys2Proof.Machine.execEvaluationComplete req idx crcOk s
  | .chgRequestDeadline req => Sys2Proof.Machine.execChgRequestDeadline req s
  | .refIdleDue a => Sys2Proof.Machine.execRefIdleDue a s
  | .refreshDeferEnd die => Sys2Proof.Machine.execRefreshDeferEnd die s
  | .vppFail => Sys2Proof.Machine.execVppFail s
  | .vppRestored => Sys2Proof.Machine.execVppRestored s
  | .tableEcc m => Sys2Proof.Machine.execTableEcc m s
  | .calWrite src => Sys2Proof.Machine.execCalWrite src s
  | .calExport src => Sys2Proof.Machine.execCalExport src s
  | .calRestore src => Sys2Proof.Machine.execCalRestore src s
  | .calCommandDone corr => Sys2Proof.Machine.execCalCommandDone corr s
  | .forcedApply a => Sys2Proof.Machine.execForcedApply a s
  | .calJobTrig src j => Sys2Proof.Machine.execCalJobTrig src j s
  | .calJobStepStart j => Sys2Proof.Machine.execCalJobStepStart j s
  | .calJobDone src j v => Sys2Proof.Machine.execCalJobDone src j v s
  | .calJobTimeout j => Sys2Proof.Machine.execCalJobTimeout j s
  | .bargeOffer osrc orig words sec => Sys2Proof.Machine.execBargeOffer osrc orig words sec s
  | .bargeStart => Sys2Proof.Machine.execBargeStart s
  | .queueHeadExpiry b => Sys2Proof.Machine.execQueueHeadExpiry b s
  | .engineWatchdog e => Sys2Proof.Machine.execEngineWatchdog e s
  | .basinFlush src b => Sys2Proof.Machine.execBasinFlush src b s
  | .takeTimeout e => Sys2Proof.Machine.execTakeTimeout e s
  | .programLoad src => Sys2Proof.Machine.execProgramLoad src s
  | .programLoadDone => Sys2Proof.Machine.execProgramLoadDone s
  | .opNop e ue => Sys2Proof.Machine.execOpNop e ue s
  | .opAdd e ue => Sys2Proof.Machine.execOpAdd e ue s
  | .opSub e ue => Sys2Proof.Machine.execOpSub e ue s
  | .opAnd e ue => Sys2Proof.Machine.execOpAnd e ue s
  | .opOr e ue => Sys2Proof.Machine.execOpOr e ue s
  | .opXor e ue => Sys2Proof.Machine.execOpXor e ue s
  | .opShl e ue => Sys2Proof.Machine.execOpShl e ue s
  | .opShr e ue => Sys2Proof.Machine.execOpShr e ue s
  | .opSar e ue => Sys2Proof.Machine.execOpSar e ue s
  | .opAddi e ue => Sys2Proof.Machine.execOpAddi e ue s
  | .opAndi e ue => Sys2Proof.Machine.execOpAndi e ue s
  | .opLi e ue => Sys2Proof.Machine.execOpLi e ue s
  | .opLih e ue => Sys2Proof.Machine.execOpLih e ue s
  | .opLd e ue q => Sys2Proof.Machine.execOpLd e ue q s
  | .opSt e ue q => Sys2Proof.Machine.execOpSt e ue q s
  | .opRegr e ue => Sys2Proof.Machine.execOpRegr e ue s
  | .opRegw e ue => Sys2Proof.Machine.execOpRegw e ue s
  | .opAadd e ue q => Sys2Proof.Machine.execOpAadd e ue q s
  | .opAadd2 e ue q => Sys2Proof.Machine.execOpAadd2 e ue q s
  | .opAswap e ue q => Sys2Proof.Machine.execOpAswap e ue q s
  | .opFadd e ue q => Sys2Proof.Machine.execOpFadd e ue q s
  | .opFadd2 e ue q => Sys2Proof.Machine.execOpFadd2 e ue q s
  | .opFswap e ue q => Sys2Proof.Machine.execOpFswap e ue q s
  | .opBeq e ue => Sys2Proof.Machine.execOpBeq e ue s
  | .opBne e ue => Sys2Proof.Machine.execOpBne e ue s
  | .opBlt e ue => Sys2Proof.Machine.execOpBlt e ue s
  | .opBge e ue => Sys2Proof.Machine.execOpBge e ue s
  | .opJmp e ue => Sys2Proof.Machine.execOpJmp e ue s
  | .opBstat e ue => Sys2Proof.Machine.execOpBstat e ue s
  | .opSetupSwp e ue => Sys2Proof.Machine.execOpSetupSwp e ue s
  | .opSetupSol e ue => Sys2Proof.Machine.execOpSetupSol e ue s
  | .opSetupChg e ue => Sys2Proof.Machine.execOpSetupChg e ue s
  | .opSetupFus e ue => Sys2Proof.Machine.execOpSetupFus e ue s
  | .opSetupDma e ue => Sys2Proof.Machine.execOpSetupDma e ue s
  | .opLaunch e ue => Sys2Proof.Machine.execOpLaunch e ue s
  | .opWait e ue => Sys2Proof.Machine.execOpWait e ue s
  | .opWaitany e ue => Sys2Proof.Machine.execOpWaitany e ue s
  | .opEnq e ue => Sys2Proof.Machine.execOpEnq e ue s
  | .opTake e ue => Sys2Proof.Machine.execOpTake e ue s
  | .opYield e ue => Sys2Proof.Machine.execOpYield e ue s
  | .opPost e ue => Sys2Proof.Machine.execOpPost e ue s
  | .opPostt e ue => Sys2Proof.Machine.execOpPostt e ue s
  | .opTime e ue => Sys2Proof.Machine.execOpTime e ue s
  | .opSelf e ue => Sys2Proof.Machine.execOpSelf e ue s
  | .handleComplete e h => Sys2Proof.Machine.execHandleComplete e h s
  | .bankRead q => Sys2Proof.Machine.execBankRead q s
  | .bankWrite q be data => Sys2Proof.Machine.execBankWrite q be data s
  | .bankAdd q data fetch => Sys2Proof.Machine.execBankAdd q data fetch s
  | .bankAdd2 q data fetch => Sys2Proof.Machine.execBankAdd2 q data fetch s
  | .bankSwap q data fetch => Sys2Proof.Machine.execBankSwap q data fetch s
  | .eccWriteback addr cyc => Sys2Proof.Machine.execEccWriteback addr cyc s
  | .scrubRead q => Sys2Proof.Machine.execScrubRead q s
  | .sealOpen src => Sys2Proof.Machine.execSealOpen src s
  | .sealLock src => Sys2Proof.Machine.execSealLock src s
  | .sealUnlock src => Sys2Proof.Machine.execSealUnlock src s
  | .sealWipe src => Sys2Proof.Machine.execSealWipe src s
  | .wipeDone failed => Sys2Proof.Machine.execWipeDone failed s
  | .inletDoorbell src n v => Sys2Proof.Machine.execInletDoorbell src n v s
  | .inletEntryFetched n entries failed => Sys2Proof.Machine.execInletEntryFetched n entries failed s
  | .inletEnWrite src n v => Sys2Proof.Machine.execInletEnWrite src n v s
  | .cqCiWrite src n v => Sys2Proof.Machine.execCqCiWrite src n v s
  | .cqCoalesceTimer n => Sys2Proof.Machine.execCqCoalesceTimer n s
  | .dmaDoorbell src c v => Sys2Proof.Machine.execDmaDoorbell src c v s
  | .dmaDescriptorDone c words data failed part => Sys2Proof.Machine.execDmaDescriptorDone c words data failed part s
  | .poisonedTlp failed => Sys2Proof.Machine.execPoisonedTlp failed s
  | .hotReset down => Sys2Proof.Machine.execHotReset down s
  | .pcieLinkUp speed width => Sys2Proof.Machine.execPcieLinkUp speed width s
  | .linkEnable src n v => Sys2Proof.Machine.execLinkEnable src n v s
  | .linkTrainingDone n lanes => Sys2Proof.Machine.execLinkTrainingDone n lanes s
  | .linkTestDone n ok => Sys2Proof.Machine.execLinkTestDone n ok s
  | .linkDown n => Sys2Proof.Machine.execLinkDown n s
  | .remoteRead l node tag addr len => Sys2Proof.Machine.execRemoteRead l node tag addr len s
  | .remoteWrite l node tag addr data => Sys2Proof.Machine.execRemoteWrite l node tag addr data s
  | .remoteOffer l node tag words => Sys2Proof.Machine.execRemoteOffer l node tag words s
  | .readResponse l node tag status data => Sys2Proof.Machine.execReadResponse l node tag status data s
  | .writeResponse l node tag status code => Sys2Proof.Machine.execWriteResponse l node tag status code s
  | .requestTimeout tag => Sys2Proof.Machine.execRequestTimeout tag s
  | .helloMsg l node plink ox oy oz corr => Sys2Proof.Machine.execHelloMsg l node plink ox oy oz corr s
  | .lstate l node links inSvc => Sys2Proof.Machine.execLstate l node links inSvc s
  | .pinset l node epochs => Sys2Proof.Machine.execPinset l node epochs s
  | .cutReq l node => Sys2Proof.Machine.execCutReq l node s
  | .prepareMsg l node epoch merged => Sys2Proof.Machine.execPrepareMsg l node epoch merged s
  | .readyMsg l node epoch => Sys2Proof.Machine.execReadyMsg l node epoch s
  | .waitingMsg l node epoch => Sys2Proof.Machine.execWaitingMsg l node epoch s
  | .cutCommitMsg l node epoch => Sys2Proof.Machine.execCutCommitMsg l node epoch s
  | .committedMsg l node epoch => Sys2Proof.Machine.execCommittedMsg l node epoch s
  | .deltaMsg l node pairs => Sys2Proof.Machine.execDeltaMsg l node pairs s
  | .deltaEnd l node epoch => Sys2Proof.Machine.execDeltaEnd l node epoch s
  | .nodeLostMsg l node lost => Sys2Proof.Machine.execNodeLostMsg l node lost s
  | .syncReq l node regions => Sys2Proof.Machine.execSyncReq l node regions s
  | .shadowQ l node epoch pts res => Sys2Proof.Machine.execShadowQ l node epoch pts res s
  | .nodeTimeout node => Sys2Proof.Machine.execNodeTimeout node s
  | .helloTimer => Sys2Proof.Machine.execHelloTimer s
  | .pinsetTimer => Sys2Proof.Machine.execPinsetTimer s
  | .cutTimeout node => Sys2Proof.Machine.execCutTimeout node s
  | .rehomeCopyDone r bricks => Sys2Proof.Machine.execRehomeCopyDone r bricks s
  | .nodeTestTimeout => Sys2Proof.Machine.execNodeTestTimeout s
  | .svcRequest src u v => Sys2Proof.Machine.execSvcRequest src u v s
  | .unitTestDone u ok => Sys2Proof.Machine.execUnitTestDone u ok s
  | .shadowItem u w => Sys2Proof.Machine.execShadowItem u w s
  | .safArm src => Sys2Proof.Machine.execSafArm src s
  | .telegramSubmit src r v => Sys2Proof.Machine.execTelegramSubmit src r v s
  | .telegramCheck r => Sys2Proof.Machine.execTelegramCheck r s
  | .robotStale r => Sys2Proof.Machine.execRobotStale r s
  | .verifyTick => Sys2Proof.Machine.execVerifyTick s
  | .mooringLaneGo src => Sys2Proof.Machine.execMooringLaneGo src s
  | .mooringLaneDone same => Sys2Proof.Machine.execMooringLaneDone same s
  | .safAck src v => Sys2Proof.Machine.execSafAck src v s
  | .testPulseStart c => Sys2Proof.Machine.execTestPulseStart c s
  | .testPulseEnd c => Sys2Proof.Machine.execTestPulseEnd c s
  | .readbackCheck c fb => Sys2Proof.Machine.execReadbackCheck c fb s
  | .mlKat ok => Sys2Proof.Machine.execMlKat ok s
  | .redKat ok => Sys2Proof.Machine.execRedKat ok s
  | .engWd => Sys2Proof.Machine.execEngWd s
  | .islWd => Sys2Proof.Machine.execIslWd s
  | .safLockstep => Sys2Proof.Machine.execSafLockstep s
  | .sramUe ce => Sys2Proof.Machine.execSramUe ce s
  | .safXtal => Sys2Proof.Machine.execSafXtal s
  | .safVolt => Sys2Proof.Machine.execSafVolt s
  | .safClkmon => Sys2Proof.Machine.execSafClkmon s
  | .safTemp r => Sys2Proof.Machine.execSafTemp r s
  | .conversionCycle raw bad => Sys2Proof.Machine.execConversionCycle raw bad s
  | .throttleFall => Sys2Proof.Machine.execThrottleFall s
  | .ntcConversion rin rout => Sys2Proof.Machine.execNtcConversion rin rout s
  | .keepWarmAdjust => Sys2Proof.Machine.execKeepWarmAdjust s
  | .kwShort die => Sys2Proof.Machine.execKwShort die s
  | .rthUpdate => Sys2Proof.Machine.execRthUpdate s
  | .coolingDegraded => Sys2Proof.Machine.execCoolingDegraded s
  | .degradedClear => Sys2Proof.Machine.execDegradedClear s
  | .loopUpdate l sense volts full => Sys2Proof.Machine.execLoopUpdate l sense volts full s
  | .loopFault l => Sys2Proof.Machine.execLoopFault l s
  | .clrFault src l => Sys2Proof.Machine.execClrFault src l s
  | .gpioSet src v => Sys2Proof.Machine.execGpioSet src v s
  | .gpioClr src v => Sys2Proof.Machine.execGpioClr src v s
  | .gpioEdge n level stood => Sys2Proof.Machine.execGpioEdge n level stood s
  | .arpRequest r from_ ip => Sys2Proof.Machine.execArpRequest r from_ ip s
  | .icmpEcho r from_ ip data => Sys2Proof.Machine.execIcmpEcho r from_ ip data s
  | .heartbeat => Sys2Proof.Machine.execHeartbeat s
  | .messageSend => Sys2Proof.Machine.execMessageSend s
  | .retransmit seq => Sys2Proof.Machine.execRetransmit seq s
  | .fleetAck r from_ bytes => Sys2Proof.Machine.execFleetAck r from_ bytes s
  | .keyReload src => Sys2Proof.Machine.execKeyReload src s
  | .arpRetry => Sys2Proof.Machine.execArpRetry s
  | .sgmiiLinkChange up speed => Sys2Proof.Machine.execSgmiiLinkChange up speed s
  | .mdioGo src v answer => Sys2Proof.Machine.execMdioGo src v answer s
  | .setAddr code addr count pec => Sys2Proof.Machine.execSetAddr code addr count pec s
  | .smbusRead count pec => Sys2Proof.Machine.execSmbusRead count pec s
  | .smbusWrite v count pec => Sys2Proof.Machine.execSmbusWrite v count pec s
  | .smbusStatus pec => Sys2Proof.Machine.execSmbusStatus pec s
  | .alertResponse => Sys2Proof.Machine.execAlertResponse s
  | .smbusTimeout => Sys2Proof.Machine.execSmbusTimeout s
  | .bootDone a b mooring => Sys2Proof.Machine.execBootDone a b mooring s
  | .lcAdvance src key => Sys2Proof.Machine.execLcAdvance src key s
  | .secImport src => Sys2Proof.Machine.execSecImport src s
  | .secSeal src => Sys2Proof.Machine.execSecSeal src s
  | .secUnseal src => Sys2Proof.Machine.execSecUnseal src s
  | .otpWrite src key => Sys2Proof.Machine.execOtpWrite src key s
  | .svnCommit src => Sys2Proof.Machine.execSvnCommit src s
  | .huTest src => Sys2Proof.Machine.execHuTest src s
  | .secCommandDone otpBad => Sys2Proof.Machine.execSecCommandDone otpBad s
  | .tamperEvent src fires live => Sys2Proof.Machine.execTamperEvent src fires live s
  | .holdupJudgement v charge => Sys2Proof.Machine.execHoldupJudgement v charge s
  | .testDischargeDecision before after => Sys2Proof.Machine.execTestDischargeDecision before after s
  | .powerLoss => Sys2Proof.Machine.execPowerLoss s
  | .powerOn node smb bad corr seq testEn => Sys2Proof.Machine.execPowerOn node smb bad corr seq testEn s
  | .brownout r => Sys2Proof.Machine.execBrownout r s
  | .railOutOfTolerance r high => Sys2Proof.Machine.execRailOutOfTolerance r high s
  | .railTelemetry v cur => Sys2Proof.Machine.execRailTelemetry v cur s
  | .fullRstN => Sys2Proof.Machine.execFullRstN s
  | .sysReset src v => Sys2Proof.Machine.execSysReset src v s
  | .fullResetRelease node smb bad corr => Sys2Proof.Machine.execFullResetRelease node smb bad corr s
  | .pllLost n => Sys2Proof.Machine.execPllLost n s
  | .refLost => Sys2Proof.Machine.execRefLost s
  | .wedgeReport t => Sys2Proof.Machine.execWedgeReport t s
  | .synTick => Sys2Proof.Machine.execSynTick s
  | .sotErr rx phy => Sys2Proof.Machine.execSotErr rx phy s
  | .packetResend n uncorr acks corr => Sys2Proof.Machine.execPacketResend n uncorr acks corr s
  | .syncAnswer l node epoch entries => Sys2Proof.Machine.execSyncAnswer l node epoch entries s
  | .feedbackDisagree c fb => Sys2Proof.Machine.execFeedbackDisagree c fb s
  | .refclkReturn => Sys2Proof.Machine.execRefclkReturn s
  | .railReturn r => Sys2Proof.Machine.execRailReturn r s
  | .arpReply r ip => Sys2Proof.Machine.execArpReply r ip s
  | .unsupportedFrame => Sys2Proof.Machine.execUnsupportedFrame s
  | .bar4Access off wr n errs => Sys2Proof.Machine.execBar4Access off wr n errs s
  | .bar2Unmapped off wr n qs => Sys2Proof.Machine.execBar2Unmapped off wr n qs s
  | .slotRelease n => Sys2Proof.Machine.execSlotRelease n s
  | .testDischargeStart => Sys2Proof.Machine.execTestDischargeStart s

end Sys2Proof.Machine
end

