-- ==== Sys2Proof/Safety.lean ====
section
/-!
DEFINITION. What counts as a safe run, and the words the statements use: which parts of the state a command leaves alone, when a
register takes a write, and the canonical form of what the state stores sparsely.
-/
namespace Sys2Proof.Machine

/-- The parts of the state beside its registers.  `mem` is the contents of device memory, byte by byte. -/
inductive Part
  | now | itime | latches | staged | wosDone | mem | out | freeCnt | waitIn | msix | tow | req | pass | sol | chg | hst | dsp
  | ing | wld | spd | fio | sec | saf | cal | aqd | thm | pwr | pending
deriving DecidableEq, Repr

/-- A part of the state is the same in two states. -/
def State.samePart (s t : State) : Part → Prop
  | .now => t.now = s.now
  | .itime => t.itime = s.itime
  | .latches => t.latches = s.latches
  | .staged => t.staged = s.staged
  | .wosDone => t.wosDone = s.wosDone
  | .mem => ∀ a, t.memGet a = s.memGet a
  | .out => t.out = s.out
  | .freeCnt => t.freeCnt = s.freeCnt
  | .waitIn => t.waitIn = s.waitIn
  | .msix => t.msix = s.msix
  | .tow => t.tow = s.tow
  | .req => t.req = s.req
  | .pass => t.pass = s.pass
  | .sol => t.sol = s.sol
  | .chg => t.chg = s.chg
  | .hst => t.hst = s.hst
  | .dsp => t.dsp = s.dsp
  | .ing => t.ing = s.ing
  | .wld => t.wld = s.wld
  | .spd => t.spd = s.spd
  | .fio => t.fio = s.fio
  | .sec => t.sec = s.sec
  | .saf => t.saf = s.saf
  | .cal => t.cal = s.cal
  | .aqd => t.aqd = s.aqd
  | .thm => t.thm = s.thm
  | .pwr => t.pwr = s.pwr
  | .pending => t.pending = s.pending

/-- From `s` to `t` nothing changes but the parts and the register words listed: every other part is the same, every byte of
memory reads as before unless `mem` is listed, and every other register word reads as before. -/
def OnlyChanges (s t : State) (parts : List Part) (regs : List Nat) : Prop :=
  (∀ p, p ∉ parts → s.samePart t p) ∧ ∀ a, a ∉ regs → t.rd a = s.rd a

/-- From `s` to `t` no byte of memory changes outside [lo, hi). -/
def MemOnlyIn (s t : State) (lo hi : Nat) : Prop := ∀ a, a < lo ∨ hi ≤ a → t.memGet a = s.memGet a

/-- A write of `src` reaches the block register at `a`: the source may write at all, the page is ready, the source is one the
register takes, it has no staged low word on the page (R40, R48, R50), no MDIO access is under way, and no request of another node is held
at a quiesced link (R52). -/
def State.takes (s : State) (src : Source) (a : Nat) : Prop :=
  s.sourceShut src = false ∧ s.ready (pageBase a) = true ∧ s.allowed src a = true ∧
    findStage (pageBase a) src s.staged = none ∧ s.rdb A.mgtMdio 31 = false ∧ ∀ x ∈ s.waitIn, x.2.remote = false

/-- A write of `src` reaches the header of the page at `p`. -/
def State.takesHeader (s : State) (src : Source) (p : Nat) : Prop :=
  s.sourceShut src = false ∧ findStage p src s.staged = none ∧ s.rdb A.mgtMdio 31 = false ∧ ∀ x ∈ s.waitIn, x.2.remote = false

/-- The page at `p` shows one more interrupt cause, bit `i` of PAGE_IRQ_RAW (R55). -/
def Raised (s t : State) (p i : Nat) : Prop := t.rd (p + 0x01C) = s.rd (p + 0x01C) ||| 2 ^ i

/-- The words of the header that the error of a page changes (R54). -/
def errorRegs (p : Nat) : List Nat := [p + 0x00C, p + 0x01C, p + 0x02C, p + 0x030]

/-- An error is recorded on the page at `p` (R54): FAULT is set and raised, and the first error leaves its code and its info. -/
def ErrorNoted (s t : State) (p code info : Nat) : Prop :=
  t.rdb (p + 0x00C) 9 = true ∧ Raised s t p 1 ∧ (s.rdb (p + 0x00C) 9 = false → t.rd (p + 0x02C) = code ∧ t.rd (p + 0x030) = info)

/-- All that happens is that an error is recorded on the page at `p`. -/
def OnlyError (s t : State) (p code info : Nat) : Prop :=
  ErrorNoted s t p code info ∧ OnlyChanges s t [.msix, .out] (errorRegs p)

/-- A 16-bit counter has counted one more, and stays at its top (Table PAG-1). -/
def Counted (s t : State) (a : Nat) : Prop := t.rd a = min 0xFFFF (s.rd a + 1)

/-- Engine `e`, in the context `c`, fetches the legal word `w` of the opcode `op` (R281, R282, R287). -/
def State.fetches (s : State) (e op : Nat) (c : Ctx) (w : Nat) : Prop :=
  s.active e = some c ∧ c.barge.prog % 8 = 0 ∧ c.pc ≤ 1023 ∧ (c.barge.secure = true → 0xC0000 ≤ c.barge.prog) ∧
    c.barge.prog + 8 * c.pc < 0x100000 ∧ leNat (Memory.read s.dsp.store (c.barge.prog + 8 * c.pc) 8) = w ∧ legalWord w = true ∧ w % 256 = op

/-- A context whose instruction has acted on the device: its operands join the trace, while there is one (R275). -/
def Ctx.noted (c : Ctx) (x : Ins) : Ctx := { c with trace := c.trace.map (fun l => l ++ c.operands x) }

/-- Of the dispatcher, all that changes is that engine `e` goes on in the context `c`. -/
def GoesOn (s t : State) (e : Nat) (c : Ctx) : Prop :=
  t.dsp = { s.dsp with engines := upd (fun g => { g with run := some c }) s.dsp.engines e }

/-- Bytes that a barge in the context `c` may reach and that hold no uncorrectable word (R289, R317). -/
def State.reaches (s : State) (c : Ctx) (a n : Nat) : Prop :=
  (inSpd a n = true ∨ inPound a n = true ∧ c.barge.secure = true ∧ s.sealState = 0) ∧ wordsIn s.spd.ue a n = []

end Sys2Proof.Machine

namespace Sys2Proof
open Machine

/-- A write of the other port meets the request on its word in the same bank cycle, with these data. -/
def BankReq.meetsWrite (q : BankReq) (d : Nat) : Prop := ∃ m, q.met = some m ∧ m.kind = 1 ∧ m.data = d

/-- The request ranks before what the other port presents (R307): it is older, or of the same age and on port A. -/
def BankReq.isFirst (q : BankReq) : Prop := ∀ m, q.met = some m → m.age < q.age ∨ m.age = q.age ∧ onPortB q.cls = false

/-- An answer that a bank gives on the port of a request, with its tag (Table SPD-6). -/
def BankReq.answer (q : BankReq) (stall : Bool) (rdata : Option DWord) (done busy ce ue : Bool) : Out :=
  .bank (onPortB q.cls) (bankOf (wordAddr q.addr)) (rowOf (wordAddr q.addr)) q.tag stall rdata done busy ce ue

end Sys2Proof

namespace Sys2Proof.Machine

/-- What a port of a bank shows once a request for a word has been presented in a cycle. -/
def State.presented (t : State) (q : BankReq) (cyc : Nat) : Prop :=
  ∃ u, t.portUse (bankOf (wordAddr q.addr)) (onPortB q.cls) = some u ∧ u.last = cyc ∧ u.addr = wordAddr q.addr ∧ u.scrub = false

/-- An uncorrectable word is recorded on the scratchpad's page for a requester (R305, Table SPD-7): the words that may change. -/
def ueRegs : List Nat := [A.spdCeCnt, A.spdUeCnt, A.spdUeAddr, A.spdUeAddr + 4, A.spdUeInfo] ++ errorRegs 0x300000

/-- The words that an entry of the security event log may change (R460). -/
def secLogRegs : List Nat := [A.secLogWr, A.secLogLost, 0x36001C] ++ (rangeFrom 0 256).map A.secLogRec

/-- The words that an event message of the fleet report protocol may change (R431). -/
def fleetRegs : List Nat := [A.mgtSeq, A.mgtStat, A.mgtLost, 0x35801C]

/-- The words that an entry of the safety event log may change, the fleet report's among them (R401). -/
def safLogRegs : List Nat := [A.safLogWr, A.safLogLost, A.safWarnCnt, 0x33001C] ++ (rangeFrom 0 256).map A.safLogRec ++ fleetRegs

/-- A requester may reach the sealed pound (R316). -/
def mayReachPound (cls : Nat) (secure : Bool) : Prop := cls = 3 ∨ (cls = 1 ∨ cls = 4) ∧ secure = true

/-- A bank takes a request of the kind `k`, as in BankMet (R306, R307, R309, R316, R317, R322): the banks run and are filled, the requester
may reach the word, its port presents no other request in that cycle, the other port has not reserved the word, and no atomic or partial
write is met that ranks first, or that it is itself. -/
def State.bankTakes (s : State) (q : BankReq) (k : Nat) : Prop :=
  let w := wordAddr q.addr
  s.runs 2 = true ∧ s.ready 0x300000 = true ∧
    (regionOf w = .scratchpad ∨ regionOf w = .pound ∧ mayReachPound q.cls q.secure ∧ s.sealState = 0) ∧
    (∀ u, s.portUse (bankOf w) (onPortB q.cls) = some u → u.last ≠ q.cyc ∧ u.keeps q.cyc (some (w, q.cls, q.id)) = false) ∧
    (∀ r ∈ s.spd.resv, ¬(r.addr = w ∧ r.portB ≠ onPortB q.cls ∧ q.cyc ≤ r.last)) ∧
    ∀ m, q.met = some m → (q.age < m.age ∨ q.age = m.age ∧ onPortB q.cls = true) → k ≠ 2 ∧ m.kind ≠ 2

/-- From `s` to `t` nothing changes but that a packet of a node has come over a link (R372): it is counted, and its time is kept. -/
def Heard (s t : State) (link node : Nat) : Prop :=
  t.rd (A.aqdLRx link) = (s.rd (A.aqdLRx link) + 1) % 2 ^ 32 ∧
    t.aqd = { s.aqd with heard := (node, s.now) :: s.aqd.heard.filter (fun x => x.1 ≠ node) } ∧ OnlyChanges s t [.aqd] [A.aqdLRx link]

/-- The words that a change of the service state on the page at `p` may change (R53, R58). -/
def svcRegs (p : Nat) : List Nat := [p + 0x00C, p + 0x01C] ++ fleetRegs

/-- The register store is in its canonical form: addresses strictly rising, and no word listed at its reset value. -/
def State.regsWf (s : State) : Bool := Sparse.wf resetWord s.regs

/-- What every step keeps: the register store in its canonical form. -/
def State.Inv (s : State) : Prop := s.regsWf = true

/-- A step is safe when it ends neither in a fault nor in a refusal. -/
def SafeStep (s : State) : Prop := ∃ t, step s = .next t

end Sys2Proof.Machine
end

