-- ==== Sys2Proof/Certificates/Slice0/Obligations.lean ====
section
/-!
DEFINITION. The statements for the provers, chapter by chapter: what each command answers and leaves unchanged, the rules of the
whole block, and the form every step keeps.
-/
open Sys2Proof Sys2Proof.Machine

/-! ## One step, and what every step keeps -/

/-- A step takes the command at the front of the queue and runs it on the state with the queue's rest, first in, first out. -/
def Obligations.StepRunsTheFrontCommand : Prop :=
  ∀ (c : Instr) (rest : List Instr) (s : State),
    step { s with pending := c :: rest } = exec c { s with pending := rest }

/-- The model's choice (log entry 2): on an empty queue 10 ns pass.  W64 counts while the TPS domain runs (R471), the island's time
in every case, and SMB_ALERT_N stays or becomes asserted while an enabled STATUS bit is 1; nothing else changes. -/
def Obligations.AnEmptyQueueLetsTenNanosecondsPass : Prop :=
  ∀ s : State, s.pending = [] →
    ∃ t, step s = .next t ∧
      t.now = (if tbit (s.rd (A.clkDomRun + 4)) 19 then s.now + 10 else s.now) ∧ t.itime = s.itime + 10 ∧
      t.fio = { s.fio with smbAlert := s.fio.smbAlert || s.smbAlerts } ∧ OnlyChanges s t [.now, .itime, .fio] []

/-- No command of the table ends in a fault or a refusal: every step is safe. -/
def Obligations.EveryStepAnswers : Prop := (∀ s : State, SafeStep s) ∧ ∀ (c : Instr) (s : State), ∃ t, exec c s = .next t

/-- Every step keeps the register store in its canonical form, from every state that has it. -/
def Obligations.EveryStepKeepsTheRegistersCanonical : Prop :=
  ∀ s t : State, s.Inv → step s = .next t → t.Inv

/-- The register store is canonical at reset. -/
def Obligations.ResetIsCanonical : Prop := State.reset.Inv

/-- What reset leaves of the page header (Table PAG-7, R36, R50, R51): PAGE_ID by type, instance and index, layout version 1.0, no
page READY, ENABLE 1 only where it is fixed, SVC 2 on the link pages, no lock, no rejection, no interrupt and no error; no gate is
open, no barge is in the dispatcher, and no command waits. -/
def Obligations.ResetLeavesThePageHeaders : Prop :=
  (∀ p r, pageRow p = some r → p % 0x1000 = 0 →
    State.reset.rd p % 2 ^ 24 = pageId r p % 2 ^ 24 ∧ State.reset.rd p / 2 ^ 24 = r.typ ∧
      State.reset.rd (p + 0x004) = 0x0100 ∧
      State.reset.rd (p + 0x008) = (if enableFixed r then 1 else 0) ∧
      State.reset.rd (p + 0x00C) = (if r.typ = 0x0E then 2 * 4 else 0) ∧
      State.reset.rd (p + 0x010) = 0 ∧ State.reset.rd (p + 0x014) = 0 ∧ State.reset.rd (p + 0x018) = 0 ∧
      State.reset.rd (p + 0x01C) = 0 ∧ State.reset.rd (p + 0x020) = 0 ∧ State.reset.rd (p + 0x028) = 0 ∧
      State.reset.rd (p + 0x02C) = 0 ∧ State.reset.rd (p + 0x030) = 0) ∧
  State.reset.rd 0x200000 = 0x0B000000 ∧ State.reset.rd (0x201000 + 5 * 0x1000) = 0x0B005001 ∧
  State.reset.rd (0x100000 + 200 * 0x1000) = 0x0A0C8000 ∧
  State.reset.pass.isOpen = false ∧ State.reset.dsp.ready = [] ∧ State.reset.pending = []

/-! ## Register access (chapter 2) -/

/-- Table PAG-5, bit by bit, for the bits `m` of a word under one access code: a bit outside `m` stands; RO, RC and WO bits keep their
stored value; RW takes the written bit, and so does RWL, unless an enable refuses the bit or, for RWL, its lock group is set; W1C clears
where 1 is written; WOS takes the written bit; WS only sets; WC clears. -/
def Obligations.AccessCodesActByTheirTable : Prop :=
  ∀ (lock gate v m : Nat) (e : WordEffect) (i : Nat),
    let old := tbit e.value i
    let new := fun acc => tbit (applyMask lock gate v acc m e).value i
    (tbit m i = false → ∀ acc, new acc = old) ∧
    (tbit m i = true →
      new .ro = old ∧ new .rc = old ∧ new .wo = old ∧ new .wc = false ∧ new .ws = (old || tbit v i) ∧
      new .w1c = (old && !tbit v i) ∧ new .wos = tbit v i ∧ new .rw = (if tbit gate i then old else tbit v i) ∧
      ∀ g, new (.rwl g) = if tbit lock g || tbit gate i then old else tbit v i)

/-- REGISTER_WRITE of one word: outside every page group it is counted and recorded as UNMAPPED (R33); at an offset of no register it
changes nothing (R38); before READY it is recorded as NOT_READY, also when it is partial (R50); a write that does not enable all four
bytes is recorded as PARTIAL_WRITE (R37); from a source that the register does not take it is rejected (R48); and else the value by the
access codes of the register (AccessCodesActByTheirTable) is stored, before what the write sets going, and a write that a locked or guarded
field refuses is rejected with the fields that take it written all the same (R44, R527).  A write ends with the service of the requests of
other nodes whose links it has released from quiesce (R52). -/
def Obligations.RegisterWriteTakesEffectByTheRules : Prop :=
  (∀ (src : Source) (a be v : Nat) (s : State), a % 4 = 0 → a < 2 ^ 26 →
    exec (.registerWrite src a be v false) s = .next (s.writeAt src a (be % 16) (v % 2 ^ 32)).remoteFreed) ∧
  (∀ s : State, (∀ x ∈ s.waitIn, x.2.remote = true → s.pageOpen x.1 = false) → s.remoteFreed = s) ∧
  ∀ (src : Source) (a be v : Nat) (s : State), a % 4 = 0 → a < 2 ^ 26 → (∀ x ∈ s.waitIn, x.2.remote = true → s.pageOpen x.1 = false) →
    (pageRow a = none → ∃ t, exec (.registerWrite src a be v false) s = .next t ∧
      t.rd A.sysUnmapCnt = min 0xFFFF (s.rd A.sysUnmapCnt + 1) ∧ t.rdb 0x00C 9 = true ∧ Raised s t 0 1 ∧
      (s.rdb 0x00C 9 = false → t.rd 0x02C = 0x0001 ∧ t.rd 0x030 = a + srcCode src * 2 ^ 28) ∧
      OnlyChanges s t [.msix, .out] [A.sysUnmapCnt, 0x00C, 0x01C, 0x02C, 0x030]) ∧
    ∀ r, pageRow a = some r → 0x40 ≤ a % 0x1000 → s.rdb A.mgtMdio 31 = false →
      (findRow (rowsOf r.kind) (a % 0x1000) = none →
        ∃ t, exec (.registerWrite src a be v false) s = .next t ∧ OnlyChanges s t [] []) ∧
      ∀ row d, findRow (rowsOf r.kind) (a % 0x1000) = some (row, d) →
        (s.sourceShut src = true → findStage (pageBase a) src s.staged = none →
          exec (.registerWrite src a be v false) s = .next (s.reject src a)) ∧
        (s.sourceShut src = false → s.ready (pageBase a) = false →
          exec (.registerWrite src a be v false) s = .next (s.pageErr (pageBase a) 0x0003 (errInfo src a))) ∧
        (s.sourceShut src = false → s.ready (pageBase a) = true → be % 16 ≠ 15 →
          exec (.registerWrite src a be v false) s = .next (s.pageErr (pageBase a) 0x0002 (errInfo src a))) ∧
        (s.sourceShut src = false → s.ready (pageBase a) = true → be % 16 = 15 → findStage (pageBase a) src s.staged = none →
          (s.allowed src (a - d) = false →
            exec (.registerWrite src a be v false) s = .next (s.reject src a)) ∧
          (s.allowed src (a - d) = true → row.wide = false → maskWhere (fun x => x = .wos) 0 row.masks = 0 →
            ∀ e, e = applyMasks (s.rd (pageBase a + 0x010)) (s.gateBits a) (v % 2 ^ 32) 0 row.masks ⟨s.rd a, 0, 0⟩ →
              let u := if rejects (s.rd a) (v % 2 ^ 32) e then s.reject src a else s
              (e.accept = 0 → exec (.registerWrite src a be v false) s = .next u) ∧
              (e.accept ≠ 0 → exec (.registerWrite src a be v false) s =
                .next (State.regHook src a (s.rd a) (v % 2 ^ 32) (u.wr a e.value)).mdioFree.remoteFreed)))

/-- REGISTER_WRITE of a 64-bit register (R37, R40): the write of the low word is staged and changes no register; the write of the
high word by the same source then takes both words; with nothing staged it takes the register's current low word; a write of any other
register of the page by that source first drops the staged word, records STAGE_DROPPED, and acts as it does with nothing staged, also where
it is refused; a write of a header word acts and then leaves that error, which stands where the write clears FAULT (R43, R54); and an
aligned 8-byte write is the low word followed at once by the high word. -/
def Obligations.SixtyFourBitRegistersAreWrittenWhole : Prop :=
  (∀ (src : Source) (a v : Nat) (s : State) (r : PageRow) (row : RegRow), a % 4 = 0 → a < 2 ^ 26 → pageRow a = some r →
    0x40 ≤ a % 0x1000 → row.wide = true → maskWhere (fun x => x = .wos) 0 row.masks = 0 → maskWhere (fun x => x = .wos) 1 row.masks = 0 →
    s.sourceShut src = false → s.ready (pageBase a) = true → s.rdb A.mgtMdio 31 = false →
    (∀ x ∈ s.waitIn, x.2.remote = false) →
    (findRow (rowsOf r.kind) (a % 0x1000) = some (row, 0) → s.allowed src a = true → findStage (pageBase a) src s.staged = none →
      ∀ e, e = applyMasks (s.rd (pageBase a + 0x010)) (s.gateBits a) (v % 2 ^ 32) 0 row.masks ⟨s.rd a, 0, 0⟩ →
        rejects (s.rd a) (v % 2 ^ 32) e = false → e.accept ≠ 0 →
        ∃ t, exec (.registerWrite src a 15 v false) s = .next t ∧
          findStage (pageBase a) src t.staged = some ⟨pageBase a, src, a % 0x1000, BitVec.ofNat 32 e.value⟩ ∧
          OnlyChanges s t [.staged] []) ∧
    (findRow (rowsOf r.kind) (a % 0x1000) = some (row, 4) → s.allowed src (a - 4) = true →
      ∀ e, e = applyMasks (s.rd (pageBase a + 0x010)) (s.gateBits a) (v % 2 ^ 32) 1 row.masks ⟨s.rd a, 0, 0⟩ →
        rejects (s.rd a) (v % 2 ^ 32) e = false → e.accept ≠ 0 →
        (∀ st, findStage (pageBase a) src s.staged = some st → st.off + 4 = a % 0x1000 →
          exec (.registerWrite src a 15 v false) s = .next (State.regHook src (a - 4) (s.rd64 (a - 4)) (st.low.toNat + e.value * 2 ^ 32)
            ((s.unstage (pageBase a) src).wr64 (a - 4) (st.low.toNat + e.value * 2 ^ 32))).mdioFree.remoteFreed) ∧
        (findStage (pageBase a) src s.staged = none →
          exec (.registerWrite src a 15 v false) s = .next (State.regHook src (a - 4) (s.rd64 (a - 4))
            (s.live src (a - 4) + e.value * 2 ^ 32)
            ((s.unstage (pageBase a) src).wr64 (a - 4) (s.live src (a - 4) + e.value * 2 ^ 32))).mdioFree.remoteFreed)) ∧
    (a % 8 = 0 → ∀ t, exec (.registerWrite src a 15 (v % 2 ^ 32) false) s = .next t →
      exec (.registerWrite src a 0xFF v true) s = exec (.registerWrite src (a + 4) 15 (v / 2 ^ 32) false) t)) ∧
  ∀ (src : Source) (a v : Nat) (s : State) (r : PageRow) (st : Stage), a % 4 = 0 → a < 2 ^ 26 → pageRow a = some r →
    findStage (pageBase a) src s.staged = some st → (∀ x ∈ s.waitIn, x.2.remote = false) →
    ((s.sourceShut src = true ∨ s.ready (pageBase a) = true) →
      (∃ row d, findRow (rowsOf r.kind) (a % 0x1000) = some (row, d) ∧ 0x40 ≤ a % 0x1000 ∧ st.off ≠ a % 0x1000 - d) →
      ∃ t, t = (s.unstage (pageBase a) src).pageErr (pageBase a) 0x0004 (errInfo src a) ∧ findStage (pageBase a) src t.staged = none ∧
        exec (.registerWrite src a 15 v false) s = exec (.registerWrite src a 15 v false) t) ∧
    (s.sourceShut src = false → a % 0x1000 < 0x34 → ∀ u, exec (.registerWrite src a 15 v false) (s.unstage (pageBase a) src) = .next u →
      u.rdb A.mgtMdio 31 = false → s.rdb A.mgtMdio 31 = false →
      exec (.registerWrite src a 15 v false) s = .next (u.pageErr (pageBase a) 0x0004 (errInfo src a)))

/-- LOW_WORD_READ and RC_READ: a read of the low word of a 64-bit register returns it and latches the high word for the page and the
source (R39); a later read of the matching high word returns the latched one, any other high word the live one; a read of a 32-bit
register returns its value, and its RC bits clear (R42), but DSP_B_HWM starts again at the entries that are held (Table DSP-7) and PWR_R_MIN
at 0xFFFF (log entry 241); reads
before READY and at no register return 0 (R38, R50); nothing else changes.  An aligned read of 8 bytes is the low word and at once the
high word, and one of 1 or 2 bytes reads the word and returns the addressed bytes of it (R37).  A parity error found by a read is recorded
on the page as CFG_PARITY (Table PAG-6) and changes nothing of the read. -/
def Obligations.ReadsReturnLatchAndClear : Prop :=
  ∀ (src : Source) (a : Nat) (s : State) (r : PageRow), a % 4 = 0 → a < 2 ^ 26 → pageRow a = some r → 0x40 ≤ a % 0x1000 →
    ∀ c, c = Instr.lowWordRead src a 4 false ∨ c = Instr.rcRead src a 4 false →
    (∃ t, exec c s = .next t) ∧
    (a % 8 = 0 → ∀ t, exec c s = .next t →
      exec (.lowWordRead src a 8 false) s = exec (.rcRead src (a + 4) 4 false) t ∧
      exec (.rcRead src a 8 false) s = exec (.rcRead src (a + 4) 4 false) t) ∧
    (∀ k n, k + n ≤ 4 → (n = 1 ∨ n = 2) → ∃ v t, exec c s = .next t ∧ t.out = s.out ++ [.readData src a v] ∧
      exec (.lowWordRead src (a + k) n false) s =
        .next { t with out := s.out ++ [.readData src (a + k) (BitVec.ofNat 32 (v.toNat / 256 ^ k % 256 ^ n))] } ∧
      exec (.rcRead src (a + k) n false) s = exec (.lowWordRead src (a + k) n false) s) ∧
    (∀ n, n = 1 ∨ n = 2 ∨ n = 4 ∨ n = 8 →
      exec (.rcRead src a n true) s = exec (.rcRead src a n false) (s.pageErr (pageBase a) 0x0005 (errInfo src a)) ∧
      exec (.lowWordRead src a n true) s = exec (.lowWordRead src a n false) (s.pageErr (pageBase a) 0x0005 (errInfo src a))) ∧
    (∀ b, b < 32 → a = A.dspBHwm b → s.ready (pageBase a) = true → ∃ t, exec c s = .next t ∧
      t.out = s.out ++ [.readData src a (BitVec.ofNat 32 (s.rd a))] ∧ t.rd a = s.held b % 2 ^ 32 ∧ OnlyChanges s t [.out] [a]) ∧
    (∀ k, k < 13 → a = A.pwrRMin k → s.ready (pageBase a) = true → ∃ t, exec c s = .next t ∧
      t.out = s.out ++ [.readData src a (BitVec.ofNat 32 (s.rd a))] ∧ t.rd a = 0xFFFF ∧ OnlyChanges s t [.out] [a]) ∧
    ((s.ready (pageBase a) = false ∨ findRow (rowsOf r.kind) (a % 0x1000) = none) →
      ∃ t, exec c s = .next t ∧ t.out = s.out ++ [.readData src a 0] ∧ OnlyChanges s t [.out] []) ∧
    ∀ row d, s.ready (pageBase a) = true → findRow (rowsOf r.kind) (a % 0x1000) = some (row, d) →
      (row.wide = false → (∀ b, b < 32 → a ≠ A.dspBHwm b) → (∀ k, k < 13 → a ≠ A.pwrRMin k) →
        ∃ t, exec c s = .next t ∧ t.out = s.out ++ [.readData src a (BitVec.ofNat 32 (s.live src a))] ∧
          (∀ i, i < 32 → tbit (t.rd a) i = (tbit (s.rd a) i && !tbit (maskWhere (fun x => x = .rc) 0 row.masks) i)) ∧
          OnlyChanges s t [.out] [a]) ∧
      (row.wide = true → maskWhere (fun x => x = .rc) (if d < 4 then 0 else 1) row.masks = 0 →
        (d < 4 → ∃ t, exec c s = .next t ∧ t.out = s.out ++ [.readData src a (BitVec.ofNat 32 (s.live src a))] ∧
          findLatch (pageBase a) src t.latches = some ⟨pageBase a, src, a % 0x1000, BitVec.ofNat 32 (s.live src (a + 4))⟩ ∧
          OnlyChanges s t [.out, .latches] []) ∧
        (4 ≤ d → (∀ l, findLatch (pageBase a) src s.latches = some l → l.off + 4 = a % 0x1000 →
            ∃ t, exec c s = .next t ∧ t.out = s.out ++ [.readData src a l.high] ∧ OnlyChanges s t [.out] []) ∧
          ((∀ l, findLatch (pageBase a) src s.latches = some l → l.off + 4 ≠ a % 0x1000) →
            ∃ t, exec c s = .next t ∧ t.out = s.out ++ [.readData src a (BitVec.ofNat 32 (s.live src a))] ∧ OnlyChanges s t [.out] [])))

/-- PAGE_LOCK_WRITE, PAGE_REJECT_CNT_WRITE, PAGE_ENABLE_WRITE and QUIESCE_REQ_WRITE complete: after each the register that it names
holds what the rules give (R45, R46, R51, R52).  A write to PAGE_LOCK that sets a new bit sets every bit written as 1 and nothing else
changes (R45); one that sets none is rejected, which leaves the locks, sets LOCKV, counts, loads PAGE_REJECT_ADDR and raises LOCKV
(R44), and on the SAF and SEC pages enters the log (R47); any write to PAGE_REJECT_CNT clears it (R46).
PAGE_ENABLE_WRITE and QUIESCE_REQ_WRITE (R51, R52): PAGE_CTRL takes ENABLE, which is fixed at 1 on the pages of R51, and
QUIESCE_REQ; no other register of the header changes; and on a page that holds no work at its input, whose block hangs nothing else on
PAGE_CTRL, nothing else changes at all.  Work held at a block's input is released in arrival order once its page is enabled and not
quiesced; BUSY reads 1 while the block holds work, and the end of the last of it during quiesce raises QUIESCED. -/
def Obligations.PageHeadersLockCountAndControl : Prop :=
  (∀ (src : Source) (p v : Nat) (s : State) (r : PageRow), p % 0x1000 = 0 → p < 2 ^ 26 → pageRow p = some r → s.takesHeader src p →
    (∃ t, exec (.pageLockWrite src p v) s = .next t ∧ t.rd (p + 0x010) = s.rd (p + 0x010) ||| v % 2 ^ 32) ∧
    (∃ t, exec (.pageRejectCntWrite src p v) s = .next t ∧ t.rd (p + 0x014) = 0) ∧
    (r.kind ∉ [.towTrg, .towEvt, .wldG, .cndR, .swpG, .swpLg, .dspG, .dspE, .fio, .aqdN, .aqd] → (∀ x ∈ s.waitIn, x.1 ≠ p) →
      (∃ t, exec (.pageEnableWrite src p v) s = .next t ∧
        t.rd (p + 0x008) = (if enableFixed r then 1 else v % 2) + fld v 1 1 * 2) ∧
      ∃ t, exec (.quiesceReqWrite src p v) s = .next t ∧ t.rdb (p + 0x008) 1 = tbit v 1)) ∧
  (∀ (src : Source) (p v : Nat) (s : State) (r : PageRow), p % 0x1000 = 0 → p < 2 ^ 26 → pageRow p = some r → s.takesHeader src p →
    (v % 2 ^ 32 &&& s.rd (p + 0x010) ≠ v % 2 ^ 32 →
      ∃ t, exec (.pageLockWrite src p v) s = .next t ∧ t.rd (p + 0x010) = s.rd (p + 0x010) ||| v % 2 ^ 32 ∧
        OnlyChanges s t [] [p + 0x010]) ∧
    (v % 2 ^ 32 &&& s.rd (p + 0x010) = v % 2 ^ 32 →
      ∃ t, exec (.pageLockWrite src p v) s = .next t ∧ t.rd (p + 0x010) = s.rd (p + 0x010) ∧ t.rdb (p + 0x00C) 8 = true ∧
        t.rd (p + 0x014) = min 0xFFFF (s.rd (p + 0x014) + 1) ∧ (srcId src < 256 → t.rd (p + 0x018) = 0x010 + srcCode src * 2 ^ 16 + srcId src * 2 ^ 24) ∧
        t.rdb (p + 0x01C) 0 = true ∧
        (p ≠ 0x330000 → p ≠ 0x360000 → OnlyChanges s t [.msix, .out] [p + 0x00C, p + 0x014, p + 0x018, p + 0x01C]) ∧
        (p = 0x330000 → t.saf.logSeq = (s.saf.logSeq + 1) % 2 ^ 32 ∧ t.rd A.safWarnCnt = min 0xFFFF (s.rd A.safWarnCnt + 1)) ∧
        (p = 0x360000 → t.sec.logSeq = (s.sec.logSeq + 1) % 2 ^ 32)) ∧
    ∃ t, exec (.pageRejectCntWrite src p v) s = .next t ∧ t.rd (p + 0x014) = 0 ∧ OnlyChanges s t [] [p + 0x014]) ∧
  (∀ (src : Source) (p v : Nat) (s : State) (r : PageRow), p % 0x1000 = 0 → p < 2 ^ 26 → pageRow p = some r → s.takesHeader src p →
    ∀ c, c = Instr.pageEnableWrite src p v ∨ c = Instr.quiesceReqWrite src p v →
    ∀ w, w = (if enableFixed r then 1 else v % 2) + fld v 1 1 * 2 →
      exec c s = .next (State.ctrlHook p (s.rd (p + 0x008)) (s.wr (p + 0x008) w)).mdioFree.remoteFreed ∧
      ((∀ x ∈ s.waitIn, x.1 ≠ p) → r.kind ∉ [.towTrg, .towEvt, .wldG, .cndR, .swpG, .swpLg, .dspG, .dspE, .fio, .aqdN, .aqd] →
        ∃ t, exec c s = .next t ∧ t.rd (p + 0x008) = w ∧ OnlyChanges s t [.pwr] [p + 0x008])) ∧
  (∀ (s : State) (p : Nat), s.enabled p = true → s.quiesced p = false →
    s.releaseWork p = (s.waitIn.filter (fun x => x.1 = p && !x.2.remote)).foldl (fun t x => t.runWork x.2)
      { s with waitIn := s.waitIn.filter (fun x => !(x.1 = p && !x.2.remote)) }) ∧
  (∀ (s : State) (x : Nat × Work), s.waitIn = [x] → x.2.remote = true → s.pageOpen x.1 = true →
    s.remoteFreed = { s with waitIn := [] }.serve x.2) ∧
  (∀ (s : State) (p : Nat), s.quiesced p = true → s.busy p = false →
    Raised s (s.quietEdge p true) p 3 ∧ OnlyChanges s (s.quietEdge p true) [.pwr, .msix, .out] [p + 0x01C]) ∧
  (∀ (src : Source) (p : Nat) (s : State) (r : PageRow), p % 0x1000 = 0 → p < 2 ^ 26 → pageRow p = some r →
    ∃ t, exec (.rcRead src (p + 0x00C) 4 false) s = .next t ∧
      t.out = s.out ++ [.readData src (p + 0x00C) (BitVec.ofNat 32 (putBit (s.rd (p + 0x00C)) 1 (s.busy p)))] ∧ OnlyChanges s t [.out] []) ∧
  ∀ (s : State) (p : Nat), s.rdb (p + 0x00C) 1 = true → s.quiesced p = true →
    Raised s (s.setBusy p false) p 3 ∧ (s.setBusy p false).rdb (p + 0x00C) 1 = false ∧
      OnlyChanges s (s.setBusy p false) [.pwr, .msix, .out] [p + 0x00C, p + 0x01C]

/-- Errors and interrupts (R54, R55, R57), BLOCK_READY and VECTOR_UNMASK: the first error of a page sets FAULT, raises FAULT and loads
PAGE_ERR_CODE and PAGE_ERR_INFO; later ones keep it and set MORE.  A cause that takes PAGE_IRQ_STAT from zero sends one message on
PAGE_IRQ_VEC, with the address and data of its table entry, at once or, while its vector or the function is masked, held; VECTOR_UNMASK
sends a held message once, or leaves it held while the function is masked.  BLOCK_READY sets READY on every
page of a block whose conditions hold and raises READY on those that were not ready, and changes nothing where they do not. -/
def Obligations.ErrorsInterruptsAndReadiness : Prop :=
  (∀ (s : State) (p code info : Nat), code < 2 ^ 32 → info < 2 ^ 32 →
    let t := s.pageErr p code info
    t.rdb (p + 0x00C) 9 = true ∧ Raised s t p 1 ∧ OnlyChanges s t [.msix, .out] [p + 0x00C, p + 0x01C, p + 0x02C, p + 0x030] ∧
    (s.rdb (p + 0x00C) 9 = false → t.rd (p + 0x02C) = code ∧ t.rd (p + 0x030) = info) ∧
    (s.rdb (p + 0x00C) 9 = true → t.rd (p + 0x02C) = putBit (s.rd (p + 0x02C)) 31 true ∧ t.rd (p + 0x030) = s.rd (p + 0x030))) ∧
  (∀ (s : State) (p i : Nat), i < 32 →
    let t := s.raise p i
    let vec := s.rd (p + 0x028) % 2 ^ 11
    Raised s t p i ∧ OnlyChanges s t [.msix, .out] [p + 0x01C] ∧
    ((s.irqStat p ≠ 0 ∨ tbit (s.rd (p + 0x020)) i = false) → t.out = s.out ∧ t.msix = s.msix) ∧
    (s.irqStat p = 0 → tbit (s.rd (p + 0x020)) i = true →
      (s.msix.isOpen vec = true → t.out = s.out ++ [s.msix.msg vec] ∧ t.msix = s.msix) ∧
      (s.msix.isOpen vec = false → t.out = s.out ∧ t.msix = { s.msix with pend := setIns vec s.msix.pend }))) ∧
  (∀ (v : Fin 2048) (s : State), ∃ t, exec (.vectorUnmask v) s = .next t ∧
    t.out = s.out ++ (if v.val ∈ s.msix.pend ∧ s.msix.funcMask = false then [s.msix.msg v.val] else []) ∧
    (v.val ∈ t.msix.pend ↔ v.val ∈ s.msix.pend ∧ s.msix.funcMask = true) ∧ v.val ∈ t.msix.unmasked ∧
    t.msix.funcMask = s.msix.funcMask ∧ OnlyChanges s t [.msix, .out] []) ∧
  ∀ (b : Nat) (s : State), ∃ t, exec (.blockReady b) s = .next t ∧
    (s.readyMay b = false → OnlyChanges s t [] []) ∧
    (s.readyMay b = true → (∀ p ∈ typePages b, t.rdb (p + 0x00C) 0 = true ∧ (s.rdb (p + 0x00C) 0 = false → t.rdb (p + 0x01C) 2 = true)) ∧
      OnlyChanges s t [.msix, .out] (A.rstReadyUs :: A.chgStat :: (typePages b ++ typePages 0x0D).flatMap (fun p => [p + 0xC, p + 0x1C])))

/-! ## The planning pass (chapter 1) -/

/-- PASS_OPEN_REQUEST, CLOSE_GATE_REQUEST and PASS_DEADLINE (R17, R25, R29, R77, R412).  The oldest pass open meets its edge: while the
device is tripped it only counts; while one waits it merges and is counted; with no pass open it waits for its gate; with a pass open the
running pass is superseded, counted, and its gate closes SUPERSEDED.  A close closes the running gate, is counted as idle without one, and
on the edge of a pass open acts as a supersede.  The deadline closes the gate once gate-open plus the pass length has come, and on the
edge of a pass open the supersede wins.  A closed gate leaves the pass with its cause, ends the work of the pass at the solver and charge
arrays, and stops the sweep.  The global page reads BUSY until its last open or close has met its edge, and then, while it is quiesced,
raises QUIESCED (R52). -/
def Obligations.PassOpensClosesAndDeadlinesMeetTheirEdge : Prop :=
  (∀ (s : State) (t : Nat) (rest : List Nat), s.req.opens = t :: rest → t ∉ s.req.closes →
    (s.tripped = true → ∃ u, exec .passOpenRequest s = .next u ∧ u.req.opens = rest ∧
      u.rd A.thmTripOpens = min 0xFFFF (s.rd A.thmTripOpens + 1) ∧ OnlyChanges s u [.req, .pwr, .msix, .out] [A.thmTripOpens, 0x1001C]) ∧
    (s.tripped = false → s.pass.waiting = true → ∃ u : State,
      exec .passOpenRequest s = .next (u.quietEdge 0x10000 (s.busy 0x10000)) ∧ u.req.opens = rest ∧
      u.rd A.towPassOvr = min 0xFFFF (s.rd A.towPassOvr + 1) ∧ Raised s u 0x10000 10 ∧
      OnlyChanges s u [.req, .msix, .out] [A.towPassOvr, 0x1001C]) ∧
    (s.tripped = false → s.pass.waiting = false → s.pass.isOpen = false → ∃ u, exec .passOpenRequest s = .next u ∧
      u.req.opens = rest ∧ u.pass = { s.pass with waiting := true } ∧ OnlyChanges s u [.req, .pass, .pwr, .msix, .out] [0x1001C]) ∧
    (s.tripped = false → s.pass.waiting = false → s.pass.isOpen = true → ∃ u v : State,
      exec .passOpenRequest s = .next (u.quietEdge 0x10000 (s.busy 0x10000)) ∧
      v = { s with req := { s.req with opens := rest } }.bump32 A.towSupersedeCnt 1 ∧
      u = { v.closeGate .superseded with pass := { (v.closeGate .superseded).pass with waiting := true } })) ∧
  (∀ s : State, s.req.opens = [] → exec .passOpenRequest s = .next s) ∧
  (∀ (s : State) (t : Nat) (rest : List Nat), s.req.closes = t :: rest →
    (s.req.opens.head? = some t → exec .closeGateRequest s = exec .passOpenRequest s) ∧
    (s.req.opens.head? ≠ some t → s.pass.isOpen = true →
      exec .closeGateRequest s =
        .next (({ s with req := { s.req with closes := rest } }.closeGate .timeoutBest).quietEdge 0x10000 (s.busy 0x10000))) ∧
    (s.req.opens.head? ≠ some t → s.pass.isOpen = false → ∃ u, exec .closeGateRequest s = .next u ∧ u.req.closes = rest ∧
      u.rd A.towCloseIdleCnt = min 0xFFFF (s.rd A.towCloseIdleCnt + 1) ∧
      OnlyChanges s u [.req, .pwr, .msix, .out] [A.towCloseIdleCnt, 0x1001C])) ∧
  (∀ (s : State) (p : PassRun), s.pass.cur = some p → s.pass.isOpen = true →
    (s.now < p.gate + p.len * 1000 → exec .passDeadline s = .next s) ∧
    (p.gate + p.len * 1000 ≤ s.now → (∀ t, s.req.opens.head? = some t → s.now < t + 20) →
      exec .passDeadline s = .next (s.closeGate .timeoutBest)) ∧
    (p.gate + p.len * 1000 ≤ s.now → (∃ t, s.req.opens.head? = some t ∧ t + 20 ≤ s.now) →
      exec .passDeadline s = exec .passOpenRequest s) ∧
    ∀ c, ∃ u : State, s.closeGate c = ((u.gateWorkEnds p.num false).sweepStop).closeSteps ∧ u.pass.isOpen = false ∧
      u.pass.cur = some { p with closed := some c } ∧ OnlyChanges s u [.pass] []) ∧
  ∀ s : State, s.pass.isOpen = false → ∀ c, s.closeGate c = s

/-- GATE_OPEN, PASS_ABORT and COMMIT (R15, R16, R22, R271, R342, R412).  The gate opens for the pass open that waits, once no other pass
runs: PASS_SEQ counts on unless it is held, the newest epoch is pinned, the gate instant, the seed and the paths in force are taken, and
then the enabled pass templates are offered in order; while the device is tripped the open goes without effect and is counted.  A write
of HST_PASS_ABORT during a pass, also after its gate has closed, leaves no pass, and without a pass changes nothing; every robot of the
pass reports ABORT_HOST, and the commits of the pass are withdrawn.  Commit decides the robots in index order: each takes the first path of its commit list that passes the check against the lower-index robots,
keeps it from the next gate open on, and has its result delivered; after the last one it is complete. -/
def Obligations.GatesOpenAndPassesCommitOrAbort : Prop :=
  (∀ s : State, s.pass.waiting = true → s.pass.cur = none → s.tripped = false →
    ∃ (u : State) (q : PassRun), exec .gateOpen s = .next (u.templatesFrom 0 8) ∧ u.pass.isOpen = true ∧ u.pass.waiting = false ∧ u.pass.cur = some q ∧
      u.pass.num = s.pass.num + 1 ∧ q.num = s.pass.num + 1 ∧ q.gate = s.now ∧ q.epoch = s.wld.alive.getLast? ∧
      q.closed = none ∧ q.decided = [] ∧ q.seed = s.rd64 A.cndSeed ∧ q.paths = s.pathsAtGate.pass.paths ∧
      u.rd A.cndPassSeq = (if s.rdb A.cndCtrl 8 then s.rd A.cndPassSeq else (s.rd A.cndPassSeq + 1) % 2 ^ 32)) ∧
  (∀ s : State, s.pass.waiting = true → s.pass.cur = none → s.tripped = true → ∃ u, exec .gateOpen s = .next u ∧
    u.pass = { s.pass with waiting := false } ∧ u.rd A.thmTripOpens = min 0xFFFF (s.rd A.thmTripOpens + 1) ∧
    OnlyChanges s u [.pass] [A.thmTripOpens]) ∧
  (∀ s : State, (s.pass.waiting = false ∨ s.pass.cur.isSome) → exec .gateOpen s = .next s) ∧
  (∀ (src : Source) (s : State), s.takes src A.hstPassAbort →
    (s.pass.cur.isSome → ∃ u, exec (.passAbort src) s = .next u ∧ u.pass.cur = none) ∧
    (∀ p, s.pass.cur = some p → ∃ (v : State) (q : PassRun), q.closed = some .abortHost ∧ q.robots = p.robots ∧ q.seq = p.seq ∧
      exec (.passAbort src) s =
        .next (((p.robots.foldl (fun t x => t.deliver_ q x .abortHost none) v.settle).undoCommits p).passOver).mdioFree.remoteFreed) ∧
    (s.pass.cur = none → ∃ u, exec (.passAbort src) s = .next u ∧ OnlyChanges s u [] [])) ∧
  (∀ (s : State) (p : PassRun) (st : PassStep) (x : PassRobot) (l : List PassRobot), s.datapath = true → s.pass.cur = some p →
    p.running = some st → st.kind = .commit → p.robots.filter (fun z => !p.decided.any (fun d => d.1 = z.robot)) = x :: l →
    ∃ (u v : State) (q : PassRun), v = u.deliver_ p x (p.resultStatus x (s.commitChoice p x)) (s.commitChoice p x) ∧
      exec .passCommit s = .next (if l = [] then v.commitOver else v) ∧
      u.pass.cur = some q ∧ q.decided = p.decided ++ [(x.robot, s.commitChoice p x)] ∧
      (∀ r, s.commitChoice p x = some r →
        u.pass.next = upd (fun _ => some (some ⟨r, p.gate, x.desc, x.set⟩)) s.pass.next x.robot) ∧
      (s.commitChoice p x = none → u.pass.next = s.pass.next) ∧ OnlyChanges s u [.pass] []) ∧
  (∀ (s : State) (p : PassRun) (st : PassStep), s.datapath = true → s.pass.cur = some p → p.running = some st → st.kind = .commit →
    p.robots.filter (fun z => !p.decided.any (fun d => d.1 = z.robot)) = [] → exec .passCommit s = .next s.commitOver) ∧
  (∀ (s : State) (p : PassRun) (x : PassRobot) (r : Res), s.commitChoice p x = some r →
    ∃ before after, x.commitList = before ++ r :: after ∧ s.commitOk p x r = true ∧ ∀ q ∈ before, s.commitOk p x q = false) ∧
  ∀ (s : State) (p : PassRun) (x : PassRobot), x.state.isSome → p.epoch.isSome → s.commitChoice p x = none →
    ∀ r ∈ x.commitList, s.commitOk p x r = false

/-! ## Towpath time (chapter 3) -/

/-- QUAD_TRANSITION, ENC_LOSS, ENC_LOSS_END, INDEX_PULSE, SET_POS_WRITE and SYN_TICK (R60, R61, R63, R64).  Levels that have stood for
fewer ticks than FILT, where 0 acts as 1, are not seen, nor are index pulses and levels of ENCe_LOS_N as short (R510), and nothing is
sampled while the TPS domain stands (R469).  In
quadrature mode a change of one of A and B moves the position by one count, up where A leads B unless DIR_INV, and TOW_TP_STAT.DIR shows the direction; a change of both
moves nothing, is counted and raises QERR; the levels are the new reference in every case.  Loss of signal sets ENC_LOSS and holds the
counter; its end clears it and takes the levels found.  An index pulse latches the position and raises ZIDX, or is the first one in SET_ONCE
and makes the position jump to TOW_TP_SET_POS; a write of TOW_TP_SET_POS jumps, except in SET_ONCE.  A jump judges no entry.  While SYN_RUN is
1 towpath 8 advances by STEP / 2^24 counts a tick and keeps the fraction. -/
def Obligations.PositionsFollowEncodersIndexesAndJumps : Prop :=
  (∀ (tp : Fin 8) (a b : Bool) (s : State),
    let r := (s.path tp).refAB
    let next : List (Bool × Bool × Bool × Bool) :=
      [(false, false, true, false), (true, false, true, true), (true, true, false, true), (false, true, false, false)]
    ∀ n : Nat,
    (s.filtPass tp n = true ↔ s.runs 51 = true ∧ max (s.rdf (A.towTpCfg tp) 8 5) 1 ≤ n) ∧
    (s.filtPass tp n = false → exec (.quadTransition tp a b n) s = .next s) ∧
    (s.filtPass tp n = true → (s.tpMode tp ≠ 1 ∨ s.rdb (A.towTpStat tp) 2 = true ∨ r = (a, b)) →
      ∃ t, exec (.quadTransition tp a b n) s = .next t ∧
      t.tow = { s.tow with paths := upd (fun p => { p with refAB := (a, b) }) s.tow.paths tp } ∧ OnlyChanges s t [.tow] []) ∧
    (s.filtPass tp n = true → s.tpMode tp = 1 → s.rdb (A.towTpStat tp) 2 = false → r.1 ≠ a → r.2 ≠ b →
      ∃ t, exec (.quadTransition tp a b n) s = .next t ∧
      t.rd (A.towTpQerrCnt tp) = min 0xFFFF (s.rd (A.towTpQerrCnt tp) + 1) ∧ Raised s t (0x17000 + tp.val * 0x1000) 10 ∧
      t.tow = { s.tow with paths := upd (fun p => { p with refAB := (a, b) }) s.tow.paths tp } ∧
      OnlyChanges s t [.tow, .msix, .out] [A.towTpQerrCnt tp, 0x17000 + tp.val * 0x1000 + 0x01C]) ∧
    (s.filtPass tp n = true → s.tpMode tp = 1 → s.rdb (A.towTpStat tp) 2 = false → (r.1 ≠ a ∧ r.2 = b ∨ r.1 = a ∧ r.2 ≠ b) →
      ∀ up : Bool, (up = true ↔ ((r.1, r.2, a, b) ∈ next) ≠ (s.rdb (A.towTpCfg tp) 2 = true)) →
        ∃ t, exec (.quadTransition tp a b n) s = .next t ∧
          t.tpPos tp = (if up then (s.tpPos tp + 1) % 2 ^ 48 else (s.tpPos tp + (2 ^ 48 - 1)) % 2 ^ 48) ∧
          t.rdb (A.towTpStat tp) 0 = !up ∧
          OnlyChanges s t [.tow, .msix, .out] ([A.towTpPos tp, A.towTpPos tp + 4, A.towTpStat tp, A.towTpRevCnt tp,
            0x17000 + tp.val * 0x1000 + 0x01C, A.towArmedCnt] ++ s.tow.entries.map (fun x => entryWord x.1 1)))) ∧
  (∀ (tp : Fin 8) (n : Nat) (s : State),
    (s.filtPass tp n = false → exec (.encLoss tp n) s = .next s ∧ ∀ a b, exec (.encLossEnd tp a b n) s = .next s) ∧
    (s.filtPass tp n = true → s.tpMode tp = 1 → s.rdb (A.towTpStat tp) 2 = false → ∃ t, exec (.encLoss tp n) s = .next t ∧ t.rdb (A.towTpStat tp) 2 = true ∧
      Raised s t (0x17000 + tp.val * 0x1000) 9 ∧
      OnlyChanges s t [.msix, .out] [A.towTpStat tp, 0x17000 + tp.val * 0x1000 + 0x01C]) ∧
    ((s.tpMode tp ≠ 1 ∨ s.rdb (A.towTpStat tp) 2 = true) → exec (.encLoss tp n) s = .next s) ∧
    ∀ a b, s.filtPass tp n = true → s.rdb (A.towTpStat tp) 2 = true → ∃ t, exec (.encLossEnd tp a b n) s = .next t ∧ t.rdb (A.towTpStat tp) 2 = false ∧
      t.tow = { s.tow with paths := upd (fun p => { p with refAB := (a, b) }) s.tow.paths tp } ∧ t.tpPos tp = s.tpPos tp ∧
      OnlyChanges s t [.tow] [A.towTpStat tp]) ∧
  (∀ (tp : Fin 8) (n : Nat) (s : State),
    let z := s.rdf (A.towTpCfg tp) 3 2
    ((s.filtPass tp n = false ∨ s.tpMode tp ≠ 1 ∨ z = 0 ∨ z = 3) → exec (.indexPulse tp n) s = .next s) ∧
    (s.filtPass tp n = true → s.tpMode tp = 1 → (z = 1 ∨ z = 2 ∧ (s.path tp).zFirst = false) → ∃ t, exec (.indexPulse tp n) s = .next t ∧
      t.rd64 (A.towTpZlatch tp) = s.tpPos tp ∧ Raised s t (0x17000 + tp.val * 0x1000) 8 ∧
      OnlyChanges s t [.msix, .out] [A.towTpZlatch tp, A.towTpZlatch tp + 4, 0x17000 + tp.val * 0x1000 + 0x01C]) ∧
    (s.filtPass tp n = true → s.tpMode tp = 1 → z = 2 → (s.path tp).zFirst = true → ∃ t, exec (.indexPulse tp n) s = .next t ∧
      t.tpPos tp = s.rd64 (A.towTpSetPos tp) % 2 ^ 48 ∧ t.tow.entries = s.tow.entries ∧
      OnlyChanges s t [.tow] [A.towTpPos tp, A.towTpPos tp + 4])) ∧
  (∀ (src : Source) (tp : Fin 9) (v : Nat) (s : State), s.takes src (A.towTpSetPos tp) → v < 2 ^ 48 →
    tbit (s.rd (0x17000 + tp.val * 0x1000 + 0x010)) 1 = false →
    ((tp.val = 8 ∨ s.rdf (A.towTpCfg tp) 3 2 ≠ 2) → ∃ t, exec (.setPosWrite src tp v) s = .next t ∧
      t.rd64 (A.towTpSetPos tp) = v ∧ t.tpPos tp = v ∧ t.tow.entries = s.tow.entries ∧
      OnlyChanges s t [.tow] [A.towTpSetPos tp, A.towTpSetPos tp + 4, A.towTpPos tp, A.towTpPos tp + 4]) ∧
    (tp.val < 8 → s.rdf (A.towTpCfg tp) 3 2 = 2 → ∃ t, exec (.setPosWrite src tp v) s = .next t ∧
      t.rd64 (A.towTpSetPos tp) = v ∧ OnlyChanges s t [] [A.towTpSetPos tp, A.towTpSetPos tp + 4])) ∧
  ∀ s : State,
    (s.rdb A.towCtrl 1 = false → exec .synTick s = .next s) ∧
    (s.rdb A.towCtrl 1 = true → 8 < s.tow.paths.length → ∃ t, exec .synTick s = .next t ∧
      t.tpPos 8 = (s.tpPos 8 + ((s.path 8).frac + s.rd A.towSynStep) / 2 ^ 24) % 2 ^ 48 ∧
      (t.path 8).frac = ((s.path 8).frac + s.rd A.towSynStep) % 2 ^ 24 ∧
      OnlyChanges s t [.tow, .msix, .out] ([A.towTpPos 8, A.towTpPos 8 + 4, A.towTpStat 8, A.towTpRevCnt 8, 0x1F01C,
        A.towArmedCnt] ++ s.tow.entries.map (fun x => entryWord x.1 1)))

/-- SSI_POLL, SSI_READ_DONE and TP_CFG_WRITE (R62, R63, R85, R511).  A poll starts a read once POLL µs have passed since the last one and
the frame before is over, and its clock goes out on ENCe_SCLK, which is high at every other time (R491).  A read is over no earlier than the idle check at the end of its pause, and only while the TPS inputs are clocked
(R469).  A read that ends badly is discarded, counted, and sets SSI_ERR; the first good read sets the position and later ones
add the signed difference from the word before; each good read clears SSI_ERR.  A write of TOW_TP_CFG takes the mode, or keeps the register
and records BAD_MODE for a reserved MODE or ZMODE; on towpath 8 MODE stays 0. -/
def Obligations.AbsoluteEncodersAreReadAndModesSet : Prop :=
  (∀ (tp : Fin 8) (s : State),
    let due := (s.path tp).ssiPoll + s.rdf (A.towTpSsiCfg tp) 16 16 * 1000 ≤ s.now
    (s.tpMode tp = 2 → s.ssiOk tp = true → (s.path tp).ssiBusy = false → due → ∃ t, exec (.ssiPoll tp) s = .next t ∧
      t.tow = { s.tow with paths := upd (fun q => { q with ssiBusy := true, ssiPoll := s.now }) s.tow.paths tp } ∧
      t.out = s.out ++ [.ssiClock tp (s.ssiHalf tp) (s.ssiBits tp + 1)] ∧ OnlyChanges s t [.tow, .out] []) ∧
    (∀ d, d = s.now - (s.path tp).ssiPoll → (s.encSclk tp = false ↔ s.tpMode tp = 2 ∧ (s.path tp).ssiBusy = true ∧
      d < s.ssiHalf tp * (2 * s.ssiBits tp + 1) ∧ d / s.ssiHalf tp % 2 = 0)) ∧
    ((¬due ∨ (s.path tp).ssiBusy = true ∨ s.tpMode tp ≠ 2 ∨ s.ssiOk tp = false) → exec (.ssiPoll tp) s = .next s)) ∧
  (∀ (tp : Fin 8) (word : Nat) (err busy : Bool) (s : State),
    (s.runs 51 = false ∨ (s.path tp).ssiBusy = false ∨ s.now < (s.path tp).ssiPoll + s.ssiTime tp) →
      exec (.ssiReadDone tp word err busy) s = .next s) ∧
  (∀ (tp : Fin 8) (word : Nat) (err busy : Bool) (s : State), s.runs 51 = true → (s.path tp).ssiBusy = true →
    (s.path tp).ssiPoll + s.ssiTime tp ≤ s.now → s.tpMode tp = 2 → s.ssiOk tp = true →
    let b := s.ssiBits tp
    let v := if s.rdb (A.towTpSsiCfg tp) 6 then grayDec (word % 2 ^ b) b else word % 2 ^ b
    let bad : Bool := busy || (err && s.rdb (A.towTpSsiCfg tp) 7)
    (bad = true → ∃ t, exec (.ssiReadDone tp word err busy) s = .next t ∧
      t.rd (A.towTpSsiErrCnt tp) = min 0xFFFF (s.rd (A.towTpSsiErrCnt tp) + 1) ∧ t.rdb (A.towTpStat tp) 3 = true ∧
      Raised s t (0x17000 + tp.val * 0x1000) 11 ∧ t.tpPos tp = s.tpPos tp ∧
      OnlyChanges s t [.tow, .msix, .out] [A.towTpSsiErrCnt tp, A.towTpStat tp, 0x17000 + tp.val * 0x1000 + 0x01C]) ∧
    (bad = false → (s.path tp).ssiPrev = none → ∃ t, exec (.ssiReadDone tp word err busy) s = .next t ∧
      t.tpPos tp = v % 2 ^ 48 ∧ t.rdb (A.towTpStat tp) 3 = false ∧ t.tow.entries = s.tow.entries ∧
      OnlyChanges s t [.tow] [A.towTpPos tp, A.towTpPos tp + 4, A.towTpStat tp]) ∧
    ∀ p, bad = false → (s.path tp).ssiPrev = some p → ∃ t, exec (.ssiReadDone tp word err busy) s = .next t ∧
      (t.tpPos tp : Int) = ((s.tpPos tp : Int) + sgn b ((v + 2 ^ b - p) % 2 ^ b)) % 2 ^ 48 ∧ t.rdb (A.towTpStat tp) 3 = false ∧
      OnlyChanges s t [.tow, .msix, .out] ([A.towTpPos tp, A.towTpPos tp + 4, A.towTpStat tp, A.towTpRevCnt tp,
        0x17000 + tp.val * 0x1000 + 0x01C, A.towArmedCnt] ++ s.tow.entries.map (fun x => entryWord x.1 1))) ∧
  ∀ (src : Source) (tp : Fin 9) (v : Nat) (s : State), s.takes src (A.towTpCfg tp) →
    tbit (s.rd (0x17000 + tp.val * 0x1000 + 0x010)) 0 = false →
    ((fld v 0 2 = 3 ∨ fld v 3 2 = 3) → ∃ t, exec (.tpCfgWrite src tp v) s = .next t ∧
      t.rd (A.towTpCfg tp) = s.rd (A.towTpCfg tp) ∧ t.rdb (0x17000 + tp.val * 0x1000 + 0x00C) 9 = true ∧
      (s.rdb (0x17000 + tp.val * 0x1000 + 0x00C) 9 = false → t.rd (0x17000 + tp.val * 0x1000 + 0x02C) = 0x0102) ∧
      OnlyChanges s t [.msix, .out] ([0x00C, 0x01C, 0x02C, 0x030].map (0x17000 + tp.val * 0x1000 + ·))) ∧
    (fld v 0 2 ≠ 3 → fld v 3 2 ≠ 3 → ∃ t, exec (.tpCfgWrite src tp v) s = .next t ∧
      t.tpMode tp = (if tp.val = 8 then 0 else fld v 0 2) ∧ (∀ i, 2 ≤ i → i < 32 → tbit (t.rd (A.towTpCfg tp)) i =
        (if tbit 0xFF1F1F i then tbit v i else tbit (s.rd (A.towTpCfg tp)) i)) ∧
      t.tpPos tp = s.tpPos tp ∧ t.tow.entries = s.tow.entries ∧
      OnlyChanges s t [.tow, .msix, .out] ([A.towTpCfg tp, A.towTpStat tp] ++
        [0x00C, 0x01C, 0x02C, 0x030].map (0x17000 + tp.val * 0x1000 + ·)))

/-- ENTRY_ARM and ENTRY_DISARM (R67, R68, R69): a write of W1 with ARM 1 arms the entry with the staged words and the written W1 and
starts its backstop; an entry with a fault of R68 stays disarmed and BAD_ENTRY is recorded; a forward entry at or past its position, and
a reverse entry below it, has its crossing at once; a write with ARM 0 disarms it.  Reserved bits of W1 take no write (R6), and an entry
that is due as its W1 is written fires first, after those of lower index that are due (R73). -/
def Obligations.EntriesAreArmedAndDisarmed : Prop :=
  (∀ x : TowEntry, entryBad x = true ↔
    8 < x.tp ∨ x.dir = 3 ∨ 6 < x.action ∨ x.backstop = 0 ∨ (x.action = 1 ∧ x.arg1 = 0) ∨ (x.action = 1 ∧ 16 ≤ x.arg0) ∨
      (x.action = 4 ∧ (16 ≤ x.arg0 ∨ x.arg1 ≠ 0)) ∨ (x.action ≠ 1 ∧ x.action ≠ 4 ∧ (x.arg0 ≠ 0 ∨ x.arg1 ≠ 0)) ∨
      (x.dir = 2 ∧ x.step ≠ 0)) ∧
  ∀ (src : Source) (e : Fin 512) (w : Nat) (s : State), s.takes src (entryWord e 1) →
    let x : TowEntry := {
      armed := true, pos := s.rd (entryWord e 0) + fld w 0 16 * 2 ^ 32, tp := fld w 16 4, dir := fld w 20 2, rearm := tbit w 22
      action := fld w 24 4, log := tbit w 28, backstop := fld (s.rd (entryWord e 2)) 0 24, arg0 := fld (s.rd (entryWord e 2)) 24 8
      step := fld (s.rd (entryWord e 3)) 0 16, arg1 := fld (s.rd (entryWord e 3)) 16 16, armedAt := s.now }
    let d := t48Diff (s.tpPos x.tp) x.pos
    (∃ v, fld v 0 29 = fld (putBit w 23 true) 0 29 ∧ v / 2 ^ 29 = s.rd (entryWord e 1) / 2 ^ 29 ∧ exec (.entryArm src e w) s =
      .next (((s.wr (entryWord e 1) v).firesTo e).writeW1 e (putBit w 23 true % 2 ^ 32)).mdioFree.remoteFreed) ∧
    (∃ v, fld v 0 29 = fld (putBit w 23 false) 0 29 ∧ v / 2 ^ 29 = s.rd (entryWord e 1) / 2 ^ 29 ∧ exec (.entryDisarm src e w) s =
      .next (((s.wr (entryWord e 1) v).firesTo e).writeW1 e (putBit w 23 false % 2 ^ 32)).mdioFree.remoteFreed) ∧
    (s.entryDue e = false → entryBad x = false → ∃ t, exec (.entryArm src e w) s = .next t ∧
      fld (t.rd (entryWord e 1)) 0 29 = fld (putBit w 23 true) 0 29 ∧
      t.entry e = { x with crossed := if ((x.dir = 0 ∧ 0 ≤ d) ∨ (x.dir = 1 ∧ d < 0)) ∧ s.enabled (entryPage e) = true then some s.now else none } ∧
      (∀ f, f ≠ e.val → t.entry f = s.entry f) ∧ OnlyChanges s t [.tow] [entryWord e 1, A.towArmedCnt]) ∧
    (s.entryDue e = false → entryBad x = true → ∃ t, exec (.entryArm src e w) s = .next t ∧ (t.entry e).armed = false ∧ tbit (t.rd (entryWord e 1)) 23 = false ∧
      t.rdb (entryPage e + 0x00C) 9 = true ∧
      (s.rdb (entryPage e + 0x00C) 9 = false → t.rd (entryPage e + 0x02C) = 0x0100 ∧ t.rd (entryPage e + 0x030) = e) ∧
      OnlyChanges s t [.tow, .msix, .out] ([entryWord e 1, A.towArmedCnt] ++ [0x00C, 0x01C, 0x02C, 0x030].map (entryPage e + ·))) ∧
    (s.entryDue e = false → ∃ t, exec (.entryDisarm src e w) s = .next t ∧ (t.entry e).armed = false ∧
      fld (t.rd (entryWord e 1)) 0 29 = fld (putBit w 23 false) 0 29 ∧ OnlyChanges s t [.tow] [entryWord e 1, A.towArmedCnt])

/-- ENTRY_FIRE and ENTRY_BACKSTOP (R69 to R72, R81, R522): an armed entry whose crossing lies on an earlier tick, or whose backstop has
passed without a crossing, fires once its page is enabled and not quiesced, after the entries of lower index that are due (R73; log entry
242): it performs its action, is logged where its LOG bit, a STAMP action or the
backstop asks for it, and then disarms (STEP 0, waiting to re-arm with REARM) or re-arms: after a position firing at the first further step
that lies ahead, after a backstop firing one step from the current position. -/
def Obligations.EntriesFireAndRepeat : Prop :=
  (∀ (e : Fin 512) (s : State), s.entryDue e = true ↔ (s.entry e).armed = true ∧ s.enabled (entryPage e) = true ∧
    s.quiesced (entryPage e) = false ∧ ∃ c, (s.entry e).crossed = some c ∧ c / 10 < s.now / 10) ∧
  (∀ (e : Fin 512) (s : State), s.entryDue e = true →
    exec (.entryFire e) s = .next ((rangeFrom 0 (e.val + 1)).foldl State.fireDue s)) ∧
  (∀ (e : Fin 512) (s : State), s.backDue e = true →
    exec (.entryBackstop e) s = .next ((rangeFrom 0 (e.val + 1)).foldl State.fireDue s)) ∧
  (∀ (e : Nat) (s : State), s.entryDue e = false → s.backDue e = false → s.fireDue e = s) ∧
  (∀ (e : Fin 512) (s : State), s.entryDue e = true → (∀ f, f < e.val → s.entryDue f = false ∧ s.backDue f = false) →
    exec (.entryFire e) s = .next ((if (s.entry e).log || (s.entry e).action = 6 then (s.towAct e (s.entry e)).towLog e (s.entry e) 0
      else s.towAct e (s.entry e)).afterFire e (s.entry e) false)) ∧
  (∀ (e : Fin 512) (s : State), s.entryDue e = false → exec (.entryFire e) s = .next s) ∧
  (∀ (e : Fin 512) (s : State), (s.entry e).armed = true → s.pageOpen (entryPage e) = true → (s.entry e).crossed = none →
    ((s.entry e).armedAt + (s.entry e).backstop * 1000) / 10 < s.now / 10 → (∀ f, f < e.val → s.entryDue f = false ∧ s.backDue f = false) →
    ∃ u, exec (.entryBackstop e) s = .next ((u.towLog e (s.entry e) 7).afterFire e (s.entry e) true) ∧
      u.rd A.towBackstopCnt = ((s.towAct e (s.entry e)).rd A.towBackstopCnt + 1) % 2 ^ 32 ∧
      Raised (s.towAct e (s.entry e)) u 0x10000 8 ∧
      OnlyChanges (s.towAct e (s.entry e)) u [.msix, .out] [A.towBackstopCnt, 0x1001C]) ∧
  (∀ (e : Fin 512) (s : State), ((s.entry e).armed = false ∨ s.pageOpen (entryPage e) = false ∨ (s.entry e).crossed.isSome ∨
      s.now / 10 ≤ ((s.entry e).armedAt + (s.entry e).backstop * 1000) / 10) →
    exec (.entryBackstop e) s = .next s) ∧
  (∀ (s : State) (e : Nat) (x : TowEntry),
    (x.action = 0 ∨ x.action = 6 → s.towAct e x = s) ∧ (x.action = 1 → s.towAct e x = s.trigger x.arg0 x.arg1) ∧
    (x.action = 2 → s.req.event ≠ some s.now → ∃ t, s.towAct e x = t ∧ t.req.event = some s.now ∧ t.req.closes = s.req.closes ∧
      t.req.opens = (if s.now ∈ s.req.opens then s.req.opens else s.req.opens ++ [s.now]) ∧ OnlyChanges s t [.req] []) ∧
    (x.action = 2 → s.req.event = some s.now → ∃ t, s.towAct e x = t ∧ Counted s t A.towPassOvr ∧ Raised s t 0x10000 10 ∧
      OnlyChanges s t [.msix, .out] [A.towPassOvr, 0x1001C]) ∧
    (x.action = 3 → s.now ∉ s.req.closes → ∃ t, s.towAct e x = t ∧ t.req.closes = s.req.closes ++ [s.now] ∧ OnlyChanges s t [.req] []) ∧
    (x.action = 4 → s.towAct e x = s.injectBarge x.arg0 e) ∧
    (x.action = 5 → s.towAct e x = s.offerWork 0x30000 .cut State.cutRequest)) ∧
  ∀ (s : State) (e : Nat) (x : TowEntry),
    (x.step = 0 → ∀ back, (s.afterFire e x back).entry e = { x with armed := false, crossed := none, waitRearm := x.rearm }) ∧
    (0 < x.step → ((s.afterFire e x true).entry e).armed = true ∧ ((s.afterFire e x true).entry e).armedAt = s.now ∧
      ((s.afterFire e x true).entry e).pos =
        (if x.dir = 1 then (s.tpPos x.tp + 2 ^ 48 - x.step % 2 ^ 48) % 2 ^ 48 else (s.tpPos x.tp + x.step) % 2 ^ 48)) ∧
    (0 < x.step → x.step < 2 ^ 16 → x.dir = 0 → x.pos < 2 ^ 48 →
      ∃ k, ((s.afterFire e x false).entry e).pos = (x.pos + (k + 1) * x.step) % 2 ^ 48 ∧
        ((s.afterFire e x false).entry e).armed = true ∧ ((s.afterFire e x false).entry e).armedAt = s.now ∧
        t48Diff (s.tpPos x.tp) ((s.afterFire e x false).entry e).pos < 0 ∧
        (0 < k → 0 ≤ t48Diff (s.tpPos x.tp) ((x.pos + k * x.step) % 2 ^ 48)) ∧
        (s.afterFire e x false).rd (A.towTpSkipCnt x.tp) = min 0xFFFF (s.rd (A.towTpSkipCnt x.tp) + k))

/-- PENDING_PULSE_START, PULSE_SEQUENCE_END, PASS_TIMER and TIMER_EN_WRITE (R75, R76, R79, R522).  A trigger starts a sequence on an idle
output on the next tick, its active edge DELAY ticks after; it waits on a running one; and one more, or any while the trigger page is
disabled, is dropped, counted and raises TRG_OVR; one that meets the quiesced page is held at its input (R52).  DELAY is the one that
stands on the start tick, and TOW_TRG_STAT shows ACTIVE from that tick on.  Disabling the page drops a pending pulse and one not yet
started.  A sequence ends once delay, pulse and a gap of two ticks have passed, and the pending pulse then starts.  TIMER_EN starts the pass timer one period later; each period asks for one pass open, while the page is enabled. -/
def Obligations.PulsesAndThePassTimerRun : Prop :=
  (∀ (n : Fin 16) (s : State) (w : Nat), n.val < s.tow.trg.length →
    let start := fun (u t : State) (at_ : Nat) => (t.trg n).running = some ⟨at_, u.rdf (A.towTrgDly n) 0 16, w⟩ ∧
      (t.trg n).pending = none ∧ tbit (t.rd A.towTrgStat) n = true ∧ tbit (t.rd A.towTrgStat) (16 + n) = false ∧
      OnlyChanges u t [.tow] [A.towTrgStat]
    let dropped := fun (u t : State) => t.rd (A.towTrgOvr n) = min 0xFFFF (u.rd (A.towTrgOvr n) + 1) ∧ Raised u t 0x10000 11
    (s.enabled 0x11000 = true → s.quiesced 0x11000 = true →
      s.trigger n w = { s with waitIn := s.waitIn ++ [(0x11000, .pulse n w)] }) ∧
    (s.pageOpen 0x11000 = true → (s.trg n).running = none → (s.trg n).pending = none → start s (s.trigger n w) (s.now + 10)) ∧
    (s.pageOpen 0x11000 = true → (s.trg n).running.isSome → (s.trg n).pending = none →
      ((s.trigger n w).trg n) = { s.trg n with pending := some w } ∧ tbit ((s.trigger n w).rd A.towTrgStat) (16 + n) = true ∧
      OnlyChanges s (s.trigger n w) [.tow] [A.towTrgStat]) ∧
    ((s.enabled 0x11000 = false ∨ s.pageOpen 0x11000 = true ∧ (s.trg n).pending.isSome) → dropped s (s.trigger n w) ∧
      OnlyChanges s (s.trigger n w) [.msix, .out] [A.towTrgOvr n, 0x1001C]) ∧
    ((s.trg n).running = none → (s.trg n).pending = some w →
      (s.enabled 0x11000 = true → ∃ t, exec (.pendingPulseStart n) s = .next t ∧ start s t s.now) ∧
      (s.enabled 0x11000 = false → ∃ t : State, exec (.pendingPulseStart n) s = .next (t.quietEdge 0x11000 (s.busy 0x11000)) ∧
        dropped s t ∧ (t.trg n).pending = none ∧ OnlyChanges s t [.tow, .msix, .out] [A.towTrgStat, A.towTrgOvr n, 0x1001C])) ∧
    ((s.trg n).running = none → (s.trg n).pending = some w → dropped s (s.trgDisabled n) ∧
      ((s.trgDisabled n).trg n).pending = none ∧
      OnlyChanges s (s.trgDisabled n) [.tow, .msix, .out] [A.towTrgStat, A.towTrgOvr n, 0x1001C]) ∧
    ∀ q, (s.trg n).running = some q →
      (s.now < q.start → tbit s.trgStatNow n = false ∧
        ((s.trgDelay n).trg n).running = some { q with delay := s.rdf (A.towTrgDly n) 0 16 } ∧ ((s.trgDisabled n).trg n).running = none) ∧
      (q.start ≤ s.now → s.trgDelay n = s ∧ tbit s.trgStatNow n = s.rdb A.towTrgStat n) ∧
      (s.now < q.start + (q.delay + q.width + 2) * 10 → exec (.pulseSequenceEnd n) s = .next s) ∧
      (q.start + (q.delay + q.width + 2) * 10 ≤ s.now → ∃ t : State,
        exec (.pulseSequenceEnd n) s = .next (t.quietEdge 0x11000 (s.busy 0x11000)) ∧ (t.trg n).running = none ∧
        (t.trg n).pending = (s.trg n).pending ∧ tbit (t.rd A.towTrgStat) n = (s.trg n).pending.isSome ∧
        t.out = s.out ++ [.trigger n (q.start + q.delay * 10) q.width] ∧ OnlyChanges s t [.tow, .out] [A.towTrgStat])) ∧
  (∀ s : State,
    ((s.rdb A.towCtrl 0 = false ∨ s.now < s.tow.timerAt) → exec .passTimer s = .next s) ∧
    (s.rdb A.towCtrl 0 = true → s.tow.timerAt ≤ s.now → ∃ t, exec .passTimer s = .next t ∧
      t.tow = { s.tow with timerAt := s.tow.timerAt + s.rdf A.towPassPeriod 0 14 * 1000 } ∧
      t.req.opens = (if s.pageOpen 0x10000 && !s.req.opens.contains s.now then s.req.opens ++ [s.now] else s.req.opens) ∧
      t.waitIn = (if s.enabled 0x10000 && s.quiesced 0x10000 then s.waitIn ++ [(0x10000, .passOpen)] else s.waitIn) ∧
      t.req.closes = s.req.closes ∧ OnlyChanges s t [.tow, .req, .waitIn] [])) ∧
  ∀ (src : Source) (v : Nat) (s : State), s.takes src A.towCtrl → ∃ t, exec (.timerEnWrite src v) s = .next t ∧
    t.rd A.towCtrl % 4 = v % 4 ∧ t.rd A.towCtrl / 4 = s.rd A.towCtrl / 4 ∧
    t.tow = (if tbit v 0 && !s.rdb A.towCtrl 0 then { s.tow with timerAt := s.now + s.rdf A.towPassPeriod 0 14 * 1000 } else s.tow) ∧
    OnlyChanges s t [.tow] [A.towCtrl]

/-! ## Sensor ingress (chapter 4) -/

/-- CSI_LONG_PACKET, DESKEW_BURST and SOT_ERR, and what every packet meets first (R86 to R89, R91, R99, R105).  With LANES 0 packets are ignored and the clock
lane is not in HS.
A corrected header is counted; an uncorrectable one discards the packet, is counted, raised, and damages the open frames of both slots; a
packet that no enabled slot takes is counted; Line Start and End, generic short packets and embedded data are not.  The lanes show the
state in which each event leaves them (Table ING-5).  A line of an open frame counts for its data type, a failed CRC or a
wrong length marks the frame, and the store reaches no byte outside the frame's buffer.  A deskew burst is recorded where DESKEW_EN is 1. -/
def Obligations.PacketsAreCheckedMatchedAndUnpacked : Prop :=
  (∀ (rx : Fin 12) (hdr vc dt num phy : Nat) (data : List Byte) (ok : Bool) (s : State), s.rxLanes rx = 0 →
    ∀ c ∈ [Instr.csiLongPacket rx hdr vc dt data ok phy, .frameStart rx hdr vc num phy, .frameEnd rx hdr vc phy, .deskewBurst rx ok phy,
      .sotErr rx phy], ∃ t, exec c s = .next t ∧ t.rdf (A.ingRxStat rx) 0 9 = phy % 2 ^ 8 ∧ OnlyChanges s t [] [A.ingRxStat rx]) ∧
  (∀ (rx : Fin 12) (hdr vc dt phy : Nat) (data : List Byte) (ok : Bool) (s : State), s.rxLanes rx ≠ 0 → hdr ≤ 1 →
    ignoredType dt = true → ∃ t, exec (.csiLongPacket rx hdr vc dt data ok phy) s = .next t ∧
      OnlyChanges s t [] [A.ingRxStat rx, A.ingRxHdrCorr rx]) ∧
  (∀ (rx : Fin 12) (hdr vc dt num phy : Nat) (data : List Byte) (ok : Bool) (s : State), s.rxLanes rx ≠ 0 → 2 ≤ hdr →
    s.ing.slots.length = 24 → (∀ k, s.slotHolds k = false) →
    ∀ c ∈ [Instr.csiLongPacket rx hdr vc dt data ok phy, .frameStart rx hdr vc num phy, .frameEnd rx hdr vc phy],
      ∃ t, exec c s = .next t ∧ t.rd (A.ingRxHdrUncorr rx) = min 0xFFFF (s.rd (A.ingRxHdrUncorr rx) + 1) ∧
        Raised s t (0x20000 + rx.val * 0x1000) 9 ∧
        (∀ k, k / 2 = rx.val → ∀ f, (s.slot k).frame = some f → (t.slot k).frame = some { f with badHdr := true }) ∧
        OnlyChanges s t [.ing, .msix, .out] [A.ingRxStat rx, A.ingRxHdrUncorr rx, 0x20000 + rx.val * 0x1000 + 0x01C,
          slotReg (2 * rx.val) 0x40, slotReg (2 * rx.val + 1) 0x40]) ∧
  (∀ (rx : Fin 12) (hdr vc dt num phy : Nat) (data : List Byte) (ok : Bool) (s : State), s.rxLanes rx ≠ 0 → hdr ≤ 1 →
    s.slotFor rx vc = none → ignoredType dt = false →
    (∀ c ∈ [Instr.csiLongPacket rx hdr vc dt data ok phy, .frameStart rx hdr vc num phy, .frameEnd rx hdr vc phy], ∃ t, exec c s = .next t ∧
        t.rd (A.ingRxUnmatched rx) = min 0xFFFF (s.rd (A.ingRxUnmatched rx) + 1) ∧
        (hdr = 1 → t.rd (A.ingRxHdrCorr rx) = min 0xFFFF (s.rd (A.ingRxHdrCorr rx) + 1)) ∧
        OnlyChanges s t [] (A.ingRxStat rx :: A.ingRxUnmatched rx :: (if hdr = 1 then [A.ingRxHdrCorr rx] else [])))) ∧
  (∀ (rx : Fin 12) (vc dt phy : Nat) (data : List Byte) (ok : Bool) (s : State) (k : Nat) (f : RxFrame), s.rxLanes rx ≠ 0 →
    ignoredType dt = false → s.slotHolds k = false →
    s.slotFor rx vc = some k → k < s.ing.slots.length → (s.slot k).frame = some f → slotOk f.desc = true → dKind f.desc ≠ 0 →
    (dt = dPri f.desc ∨ dKind f.desc = 2 ∧ dt = dAux f.desc) →
    ∃ t g, exec (.csiLongPacket rx 0 vc dt data ok phy) s = .next t ∧ (t.slot k).frame = some g ∧ g.desc = f.desc ∧ g.buf = f.buf ∧
      g.badHdr = f.badHdr ∧ g.badCrc = (f.badCrc || !ok) ∧
      g.badShape = (f.badShape || decide (data.length * 8 ≠ dWidth f.desc * typeBits dt (dW16 f.desc))) ∧
      (dt = dPri f.desc → g.priN = f.priN + 1 ∧ g.auxN = f.auxN) ∧ (dt ≠ dPri f.desc → g.priN = f.priN ∧ g.auxN = f.auxN + 1) ∧
      (∀ a, a < dBase f.desc + f.buf * dStride f.desc + 64 ∨ dBase f.desc + f.buf * dStride f.desc + bufBytes f.desc ≤ a →
        t.memGet a = s.memGet a) ∧
      OnlyChanges s t [.ing, .mem, .spd] [slotReg k 0x40, A.ingRxStat rx]) ∧
  (∀ (rx : Fin 12) (ok : Bool) (phy : Nat) (s : State), s.rxLanes rx ≠ 0 → ∃ t, exec (.deskewBurst rx ok phy) s = .next t ∧
    t.rdf (A.ingRxStat rx) 0 9 = phy % 2 ^ 9 ∧
    t.rdb (A.ingRxStat rx) 9 = (if s.rdb (A.ingRxCfg rx) 20 then ok else s.rdb (A.ingRxStat rx) 9) ∧ OnlyChanges s t [] [A.ingRxStat rx]) ∧
  ∀ (rx : Fin 12) (phy : Nat) (s : State), s.rxLanes rx ≠ 0 → ∃ t, exec (.sotErr rx phy) s = .next t ∧
    t.rdf (A.ingRxStat rx) 0 9 = phy % 2 ^ 9 ∧
    t.rd (A.ingRxSotErr rx) = min 0xFFFF (s.rd (A.ingRxSotErr rx) + 1) ∧ Raised s t (0x20000 + rx.val * 0x1000) 8 ∧
    OnlyChanges s t [.msix, .out] [A.ingRxStat rx, A.ingRxSotErr rx, 0x20000 + rx.val * 0x1000 + 0x01C]

/-- FRAME_START, FRAME_END, FRAME_TIMEOUT, SLOT_ENABLE, SLOT_DISABLE and REL (R96 to R99, R101, R103).  A Frame Start takes a free buffer
while none is pending, else the new frame is dropped whole, counted and raises OVR; while the receiver's page is quiesced it is held with its
stamp (R52).  A frame that is not well-formed, or whose Frame End is
late, is dropped and counted once under the first cause that applies, and raises DROP; a well-formed one counts in FRAMES and raises
FRAME_RX, and is handed to fusion unless the other buffer runs, of frames of one tick the lower slot first.  Enabling checks the descriptor;
disabling drops the open frame uncounted; REL frees the oldest running intensity buffer, and a frame that waited for it is handed over. -/
def Obligations.FramesTakeBuffersAndAreHandedOver : Prop :=
  (∀ (rx : Fin 12) (vc num phy k : Nat) (s : State), s.rxLanes rx ≠ 0 → s.slotFor rx vc = some k → (s.slot k).frame = none →
    (s.enabled (ingPage k) = false → ∃ t, exec (.frameStart rx 0 vc num phy) s = .next t ∧ OnlyChanges s t [.pwr] [A.ingRxStat rx]) ∧
    (s.enabled (ingPage k) = true → s.quiesced (ingPage k) = true → ∃ t, exec (.frameStart rx 0 vc num phy) s = .next t ∧
      t.waitIn = s.waitIn ++ [(ingPage k, .frameStart k num false s.now (s.frameStamp k (s.slotWords k)))] ∧
      (k < s.ing.slots.length → (t.slot k).lastFs = some s.now) ∧ OnlyChanges s t [.waitIn, .ing, .pwr] [A.ingRxStat rx, slotReg k 0x40])) ∧
  (∀ (k num at_ : Nat) (corr : Bool) (stamp : Nat × Nat × Bool) (s : State),
    s.runWork (.frameStart k num corr at_ stamp) = (s.frameDrop k 0x50).frameBegin k num corr at_ stamp) ∧
  (∀ (rx : Fin 12) (vc num phy k : Nat) (s : State), s.rxLanes rx ≠ 0 → s.slotFor rx vc = some k → k < s.ing.slots.length →
    (s.slot k).frame = none → s.enabled (ingPage k) = true → s.quiesced (ingPage k) = false → s.slotWords k = (s.slot k).desc →
    let b0 := (nth {} (s.slot k).bufs 0).st
    let b1 := (nth {} (s.slot k).bufs 1).st
    (b0 ≠ 2 → b1 ≠ 2 → (b0 = 0 ∨ b1 = 0) → (s.slot k).bufs.length = 2 → ∃ t f, exec (.frameStart rx 0 vc num phy) s = .next t ∧
      (t.slot k).frame = some f ∧ f.buf = (if b0 = 0 then 0 else 1) ∧ f.desc = (s.slot k).desc ∧ f.num = num ∧ f.start = s.now ∧
      f.time = (s.frameStamp k f.desc).1 ∧ f.pos = (s.frameStamp k f.desc).2.1 ∧ f.fb = (s.frameStamp k f.desc).2.2 ∧
      f.ext = s.extOf f.desc ∧ (nth {} (t.slot k).bufs f.buf).st = 1 ∧
      f.pended = decide ((nth {} (s.slot k).bufs (1 - f.buf)).st = 3) ∧
      OnlyChanges s t [.ing] (A.ingRxStat rx :: slotReg k 0x40 :: (if f.fb then [slotReg k 0x5C] else []))) ∧
    ((b0 = 2 ∨ b1 = 2 ∨ b0 ≠ 0 ∧ b1 ≠ 0) → ∃ t, exec (.frameStart rx 0 vc num phy) s = .next t ∧ (t.slot k).frame = none ∧
      t.rd (slotReg k 0x44) = min 0xFFFF (s.rd (slotReg k 0x44) + 1) ∧ Raised s t (ingPage k) (16 + 8 * (k % 2) + 2) ∧
      OnlyChanges s t [.ing, .msix, .out] [A.ingRxStat rx, slotReg k 0x40, slotReg k 0x44, ingPage k + 0x01C])) ∧
  (∀ (k : Fin 24) (f : RxFrame) (s : State), (s.slot k).frame = some f →
    f.start + max 1 (fld (nth 0 f.desc 11) 0 16) * 1000 ≤ s.now → exec (.frameTimeout k) s =
      .next ((s.frameDrop k 0x54).quietEdge (ingPage k) (s.busy (ingPage k)))) ∧
  (∀ (k : Fin 24) (f : RxFrame) (s : State), s.ing.slots.length = 24 → (s.slot k).frame = some f → s.quiesced (ingPage k) = false →
    let lines : Bool := f.priN = dHeight f.desc && (dKind f.desc ≠ 2 || f.auxN = dHeight f.desc)
    let cause := fun (last : Nat) => if f.badHdr then 0x48 else if f.badCrc then 0x4C else if f.badShape || !lines then 0x50 else last
    let dropped := fun (t : State) (reg : Nat) (l : List Nat) => (t.slot k).frame = none ∧ t.rd (slotReg k reg) = min 0xFFFF (s.rd (slotReg k reg) + 1) ∧
      Raised s t (ingPage k) (16 + 8 * (k.val % 2) + 3) ∧
      OnlyChanges s t [.ing, .msix, .out] ([slotReg k 0x40, slotReg k reg, ingPage k + 0x01C] ++ l)
    (f.start + max 1 (fld (nth 0 f.desc 11) 0 16) * 1000 ≤ s.now → ∃ t, exec (.frameTimeout k) s = .next t ∧ dropped t (cause 0x54) []) ∧
    (s.now < f.start + max 1 (fld (nth 0 f.desc 11) 0 16) * 1000 → exec (.frameTimeout k) s = .next s) ∧
    ∀ vc phy, s.rxLanes (k.val / 2) ≠ 0 → s.slotFor (k.val / 2) vc = some k.val → s.slotHolds k = false →
      ∀ rx : Fin 12, rx.val = k.val / 2 →
      (f.badHdr = false → f.badCrc = false → f.badShape = false → lines = true →
        (f.start + max 1 (fld (nth 0 f.desc 11) 0 16) * 1000 < s.now →
          ∃ t, exec (.frameEnd rx 0 vc phy) s = .next t ∧ dropped t 0x54 [A.ingRxStat rx]) ∧
        (s.now ≤ f.start + max 1 (fld (nth 0 f.desc 11) 0 16) * 1000 → dKind f.desc ≠ 3 → f.ext = none →
          ∃ t, exec (.frameEnd rx 0 vc phy) s = .next t ∧ dropped t 0x58 [A.ingRxStat rx])) ∧
      ((f.badHdr = true ∨ f.badCrc = true ∨ f.badShape = true ∨ f.priN ≠ dHeight f.desc ∨ (dKind f.desc = 2 ∧ f.auxN ≠ dHeight f.desc)) →
        ∃ t, exec (.frameEnd rx 0 vc phy) s = .next t ∧ dropped t (cause 0x50) [A.ingRxStat rx]) ∧
      (f.badHdr = false → f.badCrc = false → f.badShape = false → f.priN = dHeight f.desc →
        (dKind f.desc = 2 → f.auxN = dHeight f.desc) → s.now ≤ f.start + max 1 (fld (nth 0 f.desc 11) 0 16) * 1000 →
        (dKind f.desc ≠ 3 → f.ext.isSome) → (s.slot k).bufs.length = 2 → f.buf < 2 →
        ∃ t, exec (.frameEnd rx 0 vc phy) s = .next t ∧ (t.slot k).frame = none ∧
          t.rd (slotReg k 0x60) = (s.rd (slotReg k 0x60) + 1) % 2 ^ 32 ∧ Raised s t (ingPage k) (16 + 8 * (k.val % 2)) ∧
          (dKind f.desc ≠ 3 → (nth {} (s.slot k).bufs (1 - f.buf)).st = 3 →
            t.ing.handover = s.ing.handover ∧ (nth {} (t.slot k).bufs f.buf).st = 2) ∧
          (dKind f.desc ≠ 3 → (nth {} (s.slot k).bufs (1 - f.buf)).st ≠ 3 →
            (∃ a b, s.ing.handover = a ++ b ∧ t.ing.handover = a ++ (k.val, f.buf) :: b ∧
              ∀ x : Nat × Nat, (x ∈ a → ¬((nth {} (s.slot x.1).bufs x.2).handed / 10 = s.now / 10 ∧ k.val < x.1)) ∧
                (b.head? = some x → (nth {} (s.slot x.1).bufs x.2).handed / 10 = s.now / 10 ∧ k.val < x.1)) ∧
              (nth {} (t.slot k).bufs f.buf).st = (if s.fusionOn then 3 else 2)) ∧
          (dKind f.desc = 3 → (nth {} (t.slot k).bufs f.buf).st = 3 ∧ t.ing.handover = s.ing.handover) ∧
          (∀ a, a < dBase f.desc + f.buf * dStride f.desc ∨ dBase f.desc + f.buf * dStride f.desc + 64 ≤ a → t.memGet a = s.memGet a) ∧
          OnlyChanges s t [.ing, .mem, .spd, .msix, .out] [A.ingRxStat rx, slotReg k 0x40, slotReg k 0x60, ingPage k + 0x01C])) ∧
  ∀ (src : Source) (k : Fin 24) (s : State), s.ing.slots.length = 24 → s.takes src (slotReg k 0x3C) →
    (s.slotEn k = false → slotOk (s.slotWords k) = true → s.vcTaken k (s.slotWords k) = false →
      ∃ t, exec (.slotEnable src k) s = .next t ∧ t.slotEn k = true ∧ (t.slot k).desc = s.slotWords k ∧ (t.slot k).frame = none ∧
        (t.slot k).bufs = (s.slot k).bufs ∧ OnlyChanges s t [.ing] [slotReg k 0x3C, slotReg k 0x40]) ∧
    (s.slotEn k = false → (slotOk (s.slotWords k) = false ∨ s.vcTaken k (s.slotWords k) = true) →
      ∃ t, exec (.slotEnable src k) s = .next t ∧ t.slotEn k = false ∧ t.rdb (ingPage k + 0x00C) 9 = true ∧
        (s.rdb (ingPage k + 0x00C) 9 = false → t.rd (ingPage k + 0x02C) = 0x0101) ∧
        OnlyChanges s t [.msix, .out] ([slotReg k 0x3C] ++ [0x00C, 0x01C, 0x02C, 0x030].map (ingPage k + ·))) ∧
    (∃ t, exec (.slotDisable src k) s = .next t ∧ t.slotEn k = false ∧ (t.slot k).frame = none ∧
      OnlyChanges s t [.ing, .waitIn, .pwr, .msix, .out] [slotReg k 0x3C, slotReg k 0x40, ingPage k + 0x01C]) ∧
    (∀ b, s.slotEn k = true → (s.slot k).oldest = some b → dKind (nth {} (s.slot k).bufs b).desc = 3 → (s.slot k).bufs.length = 2 →
      ∃ t, exec (.slotRel src k) s = .next t ∧ t.slotEn k = true ∧ (nth {} (t.slot k).bufs b).st = 0 ∧
        ((nth {} (s.slot k).bufs (1 - b)).st = 2 → (k.val, 1 - b) ∉ s.ing.handover → (k.val, 1 - b) ∈ t.ing.handover) ∧
        (t.slot k).frame = (s.slot k).frame ∧ OnlyChanges s t [.ing] [slotReg k 0x3C, slotReg k 0x40])

/-! ## The world map (chapter 5) -/

/-- POOL_INIT, POOL_INIT_DONE, LOAD_GO and CUT_REQUEST (R51, R115, R118, R125, R130, R131).  While the page takes no work the command is
held at its input.  POOL_INIT is refused while one runs, once INIT_DONE is set, and on a bad memory configuration; else it takes the
configuration and copies the region table, whose unreadable entries become UNK_OCC 1 homed here.  Its end sets INIT_DONE, the derived
addresses, all slots free, and the two directories of working epoch 1 UNIFORM; the attached fields are lost: their links name no fine
brick, and what their grids hold is free (log entry 218).  Loads and cuts before INIT_DONE record NOT_INIT; a load
while one runs, and a cut while one runs, are only counted; else the load, or the cut, starts; a load that starts turns the
heaters off (R502).  While a clock of HBM stands, no initialisation ends (R470; log entry 260). -/
def Obligations.TheWorldMapIsInitialisedLoadedAndCut : Prop :=
  (∀ (src : Source) (s : State), s.takes src A.wldCtrl →
    (s.pageOpen 0x30000 = false → ∀ c w, (c, w) ∈ [(Instr.poolInit src, Work.poolInit), (.loadGo src, .loadGo), (.cutRequest src, .cut)] →
      ∃ t, exec c s = .next t ∧ t.waitIn = s.waitIn ++ [(0x30000, w)] ∧ OnlyChanges s t [.waitIn] []) ∧
    (s.pageOpen 0x30000 = true →
      ((s.wld.initRun = true ∨ s.wldReady = true) → ∃ t, exec (.poolInit src) s = .next t ∧ OnlyError s t 0x30000 0x0107 0) ∧
      (s.wld.initRun = false → s.wldReady = false → s.badMemCfg = true →
        ∃ t, exec (.poolInit src) s = .next t ∧ OnlyError s t 0x30000 0x0100 0) ∧
      (s.wld.initRun = false → s.wldReady = false → s.badMemCfg = false →
        let base := s.rd64 A.wldMemBase % 2 ^ 48
        let w := fun r => wordsIn s.spd.ue (base + 8 * r) 8
        ∃ t l, exec (.poolInit src) s = .next t ∧ l.length = 2048 ∧
          t.wld = { s.wld with initRun := true, base := base, cCnt := s.rdf A.wldCpoolCnt 0 23, fCnt := s.rdf A.wldFpoolCnt 0 24,
                               working := some ⟨1, 0, l⟩ } ∧
          (∀ r, r < 2048 → nth 0 l r = if w r = [] then s.peek64 (base + 8 * r) else 1 + s.ownNode * 2 ^ 48) ∧
          t.rdb 0x3000C 1 = true ∧ ((∀ r, r < 2048 → w r = [] ∧ wordsIn s.spd.ce (base + 8 * r) 8 = []) → OnlyChanges s t [.wld, .pwr] [0x3000C])) ∧
      (s.wldReady = false → ∃ t, exec (.loadGo src) s = .next t ∧ OnlyError s t 0x30000 0x0104 0) ∧
      (s.wldReady = true → s.hostLoads = true → ∃ t, exec (.loadGo src) s = .next t ∧ Counted s t A.wldLoadBusy ∧
        OnlyChanges s t [] [A.wldLoadBusy]) ∧
      (s.wldReady = true → s.hostLoads = false →
        let l : LoadRun := { addr := s.rd64 A.wldLoadAddr % 2 ^ 48, cnt := s.rdf A.wldLoadCnt 0 20 }
        (s.wld.cut = none → s.wld.loadQ = [] → ∃ t : State, exec (.loadGo src) s = .next t.heatCut ∧ t.wld = { s.wld with load := some l } ∧
          t.rd A.wldLoadDoneCnt = 0 ∧ t.rdb A.wldStat 1 = true ∧
          OnlyChanges s t [.wld, .pwr] [A.wldLoadDoneCnt, A.wldStat, 0x3000C]) ∧
        (s.wld.cut.isSome → ∃ t, exec (.loadGo src) s = .next t ∧ t.wld = { s.wld with loadQ := s.wld.loadQ ++ [l] } ∧
          OnlyChanges s t [.wld] [])) ∧
      (s.inFabric = false → s.wldReady = false → ∃ t, exec (.cutRequest src) s = .next t ∧ OnlyError s t 0x30000 0x0104 0) ∧
      (s.inFabric = false → s.wldReady = true → s.wld.cut.isSome → ∃ t, exec (.cutRequest src) s = .next t ∧ Counted s t A.wldCutMerged ∧
        OnlyChanges s t [] [A.wldCutMerged]) ∧
      (s.inFabric = false → s.wldReady = true → s.wld.cut = none → ∃ t, exec (.cutRequest src) s = .next t ∧
        t.wld = { s.wld with cut := some { step := .drain, asked := s.now } } ∧ t.rdb A.wldStat 2 = true ∧
        OnlyChanges s t [.wld, .pwr] [A.wldStat, 0x3000C]))) ∧
  ∀ s : State, ((s.wld.initRun = false ∨ s.hbmRuns = false) → exec .poolInitDone s = .next s) ∧
    (s.wld.initRun = true → s.hbmRuns = true → s.wld.base < 2 ^ 48 → s.wld.cCnt ≤ 4194304 → s.wld.fCnt ≤ 8388608 →
      let a := s.wld.base + 0x100000
      ∃ t, exec .poolInitDone s = .next t ∧ t.wld = { s.wld with initRun := false } ∧ t.wldReady = true ∧
        t.rd64 A.wldCpoolAddr = poolC s.wld.base s.wld.cCnt s.wld.fCnt ∧ t.rd64 A.wldFpoolAddr = poolF s.wld.base s.wld.cCnt s.wld.fCnt ∧
        t.rd64 A.wldMemEnd = poolEnd s.wld.base s.wld.cCnt s.wld.fCnt ∧ t.rd A.wldCpoolFree = s.wld.cCnt ∧
        t.rd A.wldFpoolFree = s.wld.fCnt ∧ (∀ i, i < 0x100000 → t.peek32 (a + 4 * i) = 0x7FFF ∧ t.peek32 (a + 0x400000 + 4 * i) = 0x8000) ∧
        (∀ n, n < 16 → ∀ i, i < 0x40000 → t.peek32 (s.wld.base + 0x2980000 + n * 0x180000 + 4 * i) = 0) ∧
        (∀ x, x < a ∨ a + 0x800000 ≤ x → x < s.wld.base + 0x2900000 ∨ s.wld.base + 0x4100000 ≤ x → t.memGet x = s.memGet x) ∧
        OnlyChanges s t [.wld, .mem, .freeCnt, .pwr, .msix, .out] [A.wldCpoolAddr, A.wldCpoolAddr + 4, A.wldFpoolAddr, A.wldFpoolAddr + 4,
          A.wldMemEnd, A.wldMemEnd + 4, A.wldCpoolFree, A.wldFpoolFree, A.wldStat, 0x3000C, 0x3001C])

/-- LOAD_PACKET (R117, R118, R119).  The packets of a load are checked and applied one by one in address order.  A packet that R119 skips,
that the device cannot read, or whose region is homed elsewhere is counted, and the first of a load recorded as BAD_PACKET with its index;
a predicted write outside PRED_EN is only counted; an empty pool ends the load and is recorded; each other packet is applied to the working
epoch and counted in WLD_LOAD_DONE_CNT.  UNIFORM sets the directory entry; REMOVE_FINE where no fine brick stands changes nothing.  After the last packet the load is over and LOAD_DONE is raised.
The load unit stands while its clock or a clock of HBM does (R470). -/
def Obligations.LoadPacketsAreCheckedAndApplied : Prop :=
  (∀ bs, packetOk bs = true ↔
    (let key := pktW bs 0
     let w := pktW bs 1
     fld w 0 2 ≠ 3 ∧ fld w 2 2 ≠ 3 ∧ (tbit key 31 = true → fld key 29 2 = 0) ∧ (tbit key 31 = false → fld key 20 11 = 0) ∧
       (∀ x ∈ (bs.drop 0x0A).take 2, x = 0) ∧ (∀ x ∈ (bs.drop 0x10).take 0x30, x = 0) ∧ ¬(fld w 0 2 = 1 ∧ tbit key 31 = true) ∧
       (tbit w 4 = true → fld w 0 2 = 0 ∧ tbit key 31 = true ∧ fld w 2 2 = 1) ∧ (fld w 2 2 = 2 → localKey key = true) ∧
       pktW bs 3 = if fld w 0 2 = 0 then crc32 (bs.drop 0x40) else 0)) ∧
  (∀ s : State, (s.wld.load = none ∨ s.loadpath = false) → exec .loadPacket s = .next s) ∧
  (∀ (s : State) (l : LoadRun), s.loadpath = true → s.wld.load = some l → l.cnt ≤ l.idx → exec .loadPacket s = .next (s.endLoad l)) ∧
  (∀ (s : State) (l : LoadRun), l.fus = none → s.wld.loadQ = [] → ∃ t, s.endLoad l = t ∧ t.wld = { s.wld with load := none } ∧
    t.rdb A.wldStat 1 = false ∧ tbit (t.rd 0x3001C) 10 = true ∧
    OnlyChanges s t [.wld, .pwr, .msix, .out] [A.wldStat, 0x3000C, 0x3001C]) ∧
  (∀ (s : State) (l : LoadRun), s.loadpath = true → s.wld.load = some l → l.idx < l.cnt →
    let a := l.addr + 1088 * l.idx
    ∀ u v : State, u = (s.fetch 5 5 a 1088).2 →
    (∀ bs, inLocal a 1088 = true → (s.fetch 5 5 a 1088).1 = some bs → u.applyPacket bs = (.applied, v) →
      ∃ t : State, t.rd A.wldLoadDoneCnt = (l.applied + 1) % 2 ^ 20 ∧ OnlyChanges v t [.wld] [A.wldLoadDoneCnt] ∧
        (l.idx + 1 < l.cnt → exec .loadPacket s = .next t ∧
          t.wld = { v.wld with load := some { l with idx := l.idx + 1, applied := l.applied + 1 } }) ∧
        (l.idx + 1 = l.cnt → exec .loadPacket s = .next (t.endLoad { l with idx := l.idx + 1, applied := l.applied + 1 }))) ∧
    (∀ bs, inLocal a 1088 = true → (s.fetch 5 5 a 1088).1 = some bs → u.applyPacket bs = (.skipped, v) → l.idx + 1 < l.cnt →
      ∃ t : State, exec .loadPacket s = .next t ∧ Counted v t A.wldLoadRej ∧
        t.wld = { v.wld with load := some { l with idx := l.idx + 1, noted := true, failed := true } } ∧
        (l.noted = true → OnlyChanges v t [.wld] [A.wldLoadRej]) ∧
        (l.noted = false → ErrorNoted v t 0x30000 0x0101 (l.idx % 2 ^ 20) ∧
          OnlyChanges v t [.wld, .msix, .out] (A.wldLoadRej :: errorRegs 0x30000))) ∧
    (∀ bs, inLocal a 1088 = true → (s.fetch 5 5 a 1088).1 = some bs → u.applyPacket bs = (.noPredict, v) → l.idx + 1 < l.cnt →
      ∃ t : State, exec .loadPacket s = .next t ∧ Counted v t A.wldPredRej ∧
        t.wld = { v.wld with load := some { l with idx := l.idx + 1 } } ∧ OnlyChanges v t [.wld] [A.wldPredRej]) ∧
    ∀ bs, inLocal a 1088 = true → (s.fetch 5 5 a 1088).1 = some bs → u.applyPacket bs = (.poolEmpty, v) →
      exec .loadPacket s = .next ((v.pageErr 0x30000 0x0105 0).endLoad { l with failed := true })) ∧
  ∀ (u : State) (bs : List Byte),
    let w := pktW bs 1
    let i := keyBrick (pktW bs 0)
    (packetOk bs = false → u.applyPacket bs = (.skipped, u)) ∧
    (packetOk bs = true → fld w 2 2 ≠ 2 → tbit w 4 = true → (u.foreign i = true ∨ tbit (u.wRegion i) 2 = false) →
      u.applyPacket bs = (.noPredict, u)) ∧
    (packetOk bs = true → fld w 2 2 ≠ 2 → tbit w 4 = false → u.foreign i = true → u.applyPacket bs = (.skipped, u)) ∧
    (packetOk bs = true → fld w 2 2 ≠ 2 → tbit w 4 = false → u.foreign i = false → fld w 0 2 = 2 →
      (fld (u.dirNow (fld w 2 2) i) 30 2 ≠ 1 ∨ tbit (pktW bs 0) 31 = false ∧ u.linksOf (fld (u.dirNow (fld w 2 2) i) 0 22) = [] ∨
        tbit (pktW bs 0) 31 = true ∧ tbit (u.linkOf (fld (u.dirNow (fld w 2 2) i) 0 22) (keyVoxel (pktW bs 0))) 31 = false) →
      u.applyPacket bs = (.applied, u)) ∧
    (packetOk bs = true → fld w 2 2 = 1 → u.foreign i = false → fld w 0 2 = 1 →
      u.applyPacket bs = (.applied, (u.setUniform 1 i (fld w 16 16)).dirtied i)) ∧
    (packetOk bs = true → fld w 2 2 = 0 → u.foreign i = false → fld w 0 2 = 1 → fld w 16 16 = 0x8000 →
      u.applyPacket bs = (.applied, ((u.bump A.wldStaticUnk).setUniform 0 i 0x8000).dirtied i))

/-- PROPAGATION_DONE, EPOCH_PUBLISH, CUT_DONE, PIN_WRITE and SLOT_RELEASE on a node outside a fabric (R123 to R127).  Once fusion and load
have drained, and the lines of other nodes' bricks that it reads have come, the working epoch is propagated; a cut that may not publish, then or when it comes to publish, waits, counted and raised
once.  Publication makes the working epoch
the newest, lets epochs neither newest nor pinned retire, and step 4 makes the next working epoch, lets waiting EXT records apply (R250) and
raises CUT_DONE.  A pin takes an alive
epoch, else it is left at 0 and PIN_INVALID is recorded.  Released slots become free, at most 64 at once, and leave the cache. -/
def Obligations.CutsPropagatePublishAndRetire : Prop :=
  (∀ (s : State) (c : CutRun), s.aqd.cut = none → s.wld.cut = some c → c.step = .drain → s.wld.fusing = none → s.wld.load = none →
    s.propWaits = false → ∀ u, u = s.propagate → u.aqd.cut = none →
    (u.canPublish = true → ∃ t, exec .propagationDone s = .next t ∧ t.wld = { u.wld with cut := some { c with step := .propagated } } ∧
      OnlyChanges u t [.wld] []) ∧
    (u.canPublish = false → c.wait = none → ∃ t, exec .propagationDone s = .next t ∧
      t.wld = { u.wld with cut := some { c with step := .propagated, wait := some u.now } } ∧ t.rdb A.wldStat 3 = true ∧
      Counted u t A.wldCutWaitCnt ∧ Raised u t 0x30000 9 ∧
      OnlyChanges u t [.wld, .msix, .out] [A.wldStat, A.wldCutWaitCnt, 0x3001C])) ∧
  (∀ s : State, s.aqd.cut = none →
    (s.wld.cut = none ∨ s.wld.fusing.isSome ∨ s.wld.load.isSome ∨ s.propWaits = true ∨ ∃ c, s.wld.cut = some c ∧ c.step ≠ .drain) →
    exec .propagationDone s = .next s) ∧
  (∀ (s : State) (x y z : Nat) (dx dy dz : Int) (a : Int), -16 ≤ dx → dx ≤ 16 → -16 ≤ dy → dy ≤ 16 → -16 ≤ dz → dz ≤ 16 →
    dx * dx + dy * dy + dz * dz ≤ 256 → 0 ≤ x + dx → x + dx < 1024 → 0 ≤ y + dy → y + dy < 1024 → 0 ≤ z + dz → z + dz < 512 →
    (s.propSource (x + dx).toNat (y + dy).toNat (z + dz).toNat).1 = some a →
    (s.propVoxel x y z).1 ≤ 60 * 64 ∧ (s.propVoxel x y z).1 ≤ distLsb (dx * dx + dy * dy + dz * dz).toNat + a) ∧
  (∀ (s : State) (c : CutRun) (e : Epoch), s.aqd.cut = none → s.inFabric = false → s.wld.cut = some c → c.step = .propagated →
    (s.canPublish = false → c.wait.isSome → exec .epochPublish s = .next s) ∧
    (s.canPublish = false → c.wait = none → ∃ t, exec .epochPublish s = .next t ∧
      t.wld = { s.wld with cut := some { c with wait := some s.now } } ∧ t.rdb A.wldStat 3 = true ∧ Counted s t A.wldCutWaitCnt ∧
      Raised s t 0x30000 9 ∧ OnlyChanges s t [.wld, .msix, .out] [A.wldStat, A.wldCutWaitCnt, 0x3001C]) ∧
    (s.canPublish = true → s.wld.working = some e → e.num < 2 ^ 32 →
      ∃ t, exec .epochPublish s = .next t ∧ t.wld.working = none ∧ t.wld.cut = some { c with step := .copying, wait := none } ∧
        t.wld.alive = (s.wld.alive ++ [e]).filter (fun x => x.num = e.num || s.pinned.contains x.num) ∧ t.wld.dirty = [] ∧
        t.rd A.wldEpochNewest = e.num ∧ (c.wait.isSome → t.rdb A.wldStat 3 = false) ∧
        OnlyChanges s t [.wld, .mem, .spd] ([A.wldCutWaitUs, A.wldStat, A.wldEpochNewest, A.wldEpochOldest] ++
          (rangeFrom 0 16).flatMap (fun n => [A.wldAttStat n, A.wldAttCfg n])))) ∧
  (∀ (s : State) (c : CutRun) (e : Epoch), s.inFabric = false → s.aqd.prepAt = none → s.wld.cut = some c → c.step = .copying →
    s.wld.alive.getLast? = some e → s.wld.loadQ = [] → (s.now - c.asked) / 10 < 2 ^ 24 →
    ∃ t w, exec .cutDone s = .next t ∧ t.wld.cut = none ∧ t.wld.working = some w ∧ w.num = (if e.num = 0xFFFFFFFF then 1 else e.num + 1) ∧
      w.set = freeSet s.wld.alive ∧ t.wld.alive = s.wld.alive ∧ t.rd A.wldCutLat = (s.now - c.asked) / 10 ∧ t.rdb A.wldStat 2 = false ∧
      (∀ r ∈ calRegions, calType r = some 6 → tbit (t.rd64 A.calPend) r = false) ∧ tbit (t.rd 0x3001C) 8 = true) ∧
  (∀ s : State, s.wld.cut = none → exec .epochPublish s = .next s ∧ exec .cutDone s = .next s) ∧
  (∀ (src : Source) (n : Fin 4) (v : Nat) (s : State), s.takes src (A.wldPin n) → s.inFabric = false → v < 2 ^ 32 →
    ∃ t, exec (.pinWrite src n v) s = .next t ∧
      t.wld.alive = s.wld.alive.filter (fun x => decide (some x.num = s.wld.alive.getLast?.map (·.num)) || t.pinned.contains x.num) ∧
      ((v = 0 ∨ (s.epoch v).isSome) → t.rd (A.wldPin n) = v ∧
        OnlyChanges s t [.wld, .mem, .spd] [A.wldPin n, A.wldStat, A.wldEpochNewest, A.wldEpochOldest]) ∧
      (v ≠ 0 → s.epoch v = none → t.rd (A.wldPin n) = 0 ∧ ErrorNoted s t 0x30000 0x0102 0 ∧
        OnlyChanges s t [.wld, .mem, .spd, .msix, .out]
          ([A.wldPin n, A.wldStat, A.wldEpochNewest, A.wldEpochOldest] ++ errorRegs 0x30000))) ∧
  ∀ (n : Nat) (s : State),
    let c := s.wld.relC.take (min n 64)
    let f := s.wld.relF.take (min n 64 - c.length)
    ∃ t, exec (.slotRelease n) s = .next t ∧ c.length + f.length ≤ 64 ∧ t.wld.relC = s.wld.relC.filter (fun k => !c.contains k) ∧
      t.wld.relF = s.wld.relF.filter (fun k => !f.contains k) ∧
      (∀ a ∈ t.wld.lines, a ∈ s.wld.lines ∧ (a.node = none → (a.fine = false → a.slot ∉ c) ∧ (a.fine = true → a.slot ∉ f))) ∧
      (t.slotsFree false < 2 ^ 32 → t.rd A.wldCpoolFree = t.slotsFree false) ∧ (t.slotsFree true < 2 ^ 32 → t.rd A.wldFpoolFree = t.slotsFree true) ∧
      OnlyChanges s t [.wld, .msix, .out] [A.wldCpoolFree, A.wldFpoolFree, 0x3001C]

/-- FUSION_FRAME_START, FUSION_FRAME_DONE, ATT_CAPTURE, ATT_RELEASE, ATT_DONE and BRICK_FETCH_DONE (R120, R122, R125, R128, R129, R131).  The
next pending frame starts once no frame and no cut runs and the reserve of both pools is free, else POOL_LOW is raised; its end runs every
pixel and frees the buffer.  An observation averages DIST by weight, limited, and counts the weight up to WMAX.  A capture or release runs
one at a time on a field, needs INIT_DONE, waits for the working epoch, and takes effect with the next cut; a box over 64 voxels a side, or
one that would leave the field with more than 4,096 fine bricks, captures nothing and records ATT_FULL.  A fetched line is counted and
takes a place of the cache, whose size bounds it, in the scratchpad; the place is free (log entry 216).  A line of another node's brick is asked
for by four reads, once more where they have failed, and a home that no route reaches ends it as a fetch fault (R362; log entry 258); where
the requests leave no room it waits (R363).  A frame that starts turns the heaters off (R502), and no frame and no command moves while WCLK or a
clock of HBM stands (R470). -/
def Obligations.FramesAreFusedAndFieldsAttached : Prop :=
  (∀ (s : State) (k b : Nat) (rest : List (Nat × Nat)), s.ing.handover = (k, b) :: rest →
    ((s.wld.fusing.isSome ∨ s.wld.cut.isSome ∨ s.fusionOn = false ∨ s.pageOpen 0x30000 = false ∨ s.tripped = true ∨ s.loadpath = false) →
      exec .fusionFrameStart s = .next s) ∧
    (s.wld.fusing = none → s.wld.cut = none → s.fusionOn = true → s.pageOpen 0x30000 = true → s.tripped = false → s.loadpath = true →
      (s.wldReady = false → ∃ t, exec .fusionFrameStart s = .next t ∧ OnlyError s t 0x30000 0x0104 0) ∧
      (s.wldReady = true → (s.slotsFree false < s.reserveOf false ∨ s.slotsFree true < s.reserveOf true) →
        ∃ t, exec .fusionFrameStart s = .next t ∧ Raised s t 0x30000 11 ∧ OnlyChanges s t [.msix, .out] [0x3001C]) ∧
      (s.wldReady = true → s.reserveOf false ≤ s.slotsFree false → s.reserveOf true ≤ s.slotsFree true →
        ∃ t : State, exec .fusionFrameStart s = .next t.heatCut ∧ t.ing = { s.ing with handover := rest } ∧ t.wld = { s.wld with fusing := some (k, b) } ∧
          t.rdb 0x3000C 1 = true ∧ OnlyChanges s t [.ing, .wld, .pwr] [0x3000C]))) ∧
  (∀ s : State, s.ing.handover = [] → exec .fusionFrameStart s = .next s) ∧
  (∀ s : State, (s.wld.fusing = none ∨ s.tripped = true ∨ s.loadpath = false) → exec .fusionFrameDone s = .next s) ∧
  (∀ (s : State) (k b : Nat), s.wld.fusing = some (k, b) → s.tripped = false → s.loadpath = true →
    ∃ u v : State, u = s.fuseFrame k b ∧ exec .fusionFrameDone s = .next (v.bufFused k b).wldBusy ∧
      v.wld = { u.wld with fusing := none } ∧ OnlyChanges u v [.wld] []) ∧
  (∀ (w wmax : Nat) (sd : Int), wmax ≤ 15 →
    let n := fld w 12 4
    fld (fuseWord w sd wmax) 12 4 = (if n = 0 then 1 else min (n + 1) wmax) ∧
    sgn 12 (fuseWord w sd wmax) = clampI (-2047) 2047 (if n = 0 then sd / 2 ^ 26
      else ((if fld w 0 12 = 0x800 then 0 else sgn 12 (fld w 0 12)) * n * 2 ^ 26 + sd) / ((n + 1 : Nat) * 2 ^ 26))) ∧
  (∀ (src : Source) (n : Fin 16) (s : State), s.takes src (A.wldAttCmd n) → n.val < s.wld.att.length →
    ∀ c k, (c, k) ∈ [(Instr.attCapture src n, 1), (.attRelease src n, 2)] →
    (s.pageOpen 0x31000 = false → ∃ t, exec c s = .next t ∧ t.waitIn = s.waitIn ++ [(0x31000, .att n k)] ∧ OnlyChanges s t [.waitIn] []) ∧
    (s.pageOpen 0x31000 = true →
      ((s.att n).cmd ≠ 0 → ∃ t, exec c s = .next t ∧ OnlyChanges s t [] []) ∧
      ((s.att n).cmd = 0 → s.wldReady = false → ∃ t, exec c s = .next t ∧ OnlyError s t 0x30000 0x0104 0) ∧
      ((s.att n).cmd = 0 → s.wldReady = true → ∃ t, exec c s = .next t ∧
        t.wld = { s.wld with att := upd (fun x => { x with cmd := k }) s.wld.att n } ∧ t.rdb (A.wldAttStat n) 16 = true ∧
        OnlyChanges s t [.wld, .pwr] [A.wldAttStat n, 0x3000C]))) ∧
  (∀ (n : Fin 16) (s : State), ((s.att n).cmd = 0 ∨ s.wld.working = none ∨ s.loadpath = false ∨ (s.att n).cmd = 1 ∧ s.captureWaits n = true) → exec (.attDone n) s = .next s) ∧
  (∀ (n : Fin 16) (s : State), (s.att n).cmd ≠ 0 → s.wld.working.isSome → s.loadpath = true →
    ((s.att n).cmd = 1 → s.captureWaits n = false) →
    ∃ u t : State, exec (.attDone n) s = .next t ∧
      ((s.att n).cmd = 1 → u = s.capture n) ∧
      ((s.att n).cmd ≠ 1 → u.wld = { s.wld with att := upd (fun x => { x with drop := true, staged := [], anchor2 := none }) s.wld.att n } ∧
        u.rdb (A.wldAttStat n) 17 = true ∧ OnlyChanges s u [.wld] [A.wldAttStat n]) ∧
      (∃ h, t.wld = { u.wld with att := upd (fun x => { x with cmd := 0 }) u.wld.att n, held := h } ∧ (h = u.wld.held ∨ h = [])) ∧ t.rdb (A.wldAttStat n) 16 = false ∧
      tbit (t.rd 0x3001C) 13 = true ∧ OnlyChanges u t [.wld, .pwr, .msix, .out] [A.wldAttStat n, 0x3000C, 0x3001C]) ∧
  (∀ (s : State) (n : Nat),
    let b := boxOf (s.rd (A.wldAttBoxLo n)) (s.rd (A.wldAttBoxHi n))
    let z := b.2
    (64 < z.1 ∨ 64 < z.2.1 ∨ 64 < z.2.2 ∨
      4096 < ((s.attCells n).filter (fun x => z.1 ≤ x.1 % 64 || z.2.1 ≤ x.1 / 64 % 64 || z.2.2 ≤ x.1 / 4096)).length +
        ((boxVoxels b.1 z).filter (fun v => (s.withHeld.dynVoxel v.2.1 v.2.2.1 v.2.2.2).2.1.isSome)).length) → OnlyError s (s.capture n) 0x30000 0x0103 0) ∧
  ∀ (node : Option Nat) (fine bad again : Bool) (slot line eps crc : Nat) (data : List Byte) (s : State), data.length ≤ 1024 →
    let c := Instr.brickFetchDone node fine slot line eps crc data bad again
    let taken := fun (t : State) (x : CacheLine) => t.rd A.wldCacheMiss = (s.rd A.wldCacheMiss + 1) % 2 ^ 32 ∧ x ∈ t.wld.lines ∧ x.node = node ∧
      x.fine = fine ∧ x.slot = slot ∧ x.line = line ∧ x.place < s.cacheCap ∧
      (∀ y ∈ t.wld.lines, y = x ∨ y ∈ s.wld.lines ∧ y.place < s.cacheCap ∧ y.place ≠ x.place) ∧
      MemOnlyIn s t (s.cacheAddr x.place) (s.cacheAddr x.place + 1024)
    (node = none → s.hbmRuns = false → exec c s = .next s) ∧
    (node = none → s.hbmRuns = true → ∃ t x, exec c s = .next t ∧ taken t x ∧ OnlyChanges s t [.wld, .mem, .spd, .freeCnt] [A.wldCacheMiss]) ∧
    ∀ m, node = some m →
      let lost := s.route m = []
      let n := if again = true ∨ lost then 8 else 4
      (768 < s.aqd.reqs.length + 4 → exec c s = .next s) ∧
      (s.aqd.reqs.length + 4 ≤ 768 → ∃ t x, exec c s = .next t ∧ taken t x ∧ x.eps = eps ∧ x.crc = crc ∧ x.data = data ∧
        (x.bad = true ↔ bad = true ∨ lost) ∧ (x.bad = true → Counted s t A.aqdReqFail) ∧ (n = 8 → Counted s t A.aqdRdRetry) ∧
        t.aqd.tagNo = (s.aqd.tagNo + n) % 2 ^ 16 ∧ t.aqd.reqs = s.aqd.reqs ∧
        (lost → t.out = s.out) ∧ (¬lost → (t.out.drop s.out.length).length = n ∧ s.out = t.out.take s.out.length ∧
          ∀ o ∈ t.out.drop s.out.length, ∃ (k j tag : Nat), k ∈ s.route m ∧ j < 4 ∧ o = .packet k
            (({ dst := m, kind := 0, len := 32, tag := tag, addr := s.lineAddr fine slot line + 256 * j } : Header).words s.ownNode) []) ∧
        (s.holdsLines = true → ∃ h ∈ t.wld.held, h.slot = slot ∧ h.line = line ∧ h.data = data) ∧
        OnlyChanges s t [.wld, .mem, .spd, .freeCnt, .aqd, .out] ([A.wldCacheMiss, A.aqdReqFail, A.aqdRdRetry] ++
          (rangeFrom 0 8).map A.aqdLTx ++ (rangeFrom 0 8).map A.aqdLRx))

/-! ## Robots and candidates (chapter 6) -/

/-- LOAD_DESC, LOAD_TOOL, DESC_DONE, TOOL_DONE, RS_PUT_WRITE, ROBOT_EN_WRITE and HB_PUB (R134, R139, R140, R149).  A load command while
another runs or waits records LOAD_BUSY; else it runs, reading its record at once while the page takes work, and waits otherwise.  A record
that passes is staged, one that fails leaves the earlier one and is recorded, and DESC_DONE or TOOL_DONE is raised in both cases, with the
failure in CND_R_STAT; the tool load of one command follows its description load.  A written RS_PUT gives the robot a state record.  A
ROBOT_EN bit is accepted only with a valid description, else NO_DESC is recorded.  HB_PUB publishes a batch whose address, stride and
area are good, else BAD_BATCH is recorded. -/
def Obligations.RobotsAreLoadedEnabledAndPublished : Prop :=
  (∀ (src : Source) (r : Fin 4) (s : State), s.takes src (A.cndRCmd r) → r.val < s.pass.robots.length →
    ∀ (c : Instr) (l : LoadCmd), (c = .loadDesc src r ∧ l = { desc := true, tool := none, started := false } ∨
      ∃ k : Fin 8, c = .loadTool src r k ∧ l = { desc := false, tool := some k.val, started := false }) →
    ((s.cnd r).load.isSome → ∃ t, exec c s = .next t ∧ OnlyError s t (cndPage r) 0x0105 0) ∧
    ((s.cnd r).load = none → s.pageOpen (cndPage r) = false → ∃ t, exec c s = .next t ∧
      t.pass = { s.pass with robots := upd (fun x => { x with load := some l }) s.pass.robots r } ∧
      t.rdb (A.cndRStat r) 3 = true ∧ OnlyChanges s t [.pass, .pwr] [A.cndRStat r, cndPage r + 0x00C]) ∧
    ((s.cnd r).load = none → s.pageOpen (cndPage r) = true →
      let a := s.rd64 (if l.desc then A.cndRDescAddr r else A.cndRToolAddr r) % 2 ^ 48
      let n := if l.desc then 3648 else 1600
      inLocal a n = true → wordsIn s.spd.ue a n = [] → wordsIn s.spd.ce a n = [] →
      ∃ t, exec c s = .next t ∧
        t.pass = { s.pass with robots := upd (fun x => { x with load := some { l with
          started := true
          gotD := if l.desc then parseDesc (s.readMem a n) else none
          gotT := if l.desc then none else (s.cnd r).jointsFor.bind (parseTool (s.readMem a n)) } }) s.pass.robots r } ∧
        t.rdb (A.cndRStat r) 3 = true ∧ OnlyChanges s t [.pass, .pwr] [A.cndRStat r, cndPage r + 0x00C, A.spdCeCnt])) ∧
  (∀ (r : Fin 4) (s : State) (l : LoadCmd), (s.cnd r).load = some l → l.desc = true → l.started = true → r.val < s.pass.robots.length →
    ∃ t, exec (.descDone r) s = .next t ∧ tbit (t.rd (cndPage r + 0x01C)) 8 = true ∧
      (t.cnd r).desc = (s.cnd r).desc ∧ (t.cnd r).tools = (s.cnd r).tools ∧
      (∀ d, l.gotD = some d → (t.cnd r).descNew = some d ∧ t.rdb (A.cndRStat r) 2 = false ∧ t.rdb (A.cndRStat r) 1 = true) ∧
      (l.gotD = none → (t.cnd r).descNew = (s.cnd r).descNew ∧ t.rdb (A.cndRStat r) 2 = true ∧ t.rdb (cndPage r + 0x00C) 9 = true ∧
        (s.rdb (cndPage r + 0x00C) 9 = false → t.rd (cndPage r + 0x02C) = 0x0100)) ∧
      (l.tool = none → (t.cnd r).load = none ∧ t.rdb (cndPage r + 0x00C) 1 = false ∧
        OnlyChanges s t [.pass, .pwr, .msix, .out] (A.cndRStat r :: errorRegs (cndPage r))) ∧
      ∀ k, l.tool = some k → ∃ m, (t.cnd r).load = some m ∧ m.desc = false ∧ m.tool = some k) ∧
  (∀ (r : Fin 4) (s : State) (l : LoadCmd) (k : Nat), (s.cnd r).load = some l → l.desc = false → l.started = true → l.tool = some k →
    r.val < s.pass.robots.length →
    ∃ t, exec (.toolDone r) s = .next t ∧ tbit (t.rd (cndPage r + 0x01C)) 9 = true ∧ (t.cnd r).load = none ∧
      (t.cnd r).tools = (s.cnd r).tools ∧
      (∀ x, l.gotT = some x → (t.cnd r).toolNew = upd (fun _ => some x) (s.cnd r).toolNew k ∧ t.rdb (A.cndRStat r) 2 = false) ∧
      (l.gotT = none → (t.cnd r).toolNew = (s.cnd r).toolNew ∧ t.rdb (A.cndRStat r) 2 = true ∧ t.rdb (cndPage r + 0x00C) 9 = true ∧
        (s.rdb (cndPage r + 0x00C) 9 = false → t.rd (cndPage r + 0x02C) = 0x0101)) ∧
      OnlyChanges s t [.pass, .pwr, .msix, .out] (A.cndRStat r :: errorRegs (cndPage r))) ∧
  (∀ (r : Fin 4) (s : State), (s.cnd r).load = none → exec (.descDone r) s = .next s ∧ exec (.toolDone r) s = .next s) ∧
  (∀ (src : Source) (r : Fin 4) (v : Nat) (s : State), s.takes src (A.cndRRsPut r) → r.val < s.pass.robots.length → v < 2 ^ 32 →
    ∃ t, exec (.rsPutWrite src r v) s = .next t ∧ t.rd (A.cndRRsPut r) = v ∧
      t.pass = { s.pass with robots := upd (fun x => { x with rsPut := true }) s.pass.robots r } ∧ OnlyChanges s t [.pass] [A.cndRRsPut r]) ∧
  (∀ (src : Source) (v : Nat) (s : State), s.takes src A.cndCtrl →
    ∃ t, exec (.robotEnWrite src v) s = .next t ∧ t.rdb A.cndCtrl 8 = tbit v 8 ∧
      (∀ r, r < 4 → t.rdb A.cndCtrl r = (tbit v r && s.rdb (A.cndRStat r) 0) ∧
        (tbit v r = true → s.rdb (A.cndRStat r) 0 = false → ErrorNoted s t (cndPage r) 0x0102 0)) ∧
      OnlyChanges s t [.msix, .out] (A.cndCtrl :: ((rangeFrom 0 4).filter (fun r => tbit v r && !s.rdb (A.cndRStat r) 0)).flatMap
        (fun r => errorRegs (cndPage r)))) ∧
  ∀ (src : Source) (r : Fin 4) (count : Nat) (s : State), s.takes src (A.cndRHbPub r) → r.val < s.pass.robots.length → count < 2 ^ 18 →
    let a := s.rd64 (A.cndRHbAddr r) % 2 ^ 48
    let st := s.rdf (A.cndRHbStride r) 0 13
    let n := (s.rd (A.cndRHbSeq r) + 1) % 2 ^ 32
    let ok := a % 64 = 0 ∧ st % 64 = 0 ∧ 64 ≤ st ∧ inLocal a (count * st) = true
    (ok → ∃ t, exec (.hbPub src r count) s = .next t ∧ t.rd (A.cndRHbSeq r) = n ∧
      t.pass = { s.pass with robots := upd (fun x => { x with batch := some ⟨a, st, count, n⟩ }) s.pass.robots r } ∧
      OnlyChanges s t [.pass] [A.cndRHbSeq r]) ∧
    (¬ok → ∃ t, exec (.hbPub src r count) s = .next t ∧ OnlyError s t (cndPage r) 0x0103 0)

/-! ## Sweep and selection (chapter 7) -/

/-- CANDIDATE_COMPLETE, CANDIDATE_SWEPT, REDUCTION_FINAL, SECOND_REDUCTION_FINAL, KNOWN_ANSWER_TEST and PATH_DROP (R18, R20, R21, R148,
R158, R165, R171, R174 to R178, R180, R295).  A seeded candidate joins the queue in index order and free lane groups take it; a malformed
one gets a record at once, with its TAG (a free value where that word is uncorrectable), is counted and raises.  A swept candidate is counted for its group and gets its record; it is clear exactly when
nothing it read was bad, it is not undersampled, and every test keeps its margin, and MINCLR is the least clearance.  Only OK records enter
the ranking by cost and index, of which the best K stay, and a refined path only where its cost has fallen.  While a test needs a brick
of another node that has not come, the lanes wait.  A reduction that is final fixes the ranking, raises REDUCE_DONE and completes its
handle; the commit lists are written after the second one, or as a commit starts, with zeros for a robot outside the pass.  A known-answer
test is counted, and a failure stops the device.  A dropped path goes at the next gate open, also when an abort withdraws a commit. -/
def Obligations.CandidatesAreSweptRankedAndReduced : Prop :=
  (∀ (index : Nat) (s s1 : State) (p : PassRun) (x : PassRobot) (st : PassStep) (k : Nat), s.poolpath = true → s.pass.cur = some p →
    p.robots.find? (fun y => (y.slotOf index).isSome && !y.seeded.contains index) = some x → p.running = some st → st.kind = .sweep →
    p.closed = none → x.sweeps p.epoch.isSome = true → x.slotOf index = some (0, k) →
    ∀ q, q = p.setRobot x.robot (fun y => { y with seeded := index :: y.seeded }) →
    (∀ c, s.hostCand x index k = (some c, s1) → ∃ u : State, exec (.candidateComplete index) s = .next u.groupsFill ∧
      u.pass = { s1.pass with cur := s1.pass.cur.map (fun _ => { q with queue := insBy (fun a b => a.index ≤ b.index) c p.queue }) } ∧
      OnlyChanges s1 u [.pass] []) ∧
    (s.hostCand x index k = (none, s1) → ∃ (u : State) (r : Res), exec (.candidateComplete index) s = .next (u.putRecord r false).sweepOver ∧
      r.status = 0x09 ∧ r.cand.index = index ∧ r.cost = 0xFFFFFFFF ∧ Counted s1 u A.cndBadCand ∧ Raised s1 u (cndPage x.robot) 10 ∧
      (∀ b, x.batch = some b → let a := b.addr + k * b.stride + 8
        s1.spd.ue.contains (wordAddr a) = false → r.cand.tag = s1.peek32 a ∧ u.freeCnt = s1.freeCnt) ∧
      OnlyChanges s1 u [.pass, .freeCnt, .msix, .out] [A.cndBadCand, cndPage x.robot + 0x01C])) ∧
  (∀ (index : Nat) (s : State), (s.poolpath = false ∨ s.pass.cur = none ∨ ∃ p, s.pass.cur = some p ∧
      (p.closed.isSome ∨ p.running = none ∨ ∀ x ∈ p.robots, x.slotOf index = none)) → exec (.candidateComplete index) s = .next s) ∧
  (∀ (g : Fin 8) (s : State) (p : PassRun) (e : Epoch) (c : Cand) (x : PassRobot), s.poolpath = true → s.pass.cur = some p →
    nth none p.jobs g = some c → p.epoch = some e → p.robotOf c.robot = some x →
    (s.lanesWait p x e c = true → exec (.candidateSwept g) s = .next s) ∧
    (s.lanesWait p x e c = false → ∃ u : State, u.pass = { s.pass with cur := some { p with jobs := upd (fun _ => none) p.jobs g } } ∧
      u.rd (A.swpGCand g) = (s.rd (A.swpGCand g) + 1) % 2 ^ 32 ∧ OnlyChanges s u [.pass] [A.swpGCand g] ∧
      ∃ v : State, v = ((u.sweepCand g p x e c).setBusy (lgPage g) false).groupFill g ∧
        ((∃ q, v.pass.cur = some q ∧ (nth none q.jobs g).isSome) → exec (.candidateSwept g) s = .next v.sweepOver) ∧
        (v.svc (lgPage g) ≠ 1 → exec (.candidateSwept g) s = .next v.sweepOver))) ∧
  (∀ (s : State) (p : PassRun) (x : PassRobot) (e : Epoch) (c : Cand),
    s.lanesWait p x e c = true ↔ ∃ t ∈ s.allTests p x e c.smp, ∃ q ∈ t.seen, q.miss = true) ∧
  (∀ (g : Fin 8) (s : State), (s.poolpath = false ∨ s.pass.cur = none ∨ ∃ p, s.pass.cur = some p ∧ nth none p.jobs g = none) →
    exec (.candidateSwept g) s = .next s) ∧
  (∀ (g : Fin 8) (s : State) (p : PassRun) (x : PassRobot) (e : Epoch) (c : Cand),
    let ts := s.allTests p x e c.smp
    let all := ts.flatMap (·.list)
    ∃ (u : State) (r : Res), s.sweepCand g p x e c = u.putRecord r true ∧ r.cand = c ∧ r.cost ≤ 0xFFFFFFFF ∧
      (r.status = 0 ↔ (∀ q ∈ ts.flatMap (·.seen), q.bad = []) ∧ x.pairBad = false ∧ undersampled p x c.smp = false ∧
        ∀ t ∈ all, ((if t.kind ≤ 1 then p.margin x.robot else p.pmargin x.robot : Nat) : Int) ≤ t.clear) ∧
      (∀ t ∈ all, r.minclr ≤ t.clear) ∧ (all ≠ [] → ∃ t ∈ all, r.minclr = t.clear ∧ r.sample = t.sample ∧ r.kind = t.kind) ∧
      ∀ a, u.memGet a = s.memGet a) ∧
  (∀ (x : PassRobot) (r : Res) (sw : Bool),
    (r.status ≠ 0 → (x.take r sw).ranked = x.ranked ∧ (x.take r sw).refok = x.refok) ∧
    (r.status = 0 → r.cand.src ≠ 3 → (x.take r sw).ranked = (insBy rankLe r x.ranked).take (max 1 x.topk) ∧ (x.take r sw).refok = x.refok) ∧
    (r.status = 0 → r.cand.src = 3 → (x.take r sw).ranked = x.ranked ∧
      (x.take r sw).refok = if r.cost < r.cand.orig then insBy rankLe r x.refok else x.refok) ∧
    (x.ranked.Pairwise (fun a b => rankLe a b = true) → (x.take r sw).ranked.Pairwise (fun a b => rankLe a b = true))) ∧
  (∀ (s : State) (r : Res) (sw : Bool) (p : PassRun), s.pass.cur = some p →
    let a := p.recBase + p.seq % 2 * 0x201000 + 16 * p.records
    (tbit (p.word 0x40) 0 = true → resAddrOk p.recBase = true → 16 * p.records + 16 ≤ 0x201000 →
      (s.spd.ue = [] → (s.putRecord r sw).readMem a 16 = r.bytes) ∧ MemOnlyIn s (s.putRecord r sw) a (a + 16) ∧
      OnlyChanges s (s.putRecord r sw) [.pass, .mem, .spd] []) ∧
    (tbit (p.word 0x40) 0 = false → OnlyChanges s (s.putRecord r sw) [.pass] [])) ∧
  (∀ (s : State) (p : PassRun) (st : PassStep) (acc h : Nat), s.datapath = true → s.pass.cur = some p → p.running = some st →
    st.by_ = some (acc, h) → p.closed = none → p.allSwept = true → p.waiting = [] →
    (st.kind = .sweep → ∃ t, exec .reductionFinal s = .next t ∧
      t.pass = { s.pass with cur := some { p with running := none, robots := p.robots.map (fun x => { x with top := x.ranked }) } } ∧
      t.dsp.ended = s.dsp.ended ++ [⟨acc, h, 0, robotMask ((p.robots.filter (fun x => !x.ranked.isEmpty)).map (·.robot))⟩] ∧
      tbit (t.rd 0x5001C) 9 = true ∧ OnlyChanges s t [.pass, .dsp, .pwr, .msix, .out] [0x5000C, 0x5001C]) ∧
    (∀ a n, st.kind = .resweep a n → tbit (p.word 0x40) 1 = false → ∃ t, exec .secondReductionFinal s = .next t ∧
      t.pass = { s.pass with cur := some { p with running := none } } ∧ t.dsp.ended = s.dsp.ended ++ [⟨acc, h, 0, p.reswept⟩] ∧
      tbit (t.rd 0x5001C) 9 = true ∧ OnlyChanges s t [.pass, .dsp, .pwr, .msix, .out] [0x5000C, 0x5001C])) ∧
  (∀ (s : State) (p : PassRun), s.pass.cur = some p →
    let base := (p.word 0x58 + p.word 0x5C * 2 ^ 32) % 2 ^ 48
    let a := base + p.seq % 2 * 0x800
    (tbit (p.word 0x40) 1 = false → s.writeLists = s) ∧
    (tbit (p.word 0x40) 1 = true → resAddrOk p.recBase = true → base % 64 = 0 → inLocal base 0x1000 = true →
      MemOnlyIn s s.writeLists a (a + 0x800) ∧
      (s.spd.ue = [] → ∀ r, r < 4 → p.robotOf r = none → ∀ b, a + r * 0x200 ≤ b → b < a + r * 0x200 + 0x200 → s.writeLists.memGet b = 0) ∧
      OnlyChanges s s.writeLists [.pass, .mem, .spd] [])) ∧
  (∀ s : State, (s.datapath = false ∨ s.pass.cur = none ∨ ∃ p, s.pass.cur = some p ∧ (p.running = none ∨ p.closed = none ∧ p.allSwept = false)) →
    exec .reductionFinal s = .next s ∧ exec .secondReductionFinal s = .next s) ∧
  (∀ (g : Fin 8) (s : State), ∃ u, Counted s u (A.swpGKat g) ∧ OnlyChanges s u [] [A.swpGKat g] ∧
    exec (.knownAnswerTest g true) s = .next u ∧ exec (.knownAnswerTest g false) s = .next (u.safDiag 0x08)) ∧
  ∀ (src : Source) (r : Fin 4) (s : State), s.takes src (A.swpRPath r) → ∃ t, exec (.pathDrop src r) s = .next t ∧
    t.pass = { s.pass with
      next := upd (fun _ => some none) s.pass.next r
      cur := s.pass.cur.map (fun q => { q with
        undo := q.undo.map (fun (x : Nat × Option (Option PathRec)) => (x.1, if x.1 = r.val then some none else x.2)) }) } ∧
    OnlyChanges s t [.pass] []

/-! ## Solver arrays (chapter 8) -/

/-- SOL_INIT, SOL_INIT_DONE, SOL_INSTALL, SOL_UNINSTALL, SOL_ABORT, UPD_GO, UPD_DONE and SOL_LAUNCH (R185 to R188, R197, R199, R204).
Initialisation takes the configuration unless it is bad, and ends with no problem resident.  Commands before INIT_DONE record NOT_INIT.  An
install checks the slot: it becomes resident with GEN one higher, or is refused with the number of the check; while its problem is queued or
runs the change is held.  A launch that cannot run completes at once: relaunched, without a lane group in service, not resident, or a PASS
problem with no gate open; else it is queued.  An update list is counted while it is applied, and a second one is refused. -/
def Obligations.SolverProblemsAreInstalledAndLaunched : Prop :=
  let busy := (0x60000 :: (rangeFrom 0 16).map solPage).flatMap (fun p => [p + 0x00C, p + 0x01C])
  (∀ (src : Source) (s : State), s.takes src A.solCtrl →
    (s.sol.initRun.isSome → ∃ t, exec (.solInit src) s = .next t ∧ OnlyChanges s t [] []) ∧
    (s.sol.initRun = none → s.solMemBad = true → ∃ t, exec (.solInit src) s = .next t ∧ OnlyError s t 0x60000 0x0103 0) ∧
    (s.sol.initRun = none → s.solMemBad = false → ∃ t, exec (.solInit src) s = .next t ∧
      t.sol = { s.sol with initRun := some (s.rd64 A.solMemBase % 2 ^ 48, s.rdf A.solProbCnt 0 14) } ∧
      OnlyChanges s t [.sol, .pwr, .msix, .out] busy)) ∧
  (∀ s : State, ((s.sol.initRun = none ∨ s.hbmRuns = false) → exec .solInitDone s = .next s) ∧
    ∀ b n, s.sol.initRun = some (b, n) → s.hbmRuns = true → ∃ t, exec .solInitDone s = .next t ∧
      t.sol = { s.sol with initRun := none, base := b, cnt := n, resident := [] } ∧ t.solReady = true ∧
      OnlyChanges s t [.sol, .pwr, .msix, .out] (A.solStat :: busy)) ∧
  (∀ (src : Source) (p : Fin 8192) (s : State), s.takes src A.solCmd → s.solReady = false →
    ∀ c ∈ [Instr.solInstall src p, .updGo src], ∃ t, exec c s = .next t ∧ OnlyError s t 0x60000 0x0102 0) ∧
  (∀ (src : Source) (p : Fin 8192) (s : State), s.takes src A.solCmd → s.solReady = true →
    ((s.solItem p).isSome → ∃ t, exec (.solInstall src p) s = .next t ∧ t.sol = { s.sol with held := s.sol.held ++ [(p.val, .install)] } ∧
      Counted s t A.solHeld ∧ OnlyChanges s t [.sol] [A.solHeld]) ∧
    (s.solItem p = none → p.val < s.sol.cnt → wordsIn s.spd.ue (s.solSlot p) 0x4000 = [] → wordsIn s.spd.ce (s.solSlot p) 0x4000 = [] →
      ∀ c, c = (probWords (s.readMem (s.solSlot p) 0x4000)).check →
      (c = 0 → ∃ t, exec (.solInstall src p) s = .next t ∧ t.sol = { s.sol with resident := setIns p.val s.sol.resident } ∧
        t.peek32 (s.solSlot p + 0x6C) = (s.peek32 (s.solSlot p + 0x6C) + 1) % 2 ^ 32 ∧ Raised s t 0x60000 8 ∧
        MemOnlyIn s t (s.solSlot p + 0x6C) (s.solSlot p + 0x70) ∧
        OnlyChanges s t [.sol, .mem, .spd, .msix, .out] [0x6001C, A.spdCeCnt]) ∧
      (c ≠ 0 → ∃ t, exec (.solInstall src p) s = .next t ∧ ErrorNoted s t 0x60000 0x0100 (p.val + c * 2 ^ 16) ∧
        t.sol = { s.sol with resident := s.sol.resident.filter (fun x => x ≠ p.val) } ∧
        OnlyChanges s t [.sol, .spd, .msix, .out] (A.spdCeCnt :: errorRegs 0x60000)))) ∧
  (∀ (src : Source) (p : Fin 8192) (s : State), s.takes src A.solCmd →
    (∃ t, exec (.solUninstall src p) s = .next t ∧ t.sol = { s.sol with resident := s.sol.resident.filter (fun x => x ≠ p.val) } ∧
      OnlyChanges s t [.sol] []) ∧
    (s.solItem p = none → ∃ t, exec (.solAbort src p) s = .next t ∧ OnlyChanges s t [] []) ∧
    (∀ x, s.solItem p = some x → ∃ u, OnlyChanges s u [] [] ∧ exec (.solAbort src p) s = .next (u.solStop x true).mdioFree.remoteFreed) ∧
    (s.solReady = true → s.sol.lists ≠ 0 → ∃ t, exec (.updGo src) s = .next t ∧ Counted s t A.solUpdBusy ∧ OnlyChanges s t [] [A.solUpdBusy]) ∧
    (s.solReady = true → s.sol.lists = 0 → ∃ u, OnlyChanges s u [] [] ∧
      exec (.updGo src) s = .next (u.updList (s.rd64 A.solUpdAddr % 2 ^ 48) (s.rdf A.solUpdCnt 0 16)).1.mdioFree.remoteFreed)) ∧
  (∀ (s : State) (p list place : Nat) (body : List Byte),
    (s.sol.resident.contains p = false → (s.updApply p list place body).2 = false ∧ Counted s (s.updApply p list place body).1 A.solUpdRej ∧
      (s.sol.listBad.contains list = false → ErrorNoted s (s.updApply p list place body).1 0x60000 0x0101 (place % 2 ^ 16)) ∧
      ∀ a, (s.updApply p list place body).1.memGet a = s.memGet a) ∧
    (s.sol.resident.contains p = true → wordsIn s.spd.ue (s.solSlot p) 0x40 = [] →
      let w := probWords (s.readMem (s.solSlot p) 0x40)
      ((∃ x ∈ pairsOf (fullWords body), pairTarget w x.1 x.2 = none) → (s.updApply p list place body).2 = false ∧
        Counted s (s.updApply p list place body).1 A.solUpdRej ∧ ∀ a, (s.updApply p list place body).1.memGet a = s.memGet a) ∧
      ((∀ x ∈ pairsOf (fullWords body), (pairTarget w x.1 x.2).isSome) → (s.updApply p list place body).2 = true ∧
        (s.updApply p list place body).1.rd A.solUpdPairs = (s.rd A.solUpdPairs + (pairsOf (fullWords body)).length) % 2 ^ 32 ∧
        (w.nnz ≤ 2048 → MemOnlyIn s (s.updApply p list place body).1 (s.solSlot p) (s.solSlot p + 0x4000))))) ∧
  (∀ s : State, (s.sol.lists = 0 → exec .updDone s = .next s) ∧
    (s.sol.lists ≠ 0 → ∃ t, exec .updDone s = .next t ∧ t.sol = { s.sol with lists := s.sol.lists - 1 } ∧
      t.rdb A.solStat 1 = decide (1 < s.sol.lists) ∧ tbit (t.rd 0x6001C) 9 = true ∧
      OnlyChanges s t [.sol, .pwr, .msix, .out] (A.solStat :: busy))) ∧
  ∀ (src : Source) (p : Fin 8192) (bg : Bool) (s : State), s.takes src A.solLaunch →
    let atOnce := fun (st : Status) (r : Nat) => ∃ t, exec (.solLaunch src p bg) s = .next t ∧
      t.sol = { s.sol with last := Sparse.set (fun _ => 0) s.sol.last p.val (statusCode st) } ∧
      t.rd A.solDoneCnt = (s.rd A.solDoneCnt + 1) % 2 ^ 32 ∧ tbit (t.rd 0x6001C) 10 = true ∧
      (p.val < s.sol.cnt → s.spd.ue = [] → t.peek32 (s.solSlot p + 0x40) = statusCode st ∧ t.peek32 (s.solSlot p + 0x44) = 0) ∧
      MemOnlyIn s t (s.solSlot p + 0x40) (s.solSlot p + 0x6C) ∧
      OnlyChanges s t [.sol, .mem, .spd, .msix, .out] [A.solDoneCnt, 0x6001C, r]
    (s.solReady = false → ∃ t, exec (.solLaunch src p bg) s = .next t ∧ OnlyError s t 0x60000 0x0102 0) ∧
    (s.solReady = true → (s.solItem p).isSome → ∃ t, exec (.solLaunch src p bg) s = .next t ∧ Counted s t A.solRelaunch ∧
      t.rd A.solDoneCnt = (s.rd A.solDoneCnt + 1) % 2 ^ 32 ∧ Raised s t 0x60000 10 ∧
      OnlyChanges s t [.msix, .out] [A.solRelaunch, A.solDoneCnt, 0x6001C]) ∧
    (s.solReady = true → s.solItem p = none → solTakesNew s = false → atOnce .unitOut A.solDoneCnt) ∧
    (s.solReady = true → s.solItem p = none → solTakesNew s = true → s.sol.resident.contains p.val = false → atOnce .dataFault A.solDoneCnt) ∧
    (s.solReady = true → s.solItem p = none → solTakesNew s = true → s.sol.resident.contains p.val = true → bg = false → s.pass.isOpen = false →
      atOnce .expired A.solExpired) ∧
    (s.solReady = true → s.solItem p = none → solTakesNew s = true → s.sol.resident.contains p.val = true → (bg = true ∨ s.pass.isOpen = true) →
      wordsIn s.spd.ue (s.solSlot p) 0x40 = [] → wordsIn s.spd.ce (s.solSlot p) 0x40 = [] →
      let us := fld (s.peek32 (s.solSlot p + 0x20)) 0 24
      ∃ (t : State) (x : SolItem), exec (.solLaunch src p bg) s = .next t ∧ x.prob = p.val ∧ x.bg = bg ∧ x.by_ = none ∧ x.place = .queued ∧
        x.gate = (if bg then none else some s.pass.num) ∧ x.dl = (if us = 0 then none else some (s.now + 1000 * us)) ∧
        t.sol.items.getLast? = some x ∧
        (bg = true → (∀ y ∈ s.sol.items, y.isQueued = true → y.bg = true) → t.sol.items = s.sol.items ++ [x]) ∧ t.sol.resident = s.sol.resident ∧
        OnlyChanges s t [.sol, .spd, .pwr, .msix, .out] (A.spdCeCnt :: busy))

/-- PROBLEM_START, RUN_END, SOL_DEADLINE and RESULT_WRITTEN (R184, R195, R197, R199, R200, R203, R251).  A lane group that takes work runs its
preloaded problem, or takes the head of the PASS queue, or of the BACKGROUND queue within its cap; one that runs preloads.  A bound problem
reads its candidate as the group takes it, and none starts whose deadline has passed; as one starts the heaters go off.  A run that ends leaves its result to be written,
with the status of R197; a problem that could not be loaded, or whose buffers had an uncorrectable error, has DATA_FAULT, but ABORT_HOST
where it is aborted.  A deadline ends a problem: one that has not started is EXPIRED, or DATA_FAULT where its slot cannot
run, and a running one stops.  The cap counts the lane groups that run or hold a BACKGROUND problem (R251).  Nothing moves while DCLK stands, and no
slot is read or written while a clock of HBM does (R470; log entry 260).  Once the result is written the problem leaves the queue, its last status is kept,
held changes apply, and its completion is counted or goes to its batch. -/
def Obligations.SolverRunsEndAndDeliver : Prop :=
  let busy := (0x60000 :: (rangeFrom 0 16).map solPage).flatMap (fun p => [p + 0x00C, p + 0x01C])
  let heaters := [A.thmKwPower, A.thmStat]
  (∀ (g : Fin 16) (pre : Bool) (s : State),
    let running := s.sol.items.any (fun x => x.runsOn g)
    let waiter := s.sol.items.find? (fun x => x.waitsOn g)
    (s.poolpath = false → exec (.problemStart g pre) s = .next s) ∧
    (s.poolpath = true → exec (.problemStart g pre) s = .next (s.solExpire.solTurn g pre)) ∧
    (∀ x u, s.sol.items = [x] → x.dl = some u → u ≤ s.now → (x.place = .queued ∨ ∃ k, x.place = .preloaded k) →
      s.solExpire = s.solStop x false) ∧
    ((∀ y ∈ s.sol.items, ∀ u, y.dl = some u → s.now < u) → s.solTakes g = false → exec (.problemStart g pre) s = .next s) ∧
    (s.poolpath = true → s.solTakes g = true → (∀ y ∈ s.sol.items, ∀ u, y.dl = some u → s.now < u) →
      (∀ x, waiter = some x → (running = true ∨ pre = true) → exec (.problemStart g pre) s = .next s) ∧
      (∀ x, waiter = some x → running = false → pre = false → ∃ t, exec (.problemStart g pre) s = .next t ∧
        t.sol = { s.sol with items := s.sol.items.map (fun y =>
          if y.prob = x.prob then { y with place := .running g, load := s.solBind x, from3 := max y.from3 (3 * s.now + 2) } else y) } ∧
        t.thm.heat.all (fun p => p = 0) = true ∧ OnlyChanges s t [.sol, .pwr, .msix, .out, .thm] (busy ++ heaters)) ∧
      (waiter = none → running ≠ pre → exec (.problemStart g pre) s = .next s) ∧
      (waiter = none → running = pre → s.solHead = none → exec (.problemStart g pre) s = .next s) ∧
      (∀ x, waiter = none → running = pre → s.solHead = some x → ∀ l u, s.solLoad x g = (l, u) → ∃ t, exec (.problemStart g pre) s = .next t ∧
        t.sol = { s.sol with items := s.sol.items.map (fun y => if y.prob = x.prob then
          { x with
            place := if pre then .preloaded g else .running g, load := if pre then l else s.solBind { x with load := l }
            tStart := s.now, from3 := 3 * s.now + solLoad3 } else y) } ∧
        (pre = false → t.thm.heat.all (fun p => p = 0) = true) ∧ (pre = true → t.thm = u.thm) ∧
        OnlyChanges u t [.sol, .pwr, .msix, .out, .thm] (busy ++ heaters)))) ∧
  (∀ (s : State) (x : SolItem),
    ((∀ p r k v, x.load ≠ .toBind p r k v) → s.solBind x = x.load) ∧
    ∀ p r k v, x.load = .toBind p r k v → (s.boundTo x r k = none → s.solBind x = .noSource) ∧
      ∀ c y, s.boundTo x r k = some (c, y) → (v.any (mapsBeyond c.cand.points y.nj) = true → s.solBind x = .noSource) ∧
        (v.any (mapsBeyond c.cand.points y.nj) = false → ∃ q, s.solBind x = .good q ∧ q.src = some (c.cand, c.cost))) ∧
  (∀ s : State,
    (∀ x, s.sol.items.find? (fun x => x.isQueued && !x.bg) = some x → s.solHead = some x) ∧
    (s.sol.items.find? (fun x => x.isQueued && !x.bg) = none →
      (min 16 (s.rdf A.calBw 0 5) ≤ s.bgGroups.length → s.solHead = none) ∧
      (s.bgGroups.length < min 16 (s.rdf A.calBw 0 5) → s.solHead = s.sol.items.find? (fun x => x.isQueued && x.bg))) ∧
    s.bgGroups.Nodup ∧ ∀ g, g ∈ s.bgGroups ↔ g < 16 ∧ ∃ x ∈ s.sol.items, x.bg = true ∧ (x.runsOn g = true ∨ x.waitsOn g = true)) ∧
  (∀ (g : Fin 16) (corr : Nat) (ue : Bool) (s : State),
    ((s.datapath = false ∨ s.sol.items.find? (fun x => x.runsOn g) = none) → exec (.runEnd g corr ue) s = .next s) ∧
    ∀ x, s.datapath = true → s.sol.items.find? (fun x => x.runsOn g) = some x → ∃ u,
      u.rd (A.solGEccCorr g) = min 0xFFFF (s.rd (A.solGEccCorr g) + corr) ∧ OnlyChanges s u [] [A.solGEccCorr g] ∧
      (ue = false → (∀ t, x.dl = some t → s.now ≤ t) → exec (.runEnd g corr ue) s = .next ((u.runEnds x g none false).groupLeft g)) ∧
      (ue = false → (∃ t, x.dl = some t ∧ t < s.now) → exec (.runEnd g corr ue) s = .next (u.solStop x false)) ∧
      (ue = true → ∃ v : State, exec (.runEnd g corr ue) s = .next (v.groupLeft g) ∧ ErrorNoted u v (solPage g) 0x0104 0 ∧
        v.sol = { s.sol with items := s.sol.items.map (fun y =>
          if y.prob = x.prob then { y with place := .writing g, status := .dataFault, load := .bad } else y) } ∧
        OnlyChanges u v [.sol, .msix, .out] (errorRegs (solPage g)))) ∧
  (∀ (s : State) (x : SolItem) (g : Nat) (cut : Option RunCut) (abort : Bool) (p : SolProb),
    ((∀ q, x.load ≠ .good q) → s.runEnds x g cut abort =
      s.setItem x.prob (fun y => { y with place := .writing g, status := if abort then .abortHost else .dataFault })) ∧
    (x.load = .good p → ∀ o, o = p.run ((rangeFrom 0 p.n).map (fun i => sgn 32 (Config.freeValue 32 (s.freeCnt + i)).toNat),
        (Config.freeValue 64 (s.freeCnt + p.n)).toNat, (Config.freeValue 64 (s.freeCnt + (p.n + 1))).toNat) cut → ∃ (t : State) (k : Nat) (st : Status) (path : Option Cand),
      s.runEnds x g cut abort = t ∧
      t.sol = { s.sol with items := s.sol.items.map (fun y => if y.prob = x.prob then
        { y with place := .writing g, status := st, res := some { o with sat := o.sat + k }, path := path } else y) } ∧
      (st = .abortHost ↔ o.cut = true ∧ abort = true) ∧
      (¬(o.cut = true ∧ abort = true) → (st = .narResult ↔ o.cause ≠ 0) ∧ (o.cause = 0 → (st = .sat ↔ o.sat + k ≠ 0)) ∧
        (o.cause = 0 → o.sat + k = 0 → (st = .ok ↔ o.conv = true) ∧ (st = .timeoutBest ↔ o.conv = false))) ∧
      (st ≠ .ok → st ≠ .timeoutBest → path = none) ∧ OnlyChanges s t [.sol, .freeCnt] [])) ∧
  (∀ (p : Fin 8192) (s : State) (x : SolItem) (t : Nat), s.solItem p = some x → x.dl = some t →
    (s.now < t → exec (.solDeadline p) s = .next s) ∧ (t ≤ s.now → s.runs 0 = true → exec (.solDeadline p) s = .next (s.solStop x false))) ∧
  (∀ (p : Fin 8192) (s : State), (s.runs 0 = false ∨ s.solItem p = none ∨ ∃ x, s.solItem p = some x ∧ x.dl = none) → exec (.solDeadline p) s = .next s) ∧
  (∀ (s : State) (x : SolItem) (abort : Bool),
    let st : Status := if abort then .abortHost else if s.unfit x then .dataFault else .expired
    (s.unfit x = true ↔ x.load = .bad ∨ x.load = .absent ∨ x.isQueued = true ∧ x.prob ∉ s.sol.resident) ∧
    (x.place = .queued → s.solStop x abort = (s.recordUnstarted x.prob st).solFinish x st) ∧
    (∀ g, x.place = .preloaded g → s.solStop x abort = ((s.recordUnstarted x.prob st).solFinish x st).groupLeft g) ∧
    (∀ g, x.place = .running g → ∃ lim, s.solStop x abort = (s.runEnds x g (some lim) abort).groupLeft g) ∧
    ∀ g, x.place = .writing g → s.solStop x abort = s) ∧
  (∀ (p : Fin 8192) (s : State) (x : SolItem) (g : Nat), s.solItem p = some x → x.place = .writing g → s.hbmRuns = true →
    ∃ u, exec (.resultWritten p) s = .next (u.solFinish x x.status) ∧ u.rd (A.solGRuns g) = (s.rd (A.solGRuns g) + 1) % 2 ^ 32 ∧
      u.sol = s.sol ∧ (s.spd.ue = [] → u.peek32 (s.solSlot x.prob + 0x40) % 256 = statusCode x.status) ∧
      (x.path = none → u.pass = s.pass) ∧ (x.load = .noSource → A.solGRuns g ≠ A.solNoSource → Counted s u A.solNoSource) ∧
      OnlyChanges s u [.mem, .spd, .pass, .aqd] [A.solGRuns g, A.solNoSource]) ∧
  (∀ (p : Fin 8192) (s : State), (s.hbmRuns = false ∨ s.solItem p = none ∨ ∃ x, s.solItem p = some x ∧ ∀ g, x.place ≠ .writing g) →
    exec (.resultWritten p) s = .next s) ∧
  ∀ (s : State) (x : SolItem) (st : Status), (∀ y ∈ s.sol.held, y.1 ≠ x.prob) → x.by_ = none →
    let t := s.solFinish x st
    t.sol = { s.sol with items := s.sol.items.filter (fun y => y.prob ≠ x.prob), last := Sparse.set (fun _ => 0) s.sol.last x.prob (statusCode st) } ∧
    t.rd A.solDoneCnt = (s.rd A.solDoneCnt + 1) % 2 ^ 32 ∧ tbit (t.rd 0x6001C) 10 = true ∧
    (st = .expired → Counted s t A.solExpired) ∧ (st = .narResult → Counted s t A.solNarCnt) ∧ (st = .sat → Counted s t A.solSatCnt) ∧
    (st = .timeoutBest → Counted s t A.solTimeoutCnt) ∧
    OnlyChanges s t [.sol, .pwr, .msix, .out] ([A.solDoneCnt, A.solExpired, A.solNarCnt, A.solSatCnt, A.solTimeoutCnt] ++ busy)

/-! ## Charge arrays (chapter 9) -/

/-- CHG_REGISTER, CHG_RETIRE, CHG_SCAN, REF_NOW, CHG_REQUEST, EVALUATION_COMPLETE, CHG_REQUEST_DEADLINE and TABLE_ECC (R213, R214, R218,
R219, R221, R226, R227).  REGISTER while one runs records BUSY; a descriptor that passes its checks enters the table and is programmed row by
row, another one is refused with the number of its check.  RETIRE takes the model out of the table.  The oldest request is accepted for its
arrays or completes at once.  A finished evaluation is counted and its outputs are written as 16-bit words, the last one completes the
request, one that has been stopped with the status that stopped it (R11), and codes that fail the network's CRC end it DATA_FAULT.  The post units
work while DCLK runs (R470) and the device is not tripped (R412).  A deadline ends a request with the first row of Table CHG-6 that applies.  A model whose table has an uncorrectable error is no longer READY. -/
def Obligations.ModelsAreRegisteredAndRequestsServed : Prop :=
  (∀ (src : Source) (m : Fin 1024) (s : State), s.takes src A.chgCmd →
    (s.chg.prog.isSome → ∃ t, exec (.chgRegister src m) s = .next t ∧ OnlyError s t 0x80000 0x0103 0) ∧
    (s.chg.prog = none →
      let a := s.rd64 A.chgModelAddr % 2 ^ 48
      let n := s.peek32 (a + 8)
      inLocal a 64 = true → inLocal a n = true → 0x540 ≤ n → n ≤ 8388608 → wordsIn s.spd.ue a n = [] → wordsIn s.spd.ce a n = [] →
      ∀ c x, s.modelCheck m (some (s.readMem a n)) = (c, x) →
      (c = 0 → ∃ t, exec (.chgRegister src m) s = .next t ∧
        t.chg = { s.chg with models := s.chg.models ++ [(m.val, x)], prog := some { model := m.val, rows := progRows x } } ∧
        t.rdb A.chgStat 1 = true ∧ OnlyChanges s t [.chg, .spd, .pwr] [A.chgStat, A.spdCeCnt, 0x8000C]) ∧
      (c ≠ 0 → ∃ t, exec (.chgRegister src m) s = .next t ∧ t.chg = s.chg ∧ t.rd A.chgCmdStat = 0x09 + c * 2 ^ 8 ∧
        t.rdb 0x8000C 9 = true ∧ tbit (t.rd 0x8001C) 8 = true ∧
        (s.rdb 0x8000C 9 = false → t.rd 0x8002C = if c = 7 then 0x0101 else if c = 8 then 0x0106 else 0x0100) ∧
        OnlyChanges s t [.spd, .msix, .out] ([A.chgCmdStat, A.spdCeCnt] ++ errorRegs 0x80000)))) ∧
  (∀ (src : Source) (m : Fin 1024) (s : State), s.takes src A.chgCmd → (∀ r ∈ s.chg.reqs, r.model = m.val → r.taken = none) →
    ∃ t, exec (.chgRetire src m) s = .next t ∧ t.chg.models = s.chg.models.filter (fun x => x.1 ≠ m.val) ∧ t.chg.levels = s.chg.levels ∧
      tbit (t.rd 0x8001C) 8 = true ∧
      ((∃ p, s.chg.prog = some p ∧ p.model = m.val) → t.chg.prog = none ∧ t.rd A.chgCmdStat = 0x08 ∧ t.rdb A.chgStat 1 = false) ∧
      ((∀ p, s.chg.prog = some p → p.model ≠ m.val) → t.chg.prog = s.chg.prog ∧ t.rd A.chgCmdStat = 0) ∧
      OnlyChanges s t [.chg, .pwr, .msix, .out] [A.chgCmdStat, A.chgStat, 0x8000C, 0x8001C]) ∧
  (∀ (src : Source) (a : Fin 256) (s : State), s.takes src A.chgCmd →
    (∃ t, exec (.chgScan src a) s = .next t ∧
      t.chg = { s.chg with arrays := upd (fun x => { x with scan := some (x.scan.getD 0) }) s.chg.arrays a } ∧ t.rd A.chgCmdStat = 0 ∧
      Raised s t 0x80000 8 ∧ OnlyChanges s t [.chg, .msix, .out] [A.chgCmdStat, 0x8001C]) ∧
    ∃ t, exec (.refNow src a) s = .next t ∧ t.chg = { s.chg with arrays := upd (fun x => { x with refDue := true }) s.chg.arrays a } ∧
      t.rd A.chgCmdStat = 0 ∧ Raised s t 0x80000 8 ∧ OnlyChanges s t [.chg, .msix, .out] [A.chgCmdStat, 0x8001C]) ∧
  (∀ s : State,
    ((s.pageOpen 0x80000 = false ∨ s.chg.reqs.find? (fun r => r.taken.isNone) = none) → exec .chgRequest s = .next s) ∧
    ∀ r, s.pageOpen 0x80000 = true → s.chg.reqs.find? (fun r => r.taken.isNone) = some r →
      (s.chgModel r.model = none → exec .chgRequest s = .next (s.reqEnds r .dataFault)) ∧
      ∀ m, s.chgModel r.model = some m →
        let late := (∃ t, r.dl = some t ∧ t ≤ s.now) ∨ r.bg = false ∧ ¬(s.pass.isOpen = true ∧ r.gate = some s.pass.num)
        ((∃ t ∈ m.tiles, s.arrOk t.array = false) → exec .chgRequest s = .next (s.reqEnds r .unitOut)) ∧
        ((∀ t ∈ m.tiles, s.arrOk t.array = true) →
          ((m.ready = false ∨ (∃ t ∈ m.tiles, s.rdb (A.chgAStat t.array) 4 = true) ∨ r.placed m = false) → exec .chgRequest s = .next (s.reqEnds r .dataFault)) ∧
          (m.ready = true → (∀ t ∈ m.tiles, s.rdb (A.chgAStat t.array) 4 = false) → r.placed m = true →
            (late → exec .chgRequest s = .next (s.reqEnds r .expired)) ∧
            (¬late → ∃ t, exec .chgRequest s = .next t ∧
              t.chg = { s.chg with reqs := s.chg.reqs.map (fun x => if x.num = r.num then { x with taken := some m } else x) } ∧
              OnlyChanges s t [.chg] [])))) ∧
  (∀ (s : State) (r : ChgReq) (st : Status) (acc h : Nat), r.by_ = .handle acc h → r.taken = none →
    (s.reqEnds r st).chg = { s.chg with reqs := s.chg.reqs.filter (fun x => x.num ≠ r.num), evals := s.chg.evals.filter (fun e => e.req ≠ r.num) } ∧
      (s.reqEnds r st).dsp.ended = s.dsp.ended ++ [⟨acc, h, statusCode st, min r.done 0xFFFF⟩] ∧
      (st = .expired → Counted s (s.reqEnds r st) A.chgExpired) ∧
      OnlyChanges s (s.reqEnds r st) [.chg, .dsp, .pwr, .msix, .out] [A.chgExpired, 0x8000C, 0x8001C]) ∧
  (∀ (req idx : Nat) (s : State) (e : ChgEval) (r : ChgReq) (ys : List Int), s.chg.evals.find? (fun e => e.req = req && e.idx = idx) = some e →
    s.chg.reqs.find? (fun r => r.num = req) = some r → e.fin = some ys → s.datapath = true →
    (∃ u, exec (.evaluationComplete req idx false) s = .next (u.reqEnds r .dataFault) ∧ Counted s u A.chgNetErr ∧ u.rdb 0x8000C 9 = true ∧
      tbit (u.rd 0x8001C) 12 = true ∧ (s.rdb 0x8000C 9 = false → u.rd 0x8002C = 0x0104) ∧
      OnlyChanges s u [.msix, .out] (A.chgNetErr :: errorRegs 0x80000)) ∧
    ∀ acc h, r.by_ = .handle acc h →
      let a := r.outA + idx * r.outS
      let r1 := { r with done := r.done + 1 }
      ∃ u : State, u.rd A.chgEvals = (s.rd A.chgEvals + 1) % 2 ^ 32 ∧
        u.chg = { s.chg with evals := s.chg.evals.filter (fun y => !(y.req = req && y.idx = idx))
                             reqs := s.chg.reqs.map (fun x => if x.num = req then r1 else x) } ∧
        (s.spd.ue = [] → u.readMem a (2 * ys.length) = ys.flatMap (fun v => leBytes 2 (enc 16 v))) ∧ MemOnlyIn s u a (a + 2 * ys.length) ∧
        OnlyChanges s u [.chg, .mem, .spd] [A.chgEvals] ∧
        (r.done + 1 = r.count → r.stop = none → exec (.evaluationComplete req idx true) s = .next (u.reqEnds r1 (if r.sat then .sat else .ok))) ∧
        (r.done + 1 ≠ r.count → r.stop = none → exec (.evaluationComplete req idx true) s = .next u) ∧
        ∀ st, r.stop = some st →
          (r.next ≤ r.done + 1 → exec (.evaluationComplete req idx true) s = .next (u.reqEnds r1 st)) ∧
          (r.done + 1 < r.next → exec (.evaluationComplete req idx true) s = .next u)) ∧
  (∀ (req idx : Nat) (ok : Bool) (s : State), (s.datapath = false ∨ s.chg.evals.find? (fun e => e.req = req && e.idx = idx) = none) →
    exec (.evaluationComplete req idx ok) s = .next s) ∧
  (∀ (req : Nat) (s : State),
    ((∀ r ∈ s.chg.reqs, r.num = req → ∀ t, r.dl = some t → s.now < t) → exec (.chgRequestDeadline req) s = .next s) ∧
    ∀ r t, s.chg.reqs.filter (fun r => r.num = req) = [r] → r.dl = some t → t ≤ s.now →
      ∃ st, exec (.chgRequestDeadline req) s = .next (s.reqEnds r st) ∧ (∀ x, r.stop = some x → st = x) ∧
        (r.stop = none → st = if r.next = 0 then (s.reqFault r).getD .expired else if r.sat then .sat else .timeoutBest)) ∧
  (∀ (s : State) (r : ChgReq),
    (s.chgModel r.model = none → s.reqFault r = some .dataFault) ∧
    ∀ m, s.chgModel r.model = some m →
      ((∃ t ∈ m.tiles, s.arrOk t.array = false) → s.reqFault r = some .unitOut) ∧
      ((∀ t ∈ m.tiles, s.arrOk t.array = true) → m.ready = true → (∀ t ∈ m.tiles, s.rdb (A.chgAStat t.array) 4 = false) →
        r.placed m = true → s.reqFault r = none)) ∧
  ∀ (m : Fin 1024) (s : State), (∀ r ∈ s.chg.reqs, r.model = m.val → r.taken = none) → ∃ t, exec (.tableEcc m) s = .next t ∧
    t.chg = { s.chg with models := s.chg.models.map (fun x => if x.1 = m.val then (x.1, { x.2 with ready := false }) else x) } ∧
    ErrorNoted s t 0x80000 0x0107 m ∧ OnlyChanges s t [.chg, .msix, .out] (errorRegs 0x80000)

/-- ARRAY_SLOT, ROW_OPERATION_DONE, REF_IDLE_DUE, REFRESH_DEFER_END, VPP_FAIL and VPP_RESTORED (R219, R220, R222, R223, R224, R227, R228,
R230).  An array fills its slot with the first of: a reference check that is due, PASS work, BACKGROUND work, a scan row, a row operation,
nothing; scans and row operations start from READY on (R231).  A throttle leaves slots empty, spread evenly, so that of 8 in a row 8, 6, 4, 2 or
1 are filled (R411; log entry 200).  Work that has not started ends where its arrays have left service or its model is not READY (Table CHG-6).  A row operation counts the wear of its row and of the array; its end stores the levels it programmed, or clears the mark it
refreshed and counts it; a row that does not verify is recorded and fails the REGISTER.  A scan goes row by row and ends counted and
raised.  Loss of VPP stops every row operation, whose rows of a REGISTER are to be programmed again. -/
def Obligations.ArraySlotsAndRowOperations : Prop :=
  (∀ (a : Fin 256) (s : State),
    let x := s.arr a
    let free := x.rowop = none ∧ s.runs (38 + a / 64) = true
    let level := s.rdf A.thmStat 0 3
    (¬free → exec (.arraySlot a) s = .next s) ∧
    (free → s.issues x.slots = true → exec (.arraySlot a) s = .next ((s.slotPasses a).fillSlot a)) ∧
    (free → s.issues x.slots = false → exec (.arraySlot a) s = .next ((s.slotPasses a).emptySlot a)) ∧
    (s.slotPasses a).chg = { s.chg with arrays := upd (fun y => { y with slots := y.slots + 1 }) s.chg.arrays a } ∧
    OnlyChanges s (s.slotPasses a) [.chg] [] ∧
    ∀ k, ((rangeFrom k 8).filter s.issues).length =
      if level = 0 then 8 else if level = 1 then 6 else if level = 2 then 4 else if level = 3 then 2 else 1) ∧
  (∀ (a : Fin 256) (s : State),
    let x := s.arr a
    let serves : Bool := !s.tripped && (svcTakes (s.svc (chgPage a)) || s.svc (chgPage a) = 1)
    let noRef := x.refDue = false ∨ s.rdb A.chgCtrl 0 = false ∨ s.trimmed a = false
    let noWork := serves = false ∨ s.findWork a false = none ∧ s.findWork a true = none
    let noScan := x.scan = none ∨ s.rdb A.chgCtrl 1 = false ∨ s.trimmed a = false ∨ s.ready 0x80000 = false
    (x.refDue = true → s.rdb A.chgCtrl 0 = true → s.trimmed a = true → s.fillSlot a = s.refCheck a 512) ∧
    (∀ w, noRef → serves = true → s.findWork a false = some w → s.fillSlot a = s.evalSlot a w) ∧
    (∀ w, noRef → serves = true → s.findWork a false = none → s.findWork a true = some w → s.fillSlot a = s.evalSlot a w) ∧
    (∀ w st, w.1.next = 0 → s.reqFault w.1 = some st → s.evalSlot a w = s.reqEnds w.1 st) ∧
    (∀ row, noRef → noWork → s.ready 0x80000 = true → x.scan = some row → s.rdb A.chgCtrl 1 = true → s.trimmed a = true →
      s.fillSlot a = s.scanRow a row) ∧
    (∀ o, noRef → noWork → noScan → s.ready 0x80000 = true → s.rowMay a = true → s.nextRow a = some o → s.fillSlot a = s.rowStart a o) ∧
    (noRef → noWork → noScan → (s.ready 0x80000 = false ∨ s.rowMay a = false ∨ s.nextRow a = none) → s.fillSlot a = s.emptySlot a)) ∧
  (∀ (s : State) (a : Nat), a < s.chg.arrays.length →
    let x := s.arr a
    ((s.cal.chgWait.any (fun w => w.1 = a)) = false → (s.emptySlot a).chg = { s.chg with arrays := upd (fun y => { y with empty := s.now }) s.chg.arrays a } ∧
      OnlyChanges s (s.emptySlot a) [.chg] []) ∧
    (∀ row, row < 511 → ((s.scanRow a row).arr a).scan = some (row + 1) ∧ OnlyChanges s (s.scanRow a row) [.chg, .freeCnt] []) ∧
    ((s.scanRow a 511).arr a).scan = none ∧ ((s.scanRow a 511).arr a).scanned = s.now ∧ Counted s (s.scanRow a 511) A.chgScans ∧
    Raised s (s.scanRow a 511) (chgPage a) 9 ∧ OnlyChanges s (s.scanRow a 511) [.chg, .freeCnt, .msix, .out] [A.chgScans, chgPage a + 0x01C] ∧
    (∀ o, ((s.rowStart a o).arr a).total = x.total + 1 ∧
      Sparse.get (fun _ => 0) ((s.rowStart a o).arr a).wear o.row = Sparse.get (fun _ => 0) x.wear o.row + 1 ∧
      (∀ r, r ≠ o.row → Sparse.get (fun _ => 0) ((s.rowStart a o).arr a).wear r = Sparse.get (fun _ => 0) x.wear r)) ∧
    (∀ o, 90000 ≤ x.top.1 → x.top.1 < 99999 → OnlyChanges s (s.rowStart a o) [.chg] []) ∧
    (∀ o, (∀ w ∈ x.wear, w.2 < 89999) → ((s.rowStart a o).arr a).rowop = some o ∧ OnlyChanges s (s.rowStart a o) [.chg] [])) ∧
  (∀ (a : Fin 256) (ok : Bool) (s : State), (s.arr a).rowop = none → exec (.rowOperationDone a ok) s = .next s) ∧
  (∀ (a : Fin 256) (s : State) (o : RowOp), (s.arr a).rowop = some o → s.svc (chgPage a) ≠ 1 → a.val < s.chg.arrays.length →
    (o.model = none → ∃ t, exec (.rowOperationDone a true) s = .next t ∧ t.rd A.chgRefreshRows = (s.rd A.chgRefreshRows + 1) % 2 ^ 32 ∧
      t.rd (A.chgARefreshed a) = (s.rd (A.chgARefreshed a) + o.cells.length) % 2 ^ 32 ∧
      t.chg = { s.chg with arrays := upd (fun x => { x with rowop := none, marks := x.marks.filter (fun y => y.1 ≠ o.row) }) s.chg.arrays a } ∧
      OnlyChanges s t [.chg, .msix, .out] [A.chgRefreshRows, A.chgARefreshed a, chgPage a + 0x01C]) ∧
    (o.model = none → o.row < 512 → ∃ t, exec (.rowOperationDone a false) s = .next t ∧ ErrorNoted s t 0x80000 0x0102 (a + o.row * 2 ^ 16) ∧
      t.chg = { s.chg with arrays := upd (fun x => { x with rowop := none }) s.chg.arrays a } ∧
      OnlyChanges s t [.chg, .msix, .out] (errorRegs 0x80000)) ∧
    (∀ m p, o.model = some m → s.chg.prog = some p → p.model = m →
      (p.rows ≠ [] → ∃ t, exec (.rowOperationDone a true) s = .next t ∧
        (∀ row col, row ≠ o.row → row < 512 → col < 256 → o.row < 512 → (∀ c ∈ o.cells, c.1 < 256) → t.level a row col = s.level a row col) ∧
        (∀ c ∈ o.cells, (∀ d ∈ o.cells, d.1 = c.1 → d.2 = c.2) → t.level a o.row c.1 = c.2) ∧
        t.chg.prog = some p ∧ t.chg.models = s.chg.models ∧ OnlyChanges s t [.chg] []) ∧
      (p.rows = [] → (∀ b, b < 256 → b ≠ a.val → ∀ q, (s.arr b).rowop = some q → q.model ≠ some m) →
        ∃ t, exec (.rowOperationDone a true) s = .next t ∧ t.chg.prog = none ∧ t.chg.models = s.chg.models.map (readied m) ∧
          t.rd A.chgCmdStat = 0 ∧ t.rdb A.chgStat 1 = false ∧ tbit (t.rd 0x8001C) 8 = true) ∧
      (o.row < 512 → ∃ t, exec (.rowOperationDone a false) s = .next t ∧ t.chg.prog = none ∧
        t.chg.models = s.chg.models.filter (fun y => y.1 ≠ m) ∧ t.rd A.chgCmdStat = 0x09 ∧ t.rdb 0x8000C 9 = true ∧
        (s.rdb 0x8000C 9 = false → t.rd 0x8002C = 0x0102 ∧ t.rd 0x80030 = a + o.row * 2 ^ 16)))) ∧
  (∀ (a : Fin 256) (s : State),
    let due := (s.arr a).checked + 1000 * max 1 (s.rdf A.chgRefCfg 8 16) ≤ s.now
    (¬due → exec (.refIdleDue a) s = .next s) ∧
    (due → ∃ t, exec (.refIdleDue a) s = .next t ∧ t.chg = { s.chg with arrays := upd (fun x => { x with refDue := true }) s.chg.arrays a } ∧
      OnlyChanges s t [.chg] [])) ∧
  (∀ (die : Fin 4) (s : State), (nth none s.chg.within die = none → exec (.refreshDeferEnd die) s = .next s) ∧
    ∀ w, nth none s.chg.within die = some w →
      (s.now < w + 1000000000 * s.rdf A.chgRefreshCfg 16 8 → exec (.refreshDeferEnd die) s = .next s) ∧
      (w + 1000000000 * s.rdf A.chgRefreshCfg 16 8 ≤ s.now → ∃ t, exec (.refreshDeferEnd die) s = .next t ∧
        t.chg = { s.chg with settled := upd (fun _ => true) s.chg.settled die } ∧ OnlyChanges s t [.chg] [])) ∧
  ∀ s : State,
    (∃ t, exec .vppFail s = .next t ∧ t.chg.vppOk = false ∧ t.chg.arrays = s.chg.arrays.map (fun x => { x with rowop := none }) ∧
      t.chg.levels = s.chg.levels ∧ t.chg.models = s.chg.models ∧
      (∀ p, s.chg.prog = some p → ∃ q, t.chg.prog = some q ∧ q.model = p.model ∧ (∀ r ∈ p.rows, r ∈ q.rows) ∧
        ∀ a o, a < 256 → (s.arr a).rowop = some o → o.model.isSome → (a, o.row, o.cells) ∈ q.rows) ∧
      ErrorNoted s t 0x80000 0x0105 0 ∧ OnlyChanges s t [.chg, .msix, .out] (errorRegs 0x80000)) ∧
    ∃ t, exec .vppRestored s = .next t ∧ t.chg = { s.chg with vppOk := true } ∧ OnlyChanges s t [.chg] []

/-! ## Calibration (chapter 10) -/

/-- CAL_WRITE, CAL_EXPORT, CAL_RESTORE and CAL_COMMAND_DONE (R52, R237 to R242, R246).  While the page takes no work a command is held at its
input; while one runs another one records CMD_BUSY.  A write whose image fails a check runs with that check and result and changes no region; one that passes replaces its region with
the image, its write counter one higher (1 over a region without a valid record), ORIGIN and CRC set, is counted in CAL_WRITES and shown in CAL_VALID, and changes no other byte of
the store.  An export copies the whole store.  A restore fails for its header and for the device it names, and else writes each region whose record
in the image is valid, holds no uncorrectable word and may be written.  The end of a command shows its result and source and raises CMD_DONE,
and QUIESCED during quiesce, the words its reads corrected are counted, a failure is recorded, and each region written is reported to the fleet
manager. -/
def Obligations.TheCalibrationStoreIsWrittenAndExported : Prop :=
  (∀ (src : Source) (s : State), s.takes src A.calCmd →
    let shown := fun t : State => t.rdb A.calCmdStat 3 = true ∧ t.rdf A.calCmdStat 24 3 = srcCode src
    let shownRegs := [A.calCmdStat, A.calValid, A.calValid + 4, A.calFactory, A.calFactory + 4, A.calPend, A.calPend + 4, A.calWrites, 0x37001C]
    (s.pageOpen 0x370000 = false → ∀ c v, (c, v) ∈ [(Instr.calWrite src, 1), (.calExport src, 2), (.calRestore src, 3)] →
      ∃ t, exec c s = .next t ∧ t.waitIn = s.waitIn ++ [(0x370000, .cal src v)] ∧ OnlyChanges s t [.waitIn] []) ∧
    (s.pageOpen 0x370000 = true → s.cal.run.isSome → ∀ c ∈ [Instr.calWrite src, .calExport src, .calRestore src],
      ∃ t, exec c s = .next t ∧ OnlyError s t 0x370000 0x0106 0) ∧
    (s.pageOpen 0x370000 = true → s.cal.run = none →
      (∀ check result, s.calCheck (s.calXfer src) = .inl (check, result) → ∃ t, exec (.calWrite src) s = .next t ∧ shown t ∧
        t.cal = { s.cal with run := some { op := 1, src := src, result := result, check := check, region := 0, written := [] } } ∧
        OnlyChanges s t [.cal, .spd, .msix, .out] (A.calCmdStat :: ueRegs) ∧
        let n := 16 + leAt (s.readMem (s.calXfer src) 4) 2 2
        (wordsIn s.spd.ce (s.calXfer src) n = [] → wordsIn s.spd.ue (s.calXfer src) n = [] → OnlyChanges s t [.cal] [A.calCmdStat])) ∧
      (∀ r ty bs, s.calCheck (s.calXfer src) = .inr (r, ty, bs) → r < 64 →
        let w := nextWcnt (if s.calGood r then calWcnt s.cal.store r else 0)
        let img := calRecord bs w (s.sec.lc ≠ 0)
        ∃ t, exec (.calWrite src) s = .next t ∧ shown t ∧
          t.cal.run = some { op := 1, src := src, result := 0, check := 0, region := r, written := [r] } ∧
          Memory.read t.cal.store (calOffset r) img.length = img ∧
          (∀ a, a < calOffset r ∨ calOffset r + img.length ≤ a → Memory.get t.cal.store a = Memory.get s.cal.store a) ∧
          tbit (t.rd64 A.calValid) r = true ∧ t.rd A.calWrites = (s.rd A.calWrites + 1) % 2 ^ 32 ∧
          t.rd A.spdCeCnt = (s.rd A.spdCeCnt + (wordsIn s.spd.ce (s.calXfer src) (16 + leAt (s.readMem (s.calXfer src) 4) 2 2)).length) % 2 ^ 32 ∧
          OnlyChanges s t [.cal, .spd, .msix, .out] (A.spdCeCnt :: shownRegs)) ∧
      (let a := s.calXfer src
       ((a % 64 ≠ 0 ∨ inLocal a 0x8000 = false) → ∃ t, exec (.calExport src) s = .next t ∧ shown t ∧
         t.cal = { s.cal with run := some { op := 2, src := src, result := 6, check := 2, region := 0, written := [] } } ∧
         OnlyChanges s t [.cal] [A.calCmdStat]) ∧
       (a % 64 = 0 → inLocal a 0x8000 = true → ∃ t, exec (.calExport src) s = .next t ∧ shown t ∧
         t.cal = { s.cal with run := some { op := 2, src := src, result := 0, check := 0, region := 0, written := [] } } ∧
         t.readMem a 0x8000 = Memory.read s.cal.store 0 0x8000 ∧ MemOnlyIn s t a (a + 0x8000) ∧
         OnlyChanges s t [.cal, .mem, .spd] [A.calCmdStat])) ∧
      ((s.rdb A.calCtrl 0 = false ∨ s.sec.lc = 4) →
        s.calCheck (s.calXfer src) = .inl (1, 3) ∧ ∃ t, exec (.calRestore src) s = .next t ∧ shown t ∧
          t.cal = { s.cal with run := some { op := 3, src := src, result := 3, check := 1, region := 0, written := [] } } ∧
          OnlyChanges s t [.cal] [A.calCmdStat]) ∧
      (s.rdb A.calCtrl 0 = true → s.sec.lc ≠ 4 → (s.calXfer src % 64 ≠ 0 ∨ inLocal (s.calXfer src) 0x8000 = false) →
        ∃ t, exec (.calRestore src) s = .next t ∧ shown t ∧
          t.cal = { s.cal with run := some { op := 3, src := src, result := 6, check := 2, region := 0, written := [] } } ∧
          OnlyChanges s t [.cal] [A.calCmdStat]) ∧
      (s.rdb A.calCtrl 0 = true → s.sec.lc ≠ 4 → s.calXfer src % 64 = 0 → inLocal (s.calXfer src) 0x8000 = true →
        let a := s.calXfer src
        let bs := s.readMem a 0x8000
        let header := leAt bs 0 2 = 0x4353 ∧ leAt bs 2 1 = 1 ∧ leAt bs 0x3C 4 = crc32 (bs.take 0x3C) ∧ wordsIn s.spd.ue a 0x40 = []
        let none_ := fun (t : State) result => shown t ∧
          t.cal = { s.cal with run := some { op := 3, src := src, result := result, check := 0, region := 0, written := [] } } ∧
          OnlyChanges s t [.cal, .spd, .msix, .out] (A.calCmdStat :: ueRegs)
        (¬header → ∃ t, exec (.calRestore src) s = .next t ∧ none_ t 4) ∧
        (header → leAt bs 8 8 ≠ leNat (Memory.read s.cal.store 8 8) → ∃ t, exec (.calRestore src) s = .next t ∧ none_ t 5) ∧
        (header → leAt bs 8 8 = leNat (Memory.read s.cal.store 8 8) → ∃ t l, exec (.calRestore src) s = .next t ∧ shown t ∧
          t.cal.run = some { op := 3, src := src, result := 0, check := 0, region := l.length, written := l } ∧
          (∀ r, r ∈ l ↔ r ∈ calRegions ∧ calValid (cellsOf bs) r = true ∧ ∃ ty, calType r = some ty ∧ s.rdb A.calWmask ty = true ∧
            wordsIn s.spd.ue (a + calOffset r) (16 + calLen ty) = []) ∧
          t.rd A.calWrites = (s.rd A.calWrites + l.length) % 2 ^ 32 ∧ OnlyChanges s t [.cal, .spd, .msix, .out] (shownRegs ++ ueRegs))))) ∧
  (∀ (s : State) (r : Nat), s.calGood r = true ↔ calValid s.cal.store r = true ∧ r ∉ s.cal.bad) ∧
  (∀ (corr : Nat) (s : State), s.cal.run = none → exec (.calCommandDone corr) s = .next s) ∧
  ∀ (corr : Nat) (s : State) (r : CalRun), s.cal.run = some r → ∃ t, exec (.calCommandDone corr) s = .next t ∧
    t.cal = { s.cal with run := none } ∧ t.rd A.calEccCorr = min 0xFFFF (s.rd A.calEccCorr + corr) ∧
    t.rd A.calCmdStat = (r.result + r.check * 2 ^ 8 + r.region * 2 ^ 16 + srcCode r.src * 2 ^ 24) % 2 ^ 32 ∧ tbit (t.rd 0x37001C) 8 = true ∧
    (s.quiesced 0x370000 = true → s.rdb 0x37000C 1 = false → tbit (t.rd 0x37001C) 3 = true) ∧
    (r.result = 0 → t.rd A.mgtSeq = (s.rd A.mgtSeq + r.written.length) % 2 ^ 32 ∧
      OnlyChanges s t [.cal, .fio, .pwr, .msix, .out] [A.calEccCorr, A.calCmdStat, 0x37001C, A.mgtSeq, A.mgtStat, A.mgtLost, 0x35801C]) ∧
    (r.result ≠ 0 → t.rdb 0x37000C 9 = true ∧ (s.rdb 0x37000C 9 = false → t.rd 0x37002C = calErr r.result ∧ t.rd 0x370030 = r.check % 2 ^ 32) ∧
      OnlyChanges s t [.cal, .pwr, .msix, .out] (A.calEccCorr :: A.calCmdStat :: errorRegs 0x370000))

/-- CAL_JOB_TRIG, CAL_JOB_STEP_START, CAL_JOB_DONE, CAL_JOB_TIMEOUT and FORCED_APPLY (R247 to R249).  A trigger of an enabled job starts its
step, or waits while one runs, the gap has not passed or the page is quiesced, or is dropped and counted while one waits.  A step counts
SEQ, puts it in the last word of a copy of the template, adds the time to its wall backstop and offers it; a refusal ends it, counted and
raised.  The step's SEQ written ends it and any other value is counted as stale; STEP_TO ends it, counted and raised.  An array that has
had no empty slot for APPLY_MAX applies its new trims at once, counted. -/
def Obligations.CalibrationJobsStepAndEnd : Prop :=
  (∀ (src : Source) (j : Fin 8) (s : State), s.takes src (A.calJobTrig j) →
    (s.rdb (A.calJobCfg j) 0 = false → ∃ t, exec (.calJobTrig src j) s = .next t ∧ OnlyChanges s t [] []) ∧
    (s.rdb (A.calJobCfg j) 0 = true → s.jobPending j = true → ∃ t, exec (.calJobTrig src j) s = .next t ∧ Counted s t (A.calJobOvr j) ∧
      Raised s t 0x371000 8 ∧ OnlyChanges s t [.msix, .out] [A.calJobOvr j, 0x37101C]) ∧
    (s.rdb (A.calJobCfg j) 0 = true → s.jobPending j = false →
      (s.jobRunning j = true ∨ s.jobGapOver j = false ∨ s.quiesced 0x371000 = true) → ∃ t, exec (.calJobTrig src j) s = .next t ∧
        t.jobPending j = true ∧ t.jobRunning j = s.jobRunning j ∧ OnlyChanges s t [] [A.calJobStat j]) ∧
    (s.rdb (A.calJobCfg j) 0 = true → s.jobPending j = false → s.jobRunning j = false → s.jobGapOver j = true → s.quiesced 0x371000 = false →
      ∃ u, OnlyChanges s u [] [] ∧ exec (.calJobTrig src j) s = .next (u.jobStepStart j).mdioFree.remoteFreed)) ∧
  (∀ (j : Fin 8) (s : State),
    ((s.jobPending j = false ∨ s.jobRunning j = true ∨ s.jobGapOver j = false ∨ s.quiesced 0x371000 = true) →
      exec (.calJobStepStart j) s = .next s) ∧
    (s.jobPending j = true → s.jobRunning j = false → s.jobGapOver j = true → s.quiesced 0x371000 = false →
      exec (.calJobStepStart j) s = .next (s.jobStepStart j))) ∧
  (∀ (j : Fin 8) (s : State),
    let seq := (s.rdf (A.calJobStat j) 16 16 + 1) % 2 ^ 16
    let word := fun (l : List Nat) i => nth 0 l i
    ∃ (u v : State) (k : Nat), u.rd (A.calJobStat j) = 1 + seq * 2 ^ 16 ∧ Raised s u 0x371000 11 ∧
      u.cal = { s.cal with jobs := upd (fun _ => { lastStart := some s.now }) s.cal.jobs j } ∧
      OnlyChanges s u [.cal, .pwr, .msix, .out] [A.calJobStat j, 0x37100C, 0x37101C] ∧
      word (u.jobCopy j seq) 15 = seq ∧
      (∀ i, i < 15 → (i ≠ 4 ∧ i ≠ 5 ∨ tbit (s.rd (A.calJobTemplate (16 * j.val))) 28 = false) →
        word (u.jobCopy j seq) i = s.rd (A.calJobTemplate (16 * j.val) + 4 * i)) ∧
      (tbit (s.rd (A.calJobTemplate (16 * j.val))) 28 = true → word (u.jobCopy j seq) 4 + word (u.jobCopy j seq) 5 * 2 ^ 32 =
        (s.rd (A.calJobTemplate (16 * j.val) + 16) + s.rd (A.calJobTemplate (16 * j.val) + 20) * 2 ^ 32 + s.now) % 2 ^ 64) ∧
      u.offer 2 j (u.jobCopy j seq) false false = (k, v) ∧
      (k = 0 → s.jobStepStart j = v) ∧
      (k ≠ 0 → ∃ t, s.jobStepStart j = t ∧ t.jobRunning j = false ∧ tbit (t.rd 0x37101C) 10 = true ∧
        t.rdf (A.calJobTo j) 16 16 = min 0xFFFF (v.rdf (A.calJobTo j) 16 16 + 1) ∧
        OnlyChanges v t [.pwr, .msix, .out] [A.calJobStat j, A.calJobTo j, 0x37100C, 0x37101C])) ∧
  (∀ (src : Source) (j : Fin 8) (v : Nat) (s : State), s.takes src (A.calJobDone j) →
    (s.jobRunning j = true → s.rdf (A.calJobStat j) 16 16 = v % 2 ^ 16 → ∃ t, exec (.calJobDone src j v) s = .next t ∧
      t.jobRunning j = false ∧ t.jobPending j = s.jobPending j ∧ OnlyChanges s t [.pwr, .msix, .out] [A.calJobStat j, 0x37100C, 0x37101C]) ∧
    ((s.jobRunning j = false ∨ s.rdf (A.calJobStat j) 16 16 ≠ v % 2 ^ 16) → ∃ t, exec (.calJobDone src j v) s = .next t ∧
      Counted s t (A.calJobStale j) ∧ OnlyChanges s t [] [A.calJobStale j])) ∧
  (∀ (j : Fin 8) (s : State),
    let lim := s.rdf (A.calJobCfg j) 16 16
    let due := s.jobRunning j = true ∧ lim ≠ 0 ∧ ∃ t, s.jobStart j = some t ∧ t + lim * 1000000 ≤ s.now
    (¬due → exec (.calJobTimeout j) s = .next s) ∧
    (due → ∃ t, exec (.calJobTimeout j) s = .next t ∧ t.jobRunning j = false ∧ tbit (t.rd 0x37101C) 9 = true ∧
      t.rdf (A.calJobTo j) 0 16 = min 0xFFFF (s.rdf (A.calJobTo j) 0 16 + 1) ∧ t.rdf (A.calJobTo j) 16 16 = s.rdf (A.calJobTo j) 16 16 ∧
      OnlyChanges s t [.pwr, .msix, .out] [A.calJobStat j, A.calJobTo j, 0x37100C, 0x37101C])) ∧
  ∀ (a : Fin 256) (s : State),
    (s.cal.chgWait.find? (fun x => x.1 = a.val) = none → exec (.forcedApply a) s = .next s) ∧
    ∀ w, s.cal.chgWait.find? (fun x => x.1 = a.val) = some w →
      let due := max w.2 (s.arr a).empty + 1000 * max 1 (s.rdf A.calBw 16 16) ≤ s.now ∧ (s.arr a).rowop = none
      (¬due → exec (.forcedApply a) s = .next s) ∧
      (due → a.val < s.chg.arrays.length → ∃ t, exec (.forcedApply a) s = .next t ∧ Counted s t A.calForced ∧ t.rd (A.chgATrim a) = 16384 ∧
        (t.arr a).empty = s.now ∧ (t.arr a).marks = [] ∧ (t.arr a).scan = some 0 ∧ (∀ x ∈ t.cal.chgWait, x.1 ≠ a.val) ∧
        OnlyChanges s t [.chg, .cal, .msix, .out] [A.calForced, A.chgATrim a, A.calPend, A.calPend + 4, 0x37001C])

/-! ## The dispatcher (chapter 11) -/

/-- BARGE_OFFER (R256 to R260, Table DSP-4).  An offer is checked in order: reserved and unknown fields and the completion address, the
basin, SECURE, and room.  One that fails is counted and changes no queue, and a malformed or SECURE one is recorded.  An accepted one is
counted and joins its basin's queue, or the list of its lock while a barge holds it; the high-water mark follows, and BASIN_FULL is raised
when the host credit reaches 0, by an offer or by a write of DSP_B_CFG that lowers the limit. -/
def Obligations.OffersAreCheckedAndQueued : Prop :=
  (∀ (osrc : Fin 7) (orig : Nat) (words : List Nat) (sec : Bool) (s : State),
    let b := s.bargeOf osrc orig words
    let k := s.offerCheck osrc b sec false
    (k ≠ 0 → ∃ t, exec (.bargeOffer osrc orig words sec) s = .next t ∧ t.rd A.dspRefused = (s.rd A.dspRefused + 1) % 2 ^ 32 ∧
      Counted s t (A.dspBRefused b.basin) ∧
      (k = 1 → ErrorNoted s t 0x200000 0x0100 (osrc + b.basin * 2 ^ 8)) ∧ (k = 3 → ErrorNoted s t 0x200000 0x0101 0) ∧
      (k ≠ 1 → k ≠ 3 → OnlyChanges s t [] [A.dspRefused, A.dspBRefused b.basin]) ∧
      OnlyChanges s t [.msix, .out] ([A.dspRefused, A.dspBRefused b.basin] ++ errorRegs 0x200000)) ∧
    (k = 0 → ∃ u, exec (.bargeOffer osrc orig words sec) s = .next u.settle ∧
      (s.takers = [] → exec (.bargeOffer osrc orig words sec) s = .next u) ∧
      u.rd A.dspAccepted = (s.rd A.dspAccepted + 1) % 2 ^ 32 ∧
      (b.lock ≠ 0 → s.lockHeld b.lock = true → u.dsp = { s.dsp with waiting := s.dsp.waiting ++ [b], accNo := s.dsp.accNo + 1 }) ∧
      ((b.lock = 0 ∨ s.lockHeld b.lock = false) → u.dsp = { s.dsp with ready := s.dsp.ready ++ [b], accNo := s.dsp.accNo + 1 }) ∧
      (u.held b.basin < 2 ^ 32 → u.rd (A.dspBHwm b.basin) = max (s.rd (A.dspBHwm b.basin)) (u.held b.basin)) ∧
      (s.credit b.basin ≠ 0 → u.credit b.basin = 0 → Raised s u 0x200000 12) ∧
      OnlyChanges s u [.dsp, .msix, .out] [A.dspAccepted, A.dspBHwm b.basin, 0x20001C])) ∧
  (∀ (s : State) (osrc : Nat) (b : Barge) (sec resv : Bool),
    let fields := fld (b.w 0) 29 3 = 0 ∧ fld (b.w 1) 24 8 = 0 ∧ b.w 6 / 2 ^ 9 = 0 ∧ fld (b.w 1) 20 4 ≤ 8 ∧ fld (b.w 6) 0 3 ≤ 3 ∧ caddrOk b = true
    let basin := s.rdb (A.dspBCfg b.basin) 0 = true ∧ (b.basin = 31 → osrc = 5)
    let secure := b.secure = true → osrc = 5 ∨ osrc = 3 ∧ sec = true
    let room := (osrc = 0 → s.credit b.basin ≠ 0) ∧ (osrc ≠ 0 → s.held b.basin < 4096)
    (¬fields → s.offerCheck osrc b sec resv = 1) ∧ (fields → ¬basin → s.offerCheck osrc b sec resv = 2) ∧
      (fields → basin → ¬secure → s.offerCheck osrc b sec resv = 3) ∧
      (fields → basin → secure → resv = false → ¬room → s.offerCheck osrc b sec resv = 4) ∧
      (fields → basin → secure → (resv = true ∨ room) → s.offerCheck osrc b sec resv = 0)) ∧
  (∀ (s : State) (b : Nat), s.credit b = min (min 4096 (s.rdf (A.dspBCfg b) 16 13) - s.hostHeld b) (4096 - s.held b)) ∧
  ∀ (s : State) (b old v : Nat), b < 31 → ∃ u : State, s.dspHook (0x100 + b * 0x20) old v = u.settle ∧
    (min (min 4096 (fld old 16 13) - s.hostHeld b) (4096 - s.held b) ≠ 0 → s.credit b = 0 →
      Raised s u 0x200000 12 ∧ OnlyChanges s u [.msix, .out] [0x20001C]) ∧
    ((min (min 4096 (fld old 16 13) - s.hostHeld b) (4096 - s.held b) = 0 ∨ s.credit b ≠ 0) → u = s)

/-- BARGE_START, QUEUE_HEAD_EXPIRY, ENGINE_WATCHDOG, BASIN_FLUSH and TAKE_TIMEOUT (R261 to R268, R272, R276, R277, R285).  The longest idle
engine takes the highest-priority head it serves, basins in rotation, else a head pre-empts; a head that is late is retired EXPIRED.  A
started barge has its arguments and tag in its registers and is counted; a pre-empted one is saved and counted.  Expiry counts, raises and
completes, and tells of a barge that ran before it yielded; the lock passes to its oldest waiter, and the late head of a list whose lock a
wedged engine keeps is retired in its place (log entry 210).  A flush completes every barge of the basin that has not started.  An engine
whose barge exceeds the watchdog is wedged, recorded and raised on both pages.  A TAKE whose time has passed returns empty, and so does one
that is taken up again while its cluster takes no new barge. -/
def Obligations.BargesStartExpireAndAreFlushed : Prop :=
  (∀ s : State,
    (s.idleChoice s.idleOrder = none → s.preemptChoice s.pushHeads = none → exec .bargeStart s = .next s) ∧
    (∀ e b, s.idleChoice s.idleOrder = some (e, b) →
      (s.bargeLate b = false → exec .bargeStart s = .next (s.startOn e b)) ∧
      (s.bargeLate b = true → exec .bargeStart s = .next (((s.expire b).settle).deliver s.bargeCount))) ∧
    (∀ e b, s.idleChoice s.idleOrder = none → s.preemptChoice s.pushHeads = some (e, b) →
      (s.bargeLate b = false → exec .bargeStart s = .next (s.preemptOn e b)) ∧
      (s.bargeLate b = true → exec .bargeStart s = .next (((s.expire b).settle).deliver s.bargeCount)))) ∧
  (∀ (ready : List Barge) (ok : Barge → Bool) (mask last : Nat) (b : Barge), pickPrio ready ok mask last 8 = some b →
    b ∈ ready ∧ ok b = true ∧ tbit mask b.basin = true ∧
      ∀ p q, b.prio < p → p < 8 → q < 32 → tbit mask q = true → queueHead ready ok q p = none) ∧
  (∀ (s : State) (e : Nat) (b : Barge), e < s.dsp.engines.length →
    let t := s.startOn e b
    (∃ c, (t.eng e).run = some c ∧ c.barge = b ∧ c.pc = 0 ∧ c.since = s.now ∧ nth 0 c.regs 0 = 0 ∧
      (∀ i, i < 6 → nth 0 c.regs (1 + i) = BitVec.ofNat 64 (b.w (10 + i))) ∧ nth 0 c.regs 7 = BitVec.ofNat 64 b.tag ∧
      c.trace = if s.copiers e = [] then none else some []) ∧
    t.dsp.ready = s.dsp.ready.filter (fun x => x.acc ≠ b.acc) ∧ t.dsp.waiting = s.dsp.waiting ∧ (t.eng e).lastBasin = b.basin ∧
    t.rd (A.dspBStarted b.basin) = (s.rd (A.dspBStarted b.basin) + 1) % 2 ^ 32 ∧ t.rdb (enginePage e + 0x00C) 1 = true ∧
    OnlyChanges s t [.dsp, .pwr] [A.dspBStarted b.basin, enginePage e + 0x00C] ∧
    ∀ c, (s.eng e).run = some c → ∃ u : State, s.preemptOn e b = u.startOn e b ∧ (u.eng e).run = none ∧
      (u.eng e).saved = savedCtx c s.now :: (s.eng e).saved ∧ u.rd A.dspPreempt = (s.rd A.dspPreempt + 1) % 2 ^ 32 ∧
      Counted s u (A.dspESaves e) ∧ OnlyChanges s u [.dsp] [A.dspPreempt, A.dspESaves e]) ∧
  (∀ (b : Fin 32) (s : State),
    (∀ x, s.lateHead b 8 = some x → exec (.queueHeadExpiry b) s = .next (s.expire x).settle) ∧
    (s.lateHead b 8 = none →
      ((∀ x ∈ s.dsp.waiting, x.basin = b.val → s.wedgedLock x.lock = true → s.bargeLate x = false) → exec (.queueHeadExpiry b) s = .next s) ∧
      ∀ x, s.lateWaiter b = some x → x ∈ s.dsp.waiting ∧ x.basin = b.val ∧ s.bargeLate x = true ∧ s.wedgedLock x.lock = true ∧
        ∃ t, exec (.queueHeadExpiry b) s = .next t ∧ (fld (x.w 6) 0 3 = 0 →
          t.dsp = { s.dsp with waiting := s.dsp.waiting.filter (fun y => y.acc ≠ x.acc) } ∧
          t.rd A.dspExpired = (s.rd A.dspExpired + 1) % 2 ^ 32 ∧ Counted s t (A.dspBExpired x.basin) ∧ Raised s t 0x200000 8 ∧
          OnlyChanges s t [.dsp, .msix, .out] [A.dspExpired, A.dspBExpired x.basin, 0x20001C]))) ∧
  (∀ (s : State) (b : Barge),
    (b.lock = 0 → fld (b.w 6) 0 3 = 0 → (s.expire b).dsp = { s.dsp with ready := s.dsp.ready.filter (fun x => x.acc ≠ b.acc) } ∧
      (s.expire b).rd A.dspExpired = (s.rd A.dspExpired + 1) % 2 ^ 32 ∧ Counted s (s.expire b) (A.dspBExpired b.basin) ∧
      Raised s (s.expire b) 0x200000 8 ∧
      OnlyChanges s (s.expire b) [.dsp, .msix, .out] [A.dspExpired, A.dspBExpired b.basin, 0x20001C]) ∧
    (∀ x, b.lock ≠ 0 → s.dsp.waiting.find? (fun y => y.lock = b.lock) = some x → s.bargeLate x = false → ∃ t, s.leave b = t ∧
      t.dsp = { s.dsp with waiting := s.dsp.waiting.filter (fun y => y.acc ≠ x.acc), ready := s.dsp.ready ++ [x] } ∧
      OnlyChanges s t [.dsp] []) ∧
    (∀ status result engine started, fld (b.w 6) 0 3 = 2 → (regionOf b.caddr ≠ .pound ∨ s.sealState = 0) → s.spd.ue = [] →
      (s.complete b status result engine started).readMem b.caddr 16 = s.completionRecord b status result engine started ∧
        MemOnlyIn s (s.complete b status result engine started) b.caddr (b.caddr + 16) ∧
        OnlyChanges s (s.complete b status result engine started) [.mem, .spd] []) ∧
    (∀ status, fld (b.w 6) 0 3 = 2 → (regionOf b.caddr ≠ .pound ∨ s.sealState = 0) → s.spd.ue = [] →
      (s.retireBarge b status).readMem b.caddr 16 = s.completionRecord b status 0 (b.ran.getD 0) b.ran.isSome)) ∧
  (∀ (e : Fin 64) (s : State),
    ((e.val = 63 ∨ (s.eng e).wedged = true ∨ s.watchdogDue e = false) → exec (.engineWatchdog e) s = .next s) ∧
    (e.val ≠ 63 → (s.eng e).wedged = false → s.watchdogDue e = true → ∃ t, exec (.engineWatchdog e) s = .next t ∧
      t.dsp = { s.dsp with engines := upd (fun g => { g with wedged := true }) s.dsp.engines e } ∧ tbit (t.rd64 A.dspWedged) e = true ∧
      t.rdb 0x20000C 9 = true ∧ (s.rdb 0x20000C 9 = false → t.rd 0x20002C = 0x0102 ∧ t.rd 0x200030 = e) ∧
      tbit (t.rd 0x20001C) 10 = true ∧ Raised s t (enginePage e) 8 ∧
      OnlyChanges s t [.dsp, .msix, .out] ([A.dspWedged, A.dspWedged + 4, enginePage e + 0x01C] ++ errorRegs 0x200000))) ∧
  (∀ (src : Source) (b : Fin 32) (s : State), s.takes src (A.dspBCtrl b) → ∃ u, OnlyChanges s u [] [] ∧
    exec (.basinFlush src b) s = .next ((u.flushWhere (fun x => x.basin = b.val)).settle).mdioFree.remoteFreed) ∧
  (∀ (s : State) (f : Barge → Bool), (∀ x ∈ (s.flushWhere f).dsp.ready ++ (s.flushWhere f).dsp.waiting, f x = false) ∧
    ((∀ x ∈ s.dsp.ready ++ s.dsp.waiting, f x = true → x.lock = 0 ∧ fld (x.w 6) 0 3 = 0) → (s.flushWhere f).dsp =
      { s.dsp with ready := s.dsp.ready.filter (fun b => !f b), waiting := s.dsp.waiting.filter (fun b => !f b) } ∧
      OnlyChanges s (s.flushWhere f) [.dsp] [])) ∧
  ∀ (e : Fin 64) (s : State),
    (∀ c rd buf mask left since o, (s.eng e).run = some c → c.wait = .take rd buf mask (some left) since o →
      ((s.now < since + left ∨ (s.eng e).wedged = true) → exec (.takeTimeout e) s = .next s) ∧
      (since + left ≤ s.now → (s.eng e).wedged = false → ∃ t, exec (.takeTimeout e) s = .next t ∧
        t.dsp = { s.dsp with engines := upd (fun g => { g with run := some { c.setReg rd 0 with wait := .none, pc := c.pc + 1 } }) s.dsp.engines e } ∧
        OnlyChanges s t [.dsp] [])) ∧
    ((s.eng e).run = none → exec (.takeTimeout e) s = .next s) ∧
    ∀ (c : Ctx) (l : List Ctx) (rd buf mask : Nat) (left : Option Nat) (since o : Nat), (s.eng e).saved = c :: l →
      c.wait = .take rd buf mask left since o → s.engSvc e ≠ 0 →
      (s.freeEngine e).dsp = { s.dsp with engines := upd (fun g => { g with
        run := some { c.setReg rd 0 with
          since := s.now, wait := .none, pc := c.pc + 1, given := c.given.map (fun x => (x.1, x.2 + (s.now - c.since))) }, saved := l }) s.dsp.engines e } ∧
      OnlyChanges s (s.freeEngine e) [.dsp] []

/-! ## Barge programs (chapter 12) -/

/-- NOP, ADD, SUB, AND, OR, XOR, SHL, SHR, SAR, ADDI, ANDI, LI, LIH, BEQ, BNE, BLT, BGE, JMP, BSTAT, TIME and SELF (R285, R287, R288).  A
fetched instruction writes its result to rd, modulo 2^64, and the next index follows; g0 reads zero whatever is written to it.  A shift takes
six bits of rb, SAR keeps the sign, BLT and BGE compare as signed numbers, and a branch adds its signed 12-bit offset to the index, so that an
index below 0 lies past 1,023 and faults at its fetch.  Nothing else changes. -/
def Obligations.EnginesComputeAndBranch : Prop :=
  (∀ (e : Fin 64) (s : State) (c : Ctx) (w : Nat),
    let x := insOf w
    let a : DWord := BitVec.ofNat 64 (c.g x.ra)
    let b : DWord := BitVec.ofNat 64 (c.g x.rb)
    let k := c.g x.rb % 64
    let imm : DWord := (BitVec.ofNat 32 x.imm).signExtend 64
    let st := c.g x.ra % 256
    let self := [e.val, c.barge.basin, c.barge.prio, c.barge.lock, c.barge.osrc, (if c.barge.secure then 1 else 0), s.rd A.cndPassSeq, c.barge.prog]
    ∀ r ∈ [(Instr.opNop e false, 0x01, c.next), (.opAdd e false, 0x02, c.put x.rd (a + b).toNat),
      (.opSub e false, 0x03, c.put x.rd (a - b).toNat), (.opAnd e false, 0x04, c.put x.rd (a &&& b).toNat),
      (.opOr e false, 0x05, c.put x.rd (a ||| b).toNat), (.opXor e false, 0x06, c.put x.rd (a ^^^ b).toNat),
      (.opShl e false, 0x07, c.put x.rd (a <<< k).toNat), (.opShr e false, 0x08, c.put x.rd (a >>> k).toNat),
      (.opSar e false, 0x09, c.put x.rd (a.sshiftRight k).toNat), (.opAddi e false, 0x0A, c.put x.rd (a + imm).toNat),
      (.opAndi e false, 0x0B, c.put x.rd (c.g x.ra &&& x.imm)), (.opLi e false, 0x0C, c.put x.rd imm.toNat),
      (.opLih e false, 0x0D, c.put x.rd (c.g x.rd % 2 ^ 32 + x.imm * 2 ^ 32)),
      (.opBeq e false, 0x20, if a = b then c.jump x.x else c.next), (.opBne e false, 0x21, if a = b then c.next else c.jump x.x),
      (.opBlt e false, 0x22, if a.slt b then c.jump x.x else c.next), (.opBge e false, 0x23, if a.slt b then c.next else c.jump x.x),
      (.opJmp e false, 0x24, c.jump x.x), (.opBstat e false, 0x25, if tbit x.imm (if 0x0C < st then 0x09 else st) then c.jump x.x else c.next),
      (.opTime e false, 0x48, c.put x.rd (s.now % 2 ^ 64)), (.opSelf e false, 0x49, c.put x.rd (nth 0 self (x.imm % 8)))],
    s.fetches e r.2.1 c w → ∃ t, exec r.1 s = .next t ∧ GoesOn s t e r.2.2 ∧ OnlyChanges s t [.dsp] []) ∧
  (∀ (c : Ctx) (rd v : Nat),
    { c.put rd v with regs := c.regs, pc := c.pc } = c ∧ (c.put rd v).pc = c.pc + 1 ∧ (c.put rd v).g 0 = 0 ∧
      (rd ≠ 0 → rd < c.regs.length → (c.put rd v).g rd = v % 2 ^ 64) ∧ ∀ r, r ≠ rd → (c.put rd v).g r = c.g r) ∧
  (∀ (c : Ctx) (k : Nat),
    { c.jump k with pc := c.pc } = c ∧
      (0 ≤ c.pc + sgn 12 k → c.pc ≤ 1023 → ((c.jump k).pc : Int) = c.pc + sgn 12 k) ∧
      (c.pc + sgn 12 k < 0 → c.pc ≤ 1023 → 1023 < (c.jump k).pc)) ∧
  ∀ (s t : State) (e : Nat) (c d : Ctx), (s.eng e).run = some c → GoesOn s t e d →
    (t.eng e).run = some d ∧ (t.eng e).saved = (s.eng e).saved ∧ (∀ f, f ≠ e → t.eng f = s.eng f) ∧ t.dsp.ready = s.dsp.ready ∧
      t.dsp.waiting = s.dsp.waiting ∧ t.dsp.ended = s.dsp.ended ∧ t.dsp.store = s.dsp.store

/-- Every opcode: when an instruction command does nothing, and the program faults of its fetch (R281, R282, R287, R300).  An engine with no
barge to run, and one whose next word is another opcode's, does nothing.  A program counter outside the range or a PROG that is no multiple of 8
is fault 2, a SECURE barge outside the firmware region 9, an uncorrectable word 10, an illegal word 1.  A fault leaves its info and PROG, is
counted, recorded and raised, and ends the barge with DATA_FAULT, the code and the index; every cluster in SHADOW that ran a copy of the
barge then has the operands by which it is compared.  What is said of a word past the store's end is nothing (log entry 187). -/
def Obligations.FetchesFaultAndFaultsEndTheBarge : Prop :=
  (∀ (e : Fin 64) (ue : Bool) (q : BankAt) (s : State),
    ∀ r ∈ [(Instr.opNop e ue, 0x01), (.opAdd e ue, 0x02), (.opSub e ue, 0x03), (.opAnd e ue, 0x04), (.opOr e ue, 0x05), (.opXor e ue, 0x06),
      (.opShl e ue, 0x07), (.opShr e ue, 0x08), (.opSar e ue, 0x09), (.opAddi e ue, 0x0A), (.opAndi e ue, 0x0B), (.opLi e ue, 0x0C),
      (.opLih e ue, 0x0D), (.opLd e ue q, 0x10), (.opSt e ue q, 0x11), (.opRegr e ue, 0x12), (.opRegw e ue, 0x13), (.opAadd e ue q, 0x18),
      (.opAadd2 e ue q, 0x19), (.opAswap e ue q, 0x1A), (.opFadd e ue q, 0x1C), (.opFadd2 e ue q, 0x1D), (.opFswap e ue q, 0x1E), (.opBeq e ue, 0x20),
      (.opBne e ue, 0x21), (.opBlt e ue, 0x22), (.opBge e ue, 0x23), (.opJmp e ue, 0x24), (.opBstat e ue, 0x25), (.opSetupSwp e ue, 0x30),
      (.opSetupSol e ue, 0x31), (.opSetupChg e ue, 0x32), (.opSetupFus e ue, 0x33), (.opSetupDma e ue, 0x34), (.opLaunch e ue, 0x38),
      (.opWait e ue, 0x39), (.opWaitany e ue, 0x3A), (.opEnq e ue, 0x40), (.opTake e ue, 0x41), (.opYield e ue, 0x42), (.opPost e ue, 0x43),
      (.opPostt e ue, 0x44), (.opTime e ue, 0x48), (.opSelf e ue, 0x49)],
    (s.active e = none → exec r.1 s = .next s) ∧
    ∀ c, s.active e = some c →
      let p := c.barge.prog
      let w := leNat (Memory.read s.dsp.store (p + 8 * c.pc) 8)
      ((p % 8 ≠ 0 ∨ 1023 < c.pc) → exec r.1 s = .next (s.progFault e c 2)) ∧
      (p % 8 = 0 → c.pc ≤ 1023 → c.barge.secure = true → p < 0xC0000 → exec r.1 s = .next (s.progFault e c 9)) ∧
      (p % 8 = 0 → c.pc ≤ 1023 → (c.barge.secure = true → 0xC0000 ≤ p) →
        (ue = true → exec r.1 s = .next (s.progFault e c 10)) ∧
        (ue = false → p + 8 * c.pc < 0x100000 → legalWord w = false → exec r.1 s = .next (s.progFault e c 1)) ∧
        (ue = false → p + 8 * c.pc < 0x100000 → legalWord w = true → w % 256 ≠ r.2 → exec r.1 s = .next s))) ∧
  (∀ (s : State) (e : Nat) (c : Ctx), s.active e = some c ↔
    (s.eng e).run = some c ∧ (s.eng e).wedged = false ∧ (e = 63 ∨ s.tripped = false) ∧ s.runs 1 = true ∧ c.wait = .none) ∧
  (∀ (s : State) (e : Nat) (c : Ctx) (code : Nat), code < 16 →
    let info := e % 64 + code * 2 ^ 12 + c.pc % 1024 * 2 ^ 16
    let res := code * 4096 + c.pc % 4096
    ∃ u : State, s.progFault e c code = u.endBarge e 0x09 res res ∧ u.rd A.bpgFaultInfo = info ∧ u.rd A.bpgFaultProg = c.barge.prog ∧
      Counted s u A.bpgFaultCnt ∧ u.rdb 0x20000C 9 = true ∧ (s.rdb 0x20000C 9 = false → u.rd 0x20002C = 0x0103 ∧ u.rd 0x200030 = info) ∧
      tbit (u.rd 0x20001C) 13 = true ∧
      OnlyChanges s u [.msix, .out] ([A.bpgFaultInfo, A.bpgFaultProg, A.bpgFaultCnt] ++ errorRegs 0x200000)) ∧
  ∀ (s : State) (e st res gres : Nat) (c : Ctx), (s.eng e).run = some c →
    let d : Ctx := { c with wait := .ending st res gres, handles := c.handles.map (fun h => if h.st = .set then {} else h) }
    ∃ v, GoesOn s v e d ∧ OnlyChanges s v [.dsp] [] ∧
      ((∃ h ∈ c.handles, h.st = .launched) → s.endBarge e st res gres = v) ∧
      ((∀ h ∈ c.handles, h.st ≠ .launched) → s.endBarge e st res gres =
        (((((((v.complete c.barge st res e true).leave c.barge).bump32 (A.dspEDone e) 1).runTraced e c).postGiven e c.given 0x09 gres).freeEngine e).settle)) ∧
      (c.trace = none → v.runTraced e c = v) ∧
      ∀ (w : State) (l : List Int), c.trace = some l → OnlyChanges w (w.runTraced e c) [.aqd] [] ∧
        { (w.runTraced e c).aqd with peers := w.aqd.peers } = { w.aqd with copies := w.aqd.copies ++ (w.copiers e).map (fun u => (u, l)) }

/-- LD, ST, AADD, AADD2, ASWAP, FADD, FADD2, FSWAP, REGR and REGW (R289, R305, R308 to R311, Tables SPD-2, SPD-4).  An aligned word of the
scratchpad, or of an open pound in SECURE context, is loaded, stored, or changed by the atomic operation, whose fetching form returns the old
word, when its bank takes the request; no other byte changes.  A load that a write of the other port meets gets undefined data and is counted
where it ranks first, and the word newly written where it ranks later; of two writes the later stands.  While the other port has the word
reserved the engine waits and the stall is counted.  A misaligned address or one outside is program fault 3, the pound without SECURE context
is counted and is fault 4, and the closed pound ends the barge SEALED with its index.  An uncorrectable word is recorded and ends it with
DATA_FAULT.  REGR and REGW reach the register space as the engine; a misaligned address or one outside is fault 8.  What the banks meet and
find is the command's operand (log entries 13 and 64), the undefined data a free value (log entry 1). -/
def Obligations.EnginesReachMemoryAndRegisters : Prop :=
  (∀ (e : Fin 64) (q : BankAt) (s : State) (c : Ctx) (w : Nat),
    let x := insOf w
    let a := c.addr x
    let r := c.bankReq e a q
    let m := BitVec.ofNat 64 (s.peek64 a)
    let b : DWord := BitVec.ofNat 64 (c.g x.rb)
    let lo := (m.extractLsb' 0 32 + b.extractLsb' 0 32).toNat + (m.extractLsb' 32 32 + b.extractLsb' 32 32).toNat * 2 ^ 32
    a % 8 = 0 →
    (s.fetches e 0x10 c w → s.bankTakes r 0 →
      ((∀ d, ¬r.meetsWrite d) → a ∉ s.spd.ue → q.found < 2 → ∃ t, exec (.opLd e false q) s = .next t ∧ GoesOn s t e (c.put x.rd (s.peek64 a)) ∧
        t.rd A.spdCeCnt = (s.rd A.spdCeCnt + (if q.found = 1 ∨ a ∈ s.spd.ce then 1 else 0)) % 2 ^ 32 ∧ t.presented r q.cyc ∧
        (q.found = 0 → t.pwr = s.pwr) ∧ OnlyChanges s t [.dsp, .spd, .pwr, .out] [A.spdCeCnt]) ∧
      (∀ d, r.meetsWrite d → r.isFirst → ∃ (v : Nat) (t : State), exec (.opLd e false q) s = .next t ∧ GoesOn s t e (c.put x.rd v) ∧
        Counted s t A.spdCollSilent ∧ t.rd64 A.spdCollAddr = a ∧ Raised s t 0x300000 9 ∧
        OnlyChanges s t [.dsp, .spd, .msix, .out, .freeCnt] [A.spdCollSilent, A.spdCollAddr, A.spdCollAddr + 4, A.spdCollInfo, 0x30001C]) ∧
      ∀ d, r.meetsWrite d → ¬r.isFirst →
        (q.again = false → q.found < 2 → ∃ (v : DWord) (t : State), exec (.opLd e false q) s = .next t ∧ GoesOn s t e (c.put x.rd (d % 2 ^ 64)) ∧
          t.rd A.spdCollFlag = (s.rd A.spdCollFlag + 1) % 2 ^ 32 ∧ t.rd A.spdCeCnt = (s.rd A.spdCeCnt + (if q.found = 1 then 1 else 0)) % 2 ^ 32 ∧
          t.out = s.out ++ [r.answer false (some v) false true false false,
            r.answer false (some (BitVec.ofNat 64 d)) false false (decide (q.found = 1)) false] ∧
          t.presented r (q.cyc + 1) ∧ OnlyChanges s t [.dsp, .spd, .pwr, .out, .freeCnt] [A.spdCollFlag, A.spdCeCnt]) ∧
        (q.again = false → 2 ≤ q.found → ∃ u : State, exec (.opLd e false q) s = .next (u.endBarge e 0x09 (c.pc % 4096) (c.pc % 4096)) ∧
          u.rd A.spdCollFlag = (s.rd A.spdCollFlag + 1) % 2 ^ 32 ∧ Counted s u A.spdUeCnt ∧ u.rd64 A.spdUeAddr = a ∧
          OnlyChanges s u [.spd, .msix, .out, .freeCnt] (A.spdCollFlag :: ueRegs)) ∧
        (q.again = true → ∃ (v : Nat) (t : State), exec (.opLd e false q) s = .next t ∧ GoesOn s t e (c.put x.rd v) ∧
          t.rd A.spdCollFlag = (s.rd A.spdCollFlag + 1) % 2 ^ 32 ∧ Counted s t A.spdCollSilent ∧ t.rd64 A.spdCollAddr = a ∧ Raised s t 0x300000 9 ∧
          t.presented r (q.cyc + 1) ∧ OnlyChanges s t [.dsp, .spd, .msix, .out, .freeCnt]
            [A.spdCollFlag, A.spdCollSilent, A.spdCollAddr, A.spdCollAddr + 4, A.spdCollInfo, 0x30001C])) ∧
    (s.fetches e 0x11 c w → s.bankTakes r 1 → ∃ t, exec (.opSt e false q) s = .next t ∧ GoesOn s t e (c.noted x).next ∧
      (∀ d, r.meetsWrite d → r.isFirst → t.peek64 a = d % 2 ^ 64) ∧
      (∀ d, r.meetsWrite d → ¬r.isFirst → t.peek64 a = b.toNat ∧ Counted s t A.spdWwCnt) ∧
      ((∀ d, ¬r.meetsWrite d) → t.peek64 a = b.toNat) ∧ a ∉ t.spd.ue ∧ a ∉ t.spd.ce ∧ MemOnlyIn s t a (a + 8) ∧
      OnlyChanges s t [.dsp, .mem, .spd, .out] [A.spdWwCnt]) ∧
    ∀ i ∈ [(Instr.opAadd e false q, 0x18, (m + b).toNat, (c.noted x).next), (.opAadd2 e false q, 0x19, lo, (c.noted x).next),
      (.opAswap e false q, 0x1A, b.toNat, (c.noted x).next), (.opFadd e false q, 0x1C, (m + b).toNat, (c.noted x).put x.rd m.toNat),
      (.opFadd2 e false q, 0x1D, lo, (c.noted x).put x.rd m.toNat), (.opFswap e false q, 0x1E, b.toNat, (c.noted x).put x.rd m.toNat)],
      s.fetches e i.2.1 c w → s.bankTakes r 2 → a ∉ s.spd.ue → q.found < 2 → ∃ t, exec i.1 s = .next t ∧ GoesOn s t e i.2.2.2 ∧
        t.peek64 a = i.2.2.1 ∧ MemOnlyIn s t a (a + 8) ∧ ⟨a, false, q.cyc + 1⟩ ∈ t.spd.resv ∧ (q.found = 0 → t.pwr = s.pwr) ∧
        OnlyChanges s t [.dsp, .mem, .spd, .pwr, .out] [A.spdCeCnt]) ∧
  (∀ (e : Fin 64) (q : BankAt) (s : State) (c : Ctx) (w : Nat),
    let x := insOf w
    let a := c.addr x
    let r := c.bankReq e a q
    ∀ i ∈ [(Instr.opLd e false q, 0x10), (.opSt e false q, 0x11), (.opAadd e false q, 0x18), (.opAadd2 e false q, 0x19), (.opAswap e false q, 0x1A),
      (.opFadd e false q, 0x1C), (.opFadd2 e false q, 0x1D), (.opFswap e false q, 0x1E)], s.fetches e i.2 c w →
      ((a % 8 ≠ 0 ∨ inSpd a 8 = false ∧ inPound a 8 = false) → exec i.1 s = .next (s.progFault e c 3)) ∧
      (a % 8 = 0 → inPound a 8 = true → c.barge.secure = false → exec i.1 s = .next ((s.sealDenied 1).progFault e c 4)) ∧
      (a % 8 = 0 → inPound a 8 = true → c.barge.secure = true → s.sealState ≠ 0 →
        exec i.1 s = .next (s.endBarge e 0x0C (c.pc % 4096) (c.pc % 4096))) ∧
      (a % 8 = 0 → i.2 ≠ 0x11 → s.bankTakes r (if i.2 = 0x10 then 0 else 2) → (i.2 = 0x10 → ∀ d, ¬r.meetsWrite d) → (a ∈ s.spd.ue ∨ 2 ≤ q.found) →
        ∃ u : State, exec i.1 s = .next (u.endBarge e 0x09 (c.pc % 4096) (c.pc % 4096)) ∧ Counted s u A.spdUeCnt ∧
          u.rd A.spdUeInfo = 1 + e * 2 ^ 8 ∧ tbit (u.rd 0x30001C) 8 = true ∧ u.rdb 0x30000C 9 = true ∧
          (i.2 = 0x10 → u.dsp = s.dsp) ∧ (i.2 ≠ 0x10 → GoesOn s u e (c.noted x)) ∧
          OnlyChanges s u [.dsp, .spd, .msix, .out] ueRegs) ∧
      (a % 8 = 0 → s.reaches c a 8 → s.runs 2 = true → s.ready 0x300000 = true →
        (∀ u, s.portUse (bankOf a) false = some u → u.last ≠ q.cyc ∧ u.keeps q.cyc (some (a, 1, e)) = false) →
        (∃ v ∈ s.spd.resv, v.addr = a ∧ v.portB = true ∧ q.cyc ≤ v.last) →
        ∃ t, exec i.1 s = .next t ∧ t.rd A.spdStallCnt = (s.rd A.spdStallCnt + 1) % 2 ^ 32 ∧
          t.out = s.out ++ [r.answer true none false false false false] ∧ OnlyChanges s t [.spd, .out] [A.spdStallCnt])) ∧
  ∀ (e : Fin 64) (s : State) (c : Ctx) (w : Nat),
    let x := insOf w
    let a := c.addr x
    (a % 4 = 0 → a < 0x04000000 →
      (s.fetches e 0x12 c w → ∃ t, exec (.opRegr e false) s = .next t ∧ GoesOn s t e (c.put x.rd (bus.read (.engine e) a s).1) ∧
        OnlyChanges (bus.read (.engine e) a s).2 t [.dsp] []) ∧
      (s.fetches e 0x13 c w → ∃ v : State, GoesOn s v e (c.noted x) ∧ OnlyChanges s v [.dsp] [] ∧
        exec (.opRegw e false) s = .next ((v.put (.engine e) a (c.g x.rb)).setRun e Ctx.next) ∧
        (pageRow a = none → (∀ y ∈ s.waitIn, y.2.remote = false) →
          OnlyChanges v (v.put (.engine e) a (c.g x.rb)) [.msix, .out] (A.sysUnmapCnt :: errorRegs 0)))) ∧
    ((a % 4 ≠ 0 ∨ 0x04000000 ≤ a) → (s.fetches e 0x12 c w → exec (.opRegr e false) s = .next (s.progFault e c 8)) ∧
      (s.fetches e 0x13 c w → exec (.opRegw e false) s = .next (s.progFault e c 8)))

/-- SETUP of each unit, LAUNCH, WAIT, WAITANY and HANDLE_COMPLETE (R187, R218, R291 to R295).  A free handle takes a descriptor that can be
read and passes its check while the memory that holds it is clocked (log entry 260), whose UNIT is the opcode's and whose inputs, outputs and update list lie in local memory; another is done with DATA_FAULT.  A handle that is not free at SETUP, free at LAUNCH, or neither
launched nor done at a wait is program fault 5.  LAUNCH of a set handle starts its unit's work.  A wait returns the completion word of a done
handle, the lowest of its mask, and frees it; else it waits.  Work that ends makes its handle done, of the running barge or of a saved one, and
what waited for it goes on. -/
def Obligations.HandlesAreSetLaunchedAndAwaited : Prop :=
  (∀ (e : Fin 64) (s : State) (c : Ctx) (w : Nat),
    let x := insOf w
    let a := c.g x.ra
    ∀ r ∈ [(Instr.opSetupSwp e false, 0x30, 1), (.opSetupSol e false, 0x31, 2), (.opSetupChg e false, 0x32, 3), (.opSetupFus e false, 0x33, 4),
      (.opSetupDma e false, 0x34, 5)], s.fetches e r.2.1 c w →
      (s.memRuns a 64 = false → exec r.1 s = .next s) ∧
      (s.memRuns a 64 = true →
      ((c.handle x.h).st ≠ .free → exec r.1 s = .next (s.progFault e c 5)) ∧
      ((c.handle x.h).st = .free →
        ((a % 64 ≠ 0 ∨ inLocal a 64 = false ∧ inPound a 64 = false) → ∃ t, exec r.1 s = .next t ∧
          GoesOn s t e ((c.noted x).setHandle x.h badDesc).next ∧ OnlyChanges s t [.dsp] []) ∧
        (a % 64 = 0 → inPound a 64 = true → c.barge.secure = false → exec r.1 s = .next ((s.sealDenied 1).progFault e c 4)) ∧
        (a % 64 = 0 → inPound a 64 = true → c.barge.secure = true → s.sealState ≠ 0 →
          exec r.1 s = .next (s.endBarge e 0x0C (c.pc % 4096) (c.pc % 4096))) ∧
        (a % 64 = 0 → (inLocal a 64 = true ∨ inPound a 64 = true ∧ c.barge.secure = true ∧ s.sealState = 0) →
          (wordsIn s.spd.ue a 64 = [] → ∃ t, exec r.1 s = .next t ∧
            GoesOn s t e ((c.noted x).setHandle x.h (if s.descOk e r.2.2 c.barge.secure (s.descAt a) then { st := .set, desc := s.descAt a } else badDesc)).next ∧
            OnlyChanges s t [.dsp, .spd] [A.spdCeCnt]) ∧
          (wordsIn s.spd.ue a 64 ≠ [] → ∃ t, exec r.1 s = .next t ∧ GoesOn s t e ((c.noted x).setHandle x.h badDesc).next ∧ Counted s t A.spdUeCnt ∧
            OnlyChanges s t [.dsp, .spd, .msix, .out] ueRegs))))) ∧
  (∀ (s : State) (e u : Nat) (secure : Bool) (d : List Nat), s.descOk e u secure d = true → nth 0 d 0 % 16 = u ∧
    (u = 1 → fld (nth 0 d 0) 8 2 ≠ 3) ∧
    (u = 2 → fld (nth 0 d 1) 0 13 + fld (nth 0 d 1) 16 13 ≤ s.rdf A.solProbCnt 0 14 ∧ (fld (nth 0 d 4) 0 16 ≠ 0 → inLocal (dw d 2) 16 = true)) ∧
    (u = 3 → 1 ≤ fld (nth 0 d 2) 0 20 ∧ ∀ m f l, s.chgModel (fld (nth 0 d 1) 0 10) = some m → m.layers.head? = some f → m.layers.getLast? = some l →
      inLocal (dw d 4) ((fld (nth 0 d 2) 0 20 - 1) * fld (nth 0 d 6) 0 16 + f.inN) = true ∧
      inLocal (dw d 8) ((fld (nth 0 d 2) 0 20 - 1) * fld (nth 0 d 6) 16 16 + 2 * l.outN) = true) ∧ (u = 4 → inLocal (dw d 2) (fld (nth 0 d 4) 0 20 * 1088) = true) ∧ (u = 5 → nth 0 d 6 % 8 = 0)) ∧
  (∀ (e : Fin 64) (s : State) (c : Ctx) (w : Nat),
    let x := insOf w
    let h := c.handle x.h
    s.fetches e 0x38 c w →
      (h.st = .free → exec (.opLaunch e false) s = .next (s.progFault e c 5)) ∧
      ((h.st = .launched ∨ h.st = .done) → ∃ t, exec (.opLaunch e false) s = .next t ∧ GoesOn s t e c.next ∧ OnlyChanges s t [.dsp] []) ∧
      (h.st = .set → ∃ v, GoesOn s v e ((c.noted x).setHandle x.h { h with st := .launched }).next ∧ OnlyChanges s v [.dsp] [] ∧
        exec (.opLaunch e false) s = .next (v.startUnit e c.barge (c.barge.acc, x.h) h.desc))) ∧
  (∀ (e : Fin 64) (s : State) (c : Ctx) (w : Nat),
    let x := insOf w
    let gone := fun h => { c.setReg x.rd (BitVec.ofNat 64 (completionWord h (c.handle h))) with
      handles := upd (fun _ => {}) c.handles h, pc := c.pc + 1 }
    let m := fun h => h < 8 ∧ tbit x.imm h = true
    (s.fetches e 0x39 c w →
      (((c.handle x.h).st = .free ∨ (c.handle x.h).st = .set) → exec (.opWait e false) s = .next (s.progFault e c 5)) ∧
      ((c.handle x.h).st = .launched → ∃ t, exec (.opWait e false) s = .next t ∧ GoesOn s t e { c with wait := .handle x.rd x.h } ∧
        OnlyChanges s t [.dsp] []) ∧
      ((c.handle x.h).st = .done → ∃ t, exec (.opWait e false) s = .next t ∧ GoesOn s t e (gone x.h) ∧ OnlyChanges s t [.dsp] [])) ∧
    (s.fetches e 0x3A c w →
      ((∀ h, m h → (c.handle h).st = .free ∨ (c.handle h).st = .set) → exec (.opWaitany e false) s = .next (s.progFault e c 5)) ∧
      (∀ h, m h → (c.handle h).st = .done → (∀ k, k < h → m k → (c.handle k).st ≠ .done) → ∃ t, exec (.opWaitany e false) s = .next t ∧
        GoesOn s t e (gone h) ∧ OnlyChanges s t [.dsp] []) ∧
      ((∀ h, m h → (c.handle h).st ≠ .done) → (∃ h, m h ∧ (c.handle h).st = .launched) → ∃ (t : State) (k : Nat),
        exec (.opWaitany e false) s = .next t ∧ GoesOn s t e { c with wait := .any x.rd k } ∧
        (∀ h, h < 8 → (tbit k h = true ↔ m h ∧ (c.handle h).st = .launched)) ∧ OnlyChanges s t [.dsp] []))) ∧
  ∀ (e : Fin 64) (h : Fin 8) (s : State),
    ((∀ k ∈ (s.eng e).ctxs, s.endOf k h = none) → exec (.handleComplete e h) s = .next s) ∧
    (∀ c u, (s.eng e).run = some c → s.endOf c h = some u → (s.eng e).wedged = false → (∀ k ∈ (s.eng e).saved, k.barge.acc ≠ c.barge.acc) →
      ∃ v : State, v.dsp = { s.dsp with ended := s.dsp.ended.erase u, engines := upd (fun g => { g with run := some (c.finish h u).wake }) s.dsp.engines e } ∧
        OnlyChanges s v [.dsp] [] ∧ exec (.handleComplete e h) s = .next (v.tryEnd e) ∧
        ((∀ st r g, c.wait ≠ .ending st r g) → v.tryEnd e = v)) ∧
    (∀ c u, c ∈ (s.eng e).saved → (s.eng e).run = none → s.endOf c h = some u → (∀ k ∈ (s.eng e).saved, k ≠ c → s.endOf k h = none ∧ k.barge.acc ≠ c.barge.acc) →
      ∃ t, exec (.handleComplete e h) s = .next t ∧ t.dsp = { s.dsp with
        ended := s.dsp.ended.erase u
        engines := upd (fun g => { g with saved := g.saved.map (fun k => if k = c then c.finish h u else k) }) s.dsp.engines e } ∧
        OnlyChanges s t [.dsp] []) ∧
    ∀ (c : Ctx) (u : UnitEnd), (s.endOf c h = some u → u ∈ s.dsp.ended ∧ u.acc = c.barge.acc ∧ u.h = h ∧ (c.handle h).st = .launched) ∧
      (h.val < c.handles.length → (c.finish h u).handle h = { c.handle h with st := .done, status := u.status, result := u.result })

/-- ENQ, TAKE, YIELD, POST and POSTT (R292, R296 to R299).  ENQ offers the 64 bytes at ra and rd receives the result code.  TAKE waits for a
ready barge of its basins, with its timeout; a barge already held is program fault 6, a bad buffer fault 3, one in the pound outside SECURE
context counted and fault 4, and an engine whose cluster is out of
service gets 0.  YIELD returns 0 without room; else the barge re-enters the tail of its queue, marked as one that ran on this engine, and
leaves it; a handle that is not free
or a barge held by TAKE is fault 7.  POST ends the barge, a status above 0x0C as DATA_FAULT; POSTT posts the barge given by TAKE, and without
one is fault 6. -/
def Obligations.BargesOfferTakeYieldAndPost : Prop :=
  (∀ (e : Fin 64) (s : State) (c : Ctx) (w : Nat),
    let x := insOf w
    let a := c.g x.ra
    s.fetches e 0x40 c w →
      (s.reaches c a 64 → s.memRuns a 64 = false → exec (.opEnq e false) s = .next s) ∧
      ((inSpd a 64 = true ∨ inPound a 64 = true ∧ c.barge.secure = true ∧ s.sealState = 0) → s.memRuns a 64 = true → wordsIn s.spd.ue a 64 ≠ [] →
        ∃ u : State, exec (.opEnq e false) s = .next (u.endBarge e 0x09 (c.pc % 4096) (c.pc % 4096)) ∧ Counted s u A.spdUeCnt ∧
          OnlyChanges s u [.spd, .msix, .out] ueRegs) ∧
      (s.reaches c a 64 → s.memRuns a 64 = true → ∃ u, GoesOn s u e (c.noted x) ∧ OnlyChanges s u [.dsp, .spd] [A.spdCeCnt] ∧
        exec (.opEnq e false) s = .next ((u.offer 3 e (s.descAt a) c.barge.secure false).2.setRun e
          (fun k => k.put x.rd (u.offer 3 e (s.descAt a) c.barge.secure false).1)) ∧
        ∀ k, k ≠ 0 → k = s.offerCheck 3 (s.bargeOf 3 e (s.descAt a)) c.barge.secure false → ∃ t, exec (.opEnq e false) s = .next t ∧
          GoesOn s t e ((c.noted x).put x.rd k) ∧
          OnlyChanges s t [.dsp, .spd, .msix, .out] ([A.spdCeCnt, A.dspRefused, A.dspBRefused (s.bargeOf 3 e (s.descAt a)).basin] ++ errorRegs 0x200000)) ∧
      (inSpd a 64 = false → inPound a 64 = false → exec (.opEnq e false) s = .next (s.progFault e c 3)) ∧
      (inPound a 64 = true → c.barge.secure = false → exec (.opEnq e false) s = .next ((s.sealDenied 1).progFault e c 4)) ∧
      (inPound a 64 = true → c.barge.secure = true → s.sealState ≠ 0 →
        exec (.opEnq e false) s = .next (s.endBarge e 0x0C (c.pc % 4096) (c.pc % 4096)))) ∧
  (∀ (e : Fin 64) (s : State) (c : Ctx) (w : Nat),
    let x := insOf w
    let buf := c.g x.ra
    let us := x.imm % 2 ^ 24
    s.fetches e 0x41 c w →
      (c.given ≠ none → exec (.opTake e false) s = .next (s.progFault e c 6)) ∧
      (c.given = none → (buf % 64 ≠ 0 ∨ inSpd buf 64 = false ∧ ¬(inPound buf 64 = true ∧ c.barge.secure = false)) →
        exec (.opTake e false) s = .next (s.progFault e c 3)) ∧
      (c.given = none → buf % 64 = 0 → inPound buf 64 = true → c.barge.secure = false → exec (.opTake e false) s = .next ((s.sealDenied 1).progFault e c 4)) ∧
      (c.given = none → buf % 64 = 0 → inSpd buf 64 = true → s.engSvc e ≠ 0 → ∃ t, exec (.opTake e false) s = .next t ∧
        GoesOn s t e { c.setReg x.rd 0 with pc := c.pc + 1 } ∧ OnlyChanges s t [.dsp] []) ∧
      (c.given = none → buf % 64 = 0 → inSpd buf 64 = true → s.engSvc e = 0 → ∃ v : State,
        v.dsp = { s.dsp with
          takeNo := s.dsp.takeNo + 1
          engines := upd (fun g => { g with run := some { c with
            wait := .take x.rd buf (c.g x.rb % 2 ^ 32) (if us = 0 then none else some (us * 1000)) s.now s.dsp.takeNo } }) s.dsp.engines e } ∧
        OnlyChanges s v [.dsp] [] ∧ exec (.opTake e false) s = .next v.settle ∧ (s.dsp.ready = [] → exec (.opTake e false) s = .next v))) ∧
  (∀ (e : Fin 64) (s : State) (c : Ctx) (w : Nat),
    let x := insOf w
    s.fetches e 0x42 c w →
      ((c.given ≠ none ∨ ∃ h ∈ c.handles, h.st ≠ .free) → exec (.opYield e false) s = .next (s.progFault e c 7)) ∧
      (c.given = none → (∀ h ∈ c.handles, h.st = .free) →
        (s.entryFree c.barge = false → ∃ t, exec (.opYield e false) s = .next t ∧ GoesOn s t e (c.put x.rd 0) ∧ OnlyChanges s t [.dsp] []) ∧
        (s.entryFree c.barge = true → ∃ u : State, exec (.opYield e false) s = .next ((u.runTraced e c).freeEngine e).settle ∧
          u.dsp = { s.dsp with ready := s.dsp.ready ++ [{ c.barge with ran := some e.val }] } ∧ u.rd A.bpgYields = (s.rd A.bpgYields + 1) % 2 ^ 32 ∧
          OnlyChanges s u [.dsp, .msix, .out] [A.bpgYields, A.dspBHwm c.barge.basin, 0x20001C]))) ∧
  (∀ (e : Fin 64) (s : State) (c : Ctx) (w : Nat),
    let x := insOf w
    let v := c.g x.ra
    let st := if 0x0C < v % 256 then 0x09 else v % 256
    let res := v / 2 ^ 16 % 2 ^ 16
    (s.fetches e 0x43 c w → (∃ u, GoesOn s u e (c.noted x) ∧ OnlyChanges s u [.dsp] [] ∧ exec (.opPost e false) s = .next (u.endBarge e st res 0)) ∧
      ((∀ h ∈ c.handles, h.st ≠ .launched) → c.given = none → c.barge.lock = 0 → fld (c.barge.w 6) 0 3 = 0 → (s.eng e).saved = [] →
        s.takers = [] → s.svc (enginePage (clusterOf e * 16)) ≠ 1 → ∃ t, exec (.opPost e false) s = .next t ∧
          t.dsp = { s.dsp with engines := upd (fun g => { g with run := none, idleSince := s.now }) s.dsp.engines e } ∧
          t.rd (A.dspEDone e) = (s.rd (A.dspEDone e) + 1) % 2 ^ 32 ∧
          t.rd (A.dspEBusy e) = (s.rd (A.dspEBusy e) + (s.now - (s.eng e).busyFrom) / 8) % 2 ^ 32 ∧ t.rdb (enginePage e + 0x00C) 1 = false ∧
          (c.trace = none → t.aqd = s.aqd) ∧
          OnlyChanges s t [.dsp, .aqd, .pwr, .msix, .out] [A.dspEDone e, A.dspEBusy e, enginePage e + 0x00C, enginePage e + 0x01C, 0x20001C])) ∧
    (s.fetches e 0x44 c w →
      (c.given = none → exec (.opPostt e false) s = .next (s.progFault e c 6)) ∧
      ∀ b n, c.given = some (b, n) →
        (∃ u, GoesOn s u e (c.noted x) ∧ OnlyChanges s u [.dsp] [] ∧
          exec (.opPostt e false) s = .next ((((((u.complete b st res e true).leave b).bump32 (A.dspEDone e) 1).setRun e
            (fun k => { k with given := none, pc := k.pc + 1 })).settle))) ∧
        (b.lock = 0 → fld (b.w 6) 0 3 = 0 → s.takers = [] → ∃ t, exec (.opPostt e false) s = .next t ∧
          GoesOn s t e { c.noted x with given := none, pc := c.pc + 1 } ∧ t.rd (A.dspEDone e) = (s.rd (A.dspEDone e) + 1) % 2 ^ 32 ∧
          OnlyChanges s t [.dsp] [A.dspEDone e])))

/-- PROGRAM_LOAD and PROGRAM_LOAD_DONE (R44, R283, R284).  A GO while the group is locked is rejected; a GO while a load runs does nothing.  A load whose source, length or target is bad, or
whose image cannot be read, or whose CRC differs, writes nothing, and its result is shown and recorded.  A good one keeps its image and shows
BUSY; it is held while a barge of an overlapping range is in service; then its bytes are written and no others, it is counted and LOAD_DONE
is raised. -/
def Obligations.ProgramsAreLoaded : Prop :=
  (∀ (src : Source) (s : State), s.takes src A.bpgLoadCmd → s.rdb 0x200010 1 = true →
    exec (.programLoad src) s = .next (s.reject src A.bpgLoadCmd)) ∧
  (∀ (src : Source) (s : State), s.takes src A.bpgLoadCmd → s.rdb 0x200010 1 = false →
    let a := s.rd64 A.bpgLoadSrc % 2 ^ 48
    let dst := s.rdf A.bpgLoadDst 0 20
    let n := s.rdf A.bpgLoadLen 0 17
    let ok := inLocal a n = true ∧ 8 ≤ n ∧ n ≤ 65536 ∧ n % 8 = 0 ∧ dst % 8 = 0 ∧ dst + n ≤ 0xC0000
    let fails := fun k => ∃ t, exec (.programLoad src) s = .next t ∧ t.rdf A.bpgLoadStat 2 2 = k ∧ t.rdb A.bpgLoadStat 0 = s.rdb A.bpgLoadStat 0 ∧
      t.rdb 0x20000C 9 = true ∧ (s.rdb 0x20000C 9 = false → t.rd 0x20002C = 0x0104 ∧ t.rd 0x200030 = k) ∧ Raised s t 0x200000 1 ∧
      OnlyChanges s t [.spd, .msix, .out] ([A.bpgLoadStat, A.bpgLoadCmd] ++ errorRegs 0x200000 ++ ueRegs)
    (s.dsp.load ≠ none → ∃ t, exec (.programLoad src) s = .next t ∧ OnlyChanges s t [] [A.bpgLoadCmd]) ∧
    (s.dsp.load = none → ¬ok → fails 1) ∧
    (s.dsp.load = none → ok → wordsIn s.spd.ue a n ≠ [] → fails 3) ∧
    (s.dsp.load = none → ok → wordsIn s.spd.ue a n = [] → crc32 (s.readMem a n) ≠ s.rd A.bpgLoadCrc → fails 2) ∧
    (s.dsp.load = none → ok → wordsIn s.spd.ue a n = [] → crc32 (s.readMem a n) = s.rd A.bpgLoadCrc → ∃ t, exec (.programLoad src) s = .next t ∧
      t.dsp = { s.dsp with load := some { dst := dst, image := s.readMem a n } } ∧ t.rdf A.bpgLoadStat 2 2 = 0 ∧ t.rdb A.bpgLoadStat 0 = true ∧
      OnlyChanges s t [.dsp, .spd] [A.bpgLoadStat, A.bpgLoadCmd, A.spdCeCnt])) ∧
  ∀ s : State, (s.dsp.load = none → exec .programLoadDone s = .next s) ∧
    ∀ l, s.dsp.load = some l →
      ((∃ b ∈ s.inService, b.prog < l.dst + l.image.length ∧ l.dst < b.prog + 8192) → exec .programLoadDone s = .next s) ∧
      ((∀ b ∈ s.inService, l.dst + l.image.length ≤ b.prog ∨ b.prog + 8192 ≤ l.dst) → ∃ u : State,
        exec .programLoadDone s = .next (u.settle.quietEdge 0x200000 true) ∧
        (s.takers = [] → exec .programLoadDone s = .next (u.quietEdge 0x200000 true)) ∧
        { u.dsp with store := s.dsp.store } = { s.dsp with load := none } ∧
        (∀ i, i < l.image.length → Memory.get u.dsp.store (l.dst + i) = nth 0 l.image i) ∧
        (∀ i, i < l.dst ∨ l.dst + l.image.length ≤ i → Memory.get u.dsp.store i = Memory.get s.dsp.store i) ∧
        u.rdb A.bpgLoadStat 0 = false ∧ Counted s u A.bpgLoads ∧ Raised s u 0x200000 14 ∧
        OnlyChanges s u [.dsp, .msix, .out] [A.bpgLoadStat, A.bpgLoads, 0x20001C])

/-! ## Scratchpad and sealed pound (chapter 13) -/

/-- BANK_READ, BANK_WRITE, BANK_ADD, BANK_ADD2, BANK_SWAP, ECC_WRITEBACK and SCRUB_READ (R303 to R312, R314, R316, R317, R322, R323,
R331).  A bank that is stopped or not yet filled, and one whose word is not accessible, take nothing; a requester that may not reach the pound
is counted and recorded, and its read returns zero; the other port's reservation, and an atomic operation that meets the request, stall the
later one.  A taken read gives the word; the silent collision gives undefined data and is counted with its address, the flagged one is counted,
told BUSY and repeated, and the repeat gives the word newly written unless it meets another write (R311, R312).  A whole write stores the word, a partial one the enabled bytes with a reservation.  An atomic operation changes the
word, and its fetching form gives the old one.  A single-bit error is corrected and counted; an uncorrectable word is recorded, a host's read
of it completes with ones, and no partial write or atomic operation changes it.  The scrubber runs while it is enabled, takes only free cycles
and begins a pass when it is due.  The undefined data is a free value (log entry 1); the errors a read finds and what the ports present are
the command's operand (log entries 13 and 64). -/
def Obligations.BanksServeTheirPorts : Prop :=
  (∀ (q : BankReq) (be data : Nat) (fetch : Bool) (s : State),
    let w := wordAddr q.addr
    let pound := regionOf w = .pound
    let cmds : List (Instr × Nat × Bool) := [(.bankRead q, 0, true), (.bankWrite q be data, if be % 256 = 255 then 1 else 2, false),
      (.bankAdd q data fetch, 2, fetch), (.bankAdd2 q data fetch, 2, fetch), (.bankSwap q data fetch, 2, fetch)]
    ∀ i ∈ cmds,
    let refused := if q.cls = 3 ∧ pound ∧ s.sealState ≠ 0 then s.safLog 0x23 0 false 0 else s
    ((s.runs 2 = false ∨ s.ready 0x300000 = false) → exec i.1 s = .next refused) ∧
    (s.runs 2 = true → s.ready 0x300000 = true → pound → ¬mayReachPound q.cls q.secure → ∃ t, exec i.1 s = .next t ∧
      (i.2.2 = false → t = s.sealDenied q.cls) ∧
      (i.2.2 = true → t = { s.sealDenied q.cls with out := (s.sealDenied q.cls).out ++ [q.answer false (some 0) false false false false] })) ∧
    (s.runs 2 = true → s.ready 0x300000 = true → pound → mayReachPound q.cls q.secure → s.sealState ≠ 0 → exec i.1 s = .next refused) ∧
    (s.runs 2 = true → s.ready 0x300000 = true → ¬pound → regionOf w ≠ .scratchpad → exec i.1 s = .next s) ∧
    (s.runs 2 = true → s.ready 0x300000 = true → (regionOf w = .scratchpad ∨ pound ∧ mayReachPound q.cls q.secure ∧ s.sealState = 0) →
      let stalls := ∃ t, exec i.1 s = .next t ∧ t.rd A.spdStallCnt = (s.rd A.spdStallCnt + 1) % 2 ^ 32 ∧
        t.out = s.out ++ [q.answer true none false false false false] ∧ t.presented q q.cyc ∧ OnlyChanges s t [.spd, .out] [A.spdStallCnt]
      let keeps := fun u : PortUse => u.keeps q.cyc (some (w, q.cls, q.id))
      (∀ u, s.portUse (bankOf w) (onPortB q.cls) = some u →
        ((u.last = q.cyc ∧ u.scrub = false ∨ keeps u = true) → exec i.1 s = .next s) ∧
        (u.last = q.cyc → u.scrub = true → keeps u = false → 64 ≤ u.run → stalls)) ∧
      ((∀ u, s.portUse (bankOf w) (onPortB q.cls) = some u → u.last ≠ q.cyc ∧ keeps u = false) →
        ((∃ r ∈ s.spd.resv, r.addr = w ∧ r.portB ≠ onPortB q.cls ∧ q.cyc ≤ r.last) ∨
          (∃ m, q.met = some m ∧ ¬q.isFirst ∧ (i.2.1 = 2 ∨ m.kind = 2))) → stalls))) ∧
  (∀ (q : BankReq) (s : State),
    let w := wordAddr q.addr
    let word := BitVec.ofNat 64 (s.peek64 w)
    let told := fun (t : State) (v : DWord) (ce ue : Bool) => t.out = s.out ++ q.answer false (some v) false false ce ue ::
      (if q.cls = 0 then [.barData 2 (w - 0x0100000000) (if ue then List.replicate 8 0xFF else leBytes 8 v.toNat)] else [])
    s.bankTakes q 0 →
    (∀ d, q.meetsWrite d → q.isFirst → ∃ (t : State) (v : DWord), exec (.bankRead q) s = .next t ∧ q.answer false (some v) false false false false ∈ t.out ∧
      Counted s t A.spdCollSilent ∧ t.rd64 A.spdCollAddr = w % 2 ^ 64 ∧ t.rd A.spdCollInfo = q.cls % 8 + q.id % 256 * 2 ^ 8 ∧ Raised s t 0x300000 9 ∧
      OnlyChanges s t [.spd, .msix, .out, .freeCnt] [A.spdCollSilent, A.spdCollAddr, A.spdCollAddr + 4, A.spdCollInfo, 0x30001C]) ∧
    (∀ d, q.meetsWrite d → ¬q.isFirst →
      (q.again = false → q.found < 2 → ∃ (v : DWord) (t : State), exec (.bankRead q) s = .next t ∧ t.rd A.spdCollFlag = (s.rd A.spdCollFlag + 1) % 2 ^ 32 ∧
        t.rd A.spdCeCnt = (s.rd A.spdCeCnt + (if q.found = 1 then 1 else 0)) % 2 ^ 32 ∧
        t.out = s.out ++ [q.answer false (some v) false true false false,
          q.answer false (some (BitVec.ofNat 64 d)) false false (decide (q.found = 1)) false] ++
          (if q.cls = 0 then [.barData 2 (w - 0x0100000000) (leBytes 8 (d % 2 ^ 64))] else []) ∧
        t.presented q (q.cyc + 1) ∧ OnlyChanges s t [.spd, .pwr, .out, .freeCnt] [A.spdCollFlag, A.spdCeCnt]) ∧
      (q.again = false → 2 ≤ q.found → ∃ t, exec (.bankRead q) s = .next t ∧ t.rd A.spdCollFlag = (s.rd A.spdCollFlag + 1) % 2 ^ 32 ∧ w ∈ t.spd.ue ∧
        Counted s t A.spdUeCnt ∧ t.presented q (q.cyc + 1) ∧ OnlyChanges s t [.spd, .msix, .out, .freeCnt] (A.spdCollFlag :: ueRegs)) ∧
      (q.again = true → ∃ t, exec (.bankRead q) s = .next t ∧ t.rd A.spdCollFlag = (s.rd A.spdCollFlag + 1) % 2 ^ 32 ∧
        Counted s t A.spdCollSilent ∧ t.rd64 A.spdCollAddr = w % 2 ^ 64 ∧ Raised s t 0x300000 9 ∧ t.presented q (q.cyc + 1) ∧
        OnlyChanges s t [.spd, .msix, .out, .freeCnt] [A.spdCollFlag, A.spdCollSilent, A.spdCollAddr, A.spdCollAddr + 4, A.spdCollInfo, 0x30001C])) ∧
    ((∀ d, ¬q.meetsWrite d) →
      (q.found = 0 → w ∉ s.spd.ue → w ∉ s.spd.ce → ∃ t, exec (.bankRead q) s = .next t ∧ told t word false false ∧ t.presented q q.cyc ∧
        OnlyChanges s t [.spd, .out] []) ∧
      (w ∉ s.spd.ue → (q.found = 1 ∨ q.found = 0 ∧ w ∈ s.spd.ce) → ∃ t, exec (.bankRead q) s = .next t ∧ told t word true false ∧
        t.rd A.spdCeCnt = (s.rd A.spdCeCnt + 1) % 2 ^ 32 ∧ w ∈ t.spd.ce ∧ OnlyChanges s t [.spd, .pwr, .out] [A.spdCeCnt]) ∧
      ((2 ≤ q.found ∨ w ∈ s.spd.ue) → ∃ t, exec (.bankRead q) s = .next t ∧ w ∈ t.spd.ue ∧ Counted s t A.spdUeCnt ∧ t.rd64 A.spdUeAddr = w % 2 ^ 64 ∧
        t.rd A.spdUeInfo = q.cls % 8 + q.id % 256 * 2 ^ 8 ∧ tbit (t.rd 0x30001C) 8 = true ∧ t.rdb 0x30000C 9 = true ∧
        q.answer false (some word) false false false true ∈ t.out ∧
        (q.cls = 0 → t.out.getLast? = some (.barData 2 (w - 0x0100000000) (List.replicate 8 0xFF))) ∧
        OnlyChanges s t [.spd, .msix, .out] ueRegs))) ∧
  (∀ (q : BankReq) (be data : Nat) (s : State),
    let w := wordAddr q.addr
    (be % 256 = 255 → s.bankTakes q 1 → ∃ t, exec (.bankWrite q be data) s = .next t ∧
      (∀ d, q.meetsWrite d → q.isFirst → t.peek64 w = d % 2 ^ 64) ∧
      (∀ d, q.meetsWrite d → ¬q.isFirst → t.peek64 w = data % 2 ^ 64 ∧ Counted s t A.spdWwCnt) ∧
      ((∀ d, ¬q.meetsWrite d) → t.peek64 w = data % 2 ^ 64 ∧ t.rd A.spdWwCnt = s.rd A.spdWwCnt ∧
        ∃ busy, t.out = s.out ++ [q.answer false none true busy false false] ∧ (busy = true ↔ ∃ m, q.met = some m ∧ m.kind = 0 ∧ ¬q.isFirst)) ∧
      w ∉ t.spd.ue ∧ w ∉ t.spd.ce ∧ MemOnlyIn s t w (w + 8) ∧ OnlyChanges s t [.mem, .spd, .out] [A.spdWwCnt]) ∧
    (be % 256 ≠ 255 → s.bankTakes q 2 → q.found < 2 → w ∉ s.spd.ue → ∃ t, exec (.bankWrite q be data) s = .next t ∧
      (∀ i, i < 8 → t.memGet (w + i) = if tbit be i then BitVec.ofNat 8 (data / 2 ^ (8 * i)) else s.memGet (w + i)) ∧
      MemOnlyIn s t w (w + 8) ∧ ⟨w, onPortB q.cls, q.cyc + 1⟩ ∈ t.spd.resv ∧
      t.out = s.out ++ [q.answer false none true false (decide (q.found = 1 ∨ w ∈ s.spd.ce)) false] ∧
      OnlyChanges s t [.mem, .spd, .pwr, .out] [A.spdCeCnt]) ∧
    (be % 256 ≠ 255 → s.bankTakes q 2 → (2 ≤ q.found ∨ w ∈ s.spd.ue) → ∃ t, exec (.bankWrite q be data) s = .next t ∧ w ∈ t.spd.ue ∧
      Counted s t A.spdUeCnt ∧ t.rd64 A.spdUeAddr = w % 2 ^ 64 ∧ t.rd A.spdUeInfo = q.cls % 8 + q.id % 256 * 2 ^ 8 ∧
      ⟨w, onPortB q.cls, q.cyc + 1⟩ ∈ t.spd.resv ∧ tbit (t.rd 0x30001C) 8 = true ∧
      t.out.getLast? = some (q.answer false none true false false true) ∧ OnlyChanges s t [.spd, .msix, .out] ueRegs)) ∧
  (∀ (q : BankReq) (data : Nat) (fetch : Bool) (s : State),
    let w := wordAddr q.addr
    let old := s.peek64 w
    let back := if fetch then some (BitVec.ofNat 64 old) else none
    s.bankTakes q 2 →
    ∀ r ∈ [(Instr.bankAdd q data fetch, (old + data) % 2 ^ 64),
      (.bankAdd2 q data fetch, (old + data) % 2 ^ 32 + (old / 2 ^ 32 + data / 2 ^ 32) % 2 ^ 32 * 2 ^ 32), (.bankSwap q data fetch, data % 2 ^ 64)],
    (q.found < 2 → w ∉ s.spd.ue → ∃ t, exec r.1 s = .next t ∧ t.peek64 w = r.2 ∧ MemOnlyIn s t w (w + 8) ∧
      ⟨w, onPortB q.cls, q.cyc + 1⟩ ∈ t.spd.resv ∧ t.out = s.out ++ [q.answer false back true false (decide (q.found = 1 ∨ w ∈ s.spd.ce)) false] ∧
      OnlyChanges s t [.mem, .spd, .pwr, .out] [A.spdCeCnt]) ∧
    ((2 ≤ q.found ∨ w ∈ s.spd.ue) → ∃ t, exec r.1 s = .next t ∧ w ∈ t.spd.ue ∧ Counted s t A.spdUeCnt ∧ t.rd64 A.spdUeAddr = w % 2 ^ 64 ∧
      t.rd A.spdUeInfo = q.cls % 8 + q.id % 256 * 2 ^ 8 ∧ ⟨w, onPortB q.cls, q.cyc + 1⟩ ∈ t.spd.resv ∧ tbit (t.rd 0x30001C) 8 = true ∧
      t.out.getLast? = some (q.answer false back true false false true) ∧ OnlyChanges s t [.spd, .msix, .out] ueRegs)) ∧
  (∀ (addr cyc : Nat) (s : State),
    let w := wordAddr addr
    let inUse := (∃ u ∈ s.spd.ports, u.addr = w ∧ u.last = cyc) ∨ ∃ r ∈ s.spd.resv, r.addr = w ∧ cyc ≤ r.last
    (inUse → exec (.eccWriteback addr cyc) s = .next s) ∧
    (¬inUse → ∃ t, exec (.eccWriteback addr cyc) s = .next t ∧ t.spd = { s.spd with ce := s.spd.ce.filter (fun x => x ≠ w) } ∧
      OnlyChanges s t [.spd, .pwr, .msix, .out] [0x30001C])) ∧
  (∀ a, 0x0100000000 ≤ a → a < 0x0106000000 → bankOf a = (a - 0x0100000000) / 8 % 128 ∧ rowOf a = (a - 0x0100000000) / 1024 % 2 ^ 17) ∧
  (∀ a, 0x0108000000 ≤ a → a < 0x0108400000 → bankOf a = 128 + (a - 0x0108000000) / 8 % 8 ∧ rowOf a = (a - 0x0108000000) / 64 % 2 ^ 16) ∧
  ∀ (q : BankReq) (s : State),
    let w := wordAddr q.addr
    let b := onPortB q.cls
    let due := s.spd.scrubbed ≠ [] ∨ s.spd.scrubAt = none ∨ ∃ t, s.spd.scrubAt = some t ∧ t + max 1 (s.rdf A.spdScrubS 0 16) * 1000000000 ≤ s.now
    let free := ∀ u, s.portUse (bankOf w) true = some u → u.last ≠ q.cyc ∧ (64 ≤ u.run ∨ u.keeps q.cyc (some (w, 6, 0)) = false)
    let on := s.runs 2 = true ∧ s.rdb A.spdCtrl 0 = true ∧ s.enabled 0x300000 = true ∧ s.quiesced 0x300000 = false ∧ due ∧ free ∧
      (regionOf w = .scratchpad ∨ regionOf w = .pound ∧ s.sealState = 0)
    let held := (∃ r ∈ s.spd.resv, r.addr = w ∧ r.portB ≠ b ∧ q.cyc ≤ r.last) ∨ ∃ m, q.met = some m ∧ ¬q.isFirst ∧ m.kind = 2
    let seen := setIns w s.spd.scrubbed
    let all := 12582912 ≤ (seen.filter (fun x => regionOf x = .scratchpad)).length ∧
      (s.sealState = 0 → 524288 ≤ (seen.filter (fun x => regionOf x = .pound)).length)
    (¬on → exec (.scrubRead q) s = .next s) ∧
    (on → held → ∃ t, exec (.scrubRead q) s = .next t ∧ t.rd A.spdStallCnt = (s.rd A.spdStallCnt + 1) % 2 ^ 32 ∧
      t.out = s.out ++ [q.answer true none false false false false] ∧ OnlyChanges s t [.spd, .out] [A.spdStallCnt]) ∧
    (on → ¬held → ∃ t, exec (.scrubRead q) s = .next t ∧
      (all → t.spd.scrubbed = [] ∧ t.rd A.spdScrubPass = (s.rd A.spdScrubPass + 1) % 2 ^ 32) ∧
      (¬all → t.spd.scrubbed = seen ∧ t.rd A.spdScrubPass = s.rd A.spdScrubPass) ∧
      t.spd.scrubAt = (if s.spd.scrubbed = [] then some s.now else s.spd.scrubAt) ∧
      ((∀ d, ¬q.meetsWrite d) →
        (w ∉ s.spd.ue → q.found = 0 → w ∉ s.spd.ce → OnlyChanges s t [.spd, .out] [A.spdScrubPass] ∧ t.spd.ce = s.spd.ce ∧ t.spd.ue = s.spd.ue) ∧
        (w ∉ s.spd.ue → (q.found = 1 ∨ q.found = 0 ∧ w ∈ s.spd.ce) → t.rd A.spdCeCnt = (s.rd A.spdCeCnt + 1) % 2 ^ 32 ∧ w ∉ t.spd.ce ∧
          ⟨w, true, q.cyc + 1⟩ ∈ t.spd.resv ∧ OnlyChanges s t [.spd, .pwr, .out] [A.spdScrubPass, A.spdCeCnt]) ∧
        ((2 ≤ q.found ∨ w ∈ s.spd.ue) → w ∈ t.spd.ue ∧ Counted s t A.spdUeCnt ∧ t.rd64 A.spdUeAddr = w % 2 ^ 64 ∧
          t.rd A.spdUeInfo = q.cls % 8 + q.id % 256 * 2 ^ 8 ∧ tbit (t.rd 0x30001C) 8 = true ∧
          OnlyChanges s t [.spd, .msix, .out] (A.spdScrubPass :: ueRegs))) ∧
      (∀ d, q.meetsWrite d → ¬q.isFirst → t.rd A.spdCollFlag = (s.rd A.spdCollFlag + 1) % 2 ^ 32) ∧
      (∀ d, q.meetsWrite d → (q.isFirst ∨ q.again = true) → Counted s t A.spdCollSilent ∧ t.rd64 A.spdCollAddr = w % 2 ^ 64 ∧ Raised s t 0x300000 9) ∧
      OnlyChanges s t [.spd, .pwr, .msix, .out, .freeCnt]
        ([A.spdScrubPass, A.spdCollFlag, A.spdCollSilent, A.spdCollAddr, A.spdCollAddr + 4, A.spdCollInfo] ++ ueRegs))

/-- SEAL_OPEN, SEAL_LOCK, SEAL_UNLOCK, SEAL_WIPE and WIPE_DONE, and a denied access (R316 to R321, R434, R455).  OPEN counts from the island
only, under its conditions, and with no lock reason a closed pound opens and the key record is read: a good one gives the key, another leaves
none and is recorded.  LOCK sets its reason, closes an open pound, and the key leaves; UNLOCK clears the reason.  WIPE starts a wipe with its
cause and time, is counted while one runs, and ends a running IMPORT, SEAL or UNSEAL with SEALED (R459); the wipe ends with the pound WIPED and zero, and is counted (that of power-on and of a full reset is the 1 of the reset value), or, failing
twice, with its failure recorded, bank and row.  A refused write of SPD_SEAL_CTRL enters the security log. -/
def Obligations.ThePoundOpensLocksAndWipes : Prop :=
  (∀ (src : Source) (s : State), s.takes src A.spdSealCtrl →
    (∃ t, exec (.sealUnlock src) s = .next t ∧ t.rd A.spdSealStat = putBit (s.rd A.spdSealStat) 6 false ∧ OnlyChanges s t [] [A.spdSealStat]) ∧
    (s.sealState ≠ 0 → ∃ t, exec (.sealLock src) s = .next t ∧ t.rd A.spdSealStat = putBit (s.rd A.spdSealStat) 6 true ∧
      OnlyChanges s t [] [A.spdSealStat]) ∧
    (s.sealState = 0 → ∃ t, exec (.sealLock src) s = .next t ∧ t.rdb A.spdSealStat 6 = true ∧ t.sealState = 1 ∧ t.fio = { s.fio with key := none } ∧
      (s.fio.key ≠ none → t.rdb A.mgtStat 3 = true ∧ Raised s t 0x358000 12) ∧
      OnlyChanges s t [.fio, .msix, .out] [A.spdSealStat, A.mgtStat, 0x35801C]) ∧
    let poisoned := fun t : State => ∀ r, s.sec.run = some r → 2 ≤ r.op → r.op ≤ 4 → r.result = 0 → t.sec.run = some { r with result := 5 }
    (s.sealState = 2 → ∃ t, exec (.sealWipe src) s = .next t ∧ Counted s t A.spdSealMerged ∧ poisoned t ∧
      (s.sec.run = none → t.sec = s.sec) ∧ OnlyChanges s t [.sec] [A.spdSealMerged]) ∧
    (s.sealState ≠ 2 → ∃ t, exec (.sealWipe src) s = .next t ∧ t.sealState = 2 ∧ t.rd A.spdSealCause = 9 ∧
      (s.now < 2 ^ 64 → t.rd64 A.spdSealT = s.now) ∧ t.spd = { s.spd with wipe := some { start := s.now, retry := false } } ∧
      t.fio = { s.fio with key := none } ∧ Raised s t 0x301000 8 ∧ poisoned t ∧
      OnlyChanges s t [.spd, .fio, .sec, .pwr, .msix, .out] ([A.spdSealStat, A.spdSealCause, A.spdSealT, A.spdSealT + 4, A.mgtStat, 0x35801C, 0x30101C] ++
        secLogRegs)) ∧
    (src ≠ .island → ∃ t, exec (.sealOpen src) s = .next t ∧ OnlyChanges s t [] [])) ∧
  (∀ s : State, s.mayOpen = false → exec (.sealOpen .island) s = .next s) ∧
  (∀ s : State, s.takes .island A.spdSealCtrl → s.mayOpen = true →
    (s.lockStands = true → ∃ t, exec (.sealOpen .island) s = .next t ∧ Raised s t 0x301000 10 ∧ OnlyChanges s t [.msix, .out] [0x30101C]) ∧
    (s.lockStands = false → (s.sealState = 0 ∨ s.sealState = 2) → ∃ t, exec (.sealOpen .island) s = .next t ∧ OnlyChanges s t [] []) ∧
    (s.lockStands = false → (s.sealState = 1 ∨ s.sealState = 3) →
      let rec_ := s.readMem 0x0108000000 0x40
      let good := wordsIn s.spd.ue 0x0108000000 0x40 = [] ∧ keyRecordOk rec_ = true
      ∃ t, exec (.sealOpen .island) s = .next t ∧ t.sealState = 0 ∧
        (good → t.fio = { s.fio with key := some (rec_.take 32) } ∧ t.rd A.mgtKeyId = leNat ((rec_.drop 0x20).take 4) ∧
          t.rdb A.mgtStat 3 = false ∧ Raised s t 0x358000 12) ∧
        (¬good → t.fio = { s.fio with key := none } ∧ t.rdb 0x35800C 9 = true ∧
          (s.rdb 0x35800C 9 = false → t.rd 0x35802C = 0x0100 ∧ t.rd 0x358030 = 0)) ∧
        OnlyChanges s t [.spd, .fio, .msix, .out] ([A.spdSealStat, A.mgtKeyId, A.mgtStat] ++ errorRegs 0x358000 ++ ueRegs))) ∧
  (∀ (src : Source) (s : State), s.sourceShut src = false → s.ready 0x301000 = true → findStage 0x301000 src s.staged = none →
    s.rdb A.mgtMdio 31 = false → (∀ x ∈ s.waitIn, x.2.remote = false) → s.allowed src A.spdSealCtrl = false →
    ∀ c ∈ [Instr.sealLock src, .sealUnlock src, .sealWipe src], ∃ t, exec c s = .next t ∧ t.sec.logSeq = (s.sec.logSeq + 1) % 2 ^ 32 ∧
      t.rd A.spdSealStat = s.rd A.spdSealStat ∧ t.spd = s.spd) ∧
  (∀ (failed : Option Nat) (s : State),
    (s.spd.wipe = none → exec (.wipeDone failed) s = .next s) ∧
    ∀ w, s.spd.wipe = some w →
      (failed = none → ∃ t, exec (.wipeDone failed) s = .next (t.quietEdge 0x301000 true) ∧ t.sealState = 3 ∧
        ((s.rd A.spdSealCause = 10 ∨ s.rd A.spdSealCause = 11) → t.rd A.spdWipeCnt = s.rd A.spdWipeCnt) ∧
        (s.rd A.spdSealCause ≠ 10 → s.rd A.spdSealCause ≠ 11 → Counted s t A.spdWipeCnt) ∧
        t.rd A.spdWipeTime = (s.now + w.ran - w.start) / 10 % 2 ^ 16 ∧ Raised s t 0x301000 9 ∧ t.spd.wipe = none ∧
        (∀ a, 0x0108000000 ≤ a → a < 0x0108400000 → fillByte s.fills a = 0 → t.memGet a = 0) ∧ MemOnlyIn s t 0x0108000000 0x0108400000 ∧
        (∀ x ∈ t.spd.ue ++ t.spd.ce, regionOf x ≠ .pound) ∧
        OnlyChanges s t [.mem, .spd, .msix, .out] [A.spdSealStat, A.spdWipeCnt, A.spdWipeTime, 0x30101C]) ∧
      (failed ≠ none → w.retry = false → ∃ t, exec (.wipeDone failed) s = .next t ∧ t.spd = { s.spd with wipe := some { w with retry := true } } ∧
        OnlyChanges s t [.spd] []) ∧
      ∀ o, failed = some o → w.retry = true → ∃ t, exec (.wipeDone failed) s = .next (t.quietEdge 0x301000 true) ∧
        t.spd = { s.spd with wipe := none } ∧ t.rdb A.spdSealStat 8 = true ∧ ErrorNoted s t 0x301000 0x0101 (o / 8 % 8 + o / 64 % 2 ^ 16 * 2 ^ 16) ∧
        OnlyChanges s t [.spd, .msix, .out] (A.spdSealStat :: errorRegs 0x301000)) ∧
  ∀ (s : State) (cls : Nat),
    let t := s.sealDenied cls
    Counted s t A.spdSealDenied ∧ t.rdb 0x30100C 9 = true ∧ (s.rdb 0x30100C 9 = false → t.rd 0x30102C = 0x0102 ∧ t.rd 0x301030 = 0) ∧
      tbit (t.rd 0x30101C) 10 = true ∧ OnlyChanges s t [.sec, .msix, .out] ([A.spdSealDenied] ++ errorRegs 0x301000 ++ secLogRegs)

/-! ## The host interface (chapter 14) -/

/-- INLET_DOORBELL, INLET_ENTRY_FETCHED and INLET_EN_WRITE (R258, R332 to R335, Table HST-4).  A doorbell is accepted whole, with its entries
reserved in the basin and their reads sent to the ring's addresses, or refused with its result and a count, nothing else changed; while the page
takes no work it is held.  A fetched entry is offered in index order, in the place of its reservation; one of another basin, or that the
dispatcher refuses, is counted and recorded.  A failed fetch puts the ring in fault.  Enabling a ring clears its indices, disabling clears its
fault, and while it is enabled its size and basin refuse a write. -/
def Obligations.InletRingsTakeDoorbellsAndOfferEntries : Prop :=
  (∀ (src : Source) (n : Fin 64) (v : Nat) (s : State), s.takes src (A.hstInDb n) → v < 2 ^ 32 → s.pageOpen 0x311000 = false →
    ∃ t, exec (.inletDoorbell src n v) s = .next t ∧ t.waitIn = s.waitIn ++ [(0x311000, .inlet n v)] ∧ OnlyChanges s t [.waitIn] []) ∧
  (∀ (src : Source) (n : Fin 64) (v : Nat) (s : State), s.takes src (A.hstInDb n) → v < 2 ^ 32 → s.pageOpen 0x311000 = true →
    let count := (v + 2 ^ 32 - s.rd (A.hstInPi n)) % 2 ^ 32
    let at_ := s.rd (A.hstInPi n) % s.inSize n
    let r := s.doorbellResult n count
    let b := s.inBasin n
    (r = 0 → ∃ t, exec (.inletDoorbell src n v) s = .next t ∧ t.rd (A.hstInPi n) = v ∧ t.rd (A.hstInStat n) = putFld (s.rd (A.hstInStat n)) 0 3 0 ∧
      (t.held b < 2 ^ 32 → t.rd (A.dspBHwm b) = max (s.rd (A.dspBHwm b)) (t.held b)) ∧
      (s.credit b ≠ 0 → t.credit b = 0 → Raised s t 0x200000 12) ∧
      (0 < count → count ≤ 64 → at_ + count ≤ s.inSize n →
        t.out.getLast? = some (.hostRead (s.rd64 (A.hstInBase n) + 64 * at_) (64 * count))) ∧
      (∃ head, t.out = head ++ s.inletReads n (s.rd (A.hstInPi n)) 4097 count) ∧
      OnlyChanges s t [.msix, .out] [A.hstInPi n, A.hstInStat n, A.dspBHwm b, 0x20001C]) ∧
    (r ≠ 0 → ∃ t, exec (.inletDoorbell src n v) s = .next t ∧ t.rdf (A.hstInStat n) 0 3 = r ∧
      t.rdf (A.hstInRef n) 0 16 = min 0xFFFF (s.rdf (A.hstInRef n) 0 16 + 1) ∧ t.rdf (A.hstInRef n) 16 16 = s.rdf (A.hstInRef n) 16 16 ∧
      Raised s t 0x311000 8 ∧ OnlyChanges s t [.msix, .out] [A.hstInStat n, A.hstInRef n, 0x31101C])) ∧
  (∀ (n : Fin 64) (count : Nat) (s : State),
    let r := s.doorbellResult n count
    let open_ := s.rdb (A.hstInCfg n) 0 = true ∧ s.inBasin n ≠ 31 ∧ s.rdb (A.dspBCfg (s.inBasin n)) 0 = true
    (s.rdb (A.hstInStat n) 3 = true → r = 4) ∧
    (s.rdb (A.hstInStat n) 3 = false → (¬open_ → r = 3) ∧
      (open_ → (s.inSize n < count + s.inUsed n → r = 2) ∧ (count + s.inUsed n ≤ s.inSize n →
        (count ≠ 0 → s.credit (s.inBasin n) < count → r = 1) ∧ ((count = 0 ∨ count ≤ s.credit (s.inBasin n)) → r = 0))))) ∧
  (∀ (n : Fin 64) (entries : List (List Nat)) (s : State),
    (s.inletResv n = 0 → exec (.inletEntryFetched n entries true) s = .next s) ∧
    (s.inletResv n ≠ 0 → ∃ t, exec (.inletEntryFetched n entries true) s = .next (t.quietEdge 0x311000 true) ∧ t.rdb (A.hstInStat n) 3 = true ∧
      tbit (t.rd 0x31101C) 10 = true ∧ t.rdb 0x31100C 9 = true ∧ (s.rdb 0x31100C 9 = false → t.rd 0x31102C = 0x0100 ∧ t.rd 0x311030 = n.val) ∧
      OnlyChanges s t [.msix, .out] (A.hstInStat n :: errorRegs 0x311000)) ∧
    exec (.inletEntryFetched n [] false) s = .next s ∧
    ∀ (w : List Nat) (u : State), (w :: entries).length ≤ 64 → exec (.inletEntryFetched n [w] false) s = .next u →
      exec (.inletEntryFetched n (w :: entries) false) s = exec (.inletEntryFetched n entries false) u) ∧
  (∀ (n : Fin 64) (words : List Nat) (s : State),
    let c := Instr.inletEntryFetched n [words] false
    let w := (rangeFrom 0 16).map (fun k => nth 0 words k % 2 ^ 32)
    let ci := s.rd (A.hstInCi n)
    let b := s.bargeOf 0 n w
    let k := if b.basin = s.inBasin n then s.offerCheck 0 b false true else 1
    (s.inletResv n = 0 → exec c s = .next s) ∧
    (s.inletResv n ≠ 0 →
      (k = 0 → ∃ u : State, exec c s = .next ((u.accept b true).quietEdge 0x311000 true) ∧ u.rd (A.hstInCi n) = (ci + 1) % 2 ^ 32 ∧ OnlyChanges s u [] [A.hstInCi n]) ∧
      (k ≠ 0 → ∃ t, exec c s = .next (t.quietEdge 0x311000 true) ∧ t.rd (A.hstInCi n) = (ci + 1) % 2 ^ 32 ∧
        t.rdf (A.hstInRef n) 16 16 = min 0xFFFF (s.rdf (A.hstInRef n) 16 16 + 1) ∧ t.rdf (A.hstInRef n) 0 16 = s.rdf (A.hstInRef n) 0 16 ∧
        tbit (t.rd 0x31101C) 9 = true ∧ t.rdb 0x31100C 9 = true ∧
        (s.rdb 0x31100C 9 = false → t.rd 0x31102C = 0x0101 ∧ t.rd 0x311030 = n + k * 2 ^ 8 + ci % 2 ^ 16 * 2 ^ 16) ∧
        OnlyChanges s t [.msix, .out] ([A.hstInCi n, A.hstInRef n, A.dspRefused, A.dspBRefused b.basin] ++ errorRegs 0x311000 ++ errorRegs 0x200000)))) ∧
  ∀ (src : Source) (n : Fin 64) (v : Nat) (s : State), s.takes src (A.hstInCfg n) →
    let c := Instr.inletEnWrite src n v
    (s.rdb (A.hstInCfg n) 0 = false →
      (tbit v 0 = true → ∃ t, exec c s = .next t ∧ t.rd (A.hstInCfg n) &&& 0x1FF1 = v &&& 0x1FF1 ∧ t.rd (A.hstInPi n) = 0 ∧ t.rd (A.hstInCi n) = 0 ∧
        OnlyChanges s t [] [A.hstInCfg n, A.hstInPi n, A.hstInCi n]) ∧
      (tbit v 0 = false → ∃ t, exec c s = .next t ∧ t.rd (A.hstInCfg n) &&& 0x1FF1 = v &&& 0x1FF1 ∧ t.rdb (A.hstInStat n) 3 = false ∧
        OnlyChanges s t [.pwr] [A.hstInCfg n, A.hstInStat n])) ∧
    (s.rdb (A.hstInCfg n) 0 = true →
      ∃ t, exec c s = .next t ∧ t.rd (A.hstInCfg n) = putBit (s.rd (A.hstInCfg n)) 0 (tbit v 0) ∧
        (tbit v 0 = false → t.rdb (A.hstInStat n) 3 = false) ∧ (tbit v 0 = true → t.rd (A.hstInStat n) = s.rd (A.hstInStat n)) ∧
        ((s.rd (A.hstInCfg n) ^^^ v) &&& 0x1FF0 = 0 → s.quiesced 0x311000 = false → OnlyChanges s t [] [A.hstInCfg n, A.hstInStat n]) ∧
        ((s.rd (A.hstInCfg n) ^^^ v) &&& 0x1FF0 ≠ 0 → t.rdb 0x31100C 8 = true ∧ Counted s t 0x311014 ∧ tbit (t.rd 0x31101C) 0 = true) ∧
        OnlyChanges s t [.pwr, .msix, .out] [A.hstInCfg n, A.hstInStat n, 0x31100C, 0x311014, 0x311018, 0x31101C])

/-- CQ_CI_WRITE, CQ_COALESCE_TIMER, DMA_DOORBELL and DMA_DESCRIPTOR_DONE (R336 to R338, R343, R344, Table HST-6).  A record goes to the ring's
slot, then the shadow index follows.  A written CI frees room, and held records leave for it in order.  The message of a ring is sent when its
time has passed.  A DMA doorbell is taken under the index rules, or has no effect; a channel that was idle reads its next descriptor, and while
the page takes no work a doorbell is held.  A descriptor that is malformed ends with status 9; else its bytes are carried, a part at a time, while the memory is clocked (log entry 260);
the end writes the status back, passes the index, shows it, sends its message and reads the next descriptor.  EN = 0 ends a running transfer with
ABORT_HOST and its message, and what it has moved stays. -/
def Obligations.CompletionRingsAndDmaServeTheHost : Prop :=
  (∀ (src : Source) (n : Fin 64) (v : Nat) (s : State), s.takes src (A.hstCqCi n) → v < 2 ^ 32 →
    ∃ u : State, u.rd (A.hstCqCi n) = v ∧ OnlyChanges s u [] [A.hstCqCi n] ∧
      exec (.cqCiWrite src n v) s = .next ((u.cqDrain n (s.cq n).held).quietEdge 0x312000 (u.busy 0x312000)) ∧
      (s.quiesced 0x312000 = false → ((s.cq n).held = [] ∨ s.rdb (A.hstCqCfg n) 0 = false ∨ s.cqSize n ≤ (s.rd (A.hstCqPi n) + 2 ^ 32 - v) % 2 ^ 32) →
        exec (.cqCiWrite src n v) s = .next u)) ∧
  (∀ (s : State) (n : Nat) (rec_ : List Byte) (rest : List (List Byte)), n < s.hst.cq.length →
    let pi := s.rd (A.hstCqPi n)
    let t := s.cqWrite n rec_
    (t.rd (A.hstCqPi n) = (pi + 1) % 2 ^ 32 ∧ (t.cq n).held = (s.cq n).held ∧
      (∃ tail, t.out = s.out ++ [.hostWrite (s.rd64 (A.hstCqBase n) + 16 * (pi % s.cqSize n)) rec_,
        .hostWrite (s.rd64 (A.hstCqShadow n)) (leBytes 4 ((pi + 1) % 2 ^ 32))] ++ tail ∧
        (tail = [] ∨ tail = [s.msix.msg (s.rdf (A.hstCqCfg n) 8 11)])) ∧
      OnlyChanges s t [.hst, .msix, .out] [A.hstCqPi n, A.hstCqHeld n]) ∧
    (s.rdb (A.hstCqCfg n) 0 = true → s.cqUsed n < s.cqSize n → ∃ u : State, s.cqDrain n (rec_ :: rest) = (u.cqWrite n rec_).cqDrain n rest ∧
      (u.cq n).held = rest ∧ OnlyChanges s u [.hst] [A.hstCqHeld n])) ∧
  (∀ (n : Fin 64) (s : State),
    let due := (s.cq n).unsig ≠ 0 ∧ (s.cq n).firstAt + s.rdf (A.hstCqCoal n) 0 16 * 1000 ≤ s.now ∧ s.rdb (A.hstCqCfg n) 1 = true
    let x := s.rdf (A.hstCqCfg n) 8 11
    (¬due → exec (.cqCoalesceTimer n) s = .next s) ∧
    (due → n.val < s.hst.cq.length → ∃ t, exec (.cqCoalesceTimer n) s = .next t ∧
      t.hst = { s.hst with cq := upd (fun r => { r with unsig := 0 }) s.hst.cq n } ∧
      (s.msix.isOpen x = true → t.out = s.out ++ [s.msix.msg x] ∧ t.msix = s.msix) ∧
      (s.msix.isOpen x = false → x ∈ t.msix.pend ∧ t.out = s.out) ∧
      OnlyChanges s t [.hst, .msix, .out] [A.hstCqHeld n])) ∧
  (∀ (src : Source) (c : Fin 8) (v : Nat) (s : State), s.takes src (A.hstDmaDb c) → v < 2 ^ 32 →
    let count := (v + 2 ^ 32 - nth 0 s.hst.dmaPi c) % 2 ^ 32
    let ok := s.rdb (A.hstDmaCfg c) 0 = true ∧ s.rdb (A.hstDmaStat c) 8 = false ∧ count ≠ 0 ∧ count + s.dmaUsed c ≤ s.dmaSize c
    (s.pageOpen 0x310000 = false → ∃ t, exec (.dmaDoorbell src c v) s = .next t ∧ t.waitIn = s.waitIn ++ [(0x310000, .dma c v)] ∧
      OnlyChanges s t [.waitIn] []) ∧
    (s.pageOpen 0x310000 = true → ¬ok → ∃ t, exec (.dmaDoorbell src c v) s = .next t ∧ OnlyChanges s t [] []) ∧
    (s.pageOpen 0x310000 = true → ok → ∃ t, exec (.dmaDoorbell src c v) s = .next t ∧
      t.hst = { s.hst with dmaPi := upd (fun _ => v) s.hst.dmaPi c } ∧ t.rd (A.hstDmaStat c) = putBit (s.rd (A.hstDmaStat c)) 9 true ∧
      t.out = s.out ++ (if s.dmaUsed c = 0 then [.hostRead (s.rd64 (A.hstDmaBase c) + 32 * (s.rd (A.hstDmaCi c) % s.dmaSize c)) 32] else []) ∧
      OnlyChanges s t [.hst, .pwr, .out] [A.hstDmaStat c])) ∧
  (∀ (c : Fin 8) (words : List Nat) (data : List Byte) (failed part : Bool) (s : State),
    let i := Instr.dmaDescriptorDone c words data failed part
    let w := fun k => nth 0 words k % 2 ^ 32
    let len := w 1
    let host := w 2 + w 3 * 2 ^ 32
    let dev := w 4 + w 5 * 2 ^ 32
    let irq := tbit (w 0) 1
    let k := s.dmaMoved c
    let left := len - k
    let on := s.rdb (A.hstDmaCfg c) 0 = true ∧ s.rdb (A.hstDmaStat c) 8 = false ∧ s.dmaUsed c ≠ 0
    let good := len % 8 = 0 ∧ 8 ≤ len ∧ len ≤ 2 ^ 30 ∧ host % 8 = 0 ∧ dev % 8 = 0 ∧ inLocal dev len = true
    let n := min data.length left
    let runs := s.memRuns dev len = true
    let partUe := partWords s.spd.ue (dev + k) n
    let partCe := partWords s.spd.ce (dev + k) n
    let wrote := fun bs => if tbit s.hst.devCtl 4 then Out.hostRelaxed (host + k) bs else .hostWrite (host + k) bs
    (¬on → exec i s = .next s) ∧
    (good → ¬runs → exec i s = .next s) ∧
    (part = false → on →
      (¬good → exec i s = .next (s.dmaEnd c 9 irq)) ∧
      (good → runs → tbit (w 0) 0 = false → ∃ u : State, MemOnlyIn s u (dev + k) (dev + k + left) ∧
        u.rd A.spdCeCnt = (s.rd A.spdCeCnt + partCe.length) % 2 ^ 32 ∧ OnlyChanges s u [.mem, .spd, .msix, .out] ueRegs ∧
        (partUe = [] → OnlyChanges s u [.mem, .spd] [A.spdCeCnt]) ∧
        (k % 8 = 0 → left ≤ data.length → u.readMem (dev + k) left = data.take left) ∧
        (failed = false → left ≤ data.length → partUe = [] → exec i s = .next (u.dmaEnd c 0 irq)) ∧
        (partUe ≠ [] → exec i s = .next (u.dmaEnd c 9 irq)) ∧
        ((failed = true ∨ data.length < left) → k ≤ len → exec i s = .next (u.dmaEnd c 9 irq))) ∧
      (good → runs → tbit (w 0) 0 = true →
        (failed = true → exec i s = .next (s.dmaEnd c 9 irq)) ∧
        (failed = false → wordsIn s.spd.ue (dev + k) left = [] → ∃ u : State, u.out = s.out ++ [wrote (s.readMem (dev + k) left)] ∧
          OnlyChanges s u [.out, .spd] [A.spdCeCnt] ∧ exec i s = .next (u.dmaEnd c 0 irq)) ∧
        (failed = false → wordsIn s.spd.ue (dev + k) left ≠ [] → ∃ u : State, Counted s u A.spdUeCnt ∧ OnlyChanges s u [.spd, .msix, .out] ueRegs ∧
          exec i s = .next (u.dmaEnd c 9 irq)))) ∧
    (part = true → on →
      let gone := fun (t : State) (m : Nat) => t.hst = { s.hst with dmaCur := upd (fun _ => some (irq, m)) s.hst.dmaCur c }
      (¬good → ∃ t, exec i s = .next t ∧ gone t 0 ∧ OnlyChanges s t [.hst] []) ∧
      (good → runs → tbit (w 0) 0 = false → partUe = [] → ∃ t, exec i s = .next t ∧ gone t (k + n) ∧ MemOnlyIn s t (dev + k) (dev + k + n) ∧
        (k % 8 = 0 → n % 8 = 0 → t.readMem (dev + k) n = data.take n) ∧ OnlyChanges s t [.hst, .mem, .spd] [A.spdCeCnt]) ∧
      (good → runs → tbit (w 0) 0 = false → partUe ≠ [] → ∃ u : State, MemOnlyIn s u (dev + k) (dev + k + n) ∧
        OnlyChanges s u [.mem, .spd, .msix, .out] ueRegs ∧ exec i s = .next (u.dmaEnd c 9 irq)) ∧
      (good → runs → tbit (w 0) 0 = true → wordsIn s.spd.ue (dev + k) n = [] → ∃ t, exec i s = .next t ∧ gone t (k + n) ∧
        t.out = s.out ++ [wrote (s.readMem (dev + k) n)] ∧ OnlyChanges s t [.hst, .spd, .out] [A.spdCeCnt]) ∧
      (good → runs → tbit (w 0) 0 = true → wordsIn s.spd.ue (dev + k) n ≠ [] → ∃ u : State, Counted s u A.spdUeCnt ∧
        OnlyChanges s u [.spd, .msix, .out] ueRegs ∧ exec i s = .next (u.dmaEnd c 9 irq)))) ∧
  (∀ (s : State) (c status : Nat) (irq : Bool), c < 8 → status < 256 →
    let t := s.dmaEnd c status irq
    let ci := s.rd (A.hstDmaCi c)
    let entry := fun i => s.rd64 (A.hstDmaBase c) + 32 * (i % s.dmaSize c)
    let v := s.rdf (A.hstDmaCfg c) 8 11
    let tells := irq = true ∧ s.rdb (A.hstDmaCfg c) 1 = true
    t.rd (A.hstDmaCi c) = (ci + 1) % 2 ^ 32 ∧ t.rdf (A.hstDmaStat c) 0 8 = status ∧ t.rdb (A.hstDmaStat c) 8 = decide (status = 9) ∧
      t.rdb (A.hstDmaStat c) 9 = decide (status ≠ 9 ∧ t.dmaUsed c ≠ 0) ∧
      t.hst = { s.hst with dmaCur := upd (fun _ => none) s.hst.dmaCur c } ∧
      (tells → s.msix.isOpen v = false → v ∈ t.msix.pend) ∧
      (s.quiesced 0x310000 = false → t.out = s.out ++ .hostWrite (entry ci + 0x1C) (leBytes 4 (status + 2 ^ 8)) ::
        ((if tells ∧ s.msix.isOpen v = true then [s.msix.msg v] else []) ++
          (if status ≠ 9 ∧ status ≠ 8 ∧ t.dmaUsed c ≠ 0 then [.hostRead (entry ((ci + 1) % 2 ^ 32)) 32] else []))) ∧
      OnlyChanges s t [.hst, .pwr, .msix, .out] [A.hstDmaCi c, A.hstDmaStat c, 0x31001C]) ∧
  ∀ (s : State) (c old v : Nat) (irq : Bool) (k : Nat), c < 8 → tbit v 0 = false → tbit old 0 = true → s.rdb (A.hstDmaStat c) 8 = false →
    s.dmaUsed c ≠ 0 → nth none s.hst.dmaCur c = some (irq, k) →
    let t := s.dmaCfg c old v
    t.rdf (A.hstDmaStat c) 0 8 = 8 ∧ t.rdf (A.hstDmaStat c) 8 2 = 0 ∧ t.rd (A.hstDmaCi c) = (s.rd (A.hstDmaCi c) + 1) % 2 ^ 32 ∧
      (irq = true → s.rdb (A.hstDmaCfg c) 1 = true → s.msix.isOpen (s.rdf (A.hstDmaCfg c) 8 11) = true →
        s.msix.msg (s.rdf (A.hstDmaCfg c) 8 11) ∈ t.out) ∧
      OnlyChanges s t [.hst, .pwr, .msix, .out] [A.hstDmaCi c, A.hstDmaStat c, 0x31001C]

/-- POISONED_TLP, HOT_RESET, PCIE_LINK_UP, BAR4_ACCESS and BAR2_UNMAPPED (R57, R305, R326 to R331, R346 to R348, R478, R525, Table SPD-2).  A
poisoned write, and a host read that fails, are counted, raised and shown in AER, which sends the message of their severity where it is enabled.  A hot reset is counted, returns the host pages to their reset values but for the locks and
a locked window, and leaves the rest of the device alone; a link-down also raises LINK.  A link that reaches L0 at a speed and width that are
supported is shown and trained from the SERDES record, and once the calibration block is ready the three pages report READY.  BAR4 reaches the
HBM below its window, while their clocks run (log entry 260), BAR2 the scratchpad through port B of its
banks (log entry 64), the MSI-X table and its pending bits; an access that HBM does not hold, and one beyond what BAR2 maps,
is counted and recorded, and its read returns zeros; an uncorrectable word reads as ones.  The host reads its device in configuration space, whose
layout is the model's (log entry 205), places the BARs and sets the size of BAR4 there, sets device control, resets and masks the function. -/
def Obligations.TheLinkResetsAndItsWindows : Prop :=
  (∀ (failed : Bool) (s : State),
    let counter := if failed then A.hstCplErr else A.hstPoison
    let bit := if failed then 14 else 12
    let level := if tbit s.hst.aerSev bit then 2 else 1
    let told := tbit s.hst.aerMask bit = false ∧ tbit s.hst.devCtl level = true
    ∃ t, exec (.poisonedTlp failed) s = .next t ∧ Counted s t counter ∧ Raised s t 0x310000 9 ∧
      t.hst = { s.hst with aer := putBit s.hst.aer bit true, devSta := putBit s.hst.devSta level true } ∧
      (∃ tail, t.out = s.out ++ (if told then [.errMsg level] else []) ++ tail ∧ (tail = [] ∨ tail = [s.msix.msg (s.rdf 0x310028 0 11)])) ∧
      OnlyChanges s t [.hst, .msix, .out] [counter, 0x31001C]) ∧
  (∀ (down : Bool) (s : State),
    (s.pwr.held ≠ none → exec (.hotReset down) s = .next s) ∧
    (s.pwr.held = none → ∃ t, exec (.hotReset down) s = .next t ∧
      let kept := fun a => a % 0x1000 = 0x010 ∨ (a = A.hstBar4Win ∨ a = A.hstBar4Win + 4) ∧ s.rdb 0x310010 0 = true
      Counted s t A.rstHotCnt ∧ t.hst = {} ∧ t.msix = {} ∧
      (∀ x ∈ t.latches, x ∈ s.latches) ∧ (∀ x ∈ t.staged, x ∈ s.staged) ∧
      (∀ x, x ∈ t.waitIn ↔ x ∈ s.waitIn ∧ ¬(0x310000 ≤ x.1 ∧ x.1 < 0x313000)) ∧
      (∀ p, p ∉ [Part.hst, .msix, .latches, .staged, .waitIn] → s.samePart t p) ∧
      (∀ a, (a < 0x310000 ∨ 0x313000 ≤ a) → a ≠ A.rstHotCnt → t.rd a = s.rd a) ∧
      (∀ a, 0x310000 ≤ a → a < 0x313000 → kept a → t.rd a = s.rd a) ∧
      (∀ a, 0x310000 ≤ a → a < 0x313000 → ¬kept a → a ≠ 0x31001C → a ≠ A.hstLink → t.rd a = (resetWord a).toNat) ∧
      (down = true → t.rd 0x31001C = 2 ^ 8 ∧ t.rd A.hstLink = 0) ∧ (down = false → t.rd 0x31001C = 0 ∧ t.rd A.hstLink = s.rd A.hstLink))) ∧
  (∀ (speed width : Nat) (s : State),
    let supported := 1 ≤ speed ∧ speed ≤ 5 ∧ width ∈ [1, 2, 4, 8, 16]
    (¬supported → exec (.pcieLinkUp speed width) s = .next s) ∧
    (supported → ∃ t, exec (.pcieLinkUp speed width) s = .next t ∧
      t.rd A.hstLink = speed + width * 2 ^ 4 + 2 ^ 16 ∧ (t.rd A.hstLink ≠ s.rd A.hstLink → tbit (t.rd 0x31001C) 8 = true) ∧
      (∃ (l : List Nat) (rest : List (Nat × List Nat)), t.cal.presets = (8, l) :: rest ∧
        (s.calGood 2 = false → l = (rangeFrom 64 16).map (fun i => (Config.builtInPreset i).toNat)) ∧
        (s.calGood 2 = true → l = (rangeFrom 64 16).map (fun i => (Memory.get s.cal.store (calOffset 2 + 16 + 256 + (i - 64))).toNat % 16))) ∧
      t.cal.serWait = s.cal.serWait.filter (fun k => k ≠ 8) ∧ t.rdb A.clkPllLock 4 = true ∧
      (s.ready 0x370000 = true → ∀ p ∈ [0x310000, 0x311000, 0x312000], t.ready p = true ∧ (s.ready p = false → tbit (t.rd (p + 0x01C)) 2 = true)) ∧
      (s.ready 0x370000 = false → OnlyChanges s t [.cal, .msix, .out] [A.hstLink, A.clkPllLock, 0x31001C, A.calPend, A.calPend + 4, 0x37001C]) ∧
      OnlyChanges s t [.cal, .msix, .out] [A.hstLink, A.clkPllLock, A.rstReadyUs, 0x31000C, 0x31001C, 0x31100C, 0x31101C, 0x31200C, 0x31201C, A.calPend,
        A.calPend + 4, 0x37001C])) ∧
  (∀ (off n : Nat) (wr : Option (List Byte)) (s : State),
    let c := Instr.bar4Access off wr n []
    let len := match wr with | some bs => bs.length | none => n
    let a := 0x1000000000 + s.rd64 A.hstBar4Win / 2 ^ s.hst.bar4Log * 2 ^ s.hst.bar4Log + off
    (s.memRuns a len = false → ∀ errs, exec (.bar4Access off wr n errs) s = .next s) ∧
    (s.memRuns a len = true →
    (∀ errs, inHbm a 1 = true → exec (.bar4Access off wr n errs) s = exec c (s.hbmErrs a len errs)) ∧
    (2 ^ s.hst.bar4Log < off + len → exec c s = .next s) ∧
    (off + len ≤ 2 ^ s.hst.bar4Log → inHbm a len = false → ∃ t, exec c s = .next t ∧ Counted s t A.hstBar2Unmap ∧
      ErrorNoted s t 0x310000 0x0100 (off % 2 ^ 27) ∧ (wr = none → t.out.getLast? = some (.barData 4 off (List.replicate n 0))) ∧
      OnlyChanges s t [.msix, .out] (A.hstBar2Unmap :: errorRegs 0x310000)) ∧
    (off + len ≤ 2 ^ s.hst.bar4Log → inHbm a len = true →
      (∀ bs, wr = some bs → ∃ t, exec c s = .next t ∧ (s.spd.ue = [] → t.readMem a bs.length = bs) ∧ MemOnlyIn s t a (a + bs.length) ∧
        t.rd A.spdCeCnt = (s.rd A.spdCeCnt + (partWords s.spd.ce a bs.length).length) % 2 ^ 32 ∧
        (partWords s.spd.ue a bs.length = [] → OnlyChanges s t [.mem, .spd] [A.spdCeCnt]) ∧
        (partWords s.spd.ue a bs.length ≠ [] →
          t.rd A.spdUeCnt = min 0xFFFF (s.rd A.spdUeCnt + (partWords s.spd.ue a bs.length).length) ∧ OnlyChanges s t [.mem, .spd, .msix, .out] ueRegs)) ∧
      (wr = none → wordsIn s.spd.ue a n = [] → ∃ t, exec c s = .next t ∧ t.out = s.out ++ [.barData 4 off (s.readMem a n)] ∧
        t.rd A.spdCeCnt = (s.rd A.spdCeCnt + (wordsIn s.spd.ce a n).length) % 2 ^ 32 ∧ OnlyChanges s t [.spd, .out] [A.spdCeCnt]) ∧
      (wr = none → wordsIn s.spd.ue a n ≠ [] → ∃ t, exec c s = .next t ∧
        t.out.getLast? = some (.barData 4 off (maskUe s.spd.ue a (s.readMem a n))) ∧
        t.rd A.spdUeCnt = min 0xFFFF (s.rd A.spdUeCnt + (wordsIn s.spd.ue a n).length) ∧
        OnlyChanges s t [.spd, .msix, .out] ueRegs)))) ∧
  (∀ (a n : Nat) (errs : List (Nat × Bool)) (s : State), OnlyChanges s (s.hbmErrs a n errs) [.spd, .pwr] [] ∧
    ∀ w, w ∈ (s.hbmErrs a n errs).spd.ue ↔ w ∈ s.spd.ue ∨ ∃ k, (k, true) ∈ errs ∧ 8 * k < n ∧ w = wordAddr a + 8 * k) ∧
  (∀ (ue : List Nat) (a : Nat) (bs : List Byte) (i : Nat), (maskUe ue a bs).length = bs.length ∧
    (i < bs.length → nth 0 (maskUe ue a bs) i = if wordAddr (a + i) ∈ ue then 0xFF else nth 0 bs i)) ∧
  (∀ (off n : Nat) (wr : Option (List Byte)) (qs : List BankAt) (s : State),
    let c := Instr.bar2Unmapped off wr n qs
    let len := match wr with | some bs => bs.length | none => n
    ((0x08000000 < off + len ∨ off < 0x06000000 ∧ 0x06000000 < off + len ∧ off + len ≤ 0x06008100) → exec c s = .next s) ∧
    (0x06008100 < off + len → off + len ≤ 0x08000000 → ∃ t, exec c s = .next t ∧ Counted s t A.hstBar2Unmap ∧
      ErrorNoted s t 0x310000 0x0100 (off % 2 ^ 27) ∧ (wr = none → t.out.getLast? = some (.barData 2 off (List.replicate n 0))) ∧
      OnlyChanges s t [.msix, .out] (A.hstBar2Unmap :: errorRegs 0x310000)) ∧
    (0 < len → off + len ≤ 0x06000000 → (s.runs 2 = false ∨ s.ready 0x300000 = false) →
      (wr ≠ none → exec c s = .next s) ∧
      (wr = none → ∃ t bs, exec c s = .next t ∧ bs.length = n ∧ t.out = s.out ++ [.barData 2 off bs] ∧ OnlyChanges s t [.out, .freeCnt] []))) ∧
  (∀ (off n : Nat) (wr : Option (List Byte)) (s : State),
    let c := Instr.bar2Unmapped off wr n []
    let len := match wr with | some bs => bs.length | none => n
    let a := 0x0100000000 + off
    let words := (rangeFrom 0 ((a % 8 + len + 7) / 8)).map (fun i => wordAddr a + 8 * i)
    let bad := words.filter (fun w => s.spd.ue.contains w)
    let part := words.filter (fun w => s.spd.ue.contains w && !(a ≤ w && w + 8 ≤ a + len))
    0 < len → off + len ≤ 0x06000000 → s.runs 2 = true → s.ready 0x300000 = true →
      (∀ bs, wr = some bs → ∃ t, exec c s = .next t ∧ (s.spd.ue = [] → t.readMem a bs.length = bs) ∧ MemOnlyIn s t a (a + bs.length) ∧
        (part = [] → OnlyChanges s t [.mem, .spd, .out] [A.spdCeCnt]) ∧
        (part ≠ [] → t.rd A.spdUeCnt = min 0xFFFF (s.rd A.spdUeCnt + part.length) ∧ OnlyChanges s t [.mem, .spd, .msix, .out] ueRegs)) ∧
      (wr = none → ∃ t, exec c s = .next t ∧ t.out.getLast? = some (.barData 2 off (maskUe s.spd.ue a (s.readMem a n))) ∧
        t.rd A.spdCeCnt = (s.rd A.spdCeCnt + (words.filter (fun w => s.spd.ce.contains w && !s.spd.ue.contains w)).length) % 2 ^ 32 ∧
        (bad = [] → OnlyChanges s t [.spd, .out] [A.spdCeCnt]) ∧
        (bad ≠ [] → t.rd A.spdUeCnt = min 0xFFFF (s.rd A.spdUeCnt + bad.length) ∧ OnlyChanges s t [.spd, .msix, .out] ueRegs))) ∧
  (∀ (off : Nat) (b : BankAt) (bs : List Byte) (s : State), off % 8 = 0 → off + 8 ≤ 0x06000000 →
    let q : BankReq := ⟨0x0100000000 + off, 0, 0, b.tag, b.cyc, b.age, false, b.found, b.met, b.again⟩
    (s.bankTakes q 0 → exec (.bar2Unmapped off none 8 [b]) s = exec (.bankRead q) s) ∧
    (bs.length = 8 → s.bankTakes q 1 → exec (.bar2Unmapped off (some bs) 0 [b]) s = exec (.bankWrite q 255 (leNat bs)) s)) ∧
  (∀ (v : Fin 2048) (k x n : Nat) (qs : List BankAt) (s : State), k < 4 → x < 2 ^ 32 →
    let off := 0x06000000 + 16 * v.val + 4 * k
    let c := Instr.bar2Unmapped off (some (leBytes 4 x)) n qs
    (k < 3 → ∃ t, exec c s = .next t ∧ t.msix.word v k = (if k = 0 then x / 4 * 4 else x) ∧
      (∀ u j, j < 4 → (u ≠ v.val ∨ j ≠ k) → t.msix.word u j = s.msix.word u j) ∧ t.msix.unmasked = s.msix.unmasked ∧ t.msix.pend = s.msix.pend ∧
      t.msix.funcMask = s.msix.funcMask ∧ OnlyChanges s t [.msix] []) ∧
    (k = 3 → tbit x 0 = true → ∃ t, exec c s = .next t ∧
      t.msix = { s.msix with unmasked := s.msix.unmasked.filter (fun u => u ≠ v.val) } ∧ OnlyChanges s t [.msix] []) ∧
    (k = 3 → tbit x 0 = false → exec c s = exec (.vectorUnmask v) s) ∧
    (∃ t, exec (.bar2Unmapped off none 4 qs) s = .next t ∧ t.out = s.out ++ [.barData 2 off (leBytes 4
      (if k = 3 then (if v.val ∈ s.msix.unmasked then 0 else 1) else s.msix.word v k))] ∧ OnlyChanges s t [.out] []) ∧
    ∃ t bs, exec (.bar2Unmapped (0x06008000 + 4 * (v.val / 32)) none 4 qs) s = .next t ∧
      t.out = s.out ++ [.barData 2 (0x06008000 + 4 * (v.val / 32)) bs] ∧ tbit (leNat bs) (v.val % 32) = decide (v.val ∈ s.msix.pend) ∧
      OnlyChanges s t [.out] []) ∧
  ∀ (o v : Nat) (s : State), o % 4 = 0 → o < 2 ^ 12 → v < 2 ^ 32 →
    let r := Instr.rcRead .host (2 ^ 26 + o) 4 false
    let w := Instr.registerWrite .host (2 ^ 26 + o) 15 v false
    (s.ready 0x310000 = false → ∀ c ∈ [r, w], ∃ t, exec c s = .next t ∧ t.out = s.out ++ [.cfgRetry o] ∧ OnlyChanges s t [.out] []) ∧
    (s.ready 0x310000 = true →
      (∃ t, exec r s = .next t ∧ t.out = s.out ++ [.readData .host (2 ^ 26 + o) (BitVec.ofNat 32 (s.cfgRead o))] ∧ OnlyChanges s t [.out] []) ∧
      s.cfgRead 0 / 2 ^ 16 = 0x0C20 ∧ s.cfgRead 8 = 0x120000A1 ∧
      (o = 0x208 → 8 ≤ fld v 8 6 → fld v 8 6 ≤ 15 → ∃ t, exec w s = .next t ∧ t.hst = { s.hst with bar4Log := 20 + fld v 8 6 } ∧
        OnlyChanges s t [.hst] []) ∧
      (s.hst.bars.length = 3 → 28 ≤ s.hst.bar4Log → s.hst.bar4Log ≤ 35 → ∀ x ∈ [(0x010, 26, 4), (0x018, 27, 4), (0x020, s.hst.bar4Log, 0xC)], o = x.1 →
        ∃ t, exec w s = .next t ∧ t.cfgRead o = (if 32 ≤ x.2.1 then 0 else v / 2 ^ x.2.1 * 2 ^ x.2.1) + x.2.2 ∧ OnlyChanges s t [.hst] []) ∧
      (o = 0x078 → tbit v 15 = true → exec w s = .next (s.hotReset false)) ∧
      (o = 0x078 → tbit v 15 = false → ∃ t, exec w s = .next t ∧ t.hst.devCtl = v % 2 ^ 5 +
        (if fld v 5 3 ≤ 2 then fld v 5 3 else fld s.hst.devCtl 5 3) * 2 ^ 5 +
        (if fld v 12 3 ≤ 5 then fld v 12 3 else fld s.hst.devCtl 12 3) * 2 ^ 12 ∧ OnlyChanges s t [.hst] []) ∧
      (o = 0x0B0 → tbit v 30 = true → ∃ t, exec w s = .next t ∧ t.msix = { s.msix with funcMask := true } ∧ OnlyChanges s t [.msix] []) ∧
      (o = 0x0B0 → tbit v 30 = false → ∃ t, exec w s = .next t ∧ t.msix.funcMask = false ∧
        (∀ x, x ∈ t.msix.pend ↔ x ∈ s.msix.pend ∧ x ∉ s.msix.unmasked) ∧
        (∀ x ∈ s.msix.pend, x ∈ s.msix.unmasked → s.msix.msg x ∈ t.out) ∧ OnlyChanges s t [.msix, .out] []))

/-! ## The aqueduct fabric (chapter 15) -/

/-- LINK_ENABLE, LINK_TRAINING_DONE, HELLO, LINK_TEST_DONE, LINK_DOWN, PACKET_RESEND and HELLO_TIMER (R353 to R357, R371, R372, R376 to R378).
A link out of service that is enabled, or one that waits in TESTING, begins to train while EN and FABRIC_EN are 1, unless its page takes no work
or the topology cannot form; with either of the two at 0 it trains no more.  Trained lanes give full width, or half width where that is allowed,
with the presets of the SERDES record, and the HELLO goes out; too few stop the link.  The peer's HELLO must name the node and link expected and
agree on the origin, else the link stops and the error is recorded.  A test that passes enters SHADOW, one that fails stops the link.  A link
that goes down is counted, raised and stops.  A packet sent stays in the link's retry buffer until it is acknowledged, and the oldest is sent
again; after 8 failed resends of one packet the link goes down (R354). -/
def Obligations.LinksTrainTestAndFall : Prop :=
  (∀ (src : Source) (n : Fin 8) (v : Nat) (s : State), s.takes src (A.aqdLCfg n) →
    let c := Instr.linkEnable src n v
    let p := linkPage n
    let rising := tbit v 0 = true ∧ s.rdb (A.aqdLCfg n) 0 = false ∧ s.rdb A.aqdNode 8 = true
    let starts := rising ∧ (s.svc p = 2 ∧ n.val ∉ s.aqd.fallen ∨ s.svc p = 3 ∧ s.train n = 0) ∧ s.pageOpen p = true
    let stops := s.svc p = 3 ∧ s.train n ≠ 0
    (s.rdb (p + 0x010) 0 = true → exec c s = .next (s.reject src (A.aqdLCfg n))) ∧
    (s.rdb (p + 0x010) 0 = false →
      (tbit v 0 = false → ∃ t, exec c s = .next t ∧ t.rd (A.aqdLCfg n) % 4 = v % 4 ∧
        t.aqd = { s.aqd with fallen := s.aqd.fallen.filter (fun k => k ≠ n.val) } ∧
        (¬stops → OnlyChanges s t [.aqd] [A.aqdLCfg n]) ∧
        (stops → t.rd (A.aqdLStat n) = 0 ∧ OnlyChanges s t [.aqd, .pwr, .msix, .out] [A.aqdLCfg n, A.aqdLStat n, p + 0x01C])) ∧
      (tbit v 0 = true → ¬starts → ∃ t, exec c s = .next t ∧ t.rd (A.aqdLCfg n) % 4 = v % 4 ∧ OnlyChanges s t [] [A.aqdLCfg n]) ∧
      (starts → s.badTopo = true → ∃ t, exec c s = .next t ∧ t.rd (A.aqdLCfg n) % 4 = v % 4 ∧ ErrorNoted s t 0x320000 0x0110 0 ∧
        OnlyChanges s t [.msix, .out] (A.aqdLCfg n :: errorRegs 0x320000)) ∧
      (starts → s.badTopo = false → ∃ t, exec c s = .next t ∧ t.rd (A.aqdLCfg n) % 4 = v % 4 ∧
        t.rd (A.aqdLStat n) = 1 ∧ t.svc p = 3 ∧ (s.svc p = 2 → Raised s t p 4) ∧
        OnlyChanges s t [.fio, .pwr, .msix, .out] ([A.aqdLCfg n, A.aqdLStat n] ++ svcRegs p)))) ∧
  (∀ (n : Fin 8) (s : State), s.rdb (A.aqdLCfg n) 0 = true → s.rdb A.aqdNode 8 = true →
    (s.svc (linkPage n) = 2 ∧ n.val ∉ s.aqd.fallen ∨ s.svc (linkPage n) = 3 ∧ s.train n = 0) → s.pageOpen (linkPage n) = true → s.badTopo = false →
    (s.linkSelf n).svc (linkPage n) = 3 ∧ (s.linkSelf n).rd (A.aqdLStat n) = 1) ∧
  (∀ (n : Fin 8) (old v : Nat) (s : State),
    (old % 4 ≠ 1 → State.ctrlHook (linkPage n) old s = ((s.stuckUpd (linkPage n)).releaseWork (linkPage n)).linkSelf n) ∧
    (tbit v 8 = false → s.svc (linkPage n) = 3 → (s.nodeWrite old v).train n = 0 ∧ (s.nodeWrite old v).svc (linkPage n) = 3)) ∧
  (∀ (n : Fin 8) (lanes : Nat) (s : State),
    let c := Instr.linkTrainingDone n lanes
    let p := linkPage n
    let on := s.svc p = 3 ∧ s.train n = 1 ∧ s.rdf (A.aqdLStat n) 24 8 = 0
    let half := s.rdb (A.aqdLCfg n) 1 = true
    let use := if lanes % 256 = 255 then 255 else if half ∧ lanes % 16 = 15 then 15 else if half ∧ fld lanes 4 4 = 15 then 240 else 0
    let calRegs := [A.calPend, A.calPend + 4, 0x37001C]
    let preset := fun t : State => t.cal.serWait = s.cal.serWait.filter (fun k => k ≠ n.val) ∧ t.rd A.clkPllLock = putBit (s.rd A.clkPllLock) (11 + n) true ∧
      ∃ (l : List Nat) (rest : List (Nat × List Nat)),
        t.cal.presets = (n.val, l) :: rest ∧ (s.calGood 2 = false → l = (rangeFrom (n.val * 8) 8).map (fun i => (Config.builtInPreset i).toNat)) ∧
        (s.calGood 2 = true → l = (rangeFrom (n.val * 8) 8).map (fun i => leNat (Memory.read s.cal.store (calOffset 2 + 16 + 4 * i) 4)))
    let header := [s.rdf (A.aqdLStat n) 8 7 + s.ownNode * 2 ^ 8 + 5 * 2 ^ 16 + 3 * 2 ^ 24, 2 ^ 24, 0, 0]
    let hello := [s.ownNode, n.val, s.rd A.aqdTopo, s.rd (A.wldOrigin 0), s.rd (A.wldOrigin 1), s.rd (A.wldOrigin 2)]
    (¬on → exec c s = .next s) ∧
    (on → use = 0 → ∃ t, exec c s = .next t ∧ t.rd (A.aqdLStat n) = 0 ∧ t.svc p = 2 ∧ t.rdb (p + 0x00C) 9 = true ∧
      (s.rdb (p + 0x00C) 9 = false → t.rd (p + 0x02C) = 0x0101) ∧ preset t ∧
      OnlyChanges s t [.aqd, .cal, .fio, .pwr, .msix, .out] ([A.aqdLStat n, A.clkPllLock] ++ errorRegs p ++ fleetRegs ++ calRegs)) ∧
    (on → use ≠ 0 → ∃ t, exec c s = .next t ∧ t.rdf (A.aqdLStat n) 24 8 = use ∧ t.rdb (A.aqdLStat n) 2 = decide (use ≠ 255) ∧ t.train n = 1 ∧ preset t ∧
      t.out.getLast? = some (.packet n header hello) ∧ t.aqd = { s.aqd with retry := s.aqd.retry ++ [(n.val, header, hello)] } ∧
      t.rd (A.aqdLTx n) = (s.rd (A.aqdLTx n) + 1) % 2 ^ 32 ∧
      OnlyChanges s t [.aqd, .cal, .msix, .out] ([A.aqdLStat n, A.aqdLTx n, A.clkPllLock] ++ calRegs))) ∧
  (∀ (l : Fin 8) (node : Fin 128) (plink : Fin 8) (ox oy oz corr : Nat) (s : State),
    let c := Instr.helloMsg l node plink ox oy oz corr
    let p := linkPage l
    let on := s.svc p = 3 ∧ s.train l = 1 ∧ s.rdf (A.aqdLStat l) 24 8 ≠ 0
    let heard := (node.val, s.now) :: s.aqd.heard.filter (fun x => x.1 ≠ node.val)
    let views := (node.val, sgn 32 ox, sgn 32 oy, sgn 32 oz) :: s.aqd.views.filter (fun x => x.1 ≠ node.val)
    let counts := fun t : State => t.rd (A.aqdLRx l) = (s.rd (A.aqdLRx l) + 1) % 2 ^ 32 ∧ t.rd (A.aqdLFecCorr l) = (s.rd (A.aqdLFecCorr l) + corr) % 2 ^ 32
    let stops := fun (page code : Nat) => ∃ t, exec c s = .next t ∧ t.rd (A.aqdLStat l) = 0 ∧ t.svc p = 2 ∧ t.rdb (page + 0x00C) 9 = true ∧
      (s.rdb (page + 0x00C) 9 = false → t.rd (page + 0x02C) = code) ∧ counts t ∧ t.aqd.views = views ∧ t.aqd.heard = heard ∧
      OnlyChanges s t [.aqd, .fio, .pwr, .msix, .out] ([A.aqdLRx l, A.aqdLFecCorr l, A.aqdLStat l] ++ errorRegs page ++ svcRegs p)
    (¬on → ∃ t, exec c s = .next t ∧ counts t ∧ t.aqd = { s.aqd with heard := heard, views := views } ∧
      OnlyChanges s t [.aqd] [A.aqdLRx l, A.aqdLFecCorr l]) ∧
    (on → node.val = s.ownNode → stops 0x320000 0x0112) ∧
    (on → node.val ≠ s.ownNode → s.linkPeer s.ownNode l ≠ some (node.val, plink.val) → stops p 0x0100) ∧
    (on → node.val ≠ s.ownNode → s.linkPeer s.ownNode l = some (node.val, plink.val) → s.viewFits (ox, oy, oz) = false → stops 0x320000 0x0111) ∧
    (on → node.val ≠ s.ownNode → s.linkPeer s.ownNode l = some (node.val, plink.val) → s.viewFits (ox, oy, oz) = true → ∃ t, exec c s = .next t ∧
      counts t ∧ t.train l = 2 ∧ t.rdf (A.aqdLStat l) 8 7 = node ∧ t.rdf (A.aqdLStat l) 16 3 = plink ∧
      t.aqd = { s.aqd with
        heard := heard
        views := views
        testFrom := (l.val, s.now) :: s.aqd.testFrom.filter (fun x => x.1 ≠ l.val) } ∧
      OnlyChanges s t [.aqd] [A.aqdLRx l, A.aqdLFecCorr l, A.aqdLStat l]) ∧
    (s.nodeCount ≤ s.ownNode → s.linkPeer s.ownNode l = none)) ∧
  (∀ (n : Fin 8) (ok : Bool) (s : State),
    let c := Instr.linkTestDone n ok
    let p := linkPage n
    let from_ := match s.aqd.testFrom.find? (fun x => x.1 = n.val) with | some x => x.2 | none => 0
    let on := s.svc p = 3 ∧ s.train n = 2 ∧ from_ + max 1 (s.rdf (A.aqdLTestUs n) 0 24) * 1000 ≤ s.now
    (¬on → exec c s = .next s) ∧
    (on → ok = true → ∃ t, exec c s = .next t ∧ t.svc p = 4 ∧ Raised s t p 4 ∧ t.rd (A.aqdLShadowMm n) = 0 ∧ t.rd (A.aqdLShadowCnt n) = 0 ∧
      t.shadowOf (.link n) = max 1 (s.rdf A.aqdSvcCfg 0 16) ∧
      OnlyChanges s t [.aqd, .fio, .msix, .out] ([A.aqdLShadowMm n, A.aqdLShadowCnt n] ++ svcRegs p)) ∧
    (on → ok = false → ∃ t, exec c s = .next t ∧ t.svc p = 2 ∧ t.rd (A.aqdLStat n) = 0 ∧ t.rdb (p + 0x00C) 9 = true ∧
      (s.rdb (p + 0x00C) 9 = false → t.rd (p + 0x02C) = 0x0102) ∧
      OnlyChanges s t [.aqd, .fio, .pwr, .msix, .out] (A.aqdLStat n :: (errorRegs p ++ fleetRegs)))) ∧
  (∀ (n : Fin 8) (s : State),
    let p := linkPage n
    (s.train n = 0 → exec (.linkDown n) s = .next s) ∧
    (s.train n ≠ 0 → ∃ (u : State) (b : Bool), u.aqd = { s.aqd with
        fallen := if s.rdb (A.aqdLCfg n) 0 then setIns n.val s.aqd.fallen else s.aqd.fallen
        resent := s.aqd.resent.filter (fun x => x.1 ≠ n.val)
        retry := s.aqd.retry.filter (fun x => x.1 ≠ n.val) } ∧
      Counted s u (A.aqdLDownCnt n) ∧ u.rd (A.aqdLStat n) = 0 ∧ u.svc p = 2 ∧ tbit (u.rd (p + 0x01C)) 9 = true ∧
      OnlyChanges s u [.aqd, .fio, .msix, .out] ([A.aqdLDownCnt n, A.aqdLStat n] ++ svcRegs p) ∧
      exec (.linkDown n) s = .next ((if s.linkUp n then u.linksChanged else u).quietEdge p b))) ∧
  (∀ (n : Fin 8) (uncorr : Bool) (acks corr : Nat) (s : State),
    let c := Instr.packetResend n uncorr acks corr
    let k := if acks = 0 then s.resends n else 0
    let left := acked n acks s.aqd.retry
    ∃ u : State, u.rd (A.aqdLFecCorr n) = (s.rd (A.aqdLFecCorr n) + corr) % 2 ^ 32 ∧ (uncorr = true → Counted s u (A.aqdLFecUncorr n)) ∧
      (uncorr = false → u.rd (A.aqdLFecUncorr n) = s.rd (A.aqdLFecUncorr n)) ∧ OnlyChanges s u [] [A.aqdLFecCorr n, A.aqdLFecUncorr n] ∧
      (8 ≤ k → exec c s = .next (u.linkDown n)) ∧
      (k < 8 → ∃ t, exec c s = .next t ∧ Counted u t (A.aqdLRetry n) ∧
        t.aqd = { s.aqd with
          resent := (n.val, k + 1) :: s.aqd.resent.filter (fun x => x.1 ≠ n.val)
          retry := left } ∧
        t.out = s.out ++ ((left.find? (fun x => x.1 = n.val)).map (fun x => Out.packet n x.2.1 x.2.2)).toList ∧
        OnlyChanges u t [.aqd, .out] [A.aqdLRetry n])) ∧
  (∀ (n k : Nat) (l : List (Nat × List Nat × List Nat)),
    (acked n k l).filter (fun x => x.1 ≠ n) = l.filter (fun x => x.1 ≠ n) ∧
      (acked n k l).filter (fun x => x.1 = n) = (l.filter (fun x => x.1 = n)).drop k) ∧
  ∀ s : State,
    let up := (rangeFrom 0 8).filter (fun n => s.linkUp n)
    let header := fun n => [s.rdf (A.aqdLStat n) 8 7 + s.ownNode * 2 ^ 8 + 5 * 2 ^ 16 + 3 * 2 ^ 24, 2 ^ 24, 0, 0]
    let hello := fun n => [s.ownNode, n, s.rd A.aqdTopo, s.rd (A.wldOrigin 0), s.rd (A.wldOrigin 1), s.rd (A.wldOrigin 2)]
    ∃ t, exec .helloTimer s = .next t ∧ t.out = s.out ++ up.map (fun n => .packet n (header n) (hello n)) ∧
      t.aqd = { s.aqd with retry := s.aqd.retry ++ up.map (fun n => (n, header n, hello n)) } ∧
      (∀ n, n < 8 → t.rd (A.aqdLTx n) = if s.linkUp n then (s.rd (A.aqdLTx n) + 1) % 2 ^ 32 else s.rd (A.aqdLTx n)) ∧
      OnlyChanges s t [.aqd, .out] ((rangeFrom 0 8).map A.aqdLTx)

/-- SVC_REQUEST, UNIT_TEST_DONE, SHADOW_ITEM and NODE_TEST_TIMEOUT (R53, R58, R274, R373 to R375, R526).  A request drains a unit in service,
takes a tested one out, and tests one that is out; any other is counted and ignored.  A drained unit without work goes out of service at once.
A test that passes enters SHADOW with its figures at zero; a mismatch or a failed test is recorded, with the cluster it is of, and the unit goes
out; enough equal items bring it into service.  A unit in SHADOW takes a copy of its peer's work, and its own outcome is compared with it in
that order: the codes of an array within the tolerance, all else exactly; where no block is shared an array's reference slots are compared
(log entry 222).  A peer in use stays while it qualifies, and one that has stopped is replaced.  As the peer of another node this one sends
blocks of field queries with its results.  Each change of state is raised and reported.  A node whose links do not come up in time fails its
test. -/
def Obligations.UnitsChangeTheirServiceState : Prop :=
  (∀ (src : Source) (u : SvcUnit) (v : Nat) (s : State), s.takes src (unitReq u) →
    let c := Instr.svcRequest src u v
    let r := v % 8
    let cur := s.unitSvc u
    let leaves := (r = 1 ∨ r = 2) ∧ (cur = 0 ∨ cur = 5)
    let stops := (r = 1 ∨ r = 2) ∧ (cur = 3 ∨ cur = 4)
    let tests := r = 3 ∧ cur = 2 ∧ s.testRefused u = false
    let ends := fun m : State => exec c s = .next m.peersFollow.mdioFree.remoteFreed
    let peersOnly := fun t : State => t.aqd = { s.aqd with peers := t.aqd.peers, nodePeer := t.aqd.nodePeer }
    (r = 0 → ∃ t, exec c s = .next t ∧ peersOnly t ∧ OnlyChanges s t [.aqd] [unitReq u]) ∧
    (r ≠ 0 → ¬leaves → ¬stops → ¬tests → ∃ t, exec c s = .next t ∧ Counted s t A.aqdSvcIgnored ∧ peersOnly t ∧
      OnlyChanges s t [.aqd] [unitReq u, A.aqdSvcIgnored]) ∧
    (leaves → ∃ w, OnlyChanges s w [] [unitReq u] ∧ ends ((w.setUnitSvc u 1 0).drainStart u) ∧
      (∀ g, u = .lane g → s.pass.cur = none → ∃ t, exec c s = .next t ∧ t.svc (lgPage g) = 2 ∧
        OnlyChanges s t [.aqd, .fio, .msix, .out] (unitReq u :: svcRegs (lgPage g)))) ∧
    (stops → ∃ w, OnlyChanges s w [] [unitReq u] ∧
      (∀ n, u = .link n → ends (w.linkStop n 0)) ∧ ((∀ n, u ≠ .link n) → ends (w.setUnitSvc u 2 0))) ∧
    (tests → ∃ w, OnlyChanges s w [] [unitReq u] ∧ (∀ n, u = .link n → ends (w.linkStart n 0)) ∧
      (u = .node → ends ((({ w with aqd := { w.aqd with testAt := w.now, sync := none } }).setNodeSvc 3 0).nodeTest)) ∧
      (u ≠ .node → (∀ n, u ≠ .link n) → ends (w.setUnitSvc u 3 0)))) ∧
  (∀ s : State,
    let t := s.peersFollow
    OnlyChanges s t [.aqd] [] ∧ t.aqd = { s.aqd with peers := t.aqd.peers, nodePeer := t.aqd.nodePeer } ∧
    (∀ x ∈ t.aqd.peers, x.1 ≠ .node → s.svc (unitPage x.1) = 4 ∧ s.peerOf x.1 = some x.2) ∧
    (∀ u x y, u ≠ .node → (u, y) ∈ s.aqd.peers → s.svc (unitPage u) = 4 → s.peerOf u = some x → (u, x) ∈ t.aqd.peers) ∧
    (s.nodeSvc = 4 → t.aqd.nodePeer = s.nodePeerOf)) ∧
  (∀ (s : State) (p new cause : Nat), p % 0x1000 = 0 → p ≠ 0x358000 → new < 8 →
    let t := s.setSvc p new cause
    (s.svc p = new → t = s) ∧
    (s.svc p ≠ new → t.svc p = new ∧ Raised s t p 4 ∧ OnlyChanges s t [.fio, .msix, .out] (svcRegs p) ∧
      (s.fio.queue.length < 64 → ∃ m, t.fio.queue = s.fio.queue ++ [m] ∧ m.typ = 5 ∧ m.time = s.now ∧
        nth 0 m.payload 4 = BitVec.ofNat 8 (s.svc p) ∧ nth 0 m.payload 5 = BitVec.ofNat 8 new ∧ nth 0 m.payload 6 = BitVec.ofNat 8 cause))) ∧
  (∀ (s : State) (new cause : Nat), new < 8 →
    (∀ u, (∀ k, u ≠ .cluster k) → u ≠ .node → s.setUnitSvc u new cause = s.setSvc (unitPage u) new cause) ∧
    (∀ k : Fin 4, (∀ e, k.val * 16 ≤ e → e < k.val * 16 + 16 → e ≠ 63 → (s.setUnitSvc (.cluster k) new cause).svc (enginePage e) = new) ∧
      OnlyChanges s (s.setUnitSvc (.cluster k) new cause) [.fio, .msix, .out]
        (((rangeFrom (k.val * 16) 16).filter (fun e => e ≠ 63)).flatMap (fun e => [enginePage e + 0x00C, enginePage e + 0x01C]) ++ fleetRegs)) ∧
    (s.nodeSvc ≠ new → ∃ w : State, s.setUnitSvc .node new cause = w.lstateSend ∧ w.nodeSvc = new ∧ w.nodeUp s.ownNode = decide (new ≤ 1) ∧
      Raised s w 0x320000 21 ∧ OnlyChanges s w [.fio, .msix, .out] ([A.aqdNodeStat, A.aqdNodesUp (s.ownNode / 32), 0x32001C] ++ fleetRegs))) ∧
  (∀ (u : SvcUnit) (ok : Bool) (s : State),
    let c := Instr.unitTestDone u ok
    let local_ := u ≠ .node ∧ ∀ n, u ≠ .link n
    ((s.unitSvc u ≠ 3 ∨ ¬local_) → exec c s = .next s) ∧
    (s.unitSvc u = 3 → local_ → ok = true → ∃ w : State, exec c s = .next ((w.setUnitSvc u 4 1).peerKeep u) ∧ w.rd (unitMm u) = 0 ∧ w.rd (unitCnt u) = 0 ∧
      w.shadowOf u = max 1 (s.rdf A.aqdSvcCfg 0 16) ∧ w.aqd.copies = s.aqd.copies.filter (fun x => x.1 ≠ u) ∧
      OnlyChanges s w [.aqd] [unitMm u, unitCnt u]) ∧
    (s.unitSvc u = 3 → local_ → ok = false → exec c s = .next ((s.setUnitSvc u 2 1).pageErr (unitErrPage u) 0x0006
      (match u with | .cluster k => k.val | _ => 0)))) ∧
  (∀ (u : SvcUnit) (s : State),
    let on := s.unitSvc u = 4 ∧ s.hasPeer u = true
    (¬on → ∀ w, (u = .node → ∀ d p, w ≠ .block d p) → exec (.shadowItem u w) s = .next s) ∧
    (∀ dst pts, u ≠ .node → exec (.shadowItem u (.block dst pts)) s = .next s) ∧
    (on →
      (∀ own peer rest, takeCopy u s.aqd.copies = some (peer, rest) → exec (.shadowItem u (.copy own)) s =
        .next (({ s with aqd := { s.aqd with copies := rest } }).itemCompared u (s.copyAgrees u own peer))) ∧
      (∀ own, takeCopy u s.aqd.copies = none → exec (.shadowItem u (.copy own)) s = .next s) ∧
      (∀ codes a, u = .array a → exec (.shadowItem u (.slot codes)) s =
        .next (if s.noneShared a then s.itemCompared u (s.refClean a codes) else s)) ∧
      (∀ codes, (∀ a, u ≠ .array a) → exec (.shadowItem u (.slot codes)) s = .next s) ∧
      (∀ same, (u = .node ∨ ∃ n, u = .link n) → exec (.shadowItem u (.generated same)) s = .next (s.itemCompared u same)) ∧
      ∀ same, u ≠ .node → (∀ n, u ≠ .link n) → exec (.shadowItem u (.generated same)) s = .next s) ∧
    (∀ own peer, s.copyAgrees u own peer = true ↔
      ((∃ a, u = .array a) ∧ ∀ x ∈ (peer.take (peer.length / 2)).zip (peer.drop (peer.length / 2)), (x.1 - x.2).natAbs ≤ s.rdf A.chgShadowTol 0 4) ∨
        ((∀ a, u ≠ .array a) ∧ own = peer)) ∧
    (∀ l peer rest, takeCopy u l = some (peer, rest) ↔ ∃ before after, l = before ++ (u, peer) :: after ∧ rest = before ++ after ∧
      ∀ x ∈ before, x.1 ≠ u) ∧
    (∀ x vals, (x ∈ s.shadowers u ↔ x ∈ kindUnits u ∧ s.svc (unitPage x) = 4 ∧ s.peerOf x = some u) ∧
      (s.shadowCopy u vals).aqd = { s.aqd with
        copies := s.aqd.copies ++ (s.shadowers u).map (fun y => (y, vals))
        peers := (s.shadowCopy u vals).aqd.peers } ∧
      OnlyChanges s (s.shadowCopy u vals) [.aqd] []) ∧
    let used := fun x => s.aqd.peers.find? (fun y => y.1 = u) = some (u, x) ∧ x ≠ u ∧ s.peerMay x = true
    (∀ x, s.peerOf u = some x → x ≠ u ∧ s.peerMay x = true) ∧ (∀ x, used x → s.peerOf u = some x) ∧
    ((∀ x, ¬used x) → ∀ x, s.peerNamed u = some x → x ≠ u → s.peerMay x = true → s.peerOf u = some x) ∧
    ((∀ x, ¬used x) → (∀ x, s.peerNamed u = some x → x = u ∨ s.peerMay x = false) →
      s.peerOf u = (kindUnits u).find? (fun x => x ≠ u && s.peerMay x))) ∧
  (∀ (dst : Nat) (pts : List (Int × Int × Int)) (s : State),
    let c := Instr.shadowItem .node (.block dst pts)
    let on := s.nodeSvc = 0 ∧ s.nodeUp dst = false ∧ dst ≠ s.ownNode
    ((¬on ∨ s.ownPins = []) → exec c s = .next s) ∧
    ∀ k l, on → s.ownPins = k :: l → (s.epoch k = none → exec c s = .next s) ∧
      ∀ e, s.epoch k = some e →
        let qs := pts.map (fun p => s.field e p)
        exec c s = .next ((qs.foldl (fun t q => t.note 5 7 q.2) s).control dst 0x0E
          (k :: pts.flatMap (fun p => [(p.1 % 2 ^ 32).toNat, (p.2.1 % 2 ^ 32).toNat, (p.2.2 % 2 ^ 32).toNat]) ++ qs.map (fun q => d16 (q.1 / fieldOne))))) ∧
  (∀ (u : SvcUnit) (same : Bool) (s : State),
    let k := (s.rd (unitCnt u) + 1) % 2 ^ 32
    (same = true → k < s.shadowOf u → ∃ t, s.itemCompared u same = t ∧ t.rd (unitCnt u) = k ∧ OnlyChanges s t [] [unitCnt u]) ∧
    (same = true → s.shadowOf u ≤ k → ∃ w : State, s.itemCompared u same = w.joinService u ∧ w.rd (unitCnt u) = k ∧ OnlyChanges s w [] [unitCnt u]) ∧
    (same = false → ∃ w : State, s.itemCompared u same = w.unitFails u (unitShadowCode u) ∧ w.rd (unitCnt u) = k ∧ Counted s w (unitMm u) ∧
      Raised s w (unitErrPage u) (unitMmBit u) ∧ OnlyChanges s w [.msix, .out] [unitCnt u, unitMm u, unitErrPage u + 0x01C])) ∧
  (∀ (s : State) (u : SvcUnit) (code : Nat),
    (∀ n, u = .link n → s.unitFails u code = (s.linkStop n 1).pageErr (linkPage n) code 0) ∧
    ((∀ n, u ≠ .link n) → s.unitFails u code = (s.setUnitSvc u 2 1).pageErr (unitErrPage u) code (match u with | .cluster k => k.val | _ => 0)) ∧
    (∀ a, u = .array a → s.joinService u = s.setUnitSvc u (if 90000 ≤ (s.arr a).top.1 then 5 else 0) 1) ∧
    ((∀ a, u ≠ .array a) → (∀ n, u ≠ .link n) → s.joinService u = s.setUnitSvc u 0 1) ∧
    ∀ n, u = .link n → ∃ w : State, s.joinService u = w.linksChanged.nodeTest.quietEdge (linkPage n) (s.busy (linkPage n)) ∧ w.svc (linkPage n) = 0 ∧ w.train n = 3 ∧
      tbit (w.rd (linkPage n + 0x01C)) 8 = true ∧ OnlyChanges s w [.fio, .msix, .out] (A.aqdLStat n :: svcRegs (linkPage n))) ∧
  ∀ s : State,
    let due := s.nodeSvc = 3 ∧ s.aqd.testAt + 10000000 ≤ s.now ∧ ∀ n, n < 8 → s.rdb (A.aqdLCfg n) 0 = true → s.linkUp n = false
    (¬due → exec .nodeTestTimeout s = .next s) ∧ (due → exec .nodeTestTimeout s = .next (s.unitFails .node 0x0102))

/-- REMOTE_READ, REMOTE_WRITE, REMOTE_OFFER, READ_RESPONSE, WRITE_RESPONSE and REQUEST_TIMEOUT (R52, R360 to R364, R377, Tables AQD-3 to
AQD-5).  Nothing is taken over a link that is not in service, and while the link's page takes no work a request is held.  A remote read of memory
is answered with its bytes, and the pound is denied; a remote write stores its bytes where the access list allows it; an offer reaches the
dispatcher under its own bit and not while the node drains.  Every arrival is counted on its link.  A response ends the request of its tag, a
failed read is issued once more under a new tag, and a request without a response in time ends.  A request at memory whose clock stands makes no
progress (R470; the model's choice, log entry 260). -/
def Obligations.RemoteRequestsAreServedAndEnd : Prop :=
  (∀ (l : Fin 8) (node : Fin 128) (tag addr len st code : Nat) (data : List Byte) (words : List Nat) (s : State),
    let requests := [(Instr.remoteRead l node tag addr len, Work.remoteRead node tag addr len),
      (.remoteWrite l node tag addr data, .remoteWrite node tag addr data),
      (.remoteOffer l node tag words, .remoteOffer node tag ((rangeFrom 0 16).map (fun i => nth 0 words i % 2 ^ 32)))]
    (s.linkUp l = false → ∀ c ∈ requests.map (·.1) ++ [.readResponse l node tag st data, .writeResponse l node tag st code], exec c s = .next s) ∧
    (s.linkUp l = true → s.pageOpen (linkPage l) = false → ∃ u, Heard s u l node ∧ ∀ x ∈ requests,
      exec x.1 s = .next ({ u with waitIn := u.waitIn ++ [(linkPage l, x.2)] }).remoteFreed)) ∧
  (∀ (l : Fin 8) (node : Fin 128) (tag addr len : Nat) (s : State), s.linkUp l = true → s.pageOpen (linkPage l) = true →
    let c := Instr.remoteRead l node tag addr len
    let a := addr % 2 ^ 40
    let n := 8 * min len 32
    let mem := inHbm a n = true ∨ inSpd a n = true
    let runs := s.memRuns a n = true
    let answers := fun (u : State) (st : Nat) (bs : List Byte) => exec c s = .next (u.answer node 3 (tag % 2 ^ 16) st bs).remoteFreed
    (¬runs → ∃ u, Heard s u l node ∧ exec c s = .next u.remoteFreed) ∧
    (runs → mem → wordsIn s.spd.ue a n = [] → ∃ v : State, answers v 0 (s.readMem a n) ∧
      v.rd (A.aqdLRx l) = (s.rd (A.aqdLRx l) + 1) % 2 ^ 32 ∧ v.rd A.spdCeCnt = (s.rd A.spdCeCnt + (wordsIn s.spd.ce a n).length) % 2 ^ 32 ∧
      OnlyChanges s v [.aqd, .spd] [A.aqdLRx l, A.spdCeCnt]) ∧
    (runs → mem → wordsIn s.spd.ue a n ≠ [] → ∃ v : State, answers v 3 [] ∧ Counted s v A.spdUeCnt ∧
      OnlyChanges s v [.aqd, .spd, .msix, .out] (A.aqdLRx l :: ueRegs)) ∧
    (runs → ¬mem → ∃ u, Heard s u l node ∧
      (touchesPound a n = true → answers (u.sealDenied 2) 2 []) ∧
      (touchesPound a n = false → a + n ≤ 0x04000000 → ∃ bs v, u.remoteWords (.remote node) (a / 4 * 4) (n / 4) = (bs, v) ∧ bs.length = n ∧ answers v 0 bs) ∧
      (touchesPound a n = false → 0x04000000 < a + n → answers u 1 []))) ∧
  (∀ (l : Fin 8) (node : Fin 128) (tag addr : Nat) (data : List Byte) (s : State), s.linkUp l = true → s.pageOpen (linkPage l) = true →
    let c := Instr.remoteWrite l node tag addr data
    let a := addr % 2 ^ 40
    let n := min 256 (data.length / 8 * 8)
    let bs := data.take n
    let offers := a = 0x320800 ∧ n = 64
    let mem := inHbm a n = true ∨ inSpd a n = true
    let runs := s.memRuns a n = true
    let answers := fun (u : State) (st : Nat) => exec c s = .next (u.answer node 4 (tag % 2 ^ 16) st []).remoteFreed
    let partUe := partWords s.spd.ue a n
    ∃ u, Heard s u l node ∧
      (¬runs → exec c s = .next u.remoteFreed) ∧
      (offers → exec c s = .next (offerAnswer node (tag % 2 ^ 16) (u.remoteOffer node (offerWords bs))).remoteFreed) ∧
      (¬offers → runs → mem → s.rdb A.aqdRacl 0 = false → answers u 2) ∧
      (¬offers → runs → mem → s.rdb A.aqdRacl 0 = true → ∃ v : State, answers v (if partUe = [] then 0 else 3) ∧
        MemOnlyIn s v a (a + n) ∧ v.rd A.spdCeCnt = (s.rd A.spdCeCnt + (partWords s.spd.ce a n).length) % 2 ^ 32 ∧
        (partUe = [] → v.readMem a n = bs ∧ OnlyChanges u v [.mem, .spd] [A.spdCeCnt]) ∧
        (partUe ≠ [] → v.rd A.spdUeCnt = min 0xFFFF (s.rd A.spdUeCnt + partUe.length) ∧ OnlyChanges u v [.mem, .spd, .msix, .out] ueRegs)) ∧
      (runs → ¬mem → touchesPound a n = true → answers (u.sealDenied 2) 2) ∧
      (¬offers → ¬mem → touchesPound a n = false → a + n ≤ 0x04000000 → ∃ no v,
        u.remotePuts node (a / 4 * 4) bs (n / 4) = (no, v) ∧ answers v (if no then 2 else 0)) ∧
      (¬mem → touchesPound a n = false → 0x04000000 < a + n → runs → answers u 1)) ∧
  (∀ (l : Fin 8) (node : Fin 128) (tag : Nat) (words : List Nat) (s : State), s.linkUp l = true → s.pageOpen (linkPage l) = true →
    let c := Instr.remoteOffer l node tag words
    let w := (rangeFrom 0 16).map (fun i => nth 0 words i % 2 ^ 32)
    ∃ u, Heard s u l node ∧ exec c s = .next (offerAnswer node (tag % 2 ^ 16) (u.remoteOffer node w)).remoteFreed ∧
      (s.rdb A.aqdRacl 2 = false → u.remoteOffer node w = (true, 2, u)) ∧
      (s.rdb A.aqdRacl 2 = true → s.nodeSvc = 1 → u.remoteOffer node w = (false, 2, u)) ∧
      (s.rdb A.aqdRacl 2 = true → s.nodeSvc ≠ 1 → ∃ k v, u.offer 6 node w false false = (k, v) ∧ u.remoteOffer node w = (false, k, v))) ∧
  (∀ (s : State) (node kind tag st k : Nat) (data : List Byte), s.route node = [k] → k < 8 →
    let t := s.answer node kind tag st data
    let header := [node % 2 ^ 7 + s.ownNode * 2 ^ 8 + kind % 2 ^ 4 * 2 ^ 16 + data.length / 8 % 2 ^ 6 * 2 ^ 24, tag % 2 ^ 16 + st % 2 ^ 8 * 2 ^ 16, 0, 0]
    t.out = s.out ++ [.packet k header (data.map (fun b => b.toNat))] ∧
      t.aqd = { s.aqd with retry := s.aqd.retry ++ [(k, header, data.map (fun b => b.toNat))] } ∧
      t.rd (A.aqdLTx k) = (s.rd (A.aqdLTx k) + 1) % 2 ^ 32 ∧
      (st = 2 → Counted s t A.aqdRemoteDenied) ∧ (st ≠ 2 → t.rd A.aqdRemoteDenied = s.rd A.aqdRemoteDenied) ∧
      OnlyChanges s t [.aqd, .out] [A.aqdLTx k, A.aqdRemoteDenied]) ∧
  (∀ (l : Fin 8) (node : Fin 128) (tag st code : Nat) (data : List Byte) (s : State), s.linkUp l = true → ∃ u, Heard s u l node ∧
    (s.reqOf tag = none → exec (.readResponse l node tag st data) s = .next u ∧ exec (.writeResponse l node tag st code) s = .next u) ∧
    ∀ r, s.reqOf tag = some r → exec (.readResponse l node tag st data) s = .next (u.reqEnd r st 0 data) ∧
      exec (.writeResponse l node tag st code) s = .next (u.reqEnd r st code [])) ∧
  (∀ (tag : Nat) (s : State),
    (s.reqOf tag = none → exec (.requestTimeout tag) s = .next s) ∧
    ∀ r, s.reqOf tag = some r →
      (s.now < r.issued + max 1 (s.rdf A.aqdReqTo 0 16) * 1000 → exec (.requestTimeout tag) s = .next s) ∧
      (r.issued + max 1 (s.rdf A.aqdReqTo 0 16) * 1000 ≤ s.now → exec (.requestTimeout tag) s = .next (s.reqEnd r 5 0 []))) ∧
  ∀ (s : State) (r : FabReq) (st code : Nat) (data : List Byte),
    let ends := fun u : State => s.reqEnd r st code data = u.reqNext.quietEdge 0x320000 (s.busy 0x320000)
    let here := tbit r.put 47 = false ∨ fld r.put 40 7 = s.ownNode
    let a := if tbit r.put 47 then r.put % 2 ^ 40 else r.put
    let shut := regionOf a = .pound ∧ s.sealState ≠ 0
    let partUe := partWords s.spd.ue a data.length
    ∃ u : State, u.aqd = { s.aqd with reqs := s.aqd.reqs.filter (fun x => x.tag ≠ r.tag) } ∧ OnlyChanges s u [.aqd] [] ∧
      (r.kind = 0 → r.again = false → (st = 4 ∨ st = 5) → ∃ v : State, Counted u v A.aqdRdRetry ∧
        v.aqd = { u.aqd with tagNo := (s.aqd.tagNo + 1) % 2 ^ 16 } ∧ OnlyChanges u v [.aqd] [A.aqdRdRetry] ∧
        ends (v.reqSend { r with again := true, tag := s.aqd.tagNo })) ∧
      (st ≠ 0 → ¬(r.kind = 0 ∧ r.again = false ∧ (st = 4 ∨ st = 5)) → ∃ v : State, Counted u v A.aqdReqFail ∧ OnlyChanges u v [] [A.aqdReqFail] ∧
        ends (v.jobStep r.by_ 0x09)) ∧
      (st = 0 → r.kind = 2 → code ≠ 0 → ∃ v : State, Counted u v A.aqdOfferRef ∧ OnlyChanges u v [] [A.aqdOfferRef] ∧ ends (v.jobStep r.by_ 0x09)) ∧
      (st = 0 → r.kind ≠ 0 → (r.kind ≠ 2 ∨ code = 0) → ends (u.jobStep r.by_ 0)) ∧
      (st = 0 → r.kind = 0 → ¬here → ends (u.reqIssue { r with
        kind := if r.put % 2 ^ 40 = 0x320800 ∧ data.length = 64 then 2 else 1, dst := fld r.put 40 7, addr := r.put % 2 ^ 40, data := data, again := false })) ∧
      (st = 0 → r.kind = 0 → here → s.memRuns a data.length = false → ends u) ∧
      (st = 0 → r.kind = 0 → here → s.memRuns a data.length = true → shut → ends (u.jobStep r.by_ 0x0C)) ∧
      (st = 0 → r.kind = 0 → here → s.memRuns a data.length = true → ¬shut → ∃ v : State, MemOnlyIn s v a (a + data.length) ∧
        (partUe = [] → v.readMem a data.length = data ∧ OnlyChanges u v [.mem, .spd] [A.spdCeCnt] ∧ ends (v.jobStep r.by_ 0)) ∧
        (partUe ≠ [] → OnlyChanges u v [.mem, .spd, .msix, .out] ueRegs ∧ ends (v.jobStep r.by_ 0x09))) ∧
      ((∀ j ∈ s.aqd.jobs, j.by_ ≠ r.by_) → ∀ k, u.jobStep r.by_ k = u) ∧ (s.aqd.reqQ = [] → u.reqNext = u)

/-- LSTATE, PINSET, CUT_REQ, PREPARE, READY_MSG, WAITING_MSG, CUT_COMMIT_MSG, COMMITTED, DELTA, DELTA_END, NODE_LOST_MSG, SYNC_REQ, SYNC_ANSWER,
SHADOW_Q, NODE_TIMEOUT, PINSET_TIMER, CUT_TIMEOUT and REHOME_COPY_DONE (R355, R356, R359, R366 to R372, R375, R377).  A message over a link that
is not in service is not taken.  A link report is kept, and a node that joins or leaves service is shown.  A pin set replaces the earlier one.
The coordinator starts a cut on a request; a node runs PREPARE once, answers, sends its entries by their fabric indices at COMMIT, and publishes
when every home has ended.  A node that is silent or does not answer in time is declared lost, its figures go, and a new coordinator sends again
what others may wait for.  A home answers with its entries, and the answer is merged.  Which node of bonded links carries a packet is a free
value (log entry 1). -/
def Obligations.FabricMessagesKeepTheNodesTogether : Prop :=
  (∀ (l : Fin 8) (node lost : Fin 128) (links epoch : Nat) (inSvc merged : Bool) (list : List Nat) (pairs : List (Nat × Nat × Nat))
    (pts : List (Int × Int × Int)) (s : State), s.linkUp l = false →
    ∀ c ∈ [Instr.lstate l node links inSvc, .pinset l node list, .cutReq l node, .prepareMsg l node epoch merged, .readyMsg l node epoch,
      .waitingMsg l node epoch, .cutCommitMsg l node epoch, .committedMsg l node epoch, .deltaMsg l node pairs, .deltaEnd l node epoch,
      .nodeLostMsg l node lost, .syncReq l node list, .syncAnswer l node epoch pairs, .shadowQ l node epoch pts list], exec c s = .next s) ∧
  (∀ (l : Fin 8) (node : Fin 128) (links : Nat) (inSvc : Bool) (s : State), s.linkUp l = true →
    let c := Instr.lstate l node links inSvc
    ∃ u, Heard s u l node ∧
    (node.val = s.ownNode → exec c s = .next u.dupId) ∧
    (node.val ≠ s.ownNode → (s.nodeUp node = inSvc ∨ inSvc = false ∧ s.isCoord = false) → exec c s = .next (u.reported node links)) ∧
    (node.val ≠ s.ownNode → s.nodeUp node = false → inSvc = true → ∃ t, exec c s = .next t ∧ t.nodeUp node = true ∧
      t.aqd = { (u.reported node links).aqd with lost := s.aqd.lost.filter (fun x => x ≠ node.val) } ∧
      tbit (t.rd 0x32001C) 17 = true ∧
      OnlyChanges (u.reported node links) t [.aqd, .msix, .out] [A.aqdNodesUp (node.val / 32), A.aqdNodeStat, 0x32001C]) ∧
    (node.val ≠ s.ownNode → s.nodeUp node = true → inSvc = false → s.isCoord = true → exec c s = .next ((u.reported node links).declareLost node))) ∧
  (∀ (node links : Nat) (s : State),
    (s.linksOfNode node = links → s.reported node links = s) ∧
    (s.linksOfNode node ≠ links → ∃ v : State, v.aqd = { s.aqd with reports := (node, links) :: s.aqd.reports.filter (fun x => x.1 ≠ node) } ∧
      Raised s v 0x320000 18 ∧ OnlyChanges s v [.aqd, .msix, .out] [0x32001C] ∧
      s.reported node links = (v.nodesReached.filter (fun n => !s.nodesReached.contains n)).foldl (fun t n => t.control n 0x02 s.lstatePay) v)) ∧
  (∀ s : State, (s.nodeSvc ≤ 1 → s.dupId = s.pageErr 0x320000 0x0112 0) ∧ (1 < s.nodeSvc → ∀ n : Fin 8, s.dupId.svc (linkPage n) = 2)) ∧
  (∀ (l : Fin 8) (node : Fin 128) (epochs : List Nat) (s : State), s.linkUp l = true → ∃ v : State, exec (.pinset l node epochs) s = .next v.retire ∧
    v.wld = { s.wld with pinsets := (node.val, epochs.take 6) :: s.wld.pinsets.filter (fun x => x.1 ≠ node.val) } ∧
    v.rd (A.aqdLRx l) = (s.rd (A.aqdLRx l) + 1) % 2 ^ 32 ∧ OnlyChanges s v [.aqd, .wld] [A.aqdLRx l]) ∧
  (∀ (l : Fin 8) (node : Fin 128) (s : State), s.linkUp l = true → ∃ u, Heard s u l node ∧
    ((s.isCoord = false ∨ s.inFabric = false ∨ s.aqd.coord ≠ none ∨ s.wld.cut ≠ none ∨ s.wld.working = none) → exec (.cutReq l node) s = .next u) ∧
    ∀ w, s.isCoord = true → s.inFabric = true → s.aqd.coord = none → s.wld.cut = none → s.wld.working = some w → ∃ v : State,
      v.aqd = { u.aqd with coord := some { epoch := w.num, ready := [], answer := s.nodesUp.map (fun n => (n, s.now)) } } ∧ OnlyChanges u v [.aqd] [] ∧
        exec (.cutReq l node) s = .next ((v.broadcast 0x05 [w.num]).fabPrepare w.num)) ∧
  (∀ (l : Fin 8) (node : Fin 128) (epoch : Nat) (merged : Bool) (s : State), s.linkUp l = true →
    let c := Instr.prepareMsg l node epoch merged
    let on := s.inFabric = true ∧ (s.nodeSvc ≠ 3 ∨ s.aqd.sync = some [])
    let done := (∃ k, s.aqd.cut = some k ∧ k.epoch = epoch ∧ k.commit = true) ∨ ∃ x, s.wld.alive.getLast? = some x ∧ x.num = epoch
    ∃ u, Heard s u l node ∧ (¬on → exec c s = .next u) ∧
      (on → done → exec c s = .next (u.control node 0x09 [epoch])) ∧
      (on → ¬done → (s.aqd.cut = none → ((merged = false ∨ s.aqd.asked = none) → exec c s = .next (u.fabPrepare epoch)) ∧
          (merged = true → s.aqd.asked ≠ none → ∃ v, Counted u v A.wldCutMerged ∧ OnlyChanges u v [] [A.wldCutMerged] ∧
            exec c s = .next (v.fabPrepare epoch))) ∧
        ∀ k, s.aqd.cut = some k → (k.epoch = epoch → k.ready = true → exec c s = .next (u.control node 0x06 [epoch])) ∧
          (¬(k.epoch = epoch ∧ k.ready = true) → exec c s = .next u))) ∧
  (∀ (s : State) (epoch : Nat),
    ((s.wld.working = none ∨ s.wldReady = false ∨ s.wld.cut ≠ none) → s.fabPrepare epoch = s) ∧
    ∀ w, s.wld.working = some w → s.wldReady = true → s.wld.cut = none →
      let t := s.fabPrepare epoch
      t.wld = { s.wld with cut := some { step := .drain, asked := s.aqd.asked.getD s.now }, working := some { w with num := epoch } } ∧
        t.aqd = { s.aqd with cut := some { epoch := epoch, since := s.now }, prepAt := some s.now, asked := none } ∧
        t.rdb A.wldStat 2 = true ∧ t.rdb 0x3000C 1 = true ∧ OnlyChanges s t [.wld, .aqd, .pwr] [A.wldStat, 0x3000C]) ∧
  (∀ (l : Fin 8) (node : Fin 128) (epoch : Nat) (s : State), s.linkUp l = true → ∃ u, Heard s u l node ∧
    ∀ r ∈ [(Instr.readyMsg l node epoch, true), (.waitingMsg l node epoch, false)],
      ((∀ k, s.aqd.coord = some k → k.epoch ≠ epoch) → exec r.1 s = .next u) ∧
      ∀ k, s.aqd.coord = some k → k.epoch = epoch → ∃ v : State, v.aqd = { u.aqd with coord := some { k with
          ready := if r.2 then setIns node.val k.ready else k.ready
          answer := k.answer.filter (fun x => x.1 ≠ node.val) } } ∧ OnlyChanges u v [.aqd] [] ∧
        exec r.1 s = .next v.coordCheck ∧
        (∀ k', v.aqd.coord = some k' → (∃ n ∈ s.nodesUp, n ∉ k'.ready) → exec r.1 s = .next v) ∧
        (∀ k', v.aqd.coord = some k' → (∀ n ∈ s.nodesUp, n ∈ k'.ready) → exec r.1 s = .next ((v.broadcast 0x08 [epoch]).fabCommit epoch))) ∧
  (∀ (l : Fin 8) (node : Fin 128) (epoch : Nat) (s : State), s.linkUp l = true → ∃ u, Heard s u l node ∧
    ((∀ k, s.aqd.cut = some k → k.epoch ≠ epoch ∨ k.commit = true ∨ k.ready = false) → exec (.cutCommitMsg l node epoch) s = .next u) ∧
    (∀ k, s.aqd.cut = some k → k.epoch = epoch → k.commit = false → k.ready = true → ∃ v : State, exec (.cutCommitMsg l node epoch) s = .next v.fabPublish ∧
      v.aqd = { u.aqd with
        cut := some { k with commit := true }
        retry := v.aqd.retry } ∧ OnlyChanges u v [.aqd, .out, .freeCnt] ((rangeFrom 0 8).map A.aqdLTx)) ∧
    ((∀ k, s.aqd.coord = some k → k.epoch ≠ epoch) → exec (.committedMsg l node epoch) s = .next u) ∧
    ((∃ k, s.aqd.coord = some k ∧ k.epoch = epoch) → exec (.committedMsg l node epoch) s = .next ((u.broadcast 0x08 [epoch]).fabCommit epoch))) ∧
  (∀ (l : Fin 8) (node : Fin 128) (epoch : Nat) (pairs : List (Nat × Nat × Nat)) (s : State), s.linkUp l = true → ∃ u, Heard s u l node ∧
    (s.aqd.cut = none → exec (.deltaMsg l node pairs) s = .next u ∧ exec (.deltaEnd l node epoch) s = .next u) ∧
    ∀ k, s.aqd.cut = some k →
      (∃ t : State, exec (.deltaMsg l node pairs) s = .next t ∧ t.aqd = { u.aqd with cut := some { k with
        deltas := k.deltas ++ s.entriesIn node (pairs.take 31) } } ∧ OnlyChanges u t [.aqd] []) ∧
      ∃ v : State, exec (.deltaEnd l node epoch) s = .next v.fabPublish ∧
        v.aqd = { u.aqd with cut := some (if k.epoch = epoch then { k with ends := setIns node.val k.ends } else k) } ∧ OnlyChanges u v [.aqd] [] ∧
        ((k.commit = false ∨ ∃ n ∈ s.homesWaited, ∀ k', v.aqd.cut = some k' → n ∉ k'.ends) → exec (.deltaEnd l node epoch) s = .next v)) ∧
  (∀ (n d : Nat), n < 128 → (fld d 30 2 = 1 → fld (remoteEntry n d) 30 2 = 2 ∧ fld (remoteEntry n d) 23 7 = n ∧ fld (remoteEntry n d) 0 22 = fld d 0 22) ∧
    (fld d 30 2 ≠ 1 → remoteEntry n d = d)) ∧
  (∀ (o : Int × Int × Int) (i : Nat), i < 2 ^ 20 → ownBrick o (fabBrick o i) = some i) ∧
  (∀ (s : State) (n : Nat) (l : List (Nat × Nat × Nat)) (x : Nat × Nat × Nat), x ∈ s.entriesIn n l ↔
    ∃ y ∈ l, ∃ i, ownBrick s.viewOff y.2.1 = some i ∧ x = (y.1, i, remoteEntry n y.2.2)) ∧
  (∀ (l : Fin 8) (node lost : Fin 128) (s : State), s.linkUp l = true → ∃ u, Heard s u l node ∧
    exec (.nodeLostMsg l node lost) s = .next (u.nodeLost lost) ∧
    ((s.nodeUp lost = false ∧ lost.val ≠ s.ownNode ∨ lost.val = s.ownNode ∧ s.nodeSvc = 2) → exec (.nodeLostMsg l node lost) s = .next u) ∧
    (lost.val = s.ownNode → s.nodeSvc ≠ 2 → ∃ v, Raised u v 0x320000 16 ∧ OnlyChanges u v [.msix, .out] [0x32001C] ∧
      exec (.nodeLostMsg l node lost) s = .next (v.setNodeSvc 2 1).peersFollow)) ∧
  (∀ (s : State) (n : Nat), n < 128 → s.nodeUp n = true → n ≠ s.ownNode → s.aqd.cut = none → s.aqd.coord = none → s.aqd.asked = none →
    ∃ v w : State, w = v.retire.peersFollow ∧ v.nodeUp n = false ∧ Raised s v 0x320000 16 ∧
      v.aqd = { s.aqd with
        lost := setIns n s.aqd.lost
        heard := s.aqd.heard.filter (fun x => x.1 ≠ n)
        reports := s.aqd.reports.filter (fun x => x.1 ≠ n) } ∧
      v.wld = { s.wld with pinsets := s.wld.pinsets.filter (fun x => x.1 ≠ n) } ∧
      OnlyChanges s v [.aqd, .wld, .msix, .out] [A.aqdNodesUp (n / 32), A.aqdNodeStat, 0x32001C] ∧
      ((w.isCoord = false ∨ s.isCoord = true ∨ w.rd A.aqdEpochFab = 0) → s.nodeLost n = w) ∧
      (w.isCoord = true → s.isCoord = false → w.rd A.aqdEpochFab ≠ 0 →
        s.nodeLost n = (w.broadcast 0x05 [w.rd A.aqdEpochFab]).broadcast 0x08 [w.rd A.aqdEpochFab])) ∧
  (∀ (l : Fin 8) (node : Fin 128) (regions : List Nat) (epoch : Nat) (entries : List (Nat × Nat × Nat)) (s : State), s.linkUp l = true →
    ∃ u, Heard s u l node ∧
    (s.wld.alive = [] → exec (.syncReq l node regions) s = .next u) ∧
    (∀ x, s.wld.alive.getLast? = some x → s.rdb A.aqdNode 9 = false → exec (.syncReq l node regions) s = .next (u.control node 0x0B [x.num, 0])) ∧
    (∀ x, s.wld.alive.getLast? = some x → s.rdb A.aqdNode 9 = true → ∃ es, exec (.syncReq l node regions) s = .next (u.deltaSend x.num es node) ∧
      es.length = 2 * ((regions.filterMap (ownRegion s.viewOff)).filter (fun r => fld (nth 0 x.regions r) 48 7 = s.ownNode)).length * 512) ∧
    ((s.nodeSvc ≠ 3 ∨ ∀ h, s.aqd.sync = some h → node.val ∉ h) → exec (.syncAnswer l node epoch entries) s = .next u) ∧
    ∀ h, s.nodeSvc = 3 → s.aqd.sync = some h → node.val ∈ h → ∃ v t : State, v = u.merge (s.entriesIn node entries) ∧
      exec (.syncAnswer l node epoch entries) s = .next t ∧ t.rd A.aqdEpochFab = epoch % 2 ^ 32 ∧
      t.aqd = { v.aqd with sync := some (h.filter (fun n => n ≠ node.val)) } ∧ OnlyChanges v t [.aqd] [A.aqdEpochFab]) ∧
  (∀ (l : Fin 8) (node : Fin 128) (epoch : Nat) (pts : List (Int × Int × Int)) (res : List Nat) (s : State), s.linkUp l = true → ∃ u, Heard s u l node ∧
    ((s.nodeSvc ≠ 4 ∨ s.nodePeerOf ≠ some node.val ∨ s.epoch epoch = none) → exec (.shadowQ l node epoch pts res) s = .next u) ∧
    ∀ x, s.nodeSvc = 4 → s.nodePeerOf = some node.val → s.epoch epoch = some x →
      let qs := pts.map (fun p => u.field x p)
      exec (.shadowQ l node epoch pts res) s =
        exec (.shadowItem .node (.generated (qs.map (fun q => d16 (q.1 / fieldOne)) == res))) (qs.foldl (fun t q => t.note 5 7 q.2) (u.peerKeep .node))) ∧
  (∀ (node : Fin 128) (s : State),
    let silent := node.val ≠ s.ownNode ∧ s.nodeUp node = true ∧ s.lastHeard node + max 30 (s.rdf A.aqdNodeTo 0 16) * 1000 ≤ s.now ∧
      s.coordWithout node = s.ownNode
    let late := ∃ k x, s.aqd.coord = some k ∧ k.answer.find? (fun y => y.1 = node.val) = some x ∧ s.nodeUp node = true ∧
      node.val ≠ s.ownNode ∧ x.2 + s.rdf A.aqdCutCfg 16 16 * 1000 ≤ s.now
    (¬silent → exec (.nodeTimeout node) s = .next s) ∧ (silent → exec (.nodeTimeout node) s = .next (s.declareLost node)) ∧
    (¬late → exec (.cutTimeout node) s = .next s) ∧
    (late → ∃ v, Raised s v 0x320000 19 ∧ OnlyChanges s v [.msix, .out] [0x32001C] ∧ exec (.cutTimeout node) s = .next (v.declareLost node)) ∧
    s.declareLost node = (s.broadcast 0x0C [node.val]).nodeLost node) ∧
  (∀ s : State, (s.inFabric = false → exec .pinsetTimer s = .next s) ∧ (s.inFabric = true → exec .pinsetTimer s = .next (s.broadcast 0x03 s.ownPins))) ∧
  (∀ (s : State) (dst op : Nat) (payload : List Nat),
    let header := [dst % 2 ^ 7 + s.ownNode * 2 ^ 8 + 5 * 2 ^ 16 + controlLen op payload * 2 ^ 24, op % 2 ^ 8 * 2 ^ 24, 0, 0]
    (s.route dst = [] → s.control dst op payload = s) ∧
    (s.route dst ≠ [] → ∃ k ∈ s.route dst, ∃ t : State, s.control dst op payload = t ∧ t.out = s.out ++ [.packet k header payload] ∧
      t.aqd = { s.aqd with retry := s.aqd.retry ++ [(k, header, payload)] } ∧
      t.rd (A.aqdLTx k) = (s.rd (A.aqdLTx k) + 1) % 2 ^ 32 ∧ OnlyChanges s t [.aqd, .out, .freeCnt] [A.aqdLTx k]) ∧
    (s.members = [] → s.broadcast op payload = s) ∧ (∀ m, s.members = [m] → s.broadcast op payload = s.control m op payload)) ∧
  ∀ (r : Fin 2048) (bricks : List SentBrick) (s : State),
    ((∀ x ∈ s.aqd.rehome, x.1 ≠ r.val) → exec (.rehomeCopyDone r bricks) s = .next s) ∧
    ((∃ x ∈ s.aqd.rehome, x.1 = r.val) → ∃ v t : State, v = bricks.foldl (fun u b => u.putBrick b) s ∧ exec (.rehomeCopyDone r bricks) s = .next (t.quietEdge 0x320000 true) ∧
      t.aqd = { v.aqd with rehome := v.aqd.rehome.filter (fun x => x.1 ≠ r.val) } ∧ OnlyChanges v t [.aqd] [])

/-! ## The safety island (chapter 16) -/

/-- ARM, TELEGRAM_SUBMIT, TELEGRAM_CHECK, ROBOT_STALE and SAF_ACK (R382 to R385, R398, R401, Table SAF-2).  ARM copies the descriptions and arms
the island when every check passes, else the first check that fails is recorded and logged.  The CRC word of an inbox submits its 96 bytes, of
which four may wait; a telegram that passes is taken and its robot is fresh, one that fails is counted with its reason and logged.  A robot
without a telegram for more than three of its cycles is stale and stops the device.  While the island's page takes no work the telegrams wait
(R52).  SAF_ACK takes its key only. -/
def Obligations.TheIslandArmsAndTakesTelegrams : Prop :=
  (∀ (src : Source) (s : State), s.takes src A.safCtrl →
    (∀ k, s.armCheck = k → k ≠ 0 → ∃ t, exec (.safArm src) s = .next t ∧ t.armed = s.armed ∧ t.rdb 0x33000C 9 = true ∧
      (s.rdb 0x33000C 9 = false → t.rd 0x33002C = 0x0100 ∧ t.rd 0x330030 = k) ∧ Counted s t A.safWarnCnt ∧ t.saf.robots = s.saf.robots ∧
      OnlyChanges s t [.saf, .fio, .msix, .out] (errorRegs 0x330000 ++ safLogRegs)) ∧
    (s.armCheck = 0 → ∃ t, exec (.safArm src) s = .next t ∧ t.armed = true ∧ t.rd A.safStat = putBit (s.rd A.safStat) 0 true ∧
      t.saf.tickAt = s.itime + s.rdf A.safPeriodUs 0 10 * 1000 ∧
      (∀ r d, r < 4 → r < s.saf.robots.length → s.rdb A.safCfg r = true → (s.cnd r).desc = some d → t.safRobot r =
        { s.safRobot r with desc := some d, set := s.armSet r d, newest := none, waive := true, last := none, offs := [] }) ∧
      (∀ r, s.rdb A.safCfg r = false → t.safRobot r = s.safRobot r) ∧ OnlyChanges s t [.saf] [A.safStat])) ∧
  (∀ s : State, s.armCheck = 0 → s.rdb 0x330010 0 = true ∧ s.armed = false ∧
    (∀ r, r < 4 → s.rdb A.safCfg r = true → ∃ d, (s.cnd r).desc = some d ∧ d.crc = s.rd (A.safRDescCrc r)) ∧
    250 ≤ s.rdf A.safPeriodUs 0 10 ∧ s.rdf A.safPeriodUs 0 10 ≤ 1000 ∧ s.safTs ≠ 0) ∧
  (∀ (src : Source) (r : Fin 4) (v : Nat) (s : State), s.takes src (A.safInbox (32 * r.val + 23)) → v < 2 ^ 32 → r.val < s.saf.robots.length →
    ((s.safRobot r).inbox.length < 4 → ∃ t, exec (.telegramSubmit src r v) s = .next t ∧ t.rd (A.safInbox (32 * r.val + 23)) = v ∧
      t.saf = { s.saf with robots := upd (fun x => { x with
        inbox := x.inbox ++ [((rangeFrom 0 24).flatMap (fun k => leBytes 4 (t.rd (A.safInbox (32 * r.val + k)))), s.itime / 1000)] }) s.saf.robots r } ∧
      OnlyChanges s t [.saf] [A.safInbox (32 * r.val + 23)]) ∧
    (4 ≤ (s.safRobot r).inbox.length → ∃ t, exec (.telegramSubmit src r v) s = .next t ∧ t.rdf (A.safRTgRej r) 0 4 = 9 ∧
      t.rdf (A.safRTgRej r) 16 16 = min 0xFFFF (s.rdf (A.safRTgRej r) 16 16 + 1) ∧ t.saf.robots = s.saf.robots ∧
      OnlyChanges s t [.saf, .fio, .msix, .out] ([A.safInbox (32 * r.val + 23), A.safRTgRej r] ++ safLogRegs))) ∧
  (∀ (r : Fin 4) (s : State),
    let x := s.safRobot r
    ((x.inbox = [] ∨ s.pageOpen 0x330000 = false) → exec (.telegramCheck r) s = .next s) ∧
    ∀ bs a rest, x.inbox = (bs, a) :: rest → s.pageOpen 0x330000 = true →
      (s.tgCheck r x bs a = 0 → ∃ t, exec (.telegramCheck r) s = .next t ∧
        (let d : Int := match x.last with | some l => sgn 32 ((uWord bs 0 + 2 ^ 32 - l.1) % 2 ^ 32) | none => 1
         t.rd (A.safRTgLost r) = if 1 < d then min 0xFFFF (s.rd (A.safRTgLost r) + (d - 1).toNat) else s.rd (A.safRTgLost r)) ∧
        t.rdb (A.safRStat r) 0 = false ∧ t.rd (A.safRTgSeq r) = uWord bs 0 ∧ t.rd (A.safRLag r) = min 0xFFFF (tgLag x.offs bs a).toNat ∧
        t.saf = { s.saf with robots := upd (fun y => { y with
          inbox := rest
          newest := some (sWords bs 0x10 8, (rangeFrom 0 8).map (fun i => (uWord bs (0x30 + 4 * i) : Int)))
          accAt := s.itime
          waive := false
          last := some (uWord bs 0, tgTime bs)
          offs := (((a : Int) - tgTime bs) :: y.offs).take 256 }) s.saf.robots r } ∧
        OnlyChanges s t [.saf] [A.safRStat r, A.safRTgSeq r, A.safRLag r, A.safRTgLost r]) ∧
      (s.tgCheck r x bs a ≠ 0 → ∃ t, exec (.telegramCheck r) s = .next t ∧ t.rdf (A.safRTgRej r) 0 4 = s.tgCheck r x bs a ∧
        t.rdf (A.safRTgRej r) 16 16 = min 0xFFFF (s.rdf (A.safRTgRej r) 16 16 + 1) ∧ Counted s t A.safWarnCnt ∧
        t.saf.robots = upd (fun y => { y with inbox := rest }) s.saf.robots r ∧
        OnlyChanges s t [.saf, .fio, .msix, .out] (A.safRTgRej r :: safLogRegs))) ∧
  (∀ (s : State) (r a : Nat) (x : SafRobot) (bs : List Byte),
    (crc32c (bs.take 92) ≠ uWord bs 92 ↔ s.tgCheck r x bs a = 1) ∧
    (s.tgCheck r x bs a = 0 → fld (uWord bs 4) 16 2 = r ∧ s.rdb A.safCfg r = true ∧ s.armed = true ∧
      fld (uWord bs 4) 0 16 = s.rdf (A.safRConn r) 0 16 ∧ (∀ d, x.desc = some d → fld (uWord bs 4) 24 4 = d.joints.length) ∧
      (∀ l, x.waive = false → x.last = some l → 1 ≤ (tgTime bs : Int) - l.2 ∧ (tgTime bs : Int) - l.2 ≤ 4 * s.rdf (A.safRCycleUs r) 0 13) ∧
      tgLag x.offs bs a ≤ s.rdf A.safLagUs 0 16)) ∧
  (∀ (r : Fin 4) (s : State),
    let stale := s.armed = true ∧ s.rdb A.safCfg r = true ∧ s.rdb (A.safRStat r) 0 = false ∧
      (s.safRobot r).accAt + 3 * s.rdf (A.safRCycleUs r) 0 13 * 1000 < s.itime
    (¬stale → exec (.robotStale r) s = .next s) ∧
    (stale → ∃ u : State, exec (.robotStale r) s = .next (u.safStop 0x12 r 0) ∧ u.rd (A.safRStat r) = putBit (s.rd (A.safRStat r)) 0 true ∧
      u.saf = { s.saf with robots := upd (fun y => { y with waive := true }) s.saf.robots r } ∧ OnlyChanges s u [.saf] [A.safRStat r])) ∧
  ∀ (src : Source) (v : Nat) (s : State), s.takes src A.safAck →
    (v % 2 ^ 16 ≠ 0xA5C3 → ∃ t, exec (.safAck src v) s = .next t ∧ Counted s t A.safWarnCnt ∧ t.saf.acked = s.saf.acked ∧
      OnlyChanges s t [.saf, .fio, .msix, .out] safLogRegs) ∧
    (v % 2 ^ 16 = 0xA5C3 → s.saf.acked = true → ∃ t, exec (.safAck src v) s = .next t ∧ OnlyChanges s t [] []) ∧
    (v % 2 ^ 16 = 0xA5C3 → s.saf.acked = false → ∃ t, exec (.safAck src v) s = .next t ∧ t.saf = { s.saf with acked := true } ∧
      t.rdf A.safStat 4 4 = 0 ∧ t.rd A.safStat % 16 = s.rd A.safStat % 16 ∧ OnlyChanges s t [.saf] [A.safStat])

/-- VERIFY_TICK, MOORING_LANE_GO and MOORING_LANE_DONE (R52, R387, R391 to R393, R398).  At its tick the armed island takes the paths handed
over, forms the corridors and offers the mooring barge; while its page is quiesced the verification waits.  A verification that still runs or
waits, a monitored robot without a telegram, and an offer that is refused, cannot complete and stop the device.  The lane starts for a running verification, with the newest epoch pinned, and waits for a brick
of another node that the cache does not hold.  Its end judges the corridors: what it could not query and a
missing telegram cannot complete, disagreeing passes and a bad static slot are diagnostics, a robot that is not clear stops the device, and a
pass counts towards the release of the channels. -/
def Obligations.CorridorsAreFormedAndJudged : Prop :=
  (∀ s : State, (s.armed = false ∨ s.itime < s.saf.tickAt) → exec .verifyTick s = .next s) ∧
  (∀ s : State, s.armed = true → s.saf.tickAt ≤ s.itime → ∃ u : State,
    u.saf = { s.saf with tickAt := s.saf.tickAt + s.rdf A.safPeriodUs 0 10 * 1000 } ∧ OnlyChanges s u [.saf] [] ∧
    let v := u.takePaths
    let waits := ∃ x ∈ s.waitIn, x.2 = Work.verify
    let starts := s.saf.run = none ∧ ¬waits ∧ s.pageOpen 0x330000 = true
    ((s.saf.run ≠ none ∨ waits) → exec .verifyTick s =
      .next ({ v with waitIn := s.waitIn.filter (fun x => x.2 ≠ Work.verify) }).verifyIncomplete) ∧
    (s.saf.run = none → ¬waits → s.pageOpen 0x330000 = false → exec .verifyTick s = .next { v with waitIn := s.waitIn ++ [(0x330000, Work.verify)] }) ∧
    (starts → (∃ r ∈ v.monitored, (v.corridor r).tele = none) → exec .verifyTick s = .next v.verifyIncomplete) ∧
    (starts → (∀ r ∈ v.monitored, (v.corridor r).tele ≠ none) →
      let o := v.offer 5 0 ([31 * 2 ^ 16, s.sec.mooringProg] ++ List.replicate 14 0) false false
      (o.1 ≠ 0 → exec .verifyTick s = .next o.2.verifyIncomplete) ∧
      (o.1 = 0 → ∃ t : State, exec .verifyTick s = .next t ∧ t.saf = { o.2.saf with
        run := some { tick := s.itime, cors := v.monitored.map v.corridor }
        barges := o.2.saf.barges ++ [(s.dsp.accNo, s.itime)] } ∧ OnlyChanges o.2 t [.saf] []))) ∧
  (∀ s : State, (s.takePaths).pass = { s.pass with handed := List.replicate 4 none } ∧ OnlyChanges s s.takePaths [.saf, .pass] [] ∧
    ∀ r, r < 4 → r < s.saf.robots.length → (s.takePaths.safRobot r).path =
      match nth none s.pass.handed r with | some k => some k | none => (s.safRobot r).path) ∧
  (∀ s : State, s.verifyIncomplete = s.verifyOver.safStop 0x11 0 0 ∧ ∃ u : State, s.verifyOver = u.retire.quietEdge 0x330000 (s.busy 0x330000) ∧ u.saf = { s.saf with run := none } ∧
    u.rd A.wldPinMoor = 0 ∧ OnlyChanges s u [.saf] [A.wldPinMoor]) ∧
  (∀ (src : Source) (s : State), s.takes src A.safMlCmd →
    ((s.saf.run = none ∨ s.rdb A.safMlStat 0 = true ∨ ∃ v, s.saf.run = some v ∧ v.lane = true) →
      ∃ t, exec (.mooringLaneGo src) s = .next t ∧ OnlyChanges s t [] []) ∧
    ∀ v, s.saf.run = some v → s.rdb A.safMlStat 0 = false → v.lane = false → ∃ u : State, exec (.mooringLaneGo src) s = .next u.pinsetSend.mdioFree.remoteFreed ∧
      u.saf = { s.saf with run := some { v with lane := true, epoch := s.wld.alive.getLast?.map (·.num) } } ∧ u.rd A.safMlStat = 1 ∧
      (∀ e, s.wld.alive.getLast? = some e → u.rd A.wldPinMoor = e.num % 2 ^ 32) ∧ OnlyChanges s u [.saf] [A.wldPinMoor, A.safMlStat]) ∧
  (∀ s : State, s.laneWaits = true ↔ ∃ v e, s.saf.run = some v ∧ v.lane = true ∧ v.epoch.bind s.epoch = some e ∧
    ((∃ c ∈ v.cors, ∃ t ∈ s.worldTests e (s.poses c), t.2.2.2.miss = true) ∨ ∃ x ∈ s.staticChecks e (v.cors.map s.poses), x.2.miss = true)) ∧
  (∀ (same : Bool) (s : State), ((s.rdb A.safMlStat 0 = false ∨ s.laneWaits = true) → exec (.mooringLaneDone same) s = .next s) ∧
    (s.rdb A.safMlStat 0 = true → s.laneWaits = false → ∃ u : State, u.rd A.safMlStat = 2 ∧ OnlyChanges s u [] [A.safMlStat] ∧
      ((∀ v, s.saf.run = some v → v.lane = false) → exec (.mooringLaneDone same) s = .next u) ∧
      ∀ v, s.saf.run = some v → v.lane = true →
        (v.epoch.bind s.epoch = none → exec (.mooringLaneDone same) s = .next u.verifyIncomplete) ∧
        ∀ e, v.epoch.bind s.epoch = some e →
          ((∃ c ∈ v.cors, c.tele = none) → exec (.mooringLaneDone same) s = .next u.verifyIncomplete) ∧
          ((∀ c ∈ v.cors, c.tele ≠ none) → exec (.mooringLaneDone same) s = .next (u.judgeCors v e same)))) ∧
  (∀ (s : State) (v : SafRun) (e : Epoch) (same : Bool),
    let all := v.cors.map (fun c => (c, s.poses c))
    let worlds := all.map (fun y => (y.1, s.worldTests e y.2))
    let slots := s.staticChecks e (all.map (·.2))
    let faulty := (∃ y ∈ worlds, ∃ t ∈ y.2, t.2.2.2.fault = true) ∨ ∃ x ∈ slots, x.2.fault = true
    let static := ∀ x ∈ slots, x.1 = true
    ∃ u : State, OnlyChanges s u [.spd, .msix, .out] (A.wldDirBad :: ueRegs) ∧
      (faulty → s.judgeCors v e same = u.verifyIncomplete) ∧
      (¬faulty → same = false → s.judgeCors v e same = u.verifyOver.safDiag 0x07) ∧
      (¬faulty → same = true → ¬static → s.judgeCors v e same = u.verifyOver.safDiag 0x0B) ∧
      (¬faulty → same = true → static → ∃ w : State,
        w.rd A.safVerify = min 0xFFFF ((s.itime - v.tick) / 1000) + e.num % 2 ^ 16 * 2 ^ 16 ∧
        OnlyChanges u w [] (A.safVerify :: v.cors.flatMap (fun c => [A.safRStat c.robot, A.safRMinclr c.robot])) ∧
        ((∀ y ∈ worlds, s.corridorClear all y.1 y.2 = true) → s.judgeCors v e same = w.verifyOver.verifyPassed) ∧
        (∀ y, worlds = [y] → s.corridorClear all y.1 y.2 = false → s.judgeCors v e same = w.verifyOver.safStop 0x10 y.1.robot 0))) ∧
  ∀ s : State, ((s.saf.acked = false ∨ s.permit = true) → s.verifyPassed = s) ∧
    (s.saf.acked = true → s.permit = false → ∃ u : State, s.verifyPassed = u.energise ∧ u.rdf A.safStat 4 4 = min 15 (s.rdf A.safStat 4 4 + 1) ∧
      OnlyChanges s u [] [A.safStat]) ∧
    (let ready := s.armed = true ∧ s.permit = false ∧ s.rdb A.safStat 3 = false ∧ s.saf.acked = true ∧ max 1 (s.rdf A.safRestartN 0 4) ≤ s.rdf A.safStat 4 4
     (¬ready → s.energise = s) ∧
     (ready → let t := s.energise
       t.permit = true ∧ t.rdb A.safStat 2 = false ∧ t.rdf A.safChStat 0 2 = 3 ∧ Raised s t 0x330000 9 ∧
         t.saf = { s.saf with due := [s.itime + 20000000, s.itime + 30000000], edge := [s.itime, s.itime], pulse := [none, none] } ∧
         OnlyChanges s t [.saf, .msix, .out] [A.safStat, A.safChStat, 0x33001C]))

/-- TEST_PULSE_START, TEST_PULSE_END, READBACK_CHECK, FEEDBACK_DISAGREE, ML_KAT, RED_KAT, ENG_WD, ISL_WD, LOCKSTEP, SRAM_UE, XTAL, VOLT, CLKMON and
TEMP, with the log, the stop and the diagnostic (R395 to R404, R407, Tables SAF-3 and SAF-5).  A due channel pulses low for 300 microseconds,
the two never at once.  An error that the island's SRAM corrects is a warning.  Sensor 47 above 110 degrees or without a valid reading fails.  A
readback that disagrees, each diagnostic that fails, and a mooring barge that does not post are latched, recorded and stop the device.  A stop
takes both channels low, clears the permission and the count, and drops every path.  A log entry has its number, cause and time; a full log
counts it. -/
def Obligations.StopChannelsAndDiagnosticsStopTheDevice : Prop :=
  (∀ (c : Fin 2) (s : State),
    let due := s.permit = true ∧ nth 0 s.saf.due c ≤ s.itime ∧ ∀ x ∈ s.saf.pulse, x = none
    let ended := ∃ t, nth none s.saf.pulse c = some t ∧ t + 300000 ≤ s.itime
    (¬due → exec (.testPulseStart c) s = .next s) ∧
    (due → ∃ t, exec (.testPulseStart c) s = .next t ∧ t.rd A.safChStat = putBit (s.rd A.safChStat) c false ∧ t.saf = { s.saf with
      due := upd (· + 20000000) s.saf.due c
      pulse := upd (fun _ => some s.itime) s.saf.pulse c
      edge := upd (fun _ => s.itime) s.saf.edge c } ∧ OnlyChanges s t [.saf] [A.safChStat]) ∧
    (¬ended → exec (.testPulseEnd c) s = .next s) ∧
    (ended → ∃ t, exec (.testPulseEnd c) s = .next t ∧ t.rd A.safChStat = putBit (s.rd A.safChStat) c s.permit ∧ t.saf = { s.saf with
      pulse := upd (fun _ => none) s.saf.pulse c
      edge := upd (fun _ => s.itime) s.saf.edge c } ∧ OnlyChanges s t [.saf] [A.safChStat])) ∧
  (∀ (c : Fin 2) (fb : Bool) (s : State),
    let due := nth 0 s.saf.edge c + s.rdf A.safChCfg 0 16 * 1000 ≤ s.itime
    (¬due → exec (.readbackCheck c fb) s = .next s) ∧
    ∃ u : State, u.rd A.safChStat = putBit (s.rd A.safChStat) (2 + c) fb ∧ OnlyChanges s u [] [A.safChStat] ∧
      (fb = s.rdb A.safChStat c → exec (.feedbackDisagree c fb) s = .next u ∧ (due → exec (.readbackCheck c fb) s = .next u)) ∧
      (fb ≠ s.rdb A.safChStat c → exec (.feedbackDisagree c fb) s = .next (u.safDiag 0x0E) ∧
        (due → exec (.readbackCheck c fb) s = .next (u.safDiag 0x0E)))) ∧
  (∀ s : State, ∀ r ∈ [(Instr.safLockstep, 0x01), (.sramUe false, 0x02), (.safXtal, 0x03), (.safVolt, 0x04), (.safClkmon, 0x05), (.mlKat false, 0x06),
    (.redKat false, 0x09), (.islWd, 0x0D)], exec r.1 s = .next (s.safDiag r.2)) ∧
  (∀ (s : State) (reading : Int),
    let hot := 28160 < reading ∨ s.rdb (A.thmS 47) 16 = false ∧ (nth {} s.thm.sens 47).fresh = false
    (hot → exec (.safTemp reading) s = .next (s.safDiag 0x0C)) ∧ (¬hot → exec (.safTemp reading) s = .next s)) ∧
  (∀ s : State, exec (.mlKat true) s = .next s ∧ exec (.redKat true) s = .next s ∧ exec (.sramUe true) s = .next (s.safLog 0x22 0 false 0)) ∧
  (∀ s : State,
    let live := s.saf.barges.filter (fun k => (s.dsp.ready ++ s.dsp.waiting ++ s.inService).any (fun b => b.acc = k.1))
    let late := (s.eng 63).wedged = false ∧ ∃ k ∈ live, k.2 + 900000 ≤ s.itime
    (¬late → ∃ t, exec .engWd s = .next t ∧ t.saf = { s.saf with barges := live } ∧ OnlyChanges s t [.saf] []) ∧
    (late → ∃ u : State, exec .engWd s = .next (u.safDiag 0x0A) ∧ u.saf = { s.saf with barges := [] } ∧
      u.dsp = { s.dsp with engines := upd (fun g => { g with wedged := true }) s.dsp.engines 63 } ∧ tbit (u.rd64 A.dspWedged) 63 = true ∧
      OnlyChanges s u [.saf, .dsp, .msix, .out] ([A.dspWedged, A.dspWedged + 4, enginePage 63 + 0x01C] ++ errorRegs 0x200000))) ∧
  (∀ (s : State) (code : Nat), code < 16 → ∃ u : State, s.safDiag code = u.safStop code 0 0 ∧
    u.rd A.safDiag = putBit (s.rd A.safDiag) code true ∧ u.rdb 0x33000C 9 = true ∧
    (s.rdb 0x33000C 9 = false → u.rd 0x33002C = 0x0101 ∧ u.rd 0x330030 = code) ∧
    (code ≠ 0x0E → u.rdb A.safStat 3 = true ∧ tbit (u.rd 0x33001C) 12 = true) ∧
    OnlyChanges s u [.msix, .out] ([A.safDiag, A.safStat] ++ errorRegs 0x330000)) ∧
  (∀ (s : State) (code robot detail : Nat), ∃ u : State, s.safStop code robot detail = u.dropPaths ∧ u.permit = false ∧ u.rdb A.safStat 2 = true ∧
    u.rdf A.safStat 4 4 = 0 ∧ u.rdf A.safChStat 0 2 = 0 ∧ tbit (u.rd 0x33001C) 8 = true ∧ u.saf.acked = false ∧ u.saf.pulse = [none, none] ∧
    (∀ c, c < 2 → nth 0 u.saf.edge c = if s.rdb A.safChStat c then s.itime else nth 0 s.saf.edge c) ∧
    (∀ r, (u.safRobot r).path = none) ∧ u.pass = { s.pass with handed := List.replicate 4 none } ∧
    OnlyChanges s u [.saf, .pass, .fio, .msix, .out] ([A.safStat, A.safChStat] ++ safLogRegs)) ∧
  (∀ s : State, s.dropPaths.pass.paths = List.replicate 4 none ∧ s.dropPaths.pass.next = List.replicate 4 none ∧
    s.dropPaths.pass.cur = s.pass.cur.map (fun q => { q with
      undo := q.undo.map (fun x => (x.1, none))
      gone := q.decided.map (·.1) }) ∧
    OnlyChanges s s.dropPaths [.pass] ((rangeFrom 0 4).flatMap (fun r => [A.swpRPath r, A.swpRPathT0 r, A.swpRPathT0 r + 4]))) ∧
  ∀ (s : State) (code robot : Nat) (stop : Bool) (detail : Nat), code < 256 →
    let t := s.safLog code robot stop detail
    let i := s.rdf A.safLogWr 0 6
    t.saf = { s.saf with logSeq := (s.saf.logSeq + 1) % 2 ^ 32 } ∧
      ((i + 1) % 64 ≠ s.rdf A.safLogRd 0 6 → t.rd (A.safLogRec (i * 4)) = s.saf.logSeq % 2 ^ 32 ∧
        t.rd (A.safLogRec (i * 4) + 4) = code + robot % 4 * 2 ^ 8 + (if stop then 2 ^ 10 else 0) + detail % 2 ^ 16 * 2 ^ 16 ∧
        t.rd (A.safLogRec (i * 4) + 8) = s.itime / 1000 % 2 ^ 32 ∧ t.rd A.safLogWr = (i + 1) % 64 ∧ tbit (t.rd 0x33001C) 11 = true) ∧
      ((i + 1) % 64 = s.rdf A.safLogRd 0 6 → Counted s t A.safLogLost) ∧
      (stop = false → Counted s t A.safWarnCnt ∧ tbit (t.rd 0x33001C) 10 = true) ∧ (stop = true → t.rd A.safWarnCnt = s.rd A.safWarnCnt) ∧
      OnlyChanges s t [.saf, .fio, .msix, .out] safLogRegs

/-! ## Thermal sensing and cooling (chapter 17) -/

/-- CONVERSION_CYCLE and THROTTLE_FALL (R405 to R413, R415).  A cycle converts the 64 sensors: a good conversion gives the reading, once the
sensor has been valid, is fresh, or has had ten good ones; a bad one invalidates it and is recorded.  The hottest valid sensor, the lowest on a
tie, gives T_max; it raises the throttle level to what it has reached, and fewer than 24 valid planner sensors to 4.  At 110 degrees the device
trips, also while a hold after a reset stands.  Without its clock the sensing does nothing.  The level falls by one once T_max has been below its
threshold for a millisecond; each change is raised and reported, and while it is not 0 the heaters are off.  What a 16-bit register shows of a
reading of 128 degrees or more is a free value (log entry 256). -/
def Obligations.SensorsThrottleAndTrip : Prop :=
  (∀ (s : State) (k : Nat) (raw : Int) (bad : Bool), k < 64 → k < s.thm.sens.length →
    let v := s.thmValue k raw
    let h := nth {} s.thm.sens k
    let t := s.sensConvert k raw bad
    let good := bad = false ∧ -10240 ≤ v ∧ v ≤ 38400
    let shows := s.sensOk k = true ∨ h.fresh = true ∨ 10 ≤ h.good + 1
    (good → (shows → t.sensT k = v ∧ t.sensOk k = true ∧ (v < 32768 → t.rd (A.thmS k) = enc 16 v + 2 ^ 16)) ∧
      (¬shows → t.rd (A.thmS k) = s.rd (A.thmS k) ∧ t.sensT k = s.sensT k) ∧
      t.thm = { s.thm with sens := upd (fun _ => { fresh := false, good := h.good + 1, t := t.sensT k }) s.thm.sens k } ∧
      (v < 32768 → OnlyChanges s t [.thm] [A.thmS k]) ∧ OnlyChanges s t [.thm, .freeCnt] [A.thmS k]) ∧
    (¬good → t.sensOk k = false ∧ t.thm = { s.thm with sens := upd (fun _ => { h with fresh := false, good := 0 }) s.thm.sens k } ∧
      ((s.sensOk k = true ∨ h.fresh = true) → t.rdb 0x34000C 9 = true ∧ (s.rdb 0x34000C 9 = false → t.rd 0x34002C = 0x0100 ∧ t.rd 0x340030 = k) ∧
        tbit (t.rd 0x34001C) 11 = true) ∧
      (s.sensOk k = false → h.fresh = false → t.rd 0x34001C = s.rd 0x34001C) ∧
      OnlyChanges s t [.thm, .msix, .out] (A.thmS k :: errorRegs 0x340000))) ∧
  (∀ (s : State) (a n k : Nat), s.hottest (s.validIn a n) = some k → a ≤ k ∧ k < a + n ∧ s.sensOk k = true ∧
    ∀ j, a ≤ j → j < a + n → s.sensOk j = true → s.sensT j ≤ s.sensT k ∧ (s.sensT j = s.sensT k → k ≤ j)) ∧
  (∀ (raw : List Int) (bad : List Nat) (s : State), s.runs 52 = false → exec (.conversionCycle raw bad) s = .next s) ∧
  (∀ (raw : List Int) (bad : List Nat) (s : State), s.runs 52 = true → ∃ t, exec (.conversionCycle raw bad) s = .next t ∧ t.thm.cycled = true ∧
    (∀ k, k < 64 → tbit (t.rd64 A.thmSensValid) k = t.sensOk k) ∧
    (∀ k, t.hottest (t.validIn 0 64) = some k → (t.sensT k < 32768 → t.rd A.thmTmax = enc 16 (t.sensT k)) ∧ t.rdf A.thmStat 16 6 = k) ∧
    ((t.validIn 0 48).length < 24 → t.rdf A.thmStat 0 3 = 4) ∧
    (∀ k, 24 ≤ (t.validIn 0 48).length → t.hottest (t.validIn 0 64) = some k →
      t.rdf A.thmStat 0 3 = max (s.rdf A.thmStat 0 3) (levelFor (t.sensT k + t.thmAdd))) ∧
    (∀ k, t.hottest (t.validIn 0 64) = some k → 28160 ≤ t.sensT k + t.thmAdd → t.tripped = true ∧ t.thm.hold = false) ∧
    (∀ d, d < 4 → nth none t.chg.within d = none ↔ t.validIn (48 + 4 * d) 4 = [] ∨ ∃ k ∈ t.validIn (48 + 4 * d) 4,
      (s.rdf A.chgRefreshCfg 8 8 * 256 : Nat) < (t.sensT k + t.thmAdd - t.kwSet).natAbs) ∧
    (1 ≤ s.rdf A.thmStat 0 3 → t.rd A.thmThrUs = (s.rd A.thmThrUs + 100) % 2 ^ 32) ∧
    (s.rdf A.thmStat 0 3 = 0 → t.rd A.thmThrUs = s.rd A.thmThrUs) ∧
    (tbit (s.rd64 A.calPend) 0 = false → (∀ k, k < 64 → t.sensOk k = true → t.sensT k + t.thmAdd < 28160) →
      OnlyChanges s t [.thm, .chg, .fio, .msix, .out, .freeCnt] ((rangeFrom 0 64).map A.thmS ++
        [A.thmSensValid, A.thmSensValid + 4, A.thmThrUs, A.thmTmax, A.thmStat, A.thmKwPower] ++ errorRegs 0x340000 ++ fleetRegs))) ∧
  (∀ t : Int, (levelFor t = 4 ↔ 104 * 256 ≤ t) ∧ (levelFor t = 3 ↔ 101 * 256 ≤ t ∧ t < 104 * 256) ∧ (levelFor t = 2 ↔ 98 * 256 ≤ t ∧ t < 101 * 256) ∧
    (levelFor t = 1 ↔ 95 * 256 ≤ t ∧ t < 98 * 256) ∧ (levelFor t = 0 ↔ t < 95 * 256)) ∧
  ∀ s : State,
    let l := s.rdf A.thmStat 0 3
    let falls := l ≠ 0 ∧ 24 ≤ (s.validIn 0 48).length ∧ ∃ b, nth none s.thm.below (l - 1) = some b ∧ b + 1000000 ≤ s.now
    (¬falls → exec .throttleFall s = .next s) ∧
    (falls → ∃ t, exec .throttleFall s = .next t ∧ t.rdf A.thmStat 0 3 = l - 1 ∧ Raised s t 0x340000 8 ∧
      (s.fio.queue.length < 64 → ∃ m, t.fio.queue = s.fio.queue ++ [m] ∧ m.typ = 2 ∧ nth 0 m.payload 0 = BitVec.ofNat 8 l ∧
        nth 0 m.payload 1 = BitVec.ofNat 8 (l - 1)) ∧
      (l ≠ 1 → t.thm.heat = List.replicate 5 0 ∧ t.rd A.thmKwPower = 0 ∧ t.rdb A.thmStat 5 = false) ∧ (l = 1 → t.thm = s.thm) ∧
      OnlyChanges s t [.thm, .fio, .msix, .out] ([A.thmStat, 0x34001C, A.thmKwPower] ++ fleetRegs))

/-- NTC_CONVERSION, KEEP_WARM_ADJUST, KW_SHORT, RTH_UPDATE, COOLING_DEGRADED and DEGRADED_CLEAR (R408, R414 to R418, R502).  A thermistor that reads
within its range, and not as open or shorted, gives the coolant temperature, another is invalid and recorded once; an inlet outside 15 to 40
degrees is shown and raised.  The heaters take power only on a die below the setpoint, within each limit and the device's, and rise by at most
20 W, a millisecond after the last adjustment at the soonest; they go off as a datapath unit starts work (R502); a die that stays cold at its
limit is short.  The thermal resistance is formed from the window's means while its conditions hold; enough updates beyond the reference set DEGRADED, enough within
it clear it.  The power within the limits is a free value (log entry 160). -/
def Obligations.CoolantHeatersAndResistance : Prop :=
  (∀ (rin rout : Option Nat) (s : State), s.runs 52 = false → exec (.ntcConversion rin rout) s = .next s) ∧
  (∀ (rin rout : Option Nat) (s : State), s.runs 52 = true →
    let temp := fun (r : Option Nat) => ((r.bind (fun v => if ntcOpen v then none else some v)).bind (ntcTemp (s.rdf A.thmNtcCfg 0 16) (s.rdf A.thmNtcCfg 16 16))).bind
      (fun v => if -5120 ≤ v && v ≤ 25600 then some v else none)
    let cold := fun (v : Int) => v < 15 * 256 ∨ 40 * 256 < v
    ∃ t, exec (.ntcConversion rin rout) s = .next t ∧
      (∀ v, temp rin = some v → t.rd A.thmTIn = enc 16 v ∧ t.rdb A.thmStat 10 = true ∧ (t.rdb A.thmStat 9 = true ↔ cold v) ∧
        (cold v → s.rdb A.thmStat 9 = false → tbit (t.rd 0x34001C) 12 = true) ∧ t.thm.inSum = s.thm.inSum + v ∧ t.thm.inN = s.thm.inN + 1) ∧
      (temp rin = none → t.rd A.thmTIn = s.rd A.thmTIn ∧ t.rdb A.thmStat 10 = false ∧ t.rdb A.thmStat 9 = s.rdb A.thmStat 9 ∧
        (nth false s.thm.ntcBad 0 = false → t.rdb 0x34000C 9 = true ∧ (s.rdb 0x34000C 9 = false → t.rd 0x34002C = 0x0101 ∧ t.rd 0x340030 = 0))) ∧
      (∀ v, temp rout = some v → t.rd A.thmTOut = enc 16 v ∧ t.rdb A.thmStat 11 = true) ∧
      (temp rout = none → t.rd A.thmTOut = s.rd A.thmTOut ∧ t.rdb A.thmStat 11 = false ∧
        (nth false s.thm.ntcBad 1 = false → t.rdb 0x34000C 9 = true)) ∧
      ((temp rin).isSome → (temp rout).isSome → OnlyChanges s t [.thm, .msix, .out] [A.thmTIn, A.thmTOut, A.thmStat, 0x34001C]) ∧
      OnlyChanges s t [.thm, .msix, .out] ([A.thmTIn, A.thmTOut, A.thmStat] ++ errorRegs 0x340000)) ∧
  (∀ r : Nat, ntcOpen r = true ↔ 175 * (r + 10000) < 180 * r ∨ 180 * r < 2 * (r + 10000)) ∧
  (∀ s : State,
    let early := ∃ t, s.thm.adjusted = some t ∧ s.now < t + 1000000
    let on := s.rdb A.thmCtrl 0 = true ∧ s.rdf A.thmStat 0 3 = 0 ∧ s.ready 0x340000 = true
    (early → exec .keepWarmAdjust s = .next s) ∧
    (¬early → ¬on → ∃ t, exec .keepWarmAdjust s = .next t ∧ t.thm = { s.thm with
        heat := List.replicate 5 0
        limitAt := List.replicate 5 none
        adjusted := some s.now } ∧
      t.rd A.thmKwPower = 0 ∧ t.rdb A.thmStat 5 = false ∧ OnlyChanges s t [.thm] [A.thmKwPower, A.thmStat]) ∧
    (¬early → on → ∃ t, exec .keepWarmAdjust s = .next t ∧ t.thm.heat.length = 5 ∧ t.thm.heat.sum ≤ s.heatBudget ∧
      (∀ d, d < 5 → nth 0 t.thm.heat d ≤ s.heatMax d ∧ (nth 0 t.thm.heat d ≠ 0 → ∃ x, s.dieHot d = some x ∧ x < s.kwSet)) ∧
      t.rd A.thmKwPower = t.thm.heat.sum ∧ (t.rdb A.thmStat 5 = true ↔ t.thm.heat.sum ≠ 0) ∧
      t.thm = { s.thm with
        heat := t.thm.heat
        limitAt := t.thm.limitAt
        adjusted := some s.now } ∧ OnlyChanges s t [.thm, .freeCnt] [A.thmKwPower, A.thmStat])) ∧
  (∀ s : State, s.heatCut.thm.heat.all (fun p => p = 0) = true ∧ OnlyChanges s s.heatCut [.thm] [A.thmKwPower, A.thmStat] ∧
    (s.thm.heat.any (fun p => p ≠ 0) = true → s.heatCut.rd A.thmKwPower = 0 ∧ s.heatCut.rdb A.thmStat 5 = false)) ∧
  (∀ s : State, (s.heatMax 4 ≤ 3200 ∧ s.heatMax 0 ≤ 160) ∧
    s.heatBudget ≤ s.thm.heat.sum + 320 ∧
    (let drawn := (s.rd A.pwrTotal + 15) / 16
     s.thm.heat.sum ≤ drawn → drawn - s.thm.heat.sum ≤ 6080 → s.heatBudget + (drawn - s.thm.heat.sum) ≤ 6080 ∧
      (6080 ≤ drawn + 320 → s.heatBudget + (drawn - s.thm.heat.sum) = 6080))) ∧
  (∀ (d : Fin 5) (s : State),
    let due := nth false s.thm.short d = false ∧ ∃ x, nth none s.thm.limitAt d = some x ∧ x + 10000000000 ≤ s.now
    (¬due → exec (.kwShort d) s = .next s) ∧
    (due → ∃ t, exec (.kwShort d) s = .next t ∧ t.thm = { s.thm with short := upd (fun _ => true) s.thm.short d } ∧
      t.rd A.thmStat = putBit (s.rd A.thmStat) 6 true ∧ Raised s t 0x340000 13 ∧ OnlyChanges s t [.thm, .msix, .out] [A.thmStat, 0x34001C])) ∧
  (∀ s : State, tbit (s.rd64 A.calPend) 4 = false →
    let x := meanOf s.thm.tSum s.thm.tN s.thm.tLast
    let i := meanOf s.thm.inSum s.thm.inN (sgn 16 (s.rd A.thmTIn))
    let p := meanOf s.thm.pSum s.thm.pN (s.rd A.pwrTotal)
    let formed := s.rdb A.thmCtrl 1 = true ∧ s.rdb A.thmStat 10 = true ∧ s.validIn 0 64 ≠ [] ∧
      ((s.rdf A.thmRthCfg 16 12 * 256 * p.2 : Nat) : Int) ≤ p.1 ∧ 0 < p.1
    let v := divNear (1000000 * (x.1 * i.2 - i.1 * x.2) * p.2) (x.2 * i.2 * p.1.toNat)
    ∃ t, exec .rthUpdate s = .next t ∧ t.rd A.thmPower = (divNear p.1 p.2).toNat % 2 ^ 32 ∧
      t.thm.tN = 0 ∧ t.thm.inN = 0 ∧ t.thm.pN = 0 ∧
      (¬formed → t.rdb A.thmRth 31 = false ∧ t.thm.cnt = 0 ∧ t.thm.clr = 0) ∧
      (formed → t.rdb A.thmRth 31 = true ∧ (0 ≤ v → v < 2 ^ 31 → t.rdf A.thmRth 0 31 = v.toNat) ∧
        (let beyond := s.cal.inUse.contains 4 = true ∧ ((s.calVal 4 0 4 * max 65 (s.rdf A.thmRthCfg 0 8) : Nat) : Int) < v * 64
         (beyond → t.thm.cnt = s.thm.cnt + 1 ∧ t.thm.clr = 0) ∧ (¬beyond → t.thm.cnt = 0 ∧ t.thm.clr = s.thm.clr + 1))) ∧
      OnlyChanges s t [.thm, .freeCnt] [A.thmPower, A.thmRth]) ∧
  (∀ (s : State) (src : Source), tbit (s.live src A.thmStat) 8 = !s.cal.inUse.contains 4) ∧
  ∀ s : State,
    let n := max 1 (s.rdf A.thmRthCfg 8 8) * 10
    let sets := s.rdb A.thmStat 4 = false ∧ n ≤ s.thm.cnt
    let clears := s.rdb A.thmStat 4 = true ∧ n ≤ s.thm.clr
    (¬sets → exec .coolingDegraded s = .next s) ∧
    (sets → ∃ t, exec .coolingDegraded s = .next t ∧ t.rd A.thmStat = putBit (s.rd A.thmStat) 4 true ∧ Raised s t 0x340000 10 ∧ Counted s t A.thmDegCnt ∧
      (s.fio.queue.length < 64 → ∃ m, t.fio.queue = s.fio.queue ++ [m] ∧ m.typ = 3 ∧ nth 0 m.payload 0 = 1) ∧
      OnlyChanges s t [.fio, .msix, .out] ([A.thmStat, 0x34001C, A.thmDegCnt] ++ fleetRegs)) ∧
    (¬clears → exec .degradedClear s = .next s) ∧
    (clears → ∃ t, exec .degradedClear s = .next t ∧ t.rd A.thmStat = putBit (s.rd A.thmStat) 4 false ∧
      (s.fio.queue.length < 64 → ∃ m, t.fio.queue = s.fio.queue ++ [m] ∧ m.typ = 3 ∧ nth 0 m.payload 0 = 0) ∧
      OnlyChanges s t [.fio, .msix, .out] (A.thmStat :: fleetRegs))

/-! ## Field I/O and management (chapter 18) -/

/-- LOOP_UPDATE, LOOP_FAULT, CLR_FAULT, GPIO_SET, GPIO_CLR, GPIO_EDGE, MDIO_GO and the SMBus commands (R422, R423, R425, R426, R428, R429,
R436, R437, R506, R507, R515).  An update takes the first target of R422 that applies, drives it by its trims, takes the mean of its ten
conversions across RSENSE as the current (a free value for an RSENSE of 0, log entry 21), counts a deviation above 200 µA or an unreached high
target, and sets HEADROOM and LOW_VLOOP.  Fifty such updates latch the fault, with the low failure signal as its target; CLR_FAULT clears it and restarts
the counts.  SET and CLR change the outputs they name; a level that has passed the filter is shown, and an edge that its pin enables is raised.  An output shows the level it drives.
SMBus transfers with a wrong command or count are not acknowledged, those with a failed code are counted, and READ and WRITE reach the register at the offset, which then advances by 4. -/
def Obligations.LoopsPinsAndSmbus : Prop :=
  (∀ (l : Fin 2) (s : State),
    let c := A.fioLCfg l.val
    let held := s.cal.inUse.contains 1 = false ∨ s.rdb c 0 = false ∨ s.enabled 0x350000 = false
    let forced := (s.rdb c 1 = true ∧ s.rdb A.thmStat 3 = true) ∨ (s.rdb c 2 = true ∧ s.rdb A.safStat 1 = false)
    (held → s.loopTarget l = (s.rdf (A.fioLFail l) 0 16, 0)) ∧
    (¬held → s.rdb (A.fioLStat l) 3 = true → s.loopTarget l = (s.rdf (A.fioLFail l) 0 16, 2)) ∧
    (¬held → s.rdb (A.fioLStat l) 3 = false → forced →
      s.loopTarget l = (if s.rdb c 3 then s.rdf (A.fioLFail l) 16 16 else s.rdf (A.fioLFail l) 0 16, 3)) ∧
    (¬held → s.rdb (A.fioLStat l) 3 = false → ¬forced → s.loopTarget l = (s.rdf (A.fioLCmd l) 0 15, 1))) ∧
  (∀ (s : State) (o : Nat) (na : Int),
    (s.cal.inUse.contains 1 = true → s.loopTrim o na = na * (s.calVal 1 o 4 : Nat) / (2 ^ 24 : Nat) + sgn 32 (s.calVal 1 (o + 4) 4)) ∧
    (s.cal.inUse.contains 1 = false → s.loopTrim o na = na)) ∧
  (∀ (l : Fin 2) (sense : List Nat) (volts : Nat) (full : Bool) (s : State), s.runs 58 = false → exec (.loopUpdate l sense volts full) s = .next s) ∧
  (∀ (l : Fin 2) (sense : List Nat) (volts : Nat) (full : Bool) (s : State), s.runs 58 = true → tbit (s.rd64 A.calPend) 1 = false →
    let target := (s.loopTarget l).1
    let rs := s.rdf (A.fioLCfg l) 8 8
    let act := s.loopAct l (if rs = 0 then (Config.freeValue 32 s.freeCnt).toNat else sense.sum / (10 * rs))
    let vloop := min 48000 volts
    let st := A.fioLStat l.val
    let vmin := s.rdf (A.fioLCfg l) 16 16
    ∃ t, exec (.loopUpdate l sense volts full) s = .next t ∧ t.rd (A.fioLTarget l) = target ∧ t.rd (A.fioLAct l) = act ∧
      t.rd (A.fioLVloop l) = vloop ∧ t.rdf st 0 2 = (s.loopTarget l).2 ∧
      (full = false → t.rdb st 2 = false) ∧ (full = true → act + 50 < target → t.rdb st 2 = true) ∧
      (full = true → target ≤ act + 50 → t.rdb st 2 = s.rdb st 2) ∧
      (vloop < vmin → t.rdb st 5 = true) ∧ (vmin + 500 < vloop → t.rdb st 5 = false) ∧
      (vmin ≤ vloop → vloop ≤ vmin + 500 → t.rdb st 5 = s.rdb st 5) ∧ t.rdb st 6 = !s.cal.inUse.contains 1 ∧
      t.rdb st 3 = s.rdb st 3 ∧ t.rdb st 4 = s.rdb st 4 ∧ t.rdf st 8 2 = s.rdf st 8 2 ∧
      t.fio = { s.fio with loops := upd (fun x => {
        devCnt := if target + 200 < act ∨ act + 200 < target then x.devCnt + 1 else 0
        hiCnt := if 21000 ≤ target ∧ t.rdb st 2 = true then x.hiCnt + 1 else 0
        drive := s.loopTrim (16 * l) ((1000 * target : Nat) : Int) }) s.fio.loops l } ∧
      (s.rdb st 2 = false → t.rdb st 2 = true → tbit (t.rd 0x35001C) (26 + l) = true) ∧
      (s.rdb st 5 = false → t.rdb st 5 = true → tbit (t.rd 0x35001C) 28 = true) ∧
      (rs ≠ 0 → t.freeCnt = s.freeCnt) ∧
      OnlyChanges s t [.fio, .msix, .out, .freeCnt] [st, A.fioLTarget l, A.fioLAct l, A.fioLVloop l, 0x35001C]) ∧
  (∀ (l : Fin 2) (s : State),
    let c := nth {} s.fio.loops l
    let st := A.fioLStat l.val
    let due := s.rdb st 3 = false ∧ (50 ≤ c.devCnt ∨ 50 ≤ c.hiCnt)
    let held := s.cal.inUse.contains 1 = false ∨ s.rdb (A.fioLCfg l.val) 0 = false ∨ s.enabled 0x350000 = false
    (¬due → exec (.loopFault l) s = .next s) ∧
    (due → ∃ t, exec (.loopFault l) s = .next t ∧ t.rdb st 3 = true ∧ t.rdf st 8 2 = (if 50 ≤ c.hiCnt then 2 else 1) ∧
      (held → t.rdf st 0 2 = 0) ∧ (¬held → t.rdf st 0 2 = 2) ∧
      t.rdb st 4 = (s.rdb st 4 || decide (s.rd (A.fioLAct l) < 100)) ∧ t.rd (A.fioLTarget l) = s.rdf (A.fioLFail l) 0 16 ∧
      tbit (t.rd 0x35001C) (24 + l) = true ∧ t.rdb 0x35000C 9 = true ∧ (s.rdb 0x35000C 9 = false → t.rd 0x35002C = 0x0100 ∧ t.rd 0x350030 = l) ∧
      OnlyChanges s t [.msix, .out] ([st, A.fioLTarget l] ++ errorRegs 0x350000))) ∧
  (∀ (src : Source) (l : Fin 2) (s : State), s.takes src (A.fioLCtrl l) →
    ∃ t, exec (.clrFault src l) s = .next t ∧ t.fio = { s.fio with loops := upd (fun x => { x with devCnt := 0, hiCnt := 0 }) s.fio.loops l } ∧
      t.rd (A.fioLStat l) = putBit (putBit (putFld (s.rd (A.fioLStat l)) 8 2 0) 3 false) 4 false ∧ OnlyChanges s t [.fio] [A.fioLStat l]) ∧
  (∀ (src : Source) (v : Nat) (s : State), s.takes src A.fioGpioSet →
    let drives := fun (t : State) => (s.enabled 0x350000 = false → t.out = s.out ∧ t.fio = s.fio) ∧
      (s.enabled 0x350000 = true → t.out = s.out ++ [.gpio (s.rd A.fioGpioDir) (t.rd A.fioGpioOut)] ∧
        t.fio = { s.fio with drv := (s.rd A.fioGpioDir, t.rd A.fioGpioOut) })
    (∃ t, exec (.gpioSet src v) s = .next t ∧ (∀ i, i < 16 → t.rdb A.fioGpioOut i = (s.rdb A.fioGpioOut i || tbit v i)) ∧ drives t ∧
      OnlyChanges s t [.fio, .out] [A.fioGpioOut]) ∧
    ∃ t, exec (.gpioClr src v) s = .next t ∧ (∀ i, i < 16 → t.rdb A.fioGpioOut i = (s.rdb A.fioGpioOut i && !tbit v i)) ∧ drives t ∧
      OnlyChanges s t [.fio, .out] [A.fioGpioOut]) ∧
  (∀ (n : Fin 16) (seen : Bool) (stood : Nat) (s : State),
    let level := if tbit s.fio.drv.1 n then tbit s.fio.drv.2 n else seen
    ((s.rdb A.fioGpioIn n = level ∨ stood < s.rdf A.fioGpioFilt 0 4) → exec (.gpioEdge n seen stood) s = .next s) ∧
    (s.rdb A.fioGpioIn n = !level → s.rdf A.fioGpioFilt 0 4 ≤ stood → ∃ t, exec (.gpioEdge n seen stood) s = .next t ∧ t.rd A.fioGpioIn = putBit (s.rd A.fioGpioIn) n level ∧
      t.fio = { s.fio with gpioMoved := true } ∧
      (s.rdb A.fioGpioEdge (if level then n.val else 16 + n.val) = true → Raised s t 0x350000 (8 + n)) ∧
      (s.rdb A.fioGpioEdge (if level then n.val else 16 + n.val) = false → t.rd 0x35001C = s.rd 0x35001C) ∧
      OnlyChanges s t [.fio, .msix, .out] [A.fioGpioIn, 0x35001C])) ∧
  (∀ (src : Source) (v answer : Nat) (s : State), s.takes src A.mgtMdio →
    ∃ t, exec (.mdioGo src v answer) s = .next (t.quietEdge 0x358000 true) ∧ t.rdb A.mgtMdio 31 = false ∧ t.rdf A.mgtMdio 16 11 = fld v 16 11 ∧
      t.rdf A.mgtMdio 0 16 = (if tbit v 26 then v else answer) % 2 ^ 16 ∧
      t.out = s.out ++ [.mdio (fld v 21 5) (fld v 16 5) (if tbit v 26 then some (v % 2 ^ 16) else none)] ∧ OnlyChanges s t [.out] [A.mgtMdio]) ∧
  (∀ (v count code : Nat) (pec : Bool) (s : State),
    let a := s.fio.smbAddr / 4 * 4
    let next := (s.fio.smbAddr + 4) % 2 ^ 32
    let fails := s.rdb A.mgtSmbCfg 1 = true ∧ pec = false
    let counted := fun c => ∃ t, exec c s = .next t ∧ Counted s t A.mgtSmbErr ∧ OnlyChanges s t [] [A.mgtSmbErr]
    let nacked := fun c => ∃ t, exec c s = .next t ∧ t.out = s.out ++ [.smbusNack] ∧ OnlyChanges s t [.out] []
    let own := BitVec.ofNat 8 (2 * (0x58 + s.rdf A.sysStraps 8 2))
    let returned := fun (head bs : List Byte) => Out.smbusData (if s.rdb A.mgtSmbCfg 1 then bs ++ [BitVec.ofNat 8 (smbPec (head ++ bs))] else bs)
    (code ≠ 1 → code ≠ 2 → code ≠ 3 → code ≠ 0x10 → nacked (.setAddr code v count pec)) ∧
    (code = 2 ∨ code = 3 ∨ code = 0x10 → exec (.setAddr code v count pec) s = .next s) ∧
    (count ≠ 4 → nacked (.setAddr 1 v count pec) ∧ nacked (.smbusRead count pec) ∧ nacked (.smbusWrite v count pec)) ∧
    (fails → counted (.setAddr 1 v 4 pec) ∧ counted (.smbusRead 4 pec) ∧ counted (.smbusWrite v 4 pec) ∧ counted (.smbusStatus pec)) ∧
    counted .smbusTimeout ∧
    (¬fails →
      (∃ t, exec (.setAddr 1 v 4 pec) s = .next t ∧ t.fio = { s.fio with smbAddr := v % 2 ^ 32 } ∧ OnlyChanges s t [.fio] []) ∧
      (∃ t, exec (.smbusStatus pec) s = .next t ∧ t.out = s.out ++ [returned [own, 0x10, own + 1] [BitVec.ofNat 8 s.smbStatus]] ∧
        t.fio = { s.fio with smbAlert := s.smbAlerts } ∧ OnlyChanges s t [.fio, .out] []) ∧
      (∀ r row d, pageRow a = some r → s.ready (pageBase a) = true → 0x40 ≤ a % 0x1000 → findRow (rowsOf r.kind) (a % 0x1000) = some (row, d) →
        row.wide = false → ∃ t, exec (.smbusRead 4 pec) s = .next t ∧
          t.out = s.out ++ [returned [own, 2, own + 1] (4#8 :: leBytes 4 (s.live .smbus a))] ∧
          t.fio = { s.fio with smbAddr := next } ∧ OnlyChanges s t [.fio, .out] [a]) ∧
      (s.fio.smbAddr < 2 ^ 26 → ∃ u, exec (.registerWrite .smbus a 15 v false) s = .next u ∧
        exec (.smbusWrite v 4 pec) s = .next { u with fio := { u.fio with smbAddr := (u.fio.smbAddr + 4) % 2 ^ 32 } } ∧
        ∀ r, pageRow a = some r → registerAt r (a % 0x1000) = true → s.rdb A.mgtSmbCfg 0 = false → findStage (pageBase a) .smbus s.staged = none →
          (∀ x ∈ s.waitIn, x.2.remote = false) → u = s.reject .smbus a))) ∧
  ∀ s : State,
    let asserted := s.fio.smbAlert = true ∨ s.smbAlerts = true
    let own := BitVec.ofNat 8 (2 * (0x58 + s.rdf A.sysStraps 8 2))
    (asserted → ∃ t, exec .alertResponse s = .next t ∧
      t.out = s.out ++ [.smbusData (if s.rdb A.mgtSmbCfg 1 then [own, BitVec.ofNat 8 (smbPec [0x19, own])] else [own])] ∧
      t.fio = { s.fio with smbAlert := true } ∧ OnlyChanges s t [.fio, .out] []) ∧
    (¬asserted → exec .alertResponse s = .next s)

/-- HEARTBEAT, MESSAGE_SEND, RETRANSMIT, FLEET_ACK, KEY_RELOAD, ARP_REQUEST, ICMP_ECHO, ARP_RETRY, ARP_REPLY, SGMII_LINK_CHANGE and
UNSUPPORTED_FRAME (R429 to R435).  A message is sent only while the page is enabled, the link is up, the destination is resolved and a key is
loaded; its header carries its type, length, SEQ and time, and its last 16 bytes authenticate it.  A heartbeat takes the next SEQ; the first
unsent message leaves, at most one a 10 µs; one without an ACK is sent again, after every waiting first send, or leaves the queue after
RETX_N sends; an ACK that verifies removes its message, any other is counted.  Messages wait while the port is quiesced (R52).  A frame of more
than 1,518 bytes, or under another tag than the port's, is dropped and counted (the model's choice in part, log entry 259). -/
def Obligations.FleetReportsAreSentAndAcknowledged : Prop :=
  (∀ s : State, s.mgtSends = true ↔ s.rdb 0x358008 0 = true ∧ s.rdb A.mgtStat 0 = true ∧ s.runs 49 = true ∧ s.rdb A.mgtStat 4 = true ∧ s.fio.key ≠ none) ∧
  (∀ (s : State) (m : FleetMsg) (retx : Bool) (k : List Byte), s.fio.key = some k →
    let d := s.datagramOf m retx
    let n := m.payload.length
    d.take 4 = [0x46, 0x52, 0x01, BitVec.ofNat 8 m.typ] ∧ (d.drop 4).take 2 = beBytes 2 n ∧ (d.drop 7).take 1 = [if retx then 1 else 0] ∧
      (d.drop 0x08).take 8 = beBytes 8 (s.rd64 A.calUid) ∧ (d.drop 0x10).take 8 = beBytes 8 (s.rd64 A.mgtNonce) ∧
      (d.drop 0x18).take 4 = beBytes 4 m.seq ∧ (d.drop 0x1C).take 4 = beBytes 4 (s.rd A.mgtKeyId) ∧ (d.drop 0x20).take 8 = beBytes 8 m.time ∧
      (d.drop 0x28).take n = m.payload ∧ d.drop (0x28 + n) = (hmac256 k (d.take (0x28 + n))).take 16) ∧
  (∀ s : State,
    let due := s.rdf A.mgtCfg 0 8 ≠ 0 ∧ s.quiesced 0x358000 = false ∧ s.fio.lastBeat + s.rdf A.mgtCfg 0 8 * 1000000000 ≤ s.now
    (¬due → exec .heartbeat s = .next s) ∧
    (due → s.mgtSends = false → ∃ t, exec .heartbeat s = .next t ∧ t.fio = { s.fio with lastBeat := s.now } ∧ OnlyChanges s t [.fio] []) ∧
    (due → s.mgtSends = true → ∃ t, exec .heartbeat s = .next t ∧
      t.out = s.out ++ [.datagram s.vlanTag (s.rd64 A.mgtMac % 2 ^ 48, s.fio.peerMac) (s.rd A.mgtIp, s.rd A.mgtDstIp) true (s.rd A.mgtPorts) (s.datagramOf { typ := 1, seq := s.rd A.mgtSeq, time := s.now, payload := s.heartbeatPayload } false)] ∧
      t.rd A.mgtSeq = (s.rd A.mgtSeq + 1) % 2 ^ 32 ∧ t.rd A.mgtTx = (s.rd A.mgtTx + 1) % 2 ^ 32 ∧
      t.fio = { s.fio with lastBeat := s.now, gpioMoved := false } ∧ OnlyChanges s t [.fio, .out] [A.mgtSeq, A.mgtTx])) ∧
  (∀ s : State,
    let b := s.busy 0x358000
    let may := s.mgtSends = true ∧ ∀ x, s.fio.lastFirst = some x → x + 10000 ≤ s.now
    ((¬may ∨ ∀ m ∈ s.fio.queue, m.sends ≠ 0 ∨ m.held = true) → exec .messageSend s = .next s) ∧
    ∀ (pre : List FleetMsg) (m : FleetMsg) (post : List FleetMsg), may → s.fio.queue = pre ++ m :: post → (∀ x ∈ pre, x.sends ≠ 0 ∨ x.held = true) → m.sends = 0 → m.held = false →
      ∃ t, exec .messageSend s = .next (t.quietEdge 0x358000 b) ∧ t.out = s.out ++ [.datagram s.vlanTag (s.rd64 A.mgtMac % 2 ^ 48, s.fio.peerMac) (s.rd A.mgtIp, s.rd A.mgtDstIp) true (s.rd A.mgtPorts) (s.datagramOf m false)] ∧ t.rd A.mgtTx = (s.rd A.mgtTx + 1) % 2 ^ 32 ∧
        (s.rdb A.mgtCfg 8 = true → t.fio.queue = pre ++ { m with sends := 1, lastSend := s.now } :: post) ∧
        (s.rdb A.mgtCfg 8 = false → (∀ x ∈ pre ++ post, x.seq ≠ m.seq) → t.fio.queue = pre ++ post) ∧
        t.fio = { s.fio with queue := t.fio.queue, lastFirst := some s.now } ∧ t.rdf A.mgtStat 8 7 = t.fio.queue.length % 128 ∧
        OnlyChanges s t [.fio, .out] [A.mgtTx, A.mgtStat]) ∧
  (∀ (seq : Nat) (s : State),
    (s.fio.queue.find? (fun m => m.seq = seq) = none → exec (.retransmit seq) s = .next s) ∧
    ∀ m, s.fio.queue.find? (fun m => m.seq = seq) = some m →
      let due := m.sends ≠ 0 ∧ m.lastSend + max 1 (s.rdf A.mgtCfg 16 8) * 1000000 ≤ s.now
      let n := max 1 (s.rdf A.mgtCfg 24 4)
      let free := s.mgtSends = true ∧ ∀ x ∈ s.fio.queue, x.sends ≠ 0 ∨ x.held = true
      (¬due → exec (.retransmit seq) s = .next s) ∧
      (due → n ≤ m.sends → ∃ t, exec (.retransmit seq) s = .next (t.quietEdge 0x358000 (s.busy 0x358000)) ∧
        t.fio = { s.fio with queue := s.fio.queue.filter (fun x => x.seq ≠ seq) } ∧ t.rdf A.mgtStat 8 7 = t.fio.queue.length % 128 ∧
        Counted s t A.mgtUnacked ∧ Raised s t 0x358000 10 ∧ OnlyChanges s t [.fio, .msix, .out] [A.mgtStat, A.mgtUnacked, 0x35801C]) ∧
      (due → m.sends < n → ¬free → exec (.retransmit seq) s = .next s) ∧
      (due → m.sends < n → free → ∃ t, exec (.retransmit seq) s = .next t ∧ t.out = s.out ++ [.datagram s.vlanTag (s.rd64 A.mgtMac % 2 ^ 48, s.fio.peerMac) (s.rd A.mgtIp, s.rd A.mgtDstIp) true (s.rd A.mgtPorts) (s.datagramOf m true)] ∧
        t.rd A.mgtTx = (s.rd A.mgtTx + 1) % 2 ^ 32 ∧
        t.fio = { s.fio with
          queue := s.fio.queue.map (fun x => if x.seq = seq then { x with sends := x.sends + 1, lastSend := s.now } else x) } ∧
        t.rdf A.mgtStat 8 7 = t.fio.queue.length % 128 ∧ OnlyChanges s t [.fio, .out] [A.mgtTx, A.mgtStat])) ∧
  (∀ (rx : Rx) (frm : Nat) (bytes : List Byte) (s : State),
    let c := Instr.fleetAck rx frm bytes
    let takes := 46 + bytes.length ≤ 1518 ∧ (rx.tag = none ∨ rx.tag = s.vlanTag)
    (¬takes → ∃ t, exec c s = .next t ∧ Counted s t A.mgtRxDrop ∧ OnlyChanges s t [] [A.mgtRxDrop]) ∧
    (takes → s.ackSeq frm bytes = none → ∃ t, exec c s = .next t ∧ Counted s t A.mgtAuthFail ∧ Raised s t 0x358000 11 ∧
      OnlyChanges s t [.msix, .out] [A.mgtAuthFail, 0x35801C]) ∧
    (∀ seq, takes → s.ackSeq frm bytes = some seq → ∃ t, exec c s = .next (t.quietEdge 0x358000 (s.busy 0x358000)) ∧
      t.fio = { s.fio with queue := s.fio.queue.filter (fun x => x.seq ≠ seq) } ∧ t.rdf A.mgtStat 8 7 = t.fio.queue.length % 128 ∧
      OnlyChanges s t [.fio] [A.mgtStat]) ∧
    (s.fio.key = none → s.ackSeq frm bytes = none) ∧
    ∀ (seq : Nat) (k : List Byte), s.ackSeq frm bytes = some seq → s.fio.key = some k →
      bytes.drop 48 = (hmac256 k (bytes.take 48)).take 16 ∧ frm = s.rd A.mgtDstIp ∧ bytes.length = 64 ∧
        leNat ((bytes.drop 8).take 8).reverse = s.rd64 A.calUid ∧ leNat ((bytes.drop 0x10).take 8).reverse = s.rd64 A.mgtNonce) ∧
  (∀ (src : Source) (s : State), s.takes src A.mgtCtrl →
    (s.sealState ≠ 0 → ∃ t, exec (.keyReload src) s = .next t ∧ t.fio.key = s.fio.key ∧ Counted s t A.safWarnCnt ∧
      OnlyChanges s t [.saf, .fio, .msix, .out] safLogRegs) ∧
    (s.sealState = 0 →
      let rec_ := s.readMem 0x0108000000 0x40
      let good := wordsIn s.spd.ue 0x0108000000 0x40 = [] ∧ keyRecordOk rec_ = true
      ∃ t, exec (.keyReload src) s = .next t ∧
        (good → t.fio = { s.fio with key := some (rec_.take 32) } ∧ t.rd A.mgtKeyId = leNat ((rec_.drop 0x20).take 4) ∧
          t.rdb A.mgtStat 3 = false ∧ Raised s t 0x358000 12) ∧
        (¬good → t.fio = { s.fio with key := none } ∧ t.rdb 0x35800C 9 = true ∧
          (s.rdb 0x35800C 9 = false → t.rd 0x35802C = 0x0100 ∧ t.rd 0x358030 = 0)) ∧
        OnlyChanges s t [.spd, .fio, .msix, .out] ([A.mgtKeyId, A.mgtStat] ++ errorRegs 0x358000 ++ ueRegs))) ∧
  (∀ (rx : Rx) (frm ip : Nat) (data : List Byte) (s : State),
    let up := s.rdb 0x358008 0 = true ∧ s.rdb A.mgtStat 0 = true ∧ s.runs 49 = true
    let tag := if s.rdb A.mgtNetCfg 12 then some (s.rdf A.mgtNetCfg 0 12) else none
    let own := (s.rd64 A.mgtMac % 2 ^ 48, s.rd A.mgtIp)
    let hop := if s.rd A.mgtGw = 0 ∨ (s.rd A.mgtDstIp &&& s.rd A.mgtMask) = (s.rd A.mgtIp &&& s.rd A.mgtMask) then s.rd A.mgtDstIp else s.rd A.mgtGw
    let tagged := rx.tag = none ∨ rx.tag = tag
    let sends := fun c (o : Out) => ∃ t, exec c s = .next t ∧ t.out = s.out ++ [o] ∧ OnlyChanges s t [.out] []
    let drops := fun c => ∃ t, exec c s = .next t ∧ Counted s t A.mgtRxDrop ∧ OnlyChanges s t [] [A.mgtRxDrop]
    s.vlanTag = tag ∧
    (up → ip = s.rd A.mgtIp →
      (tagged → sends (.arpRequest rx frm ip) (.arpAnswer tag own (rx.mac, frm))) ∧ (¬tagged → drops (.arpRequest rx frm ip)) ∧
      (tagged → 46 + data.length ≤ 1518 → sends (.icmpEcho rx frm ip data) (.icmpReply tag own (rx.mac, frm) data)) ∧
      (¬(tagged ∧ 46 + data.length ≤ 1518) → drops (.icmpEcho rx frm ip data))) ∧
    (¬(up ∧ ip = s.rd A.mgtIp) → exec (.arpRequest rx frm ip) s = .next s ∧ exec (.icmpEcho rx frm ip data) s = .next s) ∧
    (up → s.rdb A.mgtStat 4 = false → sends .arpRetry (.arpAsk tag own hop)) ∧
    (¬(up ∧ s.rdb A.mgtStat 4 = false) → exec .arpRetry s = .next s) ∧
    (ip = hop → tagged → ∃ t, exec (.arpReply rx ip) s = .next t ∧ t.rd A.mgtStat = putBit (s.rd A.mgtStat) 4 true ∧
      t.fio = { s.fio with peerMac := rx.mac } ∧ OnlyChanges s t [.fio] [A.mgtStat]) ∧
    (ip = hop → ¬tagged → drops (.arpReply rx ip)) ∧
    (ip ≠ hop → exec (.arpReply rx ip) s = .next s)) ∧
  (∀ (up : Bool) (speed : Nat) (s : State), ∃ t, exec (.sgmiiLinkChange up speed) s = .next t ∧ t.rdb A.mgtStat 0 = up ∧
    t.rdf A.mgtStat 1 2 = speed % 4 ∧ t.rdf A.mgtStat 3 29 = s.rdf A.mgtStat 3 29 ∧ Raised s t 0x358000 8 ∧
    OnlyChanges s t [.msix, .out] [A.mgtStat, 0x35801C]) ∧
  ∀ s : State, ∃ t, exec .unsupportedFrame s = .next t ∧ Counted s t A.mgtRxDrop ∧ OnlyChanges s t [] [A.mgtRxDrop]

/-! ## Security and life cycle (chapter 19) -/

/-- What an OTP_WRITE, an LC_ADVANCE, an IMPORT, a SEAL, an UNSEAL, an SVN_COMMIT and the boot of an image check and do: BOOT_DONE,
LC_ADVANCE, SEC_IMPORT, SEC_SEAL, SEC_UNSEAL, OTP_WRITE, SVN_COMMIT, HU_TEST and SEC_COMMAND_DONE (R440 to R449, R451, R452, R459).  One
command runs at a time, another ends with BUSY, and one that a page held back is given waits; a command is checked as it starts and takes effect as it completes, when its result is shown
and a failure is logged and recorded; while the clock of the crypto unit or of its memory stands none completes (R470); an RMA return that was
asked for takes a new nonce, a free value, as it ends.  Boot runs the slot with the higher SVN whose checks all pass, else the other one, else none. -/
def Obligations.BootLifeCycleAndSecurityCommands : Prop :=
  (∀ (src : Source) (key : Nat) (c : Instr) (op k : Nat) (s : State), s.takes src A.secCmd → s.Inv → s.pageOpen 0x360000 = false →
    (c, op, k) ∈ [(Instr.lcAdvance src key, 1, key % 2 ^ 16), (.secImport src, 2, 0), (.secSeal src, 3, 0), (.secUnseal src, 4, 0),
      (.otpWrite src key, 5, key % 2 ^ 16), (.svnCommit src, 6, 0), (.huTest src, 7, 0)] →
    ∃ t, exec c s = .next t ∧ t.waitIn = s.waitIn ++ [(0x360000, .sec (op + k * 2 ^ 16))] ∧ OnlyChanges s t [.waitIn] []) ∧
  (∀ (src : Source) (key : Nat) (c : Instr) (op k : Nat) (s : State), s.takes src A.secCmd → s.Inv → s.pageOpen 0x360000 = true →
    (c, op, k) ∈ [(Instr.lcAdvance src key, 1, key % 2 ^ 16), (.secImport src, 2, 0), (.secSeal src, 3, 0), (.secUnseal src, 4, 0),
      (.otpWrite src key, 5, key % 2 ^ 16), (.svnCommit src, 6, 0), (.huTest src, 7, 0)] →
    (s.sec.run.isSome → ∃ t, exec c s = .next t ∧ t.sec.run = s.sec.run ∧ t.rdf A.secCmdStat 0 4 = 6 ∧ tbit (t.rd 0x36001C) 8 = true ∧
      t.rdb 0x36000C 9 = true ∧ (s.rdb 0x36000C 9 = false → t.rd 0x36002C = 0x0100 ∧ t.rd 0x360030 = 6 + op * 2 ^ 8) ∧
      OnlyChanges s t [.sec, .msix, .out] (A.secCmdStat :: errorRegs 0x360000 ++ secLogRegs)) ∧
    (s.sec.run = none → ∀ (r f : Nat) (d : List Byte) (u : State), s.secCheck op k = ((r, f, d), u) →
      let run : SecRun := { op := op, result := r, arg0 := f, arg1 := s.rd A.secArg1, addr := s.rd64 A.secXferAddr % 2 ^ 48, data := d }
      let soon := u.sec.test.isSome ∨ ∃ x, u.sec.testEnd = some x ∧ u.now < x + 10000000
      ∃ t, exec c s = .next t ∧ t.rd A.secCmdStat = 2 ^ 4 + op * 2 ^ 8 ∧
        ((op ≠ 7 ∨ r ≠ 0) → t.sec = { u.sec with run := some run } ∧ OnlyChanges u t [.sec, .pwr] [A.secCmdStat]) ∧
        (op = 7 → r = 0 → soon → t.sec = { u.sec with run := some run, deferred := true } ∧ OnlyChanges u t [.sec, .pwr] [A.secCmdStat]) ∧
        (op = 7 → r = 0 → ¬soon → t.sec = { u.sec with run := some run, test := some u.now, deferred := false } ∧
          t.rd A.secHuStat = putBit (putBit (u.rd A.secHuStat) 3 true) 5 false ∧ OnlyChanges u t [.sec, .pwr] [A.secCmdStat, A.secHuStat]))) ∧
  (∀ (s : State) (k n : Nat),
    let code := fun op => (s.secCheck op k).1.1
    (k ≠ 0x7A5E → code 1 = 2 ∧ code 5 = 2) ∧
    (s.lcMay n = true ↔ s.sec.lc = 0 ∧ n = 1 ∧ (nth none s.sec.keyHash 0).isSome = true ∨ s.sec.lc = 1 ∧ (n = 2 ∨ n = 3) ∨ s.sec.lc = 2 ∧ n = 3 ∨
      s.sec.lc ≠ 4 ∧ n = 4) ∧
    (k = 0x7A5E → s.lcMay (s.rd A.secArg0) = false → code 1 = 1) ∧
    (k = 0x7A5E → s.lcMay (s.rd A.secArg0) = true → s.rd A.secArg0 ≠ 3 → code 1 = 0) ∧
    (k = 0x7A5E → s.rd A.secArg0 = 3 → s.lcMay 3 = true → code 1 = (s.tokenCheck (s.rd64 A.secXferAddr % 2 ^ 48)).1) ∧
    (s.sec.lc ≠ 1 → s.sec.lc ≠ 2 → code 2 = 1) ∧ (s.sec.lc = 4 → code 3 = 1 ∧ code 4 = 1 ∧ code 6 = 1) ∧ (s.sec.lc = 0 → code 6 = 1) ∧
    (s.sec.lc = 1 ∨ s.sec.lc = 2 → s.sealState ≠ 0 → code 2 = 5 ∧ code 3 = 5 ∧ code 4 = 5) ∧
    (s.sec.lc = 1 ∨ s.sec.lc = 2 ∨ s.sec.lc = 3 → code 6 = 0) ∧ (code 7 = 0 ↔ s.sealState = 0 ∨ s.sealState = 1)) ∧
  (∀ (s : State) (a : Nat), (s.tokenCheck a).1 = 0 →
    let b := s.readMem a 176
    a % 64 = 0 ∧ uWord b 0 % 2 ^ 16 = 0x5254 ∧ (b.drop 8).take 8 = s.uidBytes ∧ leNat ((b.drop 0x10).take 8) = s.rd64 A.secNonce ∧
      ∃ key, s.slotKey (leNat ((b.drop 0x18).take 1)) = some key ∧ ecdsaOk key (b.take 0x50) ((b.drop 0x50).take 96) = true) ∧
  (∀ (s u : State) (a off : Nat) (blob : Bool) (d : List Byte), s.readRecord a blob = ((0, off, d), u) →
    let h := s.readMem a 64
    let c := s.readMem (a + 64) (uWord h 8)
    let wrap := tbit (uWord h 0) 24
    a % 64 = 0 ∧ off = uWord h 4 ∧ uWord h 0 % 2 ^ 16 = (if blob then 0x5342 else 0x5349) ∧ off % 8 = 0 ∧ off + uWord h 8 ≤ 2 ^ 22 ∧
      (blob = false → wrap = false → s.sec.lc = 1 ∧ d = c) ∧
      ((blob = true ∨ wrap = true) → (h.drop 0x10).take 8 = s.uidBytes ∧
        ∃ k, (if blob then some s.sealKey else s.sec.otk) = some k ∧ gcmTag k ((h.drop 0x18).take 12) (h.take 0x30) c = (h.drop 0x30).take 16 ∧
          d = gcmCrypt k ((h.drop 0x18).take 12) c)) ∧
  (∀ (bad : Bool) (s : State),
    (s.sec.run = none → exec (.secCommandDone bad) s = .next s) ∧
    (∀ r, s.sec.run = some r → s.runs 59 = false ∨ s.memRuns r.addr 64 = false → exec (.secCommandDone bad) s = .next s) ∧
    ∀ (r : SecRun) (res : Nat) (v : State), s.sec.run = some r → r.op < 8 → r.result < 8 → s.runs 59 = true → s.memRuns r.addr 64 = true →
      (res, v) = (if r.result = 0 then ({ s with sec := { s.sec with run := none } } : State).secEffect r bad
        else (r.result, { s with sec := { s.sec with run := none } })) →
      ∃ u : State, (¬(r.op = 1 ∧ r.arg0 = 3) → u = v) ∧
      (r.op = 1 → r.arg0 = 3 → u.rd64 A.secNonce = (Config.freeValue 64 v.freeCnt).toNat ∧ OnlyChanges v u [.freeCnt] [A.secNonce, A.secNonce + 4]) ∧
      (res = 0 → ∃ t, exec (.secCommandDone bad) s = .next (t.quietEdge 0x360000 true) ∧ t.rd A.secCmdStat = r.op * 2 ^ 8 ∧ Raised u t 0x360000 8 ∧
        OnlyChanges u t [.msix, .out] [A.secCmdStat, 0x36001C]) ∧
      (res ≠ 0 → ∃ t, exec (.secCommandDone bad) s = .next (t.quietEdge 0x360000 true) ∧ t.rd A.secCmdStat = res + r.op * 2 ^ 8 ∧ tbit (t.rd 0x36001C) 8 = true ∧
        t.rdb 0x36000C 9 = true ∧ (u.rdb 0x36000C 9 = false → t.rd 0x36002C = if res = 8 then 0x0102 else 0x0100) ∧
        OnlyChanges u t [.sec, .msix, .out] (A.secCmdStat :: errorRegs 0x360000 ++ secLogRegs))) ∧
  (∀ (r : SecRun) (bad : Bool) (s : State),
    let x := s.secEffect r bad
    let pound := 0x0108000000 + r.arg0
    let clean := s.spd.ue = []
    (r.op = 1 → bad = true → x = (8, s)) ∧
    (r.op = 1 → bad = false → x.1 = 0 ∧ x.2.sec.lc = r.arg0 ∧ x.2.sealState = 2 ∧ (s.sealState ≠ 2 → x.2.rd A.spdSealCause = 5) ∧
      (r.arg0 = 4 → x.2.rdb A.spdSealStat 4 = true) ∧
      OnlyChanges s x.2 [.spd, .fio, .sec, .pwr, .msix, .out] ([A.spdSealStat, A.spdSealCause, A.spdSealT, A.spdSealT + 4, A.spdSealMerged, A.mgtStat,
        0x35801C, 0x30101C] ++ secLogRegs)) ∧
    ((r.op = 2 ∨ r.op = 3 ∨ r.op = 4) → s.sealState ≠ 0 → x = (5, s)) ∧
    ((r.op = 2 ∨ r.op = 4) → s.sealState = 0 → clean → x.1 = 0 ∧ x.2.readMem pound r.data.length = r.data ∧
      MemOnlyIn s x.2 pound (pound + r.data.length) ∧ OnlyChanges s x.2 [.mem, .spd] []) ∧
    (r.op = 3 → s.sealState = 0 → clean →
      let b := s.blob r.arg0 r.arg1 (leBytes 12 (Config.freeValue 96 s.freeCnt).toNat)
      x.1 = 0 ∧ x.2.readMem r.addr b.length = b ∧ MemOnlyIn s x.2 r.addr (r.addr + b.length) ∧
        OnlyChanges s x.2 [.mem, .spd, .freeCnt] [A.spdCeCnt]) ∧
    (r.op = 5 → x.1 = (if bad then 8 else 0)) ∧
    (r.op = 5 → bad = false → OnlyChanges s x.2 [.sec] [] ∧
      (r.arg0 = 1 → r.data.length = 48 → x.2.sec = { s.sec with keyHash := upd (fun _ => some r.data) s.sec.keyHash (r.arg1 % 4) }) ∧
      (r.arg0 = 2 → x.2.sec = { s.sec with revoke := s.sec.revoke ||| r.arg1 % 16 }) ∧ (r.arg0 = 3 → x.2.sec = { s.sec with strict := true }) ∧
      (r.arg0 = 4 → r.data.length = 32 → x.2.sec = { s.sec with otk := some r.data })) ∧
    (r.op = 6 → bad = false → x.1 = 0 ∧ OnlyChanges s x.2 [.sec] [] ∧
      ∀ i, s.sec.image = some i → x.2.sec = { s.sec with svnMin := max s.sec.svnMin (min 64 i.svn) }) ∧
    (r.op = 7 → x = (0, s))) ∧
  (∀ (s : State) (bs : List Byte), s.bootCheck none = 2 ∧ (s.bootCheck (some bs) = 0 →
    imgField bs 0 2 = 0x4249 ∧ imgField bs 2 1 = 1 ∧ s.sec.svnMin ≤ imgField bs 3 1 ∧
      ecdsaOk ((bs.drop 0x40).take 96) (bs.take 0xA0 ++ (bs.drop 0x100).take (imgField bs 8 4 + imgField bs 12 4)) ((bs.drop 0xA0).take 96) = true ∧
      (s.sec.lc ≠ 0 → tbit s.sec.revoke (imgField bs 4 1) = false ∧
        nth none s.sec.keyHash (imgField bs 4 1) = some (sha384 ((bs.drop 0x40).take 96))))) ∧
  ∀ (a b : Option (List Byte)) (mooring : Nat) (s : State),
    let svn := fun (x : Option (List Byte)) => match x with | some bs => imgField bs 3 1 | none => 0
    let ca := s.bootCheck a
    let cb := s.bootCheck b
    let runs := s.ready 0x360000 = true ∧ s.runs 59 = true ∧ s.rdf A.secBoot 0 2 = 0
    let eng := fun (bs : List Byte) => (bs.drop (0x100 + imgField bs 8 4)).take (imgField bs 12 4)
    let boots := fun (slot fa fb : Nat) (bs : List Byte) => ∃ t, exec (.bootDone a b mooring) s = .next t ∧
      t.rd A.secBoot = 1 + slot * 4 + imgField bs 4 1 % 4 * 16 + fa * 2 ^ 8 + fb * 2 ^ 12 + imgField bs 3 1 * 2 ^ 16 ∧
      t.sec.image = some ⟨imgField bs 4 1, imgField bs 3 1, (bs.drop 0x40).take 96, (bs.drop 0x100).take (imgField bs 8 4)⟩ ∧
      t.dsp = { s.dsp with store := Memory.write s.dsp.store 0xC0000 (eng bs) } ∧
      t.rd A.spdSealStat = (if s.sec.lc = 4 then s.rd A.spdSealStat else putBit (s.rd A.spdSealStat) 4 false) ∧
      tbit (t.rd 0x36001C) 13 = true ∧ (∀ p ∈ typePages 0x0B ++ typePages 0x0F, t.ready p = true) ∧
      OnlyChanges s t [.dsp, .sec, .msix, .out] ([A.secBoot, A.spdSealStat, A.dspBCfg 31, A.rstReadyUs] ++ secLogRegs ++
        (typePages 0x0B ++ typePages 0x0F).flatMap (fun p => [p + 0xC, p + 0x1C]))
    (¬runs → exec (.bootDone a b mooring) s = .next s) ∧
    (runs → ca ≠ 0 → cb ≠ 0 → ∃ t, exec (.bootDone a b mooring) s = .next t ∧ t.rd A.secBoot = 2 + ca * 2 ^ 8 + cb * 2 ^ 12 ∧
      t.rdb 0x36000C 9 = true ∧ (s.rdb 0x36000C 9 = false → t.rd 0x36002C = 0x0101 ∧ t.rd 0x360030 = 0) ∧
      OnlyChanges s t [.sec, .msix, .out] (A.secBoot :: errorRegs 0x360000 ++ secLogRegs)) ∧
    (∀ bs, a = some bs → runs → ca = 0 → (svn b ≤ svn a ∨ cb ≠ 0) → boots 0 0 (if svn a < svn b then cb else 0) bs) ∧
    ∀ bs, b = some bs → runs → cb = 0 → (svn a < svn b ∨ ca ≠ 0) → boots 1 (if svn a < svn b then 0 else ca) 0 bs

/-- TAMPER, HOLDUP_JUDGEMENT, TEST_DISCHARGE_START, TEST_DISCHARGE_DECISION and POWER_LOSS (R450, R453, R455 to R458).  A tamper event is
shown, counted and logged, and outside BLANK it wipes the pound; a condition that comes or goes is shown.  The gauges are judged; the first disagreement over an open or locked pound
locks it and starts a test discharge, or under STRICT wipes it; two EMPTY gauges set LOW and start the test without locking.  A confirmed test
clears DISAGREE, LOW and the HOLDUP lock reason, another one wipes; no second test starts within 10 ms.  A supply failure wipes.  The charge loses
its leakage and what a running test draws.  A wipe cause ends a running IMPORT, SEAL or UNSEAL with SEALED (R459). -/
def Obligations.TamperAndHoldupWipeThePound : Prop :=
  let wipeRegs := [A.spdSealStat, A.spdSealCause, A.spdSealT, A.spdSealT + 4, A.spdSealMerged, A.mgtStat, 0x35801C, 0x30101C] ++ secLogRegs
  (∀ (src : Fin 4) (live : Bool) (s : State), ∃ t, exec (.tamperEvent src false live) s = .next t ∧
    t.rd A.secTamper = putBit (s.rd A.secTamper) (4 + src) live ∧ OnlyChanges s t [] [A.secTamper]) ∧
  (∀ (src : Fin 4) (live : Bool) (s : State), ∃ t, exec (.tamperEvent src true live) s = .next t ∧ t.rdb A.secTamper src = true ∧
    t.rdb A.secTamper (4 + src) = live ∧ t.rdf A.secTamperCnt (8 * src) 8 = min 0xFF (s.rdf A.secTamperCnt (8 * src) 8 + 1) ∧
    tbit (t.rd 0x36001C) 9 = true ∧
    (s.sec.lc = 0 → OnlyChanges s t [.sec, .msix, .out] ([A.secTamper, A.secTamperCnt] ++ secLogRegs)) ∧
    (s.sec.lc ≠ 0 → t.sealState = 2 ∧ (s.sealState ≠ 2 → t.rd A.spdSealCause = src + 1 ∧ t.fio.key = none) ∧
      (s.sealState = 2 → Counted s t A.spdSealMerged ∧ t.rd A.spdSealCause = s.rd A.spdSealCause)) ∧
    OnlyChanges s t [.spd, .fio, .sec, .pwr, .msix, .out] ([A.secTamper, A.secTamperCnt] ++ wipeRegs)) ∧
  (∀ s : State, ∃ t, exec .powerLoss s = .next t ∧ t.sealState = 2 ∧
    t.sec.run = s.sec.run.map (fun r => if 2 ≤ r.op ∧ r.op ≤ 4 ∧ r.result = 0 then { r with result := 5 } else r) ∧
    (s.sealState ≠ 2 → t.rd A.spdSealCause = 8 ∧ t.fio.key = none ∧ t.spd = { s.spd with wipe := some { start := s.now, retry := false } } ∧
      Raised s t 0x301000 8) ∧
    (s.sealState = 2 → Counted s t A.spdSealMerged ∧ OnlyChanges s t [.sec] [A.spdSealMerged]) ∧
    OnlyChanges s t [.spd, .fio, .sec, .pwr, .msix, .out] wipeRegs) ∧
  (∀ (v fc : Nat) (s : State),
    let c : Int := max 1 (s.rdf A.secHuCfg 0 16)
    let q : Int := s.chargeNow fc
    let drawn := fun t => match s.sec.test with | some t0 => min (t - t0) 250000 * 20000 | none => 0
    s.chargeNow fc = s.sec.charge + fc - s.rdf A.secHuCfg 16 16 * (s.now - s.sec.chargeAt) - (drawn s.now - drawn s.sec.chargeAt) ∧
    let least : Int := max 400 (s.rdf A.secHuEmin 0 16)
    (s.enough (s.eV v) = true ↔ 2000000 * least ≤ c * (v * v - 1600 * 1600)) ∧
    (s.enough (s.eCC (s.chargeNow fc)) = true ↔ 2000000000000000000 * c * least ≤ q * q - c * c * 2560000000000000000)) ∧
  (∀ (v fc : Nat) (s : State),
    let q := s.chargeNow fc
    let vOk := s.enough (s.eV v)
    let cOk := s.enough (s.eCC q)
    let judged := s.sealState = 0 ∨ s.sealState = 1
    let first := judged ∧ cOk ≠ vOk ∧ s.sec.disNow = false
    let low := judged ∧ cOk = false ∧ vOk = false ∧ s.rdb A.secHuStat 4 = false
    let soon := s.sec.test.isSome ∨ ∃ x, s.sec.testEnd = some x ∧ s.now < x + 10000000
    let shown := [A.secHuV, A.secHuE, A.secHuStat]
    ∃ t, exec (.holdupJudgement v fc) s = .next t ∧ t.rd A.secHuV = v % 2 ^ 16 ∧ t.rdf A.secHuE 0 16 = microJ (s.eCC q) ∧
      t.rdf A.secHuE 16 16 = microJ (s.eV v) ∧ t.rdb A.secHuStat 0 = cOk ∧ t.rdb A.secHuStat 1 = vOk ∧ t.sec.charge = q ∧ t.sec.chargeAt = s.now ∧
      (t.sec.disNow = true ↔ judged ∧ cOk ≠ vOk) ∧
      (¬first → ¬low → OnlyChanges s t [.sec] shown) ∧
      (first → s.sec.strict = true → t.sealState = 2 ∧ t.rd A.spdSealCause = 7 ∧ t.sec.test = s.sec.test ∧
        OnlyChanges s t [.spd, .fio, .sec, .pwr, .msix, .out] (shown ++ wipeRegs)) ∧
      (first → s.sec.strict = false → t.rdb A.spdSealStat 5 = true ∧ t.sealState = 1 ∧ t.rdb A.secHuStat 2 = true ∧ Counted s t A.secHuDisCnt ∧
        tbit (t.rd 0x36001C) 10 = true ∧ (s.sealState = 0 → t.fio.key = none) ∧
        OnlyChanges s t [.fio, .sec, .msix, .out] (shown ++ [A.spdSealStat, A.mgtStat, 0x35801C, A.secHuDisCnt] ++ secLogRegs)) ∧
      (low → t.rdb A.secHuStat 4 = true ∧ tbit (t.rd 0x36001C) 10 = true ∧ OnlyChanges s t [.sec, .msix, .out] (shown ++ secLogRegs)) ∧
      ((first ∧ s.sec.strict = false ∨ low) →
        (soon → t.sec.test = s.sec.test ∧ t.sec.deferred = true) ∧
        (¬soon → t.sec.test = some s.now ∧ t.sec.deferred = false ∧ t.rdb A.secHuStat 3 = true))) ∧
  (∀ s : State,
    let due := s.sec.deferred = true ∧ s.sec.test = none ∧ ∀ x, s.sec.testEnd = some x → x + 10000000 ≤ s.now
    (¬due → exec .testDischargeStart s = .next s) ∧
    (due → ∃ t, exec .testDischargeStart s = .next t ∧ t.sec = { s.sec with test := some s.now, deferred := false } ∧
      t.rd A.secHuStat = putBit (putBit (s.rd A.secHuStat) 3 true) 5 false ∧ OnlyChanges s t [.sec] [A.secHuStat])) ∧
  ∀ (before after : Nat) (s : State),
    let d := before - after
    let c := max 1 (s.rdf A.secHuCfg 0 16)
    let near := 3 * c * d ≤ 200000 ∧ 200000 ≤ 5 * c * d
    let good := near ∧ ((max 400 (s.rdf A.secHuEmin 0 16) * (4000 * d) : Nat) : Int) ≤ (after : Int) * after - 16000 * 16000
    (s.sec.test = none → exec (.testDischargeDecision before after) s = .next s) ∧
    (s.sec.test.isSome → ∃ t, exec (.testDischargeDecision before after) s = .next t ∧ t.sec.test = none ∧ t.sec.testEnd = some s.now ∧
      t.rdb A.secHuStat 3 = false ∧ tbit (t.rd 0x36001C) 11 = true ∧ t.rdb A.spdSealStat 5 = false ∧
      t.rdf A.secHuTest 0 16 = (if d = 0 then 0xFFFF else (min 0xFFFF (divNear 50000 d)).toNat) ∧
      (good → t.rdb A.secHuStat 6 = true ∧ t.rdb A.secHuStat 2 = false ∧ t.rdb A.secHuStat 4 = false ∧
        t.rdf A.secHuE 0 16 = t.rdf A.secHuTest 16 16 ∧
        (s.sealState = 1 → s.rdb A.spdSealStat 4 = false → s.rdb A.spdSealStat 6 = false → t.sealState = 0) ∧
        ((s.sealState ≠ 1 ∨ s.rdb A.spdSealStat 4 = true ∨ s.rdb A.spdSealStat 6 = true) → t.sealState = s.sealState) ∧
        OnlyChanges s t [.spd, .fio, .sec, .msix, .out] ([A.secHuTest, A.secHuStat, A.secHuE, A.spdSealStat, A.mgtKeyId, A.mgtStat] ++
          errorRegs 0x358000 ++ ueRegs ++ secLogRegs)) ∧
      (¬good → t.rdb A.secHuStat 6 = false ∧ t.sealState = 2 ∧ (s.sealState ≠ 2 → t.rd A.spdSealCause = 6) ∧
        (¬near → t.sec.charge = 0) ∧ (near → t.sec.charge = c * after * 100000) ∧
        OnlyChanges s t [.spd, .fio, .sec, .pwr, .msix, .out] ([A.secHuTest, A.secHuStat] ++ wipeRegs)))

/-! ## Power, clocks and reset (chapter 20) -/

/-- POWER_ON, BROWNOUT, RAIL_OUT_OF_TOLERANCE, RAIL_RETURN, RAIL_TELEMETRY, FULL_RST_N, SYS_RESET, FULL_RESET_RELEASE, PLL_LOST, REF_LOST,
REFCLK_RETURN and WEDGE (R466, R467, R470 to R474, R476).  A rail out of tolerance is shown and raised; the measurement fills its registers.  A
lost PLL is recorded, and what it clocks stops or takes its own path; a domain whose pages are all disabled and idle is gated (log entry 223).  A full reset needs its key, wipes the pound, keeps HBM and clears
registers and blocks as Table PWR-6 says; a brown-out clears memory too, after the tamper event and the wipe
that its rail sets going.  Release waits its time, for REFCLK and,
from power-on, for all rails in tolerance for 2 ms and TEST_EN low (R492), restarts W64, samples the
straps, takes an array without its die's record out of service and draws new nonces (free values, log entry 179).  While a reset holds the device its
pins stand as Table PKG-9 says (R494).  A page quiesced and busy too long is a wedge candidate. -/
def Obligations.PowerClocksAndResets : Prop :=
  let allGood := fun (t : State) => t.rdb A.pwrStat 0 = true ↔ ∀ k, k < 13 → t.rdf (A.pwrRFlags k) 0 2 = 0
  (∀ (r : Fin 13) (s : State),
    (s.pwr.held ≠ none → ∀ high, ∃ t, exec (.railOutOfTolerance r high) s = .next t ∧ t.rdf (A.pwrRFlags r) 0 2 = (if high then 2 else 1) ∧
      t.rdb A.pwrStat 0 = false ∧ OnlyChanges s t [] [A.pwrRFlags r, A.pwrStat]) ∧
    (s.pwr.held = none → ∀ high, ∃ t, exec (.railOutOfTolerance r high) s = .next t ∧ t.rdf (A.pwrRFlags r) 0 2 = (if high then 2 else 1) ∧ t.rdb A.pwrStat 0 = false ∧
      t.rdb 0x100C 9 = true ∧ (s.rdb 0x100C 9 = false → t.rd 0x102C = 0x0100 ∧ t.rd 0x1030 = r) ∧ tbit (t.rd 0x101C) 8 = true ∧
      OnlyChanges s t [.msix, .out] ([A.pwrRFlags r, A.pwrStat] ++ errorRegs 0x1000)) ∧
    ∃ t, exec (.railReturn r) s = .next t ∧ t.rdf (A.pwrRFlags r) 0 2 = 0 ∧ t.rdb (A.pwrRFlags r) 2 = s.rdb (A.pwrRFlags r) 2 ∧ allGood t ∧
      t.pwr = { s.pwr with goodAt := s.itime } ∧ OnlyChanges s t [.pwr] [A.pwrRFlags r, A.pwrStat]) ∧
  (∀ (v cur : List Nat) (s : State),
    let uw := ((rangeFrom 0 13).map (fun r => nth 0 v r * nth 0 cur r)).sum
    let total := (divNear (uw * 256) 1000000).toNat % 2 ^ 32
    ∃ t, exec (.railTelemetry v cur) s = .next t ∧
      (∀ r, r < 13 → t.rd (A.pwrRV r) = nth 0 v r % 2 ^ 16 ∧ t.rd (A.pwrRI r) = nth 0 cur r % 2 ^ 24 ∧
        t.rd (A.pwrRMin r) = min (s.rd (A.pwrRMin r)) (nth 0 v r % 2 ^ 16)) ∧
      t.rd A.pwrTotal = total ∧ t.rd A.pwrPeak = max (s.rd A.pwrPeak) total ∧
      t.rd64 A.pwrEnergy = (s.rd64 A.pwrEnergy + (s.pwr.energy + uw) / 10000000) % 2 ^ 64 ∧
      t.pwr = { s.pwr with energy := (s.pwr.energy + uw) % 10000000 } ∧
      t.thm = { s.thm with pSum := s.thm.pSum + total, pN := s.thm.pN + 1 } ∧
      OnlyChanges s t [.pwr, .thm] ((rangeFrom 0 13).flatMap (fun r => [A.pwrRV r, A.pwrRI r, A.pwrRMin r]) ++
        [A.pwrTotal, A.pwrPeak, A.pwrEnergy, A.pwrEnergy + 4])) ∧
  (∀ (n : Fin 19) (s : State), ∃ u : State,
    exec (.pllLost n) s = .next (s.pllLost n) ∧
    s.pllLost n = (if n.val = 4 then u.hotReset true else if n.val = 6 then (u.safDiag 0x01).safDiag 0x03
      else if 11 ≤ n.val then u.linkDown (n.val - 11) else u) ∧
    u.rdb A.clkPllLock n = false ∧ u.rdb A.clkPllLost n = true ∧ tbit (u.rd 0x201C) 8 = true ∧ u.rdb 0x200C 9 = true ∧
    (s.rdb 0x200C 9 = false → u.rd 0x202C = 0x0100 ∧ u.rd 0x2030 = n) ∧
    (∀ d, d < 60 → u.runs d = (s.runs d && !(pllDomains n).contains d)) ∧
    OnlyChanges s u [.msix, .out] ([A.clkPllLock, A.clkPllLost, A.clkDomRun, A.clkDomRun + 4] ++ errorRegs 0x2000)) ∧
  (∀ s : State, ∃ u : State,
    exec .refLost s = .next (((rangeFrom 0 19).foldl (fun t n => if n = 6 then t else t.pllLost n) u).tamper 2 true) ∧
    u.rdb A.clkRef 0 = false ∧ Raised s u 0x2000 9 ∧ u.runs 51 = false ∧
    OnlyChanges s u [.msix, .out] [A.clkRef, 0x201C, A.clkDomRun, A.clkDomRun + 4]) ∧
  (∀ (s : State) (d : Nat), d < 60 → (tbit s.domRunLive d = true ↔ s.runs d = true ∧
    ¬(domainPages d ≠ [] ∧ ∀ p ∈ domainPages d, s.enabled p = false ∧ s.busy p = false))) ∧
  (∀ s : State, ∃ t, exec .refclkReturn s = .next t ∧ t.rd A.clkRef = putBit (s.rd A.clkRef) 0 true ∧
    t.rd A.secTamper = putBit (s.rd A.secTamper) 6 false ∧ OnlyChanges s t [] [A.clkRef, A.secTamper]) ∧
  (∀ (src : Source) (v : Nat) (s : State), s.takes src A.sysReset →
    (src = .host ∨ src = .smbus ∨ src = .jtag) ∧
    (v % 2 ^ 16 ≠ 0x5EA1 → ∃ t, exec (.sysReset src v) s = .next t ∧ Counted s t A.rstBadkey ∧ Raised s t 0x3000 8 ∧ ErrorNoted s t 0 0x0100 0 ∧
      OnlyChanges s t [.msix, .out] ([A.rstBadkey, 0x301C] ++ errorRegs 0)) ∧
    (v % 2 ^ 16 = 0x5EA1 → s.Inv → exec (.sysReset src v) s = .next (s.fullReset (if src = .host then 2 else if src = .smbus then 3 else 4)))) ∧
  (∀ s : State, exec .fullRstN s = .next (s.fullReset 1)) ∧
  (∀ (s : State) (cause : Nat), cause < 5 →
    let t := s.fullReset cause
    (∀ x, s.pwr.held = some (x, true) → t = s) ∧
    (∀ x, s.pwr.held = some (x, false) → ¬(x = s.itime ∧ cause = 1) → t = s) ∧
    (s.pwr.held = some (s.itime, false) → cause = 1 → t.rd A.rstCause = 1 ∧ OnlyChanges s t [] [A.rstCause]) ∧
    (s.pwr.held = none → t.pwr = { held := some (s.itime, false), goodAt := s.pwr.goodAt, cold := s.pwr.cold && decide (s.itime < 20950000) } ∧ t.rd A.rstCause = cause ∧ Counted s t A.rstFullCnt ∧ t.pending = s.pending ∧
      Out.gpio 0 0 ∈ t.out ∧ t.rd A.spdSealStat = 2 + 2 ^ 4 ∧ t.rd A.spdSealCause = 11 ∧ t.spd.wipe = some { start := s.now, retry := false } ∧
      t.rd A.clkRef = s.rd A.clkRef ∧ t.rd A.pwrStat = s.rd A.pwrStat ∧ (∀ k, k < 13 → t.rd (A.pwrRFlags k) = s.rdf (A.pwrRFlags k) 0 2) ∧
      (∀ a, resetKeeps false a = false → a ∉ [A.rstCause, A.spdSealStat, A.spdSealCause, A.spdSealT, A.spdSealT + 4] ++
        (rangeFrom 0 13).map A.pwrRFlags ++ secLogRegs → t.rd a = (resetWord a).toNat) ∧
      (∀ p ∈ [Part.latches, .staged, .wosDone, .waitIn, .msix, .tow, .req, .pass, .sol, .hst, .dsp, .ing, .wld, .fio, .aqd, .thm],
        State.reset.samePart t p) ∧
      t.chg.levels = s.chg.levels ∧ (s.chg.prog = none → t.chg.models = s.chg.models.map (fun m => (m.1, { m.2 with ready := true }))) ∧
      (s.cal.run = none → t.cal = { store := s.cal.store }) ∧
      (s.sec.run = none → t.sec = {
        logSeq := (s.sec.logSeq + 1) % 2 ^ 32, boots := s.sec.boots, lc := s.sec.lc, keyHash := s.sec.keyHash, revoke := s.sec.revoke
        svnMin := s.sec.svnMin, strict := s.sec.strict, otk := s.sec.otk, optF := s.sec.optF, charge := s.chargeNow 0, chargeAt := s.now }) ∧
      ∀ a, (∀ f ∈ s.fills, f.lo ≤ a → a < f.hi → regionOf f.lo = regionOf a) →
        (regionOf a = .hbm → t.memGet a = s.memGet a) ∧ (regionOf a ≠ .hbm → t.memGet a = 0))) ∧
  (∀ (r : Fin 13) (s : State),
    (r = 8 → exec (.brownout r) s = .next s) ∧
    ∃ v u : State,
    (let hit := (r = 0 ∨ r = 11 ∨ r = 12) ∧ s.rdb A.secTamper 5 = false
     (hit → exec (.tamperEvent 1 true true) s = .next v) ∧ (¬hit → v = s)) ∧
    (let loss := (r = 10 ∨ r = 11) ∧ ¬(2 ≤ v.sealState ∧ v.rd A.spdSealCause = 8)
     (loss → exec .powerLoss v = .next u) ∧ (¬loss → u = v)) ∧
    (r ≠ 8 → ∃ t, exec (.brownout r) s = .next t ∧ t.pwr = { held := some (s.itime, true), goodAt := s.pwr.goodAt, cold := true } ∧
      t.rd A.rstCause = 5 + r * 2 ^ 8 ∧ t.rdb A.pwrStat 0 = false ∧ t.rdf A.pwrStat 1 7 = (if r.val = 11 then 0 else u.rdf A.pwrStat 1 7) ∧
      (∀ k, k < 13 → t.rd (A.pwrRFlags k) = if k = r.val then 1 else u.rdf (A.pwrRFlags k) 0 2) ∧
      (∀ a, t.memGet a = 0) ∧ t.pending = s.pending ∧
      (∀ a, resetKeeps true a = false → a ∉ [A.rstCause, A.pwrStat] ++ (rangeFrom 0 13).map A.pwrRFlags → t.rd a = (resetWord a).toNat) ∧ (∀ a, resetKeeps true a = true → a ≠ A.rstCause → t.rd a = u.rd a) ∧
      (∀ p ∈ [Part.latches, .staged, .wosDone, .waitIn, .msix, .tow, .req, .pass, .sol, .hst, .dsp, .ing, .wld, .spd, .fio, .saf, .aqd, .thm],
        State.reset.samePart t p) ∧
      t.chg.levels = s.chg.levels ∧ (s.cal.run = none → t.cal = { store := s.cal.store }) ∧
      (s.sec.run = none → t.sec = {
        logSeq := u.sec.logSeq, boots := s.sec.boots, lc := s.sec.lc, keyHash := s.sec.keyHash, revoke := s.sec.revoke
        svnMin := s.sec.svnMin, strict := s.sec.strict, otk := s.sec.otk, optF := s.sec.optF, chargeAt := s.now }))) ∧
  (∀ (node smb corr : Nat) (bad : List Nat) (seq : Option Nat) (testEn : Bool) (s : State),
    let released := fun (t : State) => t.now = 0 ∧ t.itime = 0 ∧ t.pwr = { s.pwr with held := none, goodAt := 0, stuck := [], told := [] } ∧
      t.rd A.sysStraps = node % 128 + smb % 4 * 2 ^ 8 ∧ t.rdf A.aqdNode 0 7 = node % 128 ∧ t.rd A.clkPllLock = 2 ^ 19 - 1 ∧
      t.sec.boots = (s.sec.boots + 1) % 256 ∧ t.rd64 A.secNonce = (Config.freeValue 64 (s.freeCnt + 2)).toNat ∧
      t.rd64 A.mgtNonce = (Config.freeValue 64 (s.freeCnt + 3)).toNat ∧ t.rd64 A.calUid = leNat (Memory.read s.cal.store 8 8) ∧
      t.rd A.calEccCorr = min 0xFFFF (s.rd A.calEccCorr + corr) ∧ ∀ a, a < 256 → t.svc (chgPage a) = if t.dieOk a then s.svc (chgPage a) else 2
    let regs := [A.sysStraps, A.aqdNode, A.clkPllLock, A.clkDomRun, A.clkDomRun + 4, A.clkRefPpm, A.secNonce, A.secNonce + 4, A.mgtNonce,
      A.mgtNonce + 4, A.calUid, A.calUid + 4, A.calValid, A.calValid + 4, A.calFactory, A.calFactory + 4] ++ errorRegs 0x370000 ++
      (rangeFrom 0 8).map A.towTpCfg ++ A.calEccCorr :: (rangeFrom 0 256).map (fun a => chgPage a + 0x00C)
    let parts := [Part.now, .itime, .pwr, .freeCnt, .sec, .chg, .cal, .spd, .msix, .out]
    let due := s.rdb A.clkRef 0 = true ∧ ∃ x, s.pwr.held = some (x, false) ∧ x + 100000 ≤ s.itime
    let up := s.rdb A.clkRef 0 = true ∧ (∀ k, k < 13 → s.rdf (A.pwrRFlags k) 0 2 = 0) ∧ s.pwr.goodAt + 2000000 ≤ s.itime ∧ testEn = false ∧
      ∃ x, s.pwr.held = some (x, true)
    (¬due → exec (.fullResetRelease node smb bad corr) s = .next s) ∧
    (due → ∃ t, exec (.fullResetRelease node smb bad corr) s = .next t ∧ released t ∧ OnlyChanges s t parts regs ∧
      (∀ w, s.spd.wipe = some w → t.spd = { s.spd with wipe := some { w with start := 0, ran := w.ran + s.heldFor } })) ∧
    (¬up → exec (.powerOn node smb bad corr seq testEn) s = .next s) ∧
    (up → ∃ t, exec (.powerOn node smb bad corr seq testEn) s = .next t ∧ released t ∧ t.sealState = 2 ∧ t.rdb A.spdSealStat 4 = true ∧
      t.rd A.spdSealCause = 10 ∧ t.spd = { s.spd with wipe := some { start := 0, retry := false } } ∧
      (seq = none → t.rd A.pwrStat = s.rd A.pwrStat) ∧
      (∀ r, seq = some r → t.rdb A.pwrStat 1 = true ∧ t.rdf A.pwrStat 4 4 = r % 16 ∧ t.rdb A.pwrStat 0 = s.rdb A.pwrStat 0 ∧
        Raised s t 0x1000 9) ∧
      OnlyChanges s t parts (regs ++ [A.spdSealStat, A.spdSealCause, A.spdSealT, A.spdSealT + 4, A.pwrStat, 0x101C] ++ secLogRegs))) ∧
  (∀ s : State, s.pwr.held ≠ none → (∀ c t e l, s.ball (.safStop c) = .low ∧ s.ball (.trig t) = .low ∧ s.ball (.gpio t) = .released ∧
    s.ball (.encSclk e) = .high ∧ s.ball (.loopGate l) = .low) ∧ s.ball .smbSda = .released ∧ s.ball .boot = .released ∧ s.ball .mdc = .low ∧
    s.ball .trace = .low ∧ s.ball .mdio = .highZ ∧ s.ball .tdo = .highZ ∧ (∀ n, s.ball (.linkTx n) = .idle) ∧ s.ball .pcieTx = .idle ∧ s.ball .sgTx = .idle) ∧
  ∀ (k : Nat) (s : State),
    let live := s.sysWedgeLive
    let seen := s.wedged k = true ∧ k ∉ s.pwr.told ∧ 1 ≤ k ∧ k ≤ 20
    (s.wedged k = true ↔ ∃ x ∈ s.pwr.stuck, s.busy x.1 = true ∧ x.2 + max 1 (s.rdf A.sysQuiesceTo 0 16) * 1000000 ≤ s.now ∧ ∃ r, pageRow x.1 = some r ∧ r.typ = k) ∧
    (1 ≤ k → k ≤ 20 → tbit live k = (s.pwr.told.contains k && s.wedged k)) ∧
    (seen → ∃ t, exec (.wedgeReport k) s = .next t ∧ t.pwr = { s.pwr with told := k :: s.pwr.told } ∧ Raised s t 0 8 ∧
      OnlyChanges s t [.pwr, .msix, .out] [0x1C]) ∧
    (¬seen → exec (.wedgeReport k) s = .next s) ∧
    (∀ p, s.quiesced p = false ∨ s.busy p = false → ∀ x ∈ (s.stuckUpd p).pwr.stuck, x.1 ≠ p) ∧
    ∀ p j, j ∈ (s.stuckUpd p).pwr.told → (s.stuckUpd p).wedged j = true
end

