-- ==== Sys2Proof/Laws/Bits.lean ====
section
/-!
SUPPORT. Bit fields of a number: what a field or a bit reads after one has been put, set or cut to a word.
-/
namespace Sys2Proof.Machine

/-- A number is the bits below a field, the field, and the bits above. -/
theorem split_fld (w lo len : Nat) : w = w % 2 ^ lo + fld w lo len * 2 ^ lo + w / 2 ^ (lo + len) * 2 ^ (lo + len) := by
  have h1 := Nat.mod_add_div w (2 ^ lo)
  have h2 := Nat.mod_add_div (w / 2 ^ lo) (2 ^ len)
  have e : w / 2 ^ lo / 2 ^ len = w / 2 ^ (lo + len) := by rw [Nat.div_div_eq_div_mul, Nat.pow_add]
  rw [e] at h2
  unfold fld
  calc w = w % 2 ^ lo + 2 ^ lo * (w / 2 ^ lo) := h1.symm
    _ = w % 2 ^ lo + 2 ^ lo * (w / 2 ^ lo % 2 ^ len + 2 ^ len * (w / 2 ^ (lo + len))) := by rw [h2]
    _ = _ := by rw [Nat.pow_add]; ring

theorem putFld_eq (w lo len v : Nat) :
    putFld w lo len v = w % 2 ^ lo + (v % 2 ^ len) * 2 ^ lo + w / 2 ^ (lo + len) * 2 ^ (lo + len) := by
  have h := split_fld w lo len
  unfold putFld
  generalize fld w lo len * 2 ^ lo = x at *
  generalize (v % 2 ^ len) * 2 ^ lo = y at *
  generalize w / 2 ^ (lo + len) * 2 ^ (lo + len) = z at *
  omega

theorem fld_of_parts (l m h lo len : Nat) (hl : l < 2 ^ lo) (hm : m < 2 ^ len) :
    fld (l + m * 2 ^ lo + h * 2 ^ (lo + len)) lo len = m := by
  unfold fld
  have e : l + m * 2 ^ lo + h * 2 ^ (lo + len) = l + 2 ^ lo * (m + 2 ^ len * h) := by rw [Nat.pow_add]; ring
  rw [e, Nat.add_mul_div_left _ _ (Nat.two_pow_pos lo), Nat.div_eq_of_lt hl, Nat.zero_add, Nat.add_mul_mod_self_left,
    Nat.mod_eq_of_lt hm]

/-- A field reads as it was put. -/
theorem fld_putFld_same (w lo len v : Nat) : fld (putFld w lo len v) lo len = v % 2 ^ len := by
  rw [putFld_eq]
  exact fld_of_parts _ _ _ _ _ (Nat.mod_lt _ (Nat.two_pow_pos lo)) (Nat.mod_lt _ (Nat.two_pow_pos len))

theorem fld_testBit (w lo len i : Nat) : (fld w lo len).testBit i = (decide (i < len) && w.testBit (lo + i)) := by
  simp [fld, Nat.testBit_mod_two_pow, Nat.testBit_div_two_pow, Nat.add_comm]

theorem putFld_testBit (w lo len v i : Nat) :
    (putFld w lo len v).testBit i = if lo ≤ i ∧ i < lo + len then v.testBit (i - lo) else w.testBit i := by
  rw [putFld_eq]
  have hm : v % 2 ^ len < 2 ^ len := Nat.mod_lt _ (Nat.two_pow_pos len)
  have hl : w % 2 ^ lo < 2 ^ lo := Nat.mod_lt _ (Nat.two_pow_pos lo)
  have e : w % 2 ^ lo + v % 2 ^ len * 2 ^ lo + w / 2 ^ (lo + len) * 2 ^ (lo + len) =
      2 ^ lo * (2 ^ len * (w / 2 ^ (lo + len)) + v % 2 ^ len) + w % 2 ^ lo := by rw [Nat.pow_add]; ring
  rw [e, Nat.testBit_two_pow_mul_add _ hl, Nat.testBit_two_pow_mul_add _ hm]
  by_cases h1 : i < lo
  · simp [h1, Nat.testBit_mod_two_pow]
  · by_cases h2 : i - lo < len
    · have : lo ≤ i ∧ i < lo + len := by omega
      simp [h1, h2, this, Nat.testBit_mod_two_pow]
    · have : ¬(lo ≤ i ∧ i < lo + len) := by omega
      have e2 : i - lo - len + (lo + len) = i := by omega
      simp only [h1, h2, this, if_false, Nat.testBit_div_two_pow, e2]

/-- A field apart from the one put reads as before. -/
theorem fld_putFld_other (w lo len v lo' len' : Nat) (h : lo' + len' ≤ lo ∨ lo + len ≤ lo') :
    fld (putFld w lo len v) lo' len' = fld w lo' len' := by
  apply Nat.eq_of_testBit_eq
  intro i
  rw [fld_testBit, fld_testBit, putFld_testBit]
  by_cases c : i < len'
  · have : ¬(lo ≤ lo' + i ∧ lo' + i < lo + len) := by omega
    simp [this]
  · simp [c]

theorem tbit_eq (w i : Nat) : tbit w i = w.testBit i := by
  rw [tbit, Nat.testBit_eq_decide_div_mod_eq]
  rfl

/-- A bit after one has been put. -/
theorem tbit_putBit (w i j : Nat) (b : Bool) : tbit (putBit w i b) j = if j = i then b else tbit w j := by
  rw [tbit_eq, tbit_eq, putBit, putFld_testBit]
  by_cases h : j = i
  · subst h
    cases b <;> simp
  · rw [if_neg (by omega), if_neg h]

theorem tbit_putFld (w lo len v i : Nat) (h : i < lo ∨ lo + len ≤ i) : tbit (putFld w lo len v) i = tbit w i := by
  rw [tbit_eq, tbit_eq, putFld_testBit]
  have : ¬(lo ≤ i ∧ i < lo + len) := by omega
  simp [this]

theorem fld_putBit (w i lo len : Nat) (b : Bool) (h : lo + len ≤ i ∨ i < lo) : fld (putBit w i b) lo len = fld w lo len :=
  fld_putFld_other _ _ _ _ _ _ (by omega)

theorem tbit_mod (w i : Nat) (h : i < 32) : tbit (w % 2 ^ 32) i = tbit w i := by
  rw [tbit_eq, tbit_eq, Nat.testBit_mod_two_pow]
  simp [h]

theorem fld_mod (w lo len : Nat) (h : lo + len ≤ 32) : fld (w % 2 ^ 32) lo len = fld w lo len := by
  apply Nat.eq_of_testBit_eq
  intro i
  rw [fld_testBit, fld_testBit, Nat.testBit_mod_two_pow]
  by_cases c : i < len
  · have : lo + i < 32 := by omega
    simp [this]
  · simp [c]

theorem tbit_or_pow (w i j : Nat) : tbit (w ||| 2 ^ i) j = (tbit w j || decide (i = j)) := by
  simp [tbit_eq, Nat.testBit_or, Nat.testBit_two_pow]

end Sys2Proof.Machine
end

