-- ==== Sys2Proof/Laws/Store.lean ====
section
/-!
SUPPORT. The sparse tables that hold registers and memory: what a lookup gives after a change, and that every change keeps
the canonical form.
-/
namespace Sys2Proof.Machine

/-! ## Tables -/

theorem Sparse.get_del_same {α : Type} (d : Nat → α) (a : Nat) (l : List (Nat × α)) : Sparse.get d (Sparse.del a l) a = d a := by
  induction l with
  | nil => rfl
  | cons x t ih =>
    obtain ⟨k, v⟩ := x
    by_cases h : k = a <;> simp [Sparse.del, Sparse.get, h, ih]

theorem Sparse.get_del_other {α : Type} (d : Nat → α) {a b : Nat} (hb : b ≠ a) (l : List (Nat × α)) :
    Sparse.get d (Sparse.del a l) b = Sparse.get d l b := by
  induction l with
  | nil => rfl
  | cons x t ih =>
    obtain ⟨k, v⟩ := x
    by_cases h : k = a
    · subst h
      simp [Sparse.del, Sparse.get, ih, Ne.symm hb]
    · simp [Sparse.del, Sparse.get, h, ih]

theorem Sparse.get_ins_same {α : Type} (d : Nat → α) (a : Nat) (v : α) (l : List (Nat × α)) :
    Sparse.get d (Sparse.ins a v l) a = v := by
  induction l with
  | nil => simp [Sparse.ins, Sparse.get]
  | cons x t ih =>
    obtain ⟨k, w⟩ := x
    by_cases h : a < k
    · simp [Sparse.ins, Sparse.get, h]
    · by_cases e : a = k
      · simp [Sparse.ins, Sparse.get, e]
      · simp [Sparse.ins, Sparse.get, h, e, ih, Ne.symm e]

theorem Sparse.get_ins_other {α : Type} (d : Nat → α) {a b : Nat} (hb : b ≠ a) (v : α) (l : List (Nat × α)) :
    Sparse.get d (Sparse.ins a v l) b = Sparse.get d l b := by
  induction l with
  | nil => simp [Sparse.ins, Sparse.get, Ne.symm hb]
  | cons x t ih =>
    obtain ⟨k, w⟩ := x
    by_cases h : a < k
    · simp [Sparse.ins, Sparse.get, h, Ne.symm hb]
    · by_cases e : a = k
      · subst e
        simp [Sparse.ins, Sparse.get, Ne.symm hb]
      · simp [Sparse.ins, Sparse.get, h, e, ih]

/-- A key reads as it was set. -/
theorem Sparse.get_set_same {α : Type} [DecidableEq α] (d : Nat → α) (l : List (Nat × α)) (a : Nat) (v : α) :
    Sparse.get d (Sparse.set d l a v) a = v := by
  by_cases h : v = d a
  · simp [Sparse.set, h, Sparse.get_del_same]
  · simp [Sparse.set, h, Sparse.get_ins_same]

/-- Every other key reads as before. -/
theorem Sparse.get_set_other {α : Type} [DecidableEq α] (d : Nat → α) (l : List (Nat × α)) {a b : Nat} (hb : b ≠ a) (v : α) :
    Sparse.get d (Sparse.set d l a v) b = Sparse.get d l b := by
  by_cases h : v = d a
  · simp [Sparse.set, h, Sparse.get_del_other _ hb]
  · simp [Sparse.set, h, Sparse.get_ins_other _ hb]

/-! ## The canonical form -/

theorem Sparse.above_del {α : Type} (b a : Nat) (l : List (Nat × α)) (h : Sparse.above b l = true) :
    Sparse.above b (Sparse.del a l) = true := by
  induction l with
  | nil => rfl
  | cons x t ih =>
    obtain ⟨k, v⟩ := x
    simp only [Sparse.above, Bool.and_eq_true, decide_eq_true_eq] at h
    by_cases e : k = a
    · simp [Sparse.del, e, ih h.2]
    · simp [Sparse.del, e, Sparse.above, h.1, ih h.2]

theorem Sparse.above_mono {α : Type} {b c : Nat} (hc : c ≤ b) (l : List (Nat × α)) (h : Sparse.above b l = true) :
    Sparse.above c l = true := by
  induction l with
  | nil => rfl
  | cons x t ih =>
    obtain ⟨k, v⟩ := x
    simp only [Sparse.above, Bool.and_eq_true, decide_eq_true_eq] at h ⊢
    exact ⟨by omega, ih h.2⟩

theorem Sparse.above_ins {α : Type} {b a : Nat} (hb : b < a) (v : α) (l : List (Nat × α)) (h : Sparse.above b l = true) :
    Sparse.above b (Sparse.ins a v l) = true := by
  induction l with
  | nil => simp [Sparse.ins, Sparse.above, hb]
  | cons x t ih =>
    obtain ⟨k, w⟩ := x
    simp only [Sparse.above, Bool.and_eq_true, decide_eq_true_eq] at h
    by_cases c : a < k
    · simp [Sparse.ins, c, Sparse.above, hb, h.1, h.2]
    · by_cases e : a = k
      · simp [Sparse.ins, e, Sparse.above, h.1, h.2]
      · simp [Sparse.ins, c, e, Sparse.above, h.1, ih h.2]

theorem Sparse.wf_del {α : Type} [DecidableEq α] (d : Nat → α) (a : Nat) (l : List (Nat × α)) (h : Sparse.wf d l = true) :
    Sparse.wf d (Sparse.del a l) = true := by
  induction l with
  | nil => rfl
  | cons x t ih =>
    obtain ⟨k, v⟩ := x
    simp only [Sparse.wf, Bool.and_eq_true, decide_eq_true_eq] at h
    by_cases e : k = a
    · simp [Sparse.del, e, ih h.2]
    · simp [Sparse.del, e, Sparse.wf, h.1.1, Sparse.above_del _ _ _ h.1.2, ih h.2]

theorem Sparse.wf_ins {α : Type} [DecidableEq α] (d : Nat → α) (a : Nat) (v : α) (hv : v ≠ d a) (l : List (Nat × α))
    (h : Sparse.wf d l = true) : Sparse.wf d (Sparse.ins a v l) = true := by
  induction l with
  | nil => simp [Sparse.ins, Sparse.wf, Sparse.above, hv]
  | cons x t ih =>
    obtain ⟨k, w⟩ := x
    simp only [Sparse.wf, Bool.and_eq_true, decide_eq_true_eq] at h
    by_cases c : a < k
    · simp [Sparse.ins, c, Sparse.wf, Sparse.above, hv, h.1.1, h.1.2, h.2, Sparse.above_mono (Nat.le_of_lt c) _ h.1.2]
    · by_cases e : a = k
      · subst e
        simp [Sparse.ins, Sparse.wf, hv, h.1.2, h.2]
      · have hk : k < a := by omega
        simp [Sparse.ins, c, e, Sparse.wf, h.1.1, Sparse.above_ins hk _ _ h.1.2, ih h.2]

/-- Setting a key keeps the canonical form. -/
theorem Sparse.wf_set {α : Type} [DecidableEq α] (d : Nat → α) (l : List (Nat × α)) (a : Nat) (v : α)
    (h : Sparse.wf d l = true) : Sparse.wf d (Sparse.set d l a v) = true := by
  by_cases e : v = d a
  · simpa [Sparse.set, e] using Sparse.wf_del d a l h
  · simpa [Sparse.set, e] using Sparse.wf_ins d a v e l h

theorem Sparse.above_filter {α : Type} (b : Nat) (f : Nat × α → Bool) (l : List (Nat × α)) (h : Sparse.above b l = true) :
    Sparse.above b (l.filter f) = true := by
  induction l with
  | nil => rfl
  | cons x t ih =>
    obtain ⟨k, v⟩ := x
    simp only [Sparse.above, Bool.and_eq_true, decide_eq_true_eq] at h
    by_cases c : f (k, v) = true
    · simp [c, Sparse.above, h.1, ih h.2]
    · simp [c, ih h.2]

/-- Dropping entries keeps the canonical form, under any default that agrees on what stays. -/
theorem Sparse.wf_filter {α : Type} [DecidableEq α] (d d' : Nat → α) (f : Nat × α → Bool) (l : List (Nat × α))
    (hd : ∀ k v, f (k, v) = true → d' k = d k) (h : Sparse.wf d l = true) : Sparse.wf d' (l.filter f) = true := by
  induction l with
  | nil => rfl
  | cons x t ih =>
    obtain ⟨k, v⟩ := x
    simp only [Sparse.wf, Bool.and_eq_true, decide_eq_true_eq] at h
    by_cases c : f (k, v) = true
    · simp [c, Sparse.wf, hd k v c, h.1.1, Sparse.above_filter _ f _ h.1.2, ih h.2]
    · simp [c, ih h.2]

/-! ## Memory -/

theorem Memory.get_set_same (m : List Host.Cell) (a : Nat) (b : Byte) : Memory.get (Memory.set m a b) a = b :=
  Sparse.get_set_same _ m a b

theorem Memory.get_set_other (m : List Host.Cell) {a c : Nat} (h : c ≠ a) (b : Byte) :
    Memory.get (Memory.set m a b) c = Memory.get m c := Sparse.get_set_other _ m h b

theorem Memory.wf_set (m : List Host.Cell) (a : Nat) (b : Byte) (h : Memory.wf m = true) : Memory.wf (Memory.set m a b) = true :=
  Sparse.wf_set _ m a b h

theorem Memory.wf_write (m : List Host.Cell) (a : Nat) (bs : List Byte) (h : Memory.wf m = true) :
    Memory.wf (Memory.write m a bs) = true := by
  induction bs generalizing m a with
  | nil => exact h
  | cons b t ih => exact ih _ _ (Memory.wf_set m a b h)

theorem Memory.wf_clear (m : List Host.Cell) (a b : Nat) (h : Memory.wf m = true) : Memory.wf (Memory.clear m a b) = true :=
  Sparse.wf_filter _ _ _ m (fun _ _ _ => rfl) h

/-- A filled range keeps the canonical form of device memory: nothing in it stays listed. -/
theorem State.memWf_fill (s : State) (lo hi pat : Nat) (h : s.memWf = true) : (s.fill lo hi pat).memWf = true := by
  refine Sparse.wf_filter s.unlisted _ _ s.mem (fun k v hk => ?_) h
  have hk' : k < lo ∨ hi ≤ k := by simpa using hk
  have aux : ∀ l : List Fill, fillByte (l.filter (fun f => !(f.lo = lo && f.hi = hi))) k = fillByte l k := by
    intro l
    induction l with
    | nil => rfl
    | cons f t ih =>
      by_cases c : f.lo = lo ∧ f.hi = hi
      · rw [List.filter_cons_of_neg (by simp [c.1, c.2]), ih, fillByte, if_neg (by simp [c.1, c.2]; omega)]
      · rw [List.filter_cons_of_pos (by simp; tauto), fillByte, fillByte, ih]
  have out : (decide (lo ≤ k) && decide (k < hi)) = false := by
    rcases hk' with g | g <;> simp <;> omega
  simp only [State.unlisted, State.fill, fillByte, out]
  simpa using aux s.fills

end Sys2Proof.Machine
end

