-- ==== Sys2Proof/Laws/State.lean ====
section
/-!
SUPPORT. The shared operations on the state: one lemma a field for what each leaves alone, and what registers read after it.
-/
namespace Sys2Proof.Machine

/-! ### wr changes the register store only -/

@[simp] theorem State.wr_now (s : State) (a v : Nat) : (s.wr a v).now = s.now := rfl
@[simp] theorem State.wr_itime (s : State) (a v : Nat) : (s.wr a v).itime = s.itime := rfl
@[simp] theorem State.wr_latches (s : State) (a v : Nat) : (s.wr a v).latches = s.latches := rfl
@[simp] theorem State.wr_staged (s : State) (a v : Nat) : (s.wr a v).staged = s.staged := rfl
@[simp] theorem State.wr_wosDone (s : State) (a v : Nat) : (s.wr a v).wosDone = s.wosDone := rfl
@[simp] theorem State.wr_mem (s : State) (a v : Nat) : (s.wr a v).mem = s.mem := rfl
@[simp] theorem State.wr_fills (s : State) (a v : Nat) : (s.wr a v).fills = s.fills := rfl
@[simp] theorem State.wr_out (s : State) (a v : Nat) : (s.wr a v).out = s.out := rfl
@[simp] theorem State.wr_freeCnt (s : State) (a v : Nat) : (s.wr a v).freeCnt = s.freeCnt := rfl
@[simp] theorem State.wr_waitIn (s : State) (a v : Nat) : (s.wr a v).waitIn = s.waitIn := rfl
@[simp] theorem State.wr_msix (s : State) (a v : Nat) : (s.wr a v).msix = s.msix := rfl
@[simp] theorem State.wr_tow (s : State) (a v : Nat) : (s.wr a v).tow = s.tow := rfl
@[simp] theorem State.wr_req (s : State) (a v : Nat) : (s.wr a v).req = s.req := rfl
@[simp] theorem State.wr_pass (s : State) (a v : Nat) : (s.wr a v).pass = s.pass := rfl
@[simp] theorem State.wr_sol (s : State) (a v : Nat) : (s.wr a v).sol = s.sol := rfl
@[simp] theorem State.wr_chg (s : State) (a v : Nat) : (s.wr a v).chg = s.chg := rfl
@[simp] theorem State.wr_hst (s : State) (a v : Nat) : (s.wr a v).hst = s.hst := rfl
@[simp] theorem State.wr_dsp (s : State) (a v : Nat) : (s.wr a v).dsp = s.dsp := rfl
@[simp] theorem State.wr_ing (s : State) (a v : Nat) : (s.wr a v).ing = s.ing := rfl
@[simp] theorem State.wr_wld (s : State) (a v : Nat) : (s.wr a v).wld = s.wld := rfl
@[simp] theorem State.wr_spd (s : State) (a v : Nat) : (s.wr a v).spd = s.spd := rfl
@[simp] theorem State.wr_fio (s : State) (a v : Nat) : (s.wr a v).fio = s.fio := rfl
@[simp] theorem State.wr_sec (s : State) (a v : Nat) : (s.wr a v).sec = s.sec := rfl
@[simp] theorem State.wr_saf (s : State) (a v : Nat) : (s.wr a v).saf = s.saf := rfl
@[simp] theorem State.wr_cal (s : State) (a v : Nat) : (s.wr a v).cal = s.cal := rfl
@[simp] theorem State.wr_aqd (s : State) (a v : Nat) : (s.wr a v).aqd = s.aqd := rfl
@[simp] theorem State.wr_thm (s : State) (a v : Nat) : (s.wr a v).thm = s.thm := rfl
@[simp] theorem State.wr_pwr (s : State) (a v : Nat) : (s.wr a v).pwr = s.pwr := rfl
@[simp] theorem State.wr_pending (s : State) (a v : Nat) : (s.wr a v).pending = s.pending := rfl

/-! ### wr64 changes the register store only -/

@[simp] theorem State.wr64_now (s : State) (a v : Nat) : (s.wr64 a v).now = s.now := by simp only [State.wr64, State.wr_now]
@[simp] theorem State.wr64_itime (s : State) (a v : Nat) : (s.wr64 a v).itime = s.itime := by simp only [State.wr64, State.wr_itime]
@[simp] theorem State.wr64_latches (s : State) (a v : Nat) : (s.wr64 a v).latches = s.latches := by simp only [State.wr64, State.wr_latches]
@[simp] theorem State.wr64_staged (s : State) (a v : Nat) : (s.wr64 a v).staged = s.staged := by simp only [State.wr64, State.wr_staged]
@[simp] theorem State.wr64_wosDone (s : State) (a v : Nat) : (s.wr64 a v).wosDone = s.wosDone := by simp only [State.wr64, State.wr_wosDone]
@[simp] theorem State.wr64_mem (s : State) (a v : Nat) : (s.wr64 a v).mem = s.mem := by simp only [State.wr64, State.wr_mem]
@[simp] theorem State.wr64_fills (s : State) (a v : Nat) : (s.wr64 a v).fills = s.fills := by simp only [State.wr64, State.wr_fills]
@[simp] theorem State.wr64_out (s : State) (a v : Nat) : (s.wr64 a v).out = s.out := by simp only [State.wr64, State.wr_out]
@[simp] theorem State.wr64_freeCnt (s : State) (a v : Nat) : (s.wr64 a v).freeCnt = s.freeCnt := by simp only [State.wr64, State.wr_freeCnt]
@[simp] theorem State.wr64_waitIn (s : State) (a v : Nat) : (s.wr64 a v).waitIn = s.waitIn := by simp only [State.wr64, State.wr_waitIn]
@[simp] theorem State.wr64_msix (s : State) (a v : Nat) : (s.wr64 a v).msix = s.msix := by simp only [State.wr64, State.wr_msix]
@[simp] theorem State.wr64_tow (s : State) (a v : Nat) : (s.wr64 a v).tow = s.tow := by simp only [State.wr64, State.wr_tow]
@[simp] theorem State.wr64_req (s : State) (a v : Nat) : (s.wr64 a v).req = s.req := by simp only [State.wr64, State.wr_req]
@[simp] theorem State.wr64_pass (s : State) (a v : Nat) : (s.wr64 a v).pass = s.pass := by simp only [State.wr64, State.wr_pass]
@[simp] theorem State.wr64_sol (s : State) (a v : Nat) : (s.wr64 a v).sol = s.sol := by simp only [State.wr64, State.wr_sol]
@[simp] theorem State.wr64_chg (s : State) (a v : Nat) : (s.wr64 a v).chg = s.chg := by simp only [State.wr64, State.wr_chg]
@[simp] theorem State.wr64_hst (s : State) (a v : Nat) : (s.wr64 a v).hst = s.hst := by simp only [State.wr64, State.wr_hst]
@[simp] theorem State.wr64_dsp (s : State) (a v : Nat) : (s.wr64 a v).dsp = s.dsp := by simp only [State.wr64, State.wr_dsp]
@[simp] theorem State.wr64_ing (s : State) (a v : Nat) : (s.wr64 a v).ing = s.ing := by simp only [State.wr64, State.wr_ing]
@[simp] theorem State.wr64_wld (s : State) (a v : Nat) : (s.wr64 a v).wld = s.wld := by simp only [State.wr64, State.wr_wld]
@[simp] theorem State.wr64_spd (s : State) (a v : Nat) : (s.wr64 a v).spd = s.spd := by simp only [State.wr64, State.wr_spd]
@[simp] theorem State.wr64_fio (s : State) (a v : Nat) : (s.wr64 a v).fio = s.fio := by simp only [State.wr64, State.wr_fio]
@[simp] theorem State.wr64_sec (s : State) (a v : Nat) : (s.wr64 a v).sec = s.sec := by simp only [State.wr64, State.wr_sec]
@[simp] theorem State.wr64_saf (s : State) (a v : Nat) : (s.wr64 a v).saf = s.saf := by simp only [State.wr64, State.wr_saf]
@[simp] theorem State.wr64_cal (s : State) (a v : Nat) : (s.wr64 a v).cal = s.cal := by simp only [State.wr64, State.wr_cal]
@[simp] theorem State.wr64_aqd (s : State) (a v : Nat) : (s.wr64 a v).aqd = s.aqd := by simp only [State.wr64, State.wr_aqd]
@[simp] theorem State.wr64_thm (s : State) (a v : Nat) : (s.wr64 a v).thm = s.thm := by simp only [State.wr64, State.wr_thm]
@[simp] theorem State.wr64_pwr (s : State) (a v : Nat) : (s.wr64 a v).pwr = s.pwr := by simp only [State.wr64, State.wr_pwr]
@[simp] theorem State.wr64_pending (s : State) (a v : Nat) : (s.wr64 a v).pending = s.pending := by simp only [State.wr64, State.wr_pending]

/-! ### wrf changes the register store only -/

@[simp] theorem State.wrf_now (s : State) (a lo len v : Nat) : (s.wrf a lo len v).now = s.now := by simp only [State.wrf, State.wr_now]
@[simp] theorem State.wrf_itime (s : State) (a lo len v : Nat) : (s.wrf a lo len v).itime = s.itime := by simp only [State.wrf, State.wr_itime]
@[simp] theorem State.wrf_latches (s : State) (a lo len v : Nat) : (s.wrf a lo len v).latches = s.latches := by simp only [State.wrf, State.wr_latches]
@[simp] theorem State.wrf_staged (s : State) (a lo len v : Nat) : (s.wrf a lo len v).staged = s.staged := by simp only [State.wrf, State.wr_staged]
@[simp] theorem State.wrf_wosDone (s : State) (a lo len v : Nat) : (s.wrf a lo len v).wosDone = s.wosDone := by simp only [State.wrf, State.wr_wosDone]
@[simp] theorem State.wrf_mem (s : State) (a lo len v : Nat) : (s.wrf a lo len v).mem = s.mem := by simp only [State.wrf, State.wr_mem]
@[simp] theorem State.wrf_fills (s : State) (a lo len v : Nat) : (s.wrf a lo len v).fills = s.fills := by simp only [State.wrf, State.wr_fills]
@[simp] theorem State.wrf_out (s : State) (a lo len v : Nat) : (s.wrf a lo len v).out = s.out := by simp only [State.wrf, State.wr_out]
@[simp] theorem State.wrf_freeCnt (s : State) (a lo len v : Nat) : (s.wrf a lo len v).freeCnt = s.freeCnt := by simp only [State.wrf, State.wr_freeCnt]
@[simp] theorem State.wrf_waitIn (s : State) (a lo len v : Nat) : (s.wrf a lo len v).waitIn = s.waitIn := by simp only [State.wrf, State.wr_waitIn]
@[simp] theorem State.wrf_msix (s : State) (a lo len v : Nat) : (s.wrf a lo len v).msix = s.msix := by simp only [State.wrf, State.wr_msix]
@[simp] theorem State.wrf_tow (s : State) (a lo len v : Nat) : (s.wrf a lo len v).tow = s.tow := by simp only [State.wrf, State.wr_tow]
@[simp] theorem State.wrf_req (s : State) (a lo len v : Nat) : (s.wrf a lo len v).req = s.req := by simp only [State.wrf, State.wr_req]
@[simp] theorem State.wrf_pass (s : State) (a lo len v : Nat) : (s.wrf a lo len v).pass = s.pass := by simp only [State.wrf, State.wr_pass]
@[simp] theorem State.wrf_sol (s : State) (a lo len v : Nat) : (s.wrf a lo len v).sol = s.sol := by simp only [State.wrf, State.wr_sol]
@[simp] theorem State.wrf_chg (s : State) (a lo len v : Nat) : (s.wrf a lo len v).chg = s.chg := by simp only [State.wrf, State.wr_chg]
@[simp] theorem State.wrf_hst (s : State) (a lo len v : Nat) : (s.wrf a lo len v).hst = s.hst := by simp only [State.wrf, State.wr_hst]
@[simp] theorem State.wrf_dsp (s : State) (a lo len v : Nat) : (s.wrf a lo len v).dsp = s.dsp := by simp only [State.wrf, State.wr_dsp]
@[simp] theorem State.wrf_ing (s : State) (a lo len v : Nat) : (s.wrf a lo len v).ing = s.ing := by simp only [State.wrf, State.wr_ing]
@[simp] theorem State.wrf_wld (s : State) (a lo len v : Nat) : (s.wrf a lo len v).wld = s.wld := by simp only [State.wrf, State.wr_wld]
@[simp] theorem State.wrf_spd (s : State) (a lo len v : Nat) : (s.wrf a lo len v).spd = s.spd := by simp only [State.wrf, State.wr_spd]
@[simp] theorem State.wrf_fio (s : State) (a lo len v : Nat) : (s.wrf a lo len v).fio = s.fio := by simp only [State.wrf, State.wr_fio]
@[simp] theorem State.wrf_sec (s : State) (a lo len v : Nat) : (s.wrf a lo len v).sec = s.sec := by simp only [State.wrf, State.wr_sec]
@[simp] theorem State.wrf_saf (s : State) (a lo len v : Nat) : (s.wrf a lo len v).saf = s.saf := by simp only [State.wrf, State.wr_saf]
@[simp] theorem State.wrf_cal (s : State) (a lo len v : Nat) : (s.wrf a lo len v).cal = s.cal := by simp only [State.wrf, State.wr_cal]
@[simp] theorem State.wrf_aqd (s : State) (a lo len v : Nat) : (s.wrf a lo len v).aqd = s.aqd := by simp only [State.wrf, State.wr_aqd]
@[simp] theorem State.wrf_thm (s : State) (a lo len v : Nat) : (s.wrf a lo len v).thm = s.thm := by simp only [State.wrf, State.wr_thm]
@[simp] theorem State.wrf_pwr (s : State) (a lo len v : Nat) : (s.wrf a lo len v).pwr = s.pwr := by simp only [State.wrf, State.wr_pwr]
@[simp] theorem State.wrf_pending (s : State) (a lo len v : Nat) : (s.wrf a lo len v).pending = s.pending := by simp only [State.wrf, State.wr_pending]

/-! ### wrb changes the register store only -/

@[simp] theorem State.wrb_now (s : State) (a i : Nat) (b : Bool) : (s.wrb a i b).now = s.now := by simp only [State.wrb, State.wr_now]
@[simp] theorem State.wrb_itime (s : State) (a i : Nat) (b : Bool) : (s.wrb a i b).itime = s.itime := by simp only [State.wrb, State.wr_itime]
@[simp] theorem State.wrb_latches (s : State) (a i : Nat) (b : Bool) : (s.wrb a i b).latches = s.latches := by simp only [State.wrb, State.wr_latches]
@[simp] theorem State.wrb_staged (s : State) (a i : Nat) (b : Bool) : (s.wrb a i b).staged = s.staged := by simp only [State.wrb, State.wr_staged]
@[simp] theorem State.wrb_wosDone (s : State) (a i : Nat) (b : Bool) : (s.wrb a i b).wosDone = s.wosDone := by simp only [State.wrb, State.wr_wosDone]
@[simp] theorem State.wrb_mem (s : State) (a i : Nat) (b : Bool) : (s.wrb a i b).mem = s.mem := by simp only [State.wrb, State.wr_mem]
@[simp] theorem State.wrb_fills (s : State) (a i : Nat) (b : Bool) : (s.wrb a i b).fills = s.fills := by simp only [State.wrb, State.wr_fills]
@[simp] theorem State.wrb_out (s : State) (a i : Nat) (b : Bool) : (s.wrb a i b).out = s.out := by simp only [State.wrb, State.wr_out]
@[simp] theorem State.wrb_freeCnt (s : State) (a i : Nat) (b : Bool) : (s.wrb a i b).freeCnt = s.freeCnt := by simp only [State.wrb, State.wr_freeCnt]
@[simp] theorem State.wrb_waitIn (s : State) (a i : Nat) (b : Bool) : (s.wrb a i b).waitIn = s.waitIn := by simp only [State.wrb, State.wr_waitIn]
@[simp] theorem State.wrb_msix (s : State) (a i : Nat) (b : Bool) : (s.wrb a i b).msix = s.msix := by simp only [State.wrb, State.wr_msix]
@[simp] theorem State.wrb_tow (s : State) (a i : Nat) (b : Bool) : (s.wrb a i b).tow = s.tow := by simp only [State.wrb, State.wr_tow]
@[simp] theorem State.wrb_req (s : State) (a i : Nat) (b : Bool) : (s.wrb a i b).req = s.req := by simp only [State.wrb, State.wr_req]
@[simp] theorem State.wrb_pass (s : State) (a i : Nat) (b : Bool) : (s.wrb a i b).pass = s.pass := by simp only [State.wrb, State.wr_pass]
@[simp] theorem State.wrb_sol (s : State) (a i : Nat) (b : Bool) : (s.wrb a i b).sol = s.sol := by simp only [State.wrb, State.wr_sol]
@[simp] theorem State.wrb_chg (s : State) (a i : Nat) (b : Bool) : (s.wrb a i b).chg = s.chg := by simp only [State.wrb, State.wr_chg]
@[simp] theorem State.wrb_hst (s : State) (a i : Nat) (b : Bool) : (s.wrb a i b).hst = s.hst := by simp only [State.wrb, State.wr_hst]
@[simp] theorem State.wrb_dsp (s : State) (a i : Nat) (b : Bool) : (s.wrb a i b).dsp = s.dsp := by simp only [State.wrb, State.wr_dsp]
@[simp] theorem State.wrb_ing (s : State) (a i : Nat) (b : Bool) : (s.wrb a i b).ing = s.ing := by simp only [State.wrb, State.wr_ing]
@[simp] theorem State.wrb_wld (s : State) (a i : Nat) (b : Bool) : (s.wrb a i b).wld = s.wld := by simp only [State.wrb, State.wr_wld]
@[simp] theorem State.wrb_spd (s : State) (a i : Nat) (b : Bool) : (s.wrb a i b).spd = s.spd := by simp only [State.wrb, State.wr_spd]
@[simp] theorem State.wrb_fio (s : State) (a i : Nat) (b : Bool) : (s.wrb a i b).fio = s.fio := by simp only [State.wrb, State.wr_fio]
@[simp] theorem State.wrb_sec (s : State) (a i : Nat) (b : Bool) : (s.wrb a i b).sec = s.sec := by simp only [State.wrb, State.wr_sec]
@[simp] theorem State.wrb_saf (s : State) (a i : Nat) (b : Bool) : (s.wrb a i b).saf = s.saf := by simp only [State.wrb, State.wr_saf]
@[simp] theorem State.wrb_cal (s : State) (a i : Nat) (b : Bool) : (s.wrb a i b).cal = s.cal := by simp only [State.wrb, State.wr_cal]
@[simp] theorem State.wrb_aqd (s : State) (a i : Nat) (b : Bool) : (s.wrb a i b).aqd = s.aqd := by simp only [State.wrb, State.wr_aqd]
@[simp] theorem State.wrb_thm (s : State) (a i : Nat) (b : Bool) : (s.wrb a i b).thm = s.thm := by simp only [State.wrb, State.wr_thm]
@[simp] theorem State.wrb_pwr (s : State) (a i : Nat) (b : Bool) : (s.wrb a i b).pwr = s.pwr := by simp only [State.wrb, State.wr_pwr]
@[simp] theorem State.wrb_pending (s : State) (a i : Nat) (b : Bool) : (s.wrb a i b).pending = s.pending := by simp only [State.wrb, State.wr_pending]

/-! ### bump changes the register store only -/

@[simp] theorem State.bump_now (s : State) (a : Nat) : (s.bump a).now = s.now := by simp only [State.bump, State.wr_now]
@[simp] theorem State.bump_itime (s : State) (a : Nat) : (s.bump a).itime = s.itime := by simp only [State.bump, State.wr_itime]
@[simp] theorem State.bump_latches (s : State) (a : Nat) : (s.bump a).latches = s.latches := by simp only [State.bump, State.wr_latches]
@[simp] theorem State.bump_staged (s : State) (a : Nat) : (s.bump a).staged = s.staged := by simp only [State.bump, State.wr_staged]
@[simp] theorem State.bump_wosDone (s : State) (a : Nat) : (s.bump a).wosDone = s.wosDone := by simp only [State.bump, State.wr_wosDone]
@[simp] theorem State.bump_mem (s : State) (a : Nat) : (s.bump a).mem = s.mem := by simp only [State.bump, State.wr_mem]
@[simp] theorem State.bump_fills (s : State) (a : Nat) : (s.bump a).fills = s.fills := by simp only [State.bump, State.wr_fills]
@[simp] theorem State.bump_out (s : State) (a : Nat) : (s.bump a).out = s.out := by simp only [State.bump, State.wr_out]
@[simp] theorem State.bump_freeCnt (s : State) (a : Nat) : (s.bump a).freeCnt = s.freeCnt := by simp only [State.bump, State.wr_freeCnt]
@[simp] theorem State.bump_waitIn (s : State) (a : Nat) : (s.bump a).waitIn = s.waitIn := by simp only [State.bump, State.wr_waitIn]
@[simp] theorem State.bump_msix (s : State) (a : Nat) : (s.bump a).msix = s.msix := by simp only [State.bump, State.wr_msix]
@[simp] theorem State.bump_tow (s : State) (a : Nat) : (s.bump a).tow = s.tow := by simp only [State.bump, State.wr_tow]
@[simp] theorem State.bump_req (s : State) (a : Nat) : (s.bump a).req = s.req := by simp only [State.bump, State.wr_req]
@[simp] theorem State.bump_pass (s : State) (a : Nat) : (s.bump a).pass = s.pass := by simp only [State.bump, State.wr_pass]
@[simp] theorem State.bump_sol (s : State) (a : Nat) : (s.bump a).sol = s.sol := by simp only [State.bump, State.wr_sol]
@[simp] theorem State.bump_chg (s : State) (a : Nat) : (s.bump a).chg = s.chg := by simp only [State.bump, State.wr_chg]
@[simp] theorem State.bump_hst (s : State) (a : Nat) : (s.bump a).hst = s.hst := by simp only [State.bump, State.wr_hst]
@[simp] theorem State.bump_dsp (s : State) (a : Nat) : (s.bump a).dsp = s.dsp := by simp only [State.bump, State.wr_dsp]
@[simp] theorem State.bump_ing (s : State) (a : Nat) : (s.bump a).ing = s.ing := by simp only [State.bump, State.wr_ing]
@[simp] theorem State.bump_wld (s : State) (a : Nat) : (s.bump a).wld = s.wld := by simp only [State.bump, State.wr_wld]
@[simp] theorem State.bump_spd (s : State) (a : Nat) : (s.bump a).spd = s.spd := by simp only [State.bump, State.wr_spd]
@[simp] theorem State.bump_fio (s : State) (a : Nat) : (s.bump a).fio = s.fio := by simp only [State.bump, State.wr_fio]
@[simp] theorem State.bump_sec (s : State) (a : Nat) : (s.bump a).sec = s.sec := by simp only [State.bump, State.wr_sec]
@[simp] theorem State.bump_saf (s : State) (a : Nat) : (s.bump a).saf = s.saf := by simp only [State.bump, State.wr_saf]
@[simp] theorem State.bump_cal (s : State) (a : Nat) : (s.bump a).cal = s.cal := by simp only [State.bump, State.wr_cal]
@[simp] theorem State.bump_aqd (s : State) (a : Nat) : (s.bump a).aqd = s.aqd := by simp only [State.bump, State.wr_aqd]
@[simp] theorem State.bump_thm (s : State) (a : Nat) : (s.bump a).thm = s.thm := by simp only [State.bump, State.wr_thm]
@[simp] theorem State.bump_pwr (s : State) (a : Nat) : (s.bump a).pwr = s.pwr := by simp only [State.bump, State.wr_pwr]
@[simp] theorem State.bump_pending (s : State) (a : Nat) : (s.bump a).pending = s.pending := by simp only [State.bump, State.wr_pending]

/-! ### bumpBy changes the register store only -/

@[simp] theorem State.bumpBy_now (s : State) (a n : Nat) : (s.bumpBy a n).now = s.now := by simp only [State.bumpBy, State.wr_now]
@[simp] theorem State.bumpBy_itime (s : State) (a n : Nat) : (s.bumpBy a n).itime = s.itime := by simp only [State.bumpBy, State.wr_itime]
@[simp] theorem State.bumpBy_latches (s : State) (a n : Nat) : (s.bumpBy a n).latches = s.latches := by simp only [State.bumpBy, State.wr_latches]
@[simp] theorem State.bumpBy_staged (s : State) (a n : Nat) : (s.bumpBy a n).staged = s.staged := by simp only [State.bumpBy, State.wr_staged]
@[simp] theorem State.bumpBy_wosDone (s : State) (a n : Nat) : (s.bumpBy a n).wosDone = s.wosDone := by simp only [State.bumpBy, State.wr_wosDone]
@[simp] theorem State.bumpBy_mem (s : State) (a n : Nat) : (s.bumpBy a n).mem = s.mem := by simp only [State.bumpBy, State.wr_mem]
@[simp] theorem State.bumpBy_fills (s : State) (a n : Nat) : (s.bumpBy a n).fills = s.fills := by simp only [State.bumpBy, State.wr_fills]
@[simp] theorem State.bumpBy_out (s : State) (a n : Nat) : (s.bumpBy a n).out = s.out := by simp only [State.bumpBy, State.wr_out]
@[simp] theorem State.bumpBy_freeCnt (s : State) (a n : Nat) : (s.bumpBy a n).freeCnt = s.freeCnt := by simp only [State.bumpBy, State.wr_freeCnt]
@[simp] theorem State.bumpBy_waitIn (s : State) (a n : Nat) : (s.bumpBy a n).waitIn = s.waitIn := by simp only [State.bumpBy, State.wr_waitIn]
@[simp] theorem State.bumpBy_msix (s : State) (a n : Nat) : (s.bumpBy a n).msix = s.msix := by simp only [State.bumpBy, State.wr_msix]
@[simp] theorem State.bumpBy_tow (s : State) (a n : Nat) : (s.bumpBy a n).tow = s.tow := by simp only [State.bumpBy, State.wr_tow]
@[simp] theorem State.bumpBy_req (s : State) (a n : Nat) : (s.bumpBy a n).req = s.req := by simp only [State.bumpBy, State.wr_req]
@[simp] theorem State.bumpBy_pass (s : State) (a n : Nat) : (s.bumpBy a n).pass = s.pass := by simp only [State.bumpBy, State.wr_pass]
@[simp] theorem State.bumpBy_sol (s : State) (a n : Nat) : (s.bumpBy a n).sol = s.sol := by simp only [State.bumpBy, State.wr_sol]
@[simp] theorem State.bumpBy_chg (s : State) (a n : Nat) : (s.bumpBy a n).chg = s.chg := by simp only [State.bumpBy, State.wr_chg]
@[simp] theorem State.bumpBy_hst (s : State) (a n : Nat) : (s.bumpBy a n).hst = s.hst := by simp only [State.bumpBy, State.wr_hst]
@[simp] theorem State.bumpBy_dsp (s : State) (a n : Nat) : (s.bumpBy a n).dsp = s.dsp := by simp only [State.bumpBy, State.wr_dsp]
@[simp] theorem State.bumpBy_ing (s : State) (a n : Nat) : (s.bumpBy a n).ing = s.ing := by simp only [State.bumpBy, State.wr_ing]
@[simp] theorem State.bumpBy_wld (s : State) (a n : Nat) : (s.bumpBy a n).wld = s.wld := by simp only [State.bumpBy, State.wr_wld]
@[simp] theorem State.bumpBy_spd (s : State) (a n : Nat) : (s.bumpBy a n).spd = s.spd := by simp only [State.bumpBy, State.wr_spd]
@[simp] theorem State.bumpBy_fio (s : State) (a n : Nat) : (s.bumpBy a n).fio = s.fio := by simp only [State.bumpBy, State.wr_fio]
@[simp] theorem State.bumpBy_sec (s : State) (a n : Nat) : (s.bumpBy a n).sec = s.sec := by simp only [State.bumpBy, State.wr_sec]
@[simp] theorem State.bumpBy_saf (s : State) (a n : Nat) : (s.bumpBy a n).saf = s.saf := by simp only [State.bumpBy, State.wr_saf]
@[simp] theorem State.bumpBy_cal (s : State) (a n : Nat) : (s.bumpBy a n).cal = s.cal := by simp only [State.bumpBy, State.wr_cal]
@[simp] theorem State.bumpBy_aqd (s : State) (a n : Nat) : (s.bumpBy a n).aqd = s.aqd := by simp only [State.bumpBy, State.wr_aqd]
@[simp] theorem State.bumpBy_thm (s : State) (a n : Nat) : (s.bumpBy a n).thm = s.thm := by simp only [State.bumpBy, State.wr_thm]
@[simp] theorem State.bumpBy_pwr (s : State) (a n : Nat) : (s.bumpBy a n).pwr = s.pwr := by simp only [State.bumpBy, State.wr_pwr]
@[simp] theorem State.bumpBy_pending (s : State) (a n : Nat) : (s.bumpBy a n).pending = s.pending := by simp only [State.bumpBy, State.wr_pending]

/-! ### bump32 changes the register store only -/

@[simp] theorem State.bump32_now (s : State) (a n : Nat) : (s.bump32 a n).now = s.now := by simp only [State.bump32, State.wr_now]
@[simp] theorem State.bump32_itime (s : State) (a n : Nat) : (s.bump32 a n).itime = s.itime := by simp only [State.bump32, State.wr_itime]
@[simp] theorem State.bump32_latches (s : State) (a n : Nat) : (s.bump32 a n).latches = s.latches := by simp only [State.bump32, State.wr_latches]
@[simp] theorem State.bump32_staged (s : State) (a n : Nat) : (s.bump32 a n).staged = s.staged := by simp only [State.bump32, State.wr_staged]
@[simp] theorem State.bump32_wosDone (s : State) (a n : Nat) : (s.bump32 a n).wosDone = s.wosDone := by simp only [State.bump32, State.wr_wosDone]
@[simp] theorem State.bump32_mem (s : State) (a n : Nat) : (s.bump32 a n).mem = s.mem := by simp only [State.bump32, State.wr_mem]
@[simp] theorem State.bump32_fills (s : State) (a n : Nat) : (s.bump32 a n).fills = s.fills := by simp only [State.bump32, State.wr_fills]
@[simp] theorem State.bump32_out (s : State) (a n : Nat) : (s.bump32 a n).out = s.out := by simp only [State.bump32, State.wr_out]
@[simp] theorem State.bump32_freeCnt (s : State) (a n : Nat) : (s.bump32 a n).freeCnt = s.freeCnt := by simp only [State.bump32, State.wr_freeCnt]
@[simp] theorem State.bump32_waitIn (s : State) (a n : Nat) : (s.bump32 a n).waitIn = s.waitIn := by simp only [State.bump32, State.wr_waitIn]
@[simp] theorem State.bump32_msix (s : State) (a n : Nat) : (s.bump32 a n).msix = s.msix := by simp only [State.bump32, State.wr_msix]
@[simp] theorem State.bump32_tow (s : State) (a n : Nat) : (s.bump32 a n).tow = s.tow := by simp only [State.bump32, State.wr_tow]
@[simp] theorem State.bump32_req (s : State) (a n : Nat) : (s.bump32 a n).req = s.req := by simp only [State.bump32, State.wr_req]
@[simp] theorem State.bump32_pass (s : State) (a n : Nat) : (s.bump32 a n).pass = s.pass := by simp only [State.bump32, State.wr_pass]
@[simp] theorem State.bump32_sol (s : State) (a n : Nat) : (s.bump32 a n).sol = s.sol := by simp only [State.bump32, State.wr_sol]
@[simp] theorem State.bump32_chg (s : State) (a n : Nat) : (s.bump32 a n).chg = s.chg := by simp only [State.bump32, State.wr_chg]
@[simp] theorem State.bump32_hst (s : State) (a n : Nat) : (s.bump32 a n).hst = s.hst := by simp only [State.bump32, State.wr_hst]
@[simp] theorem State.bump32_dsp (s : State) (a n : Nat) : (s.bump32 a n).dsp = s.dsp := by simp only [State.bump32, State.wr_dsp]
@[simp] theorem State.bump32_ing (s : State) (a n : Nat) : (s.bump32 a n).ing = s.ing := by simp only [State.bump32, State.wr_ing]
@[simp] theorem State.bump32_wld (s : State) (a n : Nat) : (s.bump32 a n).wld = s.wld := by simp only [State.bump32, State.wr_wld]
@[simp] theorem State.bump32_spd (s : State) (a n : Nat) : (s.bump32 a n).spd = s.spd := by simp only [State.bump32, State.wr_spd]
@[simp] theorem State.bump32_fio (s : State) (a n : Nat) : (s.bump32 a n).fio = s.fio := by simp only [State.bump32, State.wr_fio]
@[simp] theorem State.bump32_sec (s : State) (a n : Nat) : (s.bump32 a n).sec = s.sec := by simp only [State.bump32, State.wr_sec]
@[simp] theorem State.bump32_saf (s : State) (a n : Nat) : (s.bump32 a n).saf = s.saf := by simp only [State.bump32, State.wr_saf]
@[simp] theorem State.bump32_cal (s : State) (a n : Nat) : (s.bump32 a n).cal = s.cal := by simp only [State.bump32, State.wr_cal]
@[simp] theorem State.bump32_aqd (s : State) (a n : Nat) : (s.bump32 a n).aqd = s.aqd := by simp only [State.bump32, State.wr_aqd]
@[simp] theorem State.bump32_thm (s : State) (a n : Nat) : (s.bump32 a n).thm = s.thm := by simp only [State.bump32, State.wr_thm]
@[simp] theorem State.bump32_pwr (s : State) (a n : Nat) : (s.bump32 a n).pwr = s.pwr := by simp only [State.bump32, State.wr_pwr]
@[simp] theorem State.bump32_pending (s : State) (a n : Nat) : (s.bump32 a n).pending = s.pending := by simp only [State.bump32, State.wr_pending]

/-! ### bumpF changes the register store only -/

@[simp] theorem State.bumpF_now (s : State) (a lo : Nat) : (s.bumpF a lo).now = s.now := by simp only [State.bumpF, State.wrf_now]
@[simp] theorem State.bumpF_itime (s : State) (a lo : Nat) : (s.bumpF a lo).itime = s.itime := by simp only [State.bumpF, State.wrf_itime]
@[simp] theorem State.bumpF_latches (s : State) (a lo : Nat) : (s.bumpF a lo).latches = s.latches := by simp only [State.bumpF, State.wrf_latches]
@[simp] theorem State.bumpF_staged (s : State) (a lo : Nat) : (s.bumpF a lo).staged = s.staged := by simp only [State.bumpF, State.wrf_staged]
@[simp] theorem State.bumpF_wosDone (s : State) (a lo : Nat) : (s.bumpF a lo).wosDone = s.wosDone := by simp only [State.bumpF, State.wrf_wosDone]
@[simp] theorem State.bumpF_mem (s : State) (a lo : Nat) : (s.bumpF a lo).mem = s.mem := by simp only [State.bumpF, State.wrf_mem]
@[simp] theorem State.bumpF_fills (s : State) (a lo : Nat) : (s.bumpF a lo).fills = s.fills := by simp only [State.bumpF, State.wrf_fills]
@[simp] theorem State.bumpF_out (s : State) (a lo : Nat) : (s.bumpF a lo).out = s.out := by simp only [State.bumpF, State.wrf_out]
@[simp] theorem State.bumpF_freeCnt (s : State) (a lo : Nat) : (s.bumpF a lo).freeCnt = s.freeCnt := by simp only [State.bumpF, State.wrf_freeCnt]
@[simp] theorem State.bumpF_waitIn (s : State) (a lo : Nat) : (s.bumpF a lo).waitIn = s.waitIn := by simp only [State.bumpF, State.wrf_waitIn]
@[simp] theorem State.bumpF_msix (s : State) (a lo : Nat) : (s.bumpF a lo).msix = s.msix := by simp only [State.bumpF, State.wrf_msix]
@[simp] theorem State.bumpF_tow (s : State) (a lo : Nat) : (s.bumpF a lo).tow = s.tow := by simp only [State.bumpF, State.wrf_tow]
@[simp] theorem State.bumpF_req (s : State) (a lo : Nat) : (s.bumpF a lo).req = s.req := by simp only [State.bumpF, State.wrf_req]
@[simp] theorem State.bumpF_pass (s : State) (a lo : Nat) : (s.bumpF a lo).pass = s.pass := by simp only [State.bumpF, State.wrf_pass]
@[simp] theorem State.bumpF_sol (s : State) (a lo : Nat) : (s.bumpF a lo).sol = s.sol := by simp only [State.bumpF, State.wrf_sol]
@[simp] theorem State.bumpF_chg (s : State) (a lo : Nat) : (s.bumpF a lo).chg = s.chg := by simp only [State.bumpF, State.wrf_chg]
@[simp] theorem State.bumpF_hst (s : State) (a lo : Nat) : (s.bumpF a lo).hst = s.hst := by simp only [State.bumpF, State.wrf_hst]
@[simp] theorem State.bumpF_dsp (s : State) (a lo : Nat) : (s.bumpF a lo).dsp = s.dsp := by simp only [State.bumpF, State.wrf_dsp]
@[simp] theorem State.bumpF_ing (s : State) (a lo : Nat) : (s.bumpF a lo).ing = s.ing := by simp only [State.bumpF, State.wrf_ing]
@[simp] theorem State.bumpF_wld (s : State) (a lo : Nat) : (s.bumpF a lo).wld = s.wld := by simp only [State.bumpF, State.wrf_wld]
@[simp] theorem State.bumpF_spd (s : State) (a lo : Nat) : (s.bumpF a lo).spd = s.spd := by simp only [State.bumpF, State.wrf_spd]
@[simp] theorem State.bumpF_fio (s : State) (a lo : Nat) : (s.bumpF a lo).fio = s.fio := by simp only [State.bumpF, State.wrf_fio]
@[simp] theorem State.bumpF_sec (s : State) (a lo : Nat) : (s.bumpF a lo).sec = s.sec := by simp only [State.bumpF, State.wrf_sec]
@[simp] theorem State.bumpF_saf (s : State) (a lo : Nat) : (s.bumpF a lo).saf = s.saf := by simp only [State.bumpF, State.wrf_saf]
@[simp] theorem State.bumpF_cal (s : State) (a lo : Nat) : (s.bumpF a lo).cal = s.cal := by simp only [State.bumpF, State.wrf_cal]
@[simp] theorem State.bumpF_aqd (s : State) (a lo : Nat) : (s.bumpF a lo).aqd = s.aqd := by simp only [State.bumpF, State.wrf_aqd]
@[simp] theorem State.bumpF_thm (s : State) (a lo : Nat) : (s.bumpF a lo).thm = s.thm := by simp only [State.bumpF, State.wrf_thm]
@[simp] theorem State.bumpF_pwr (s : State) (a lo : Nat) : (s.bumpF a lo).pwr = s.pwr := by simp only [State.bumpF, State.wrf_pwr]
@[simp] theorem State.bumpF_pending (s : State) (a lo : Nat) : (s.bumpF a lo).pending = s.pending := by simp only [State.bumpF, State.wrf_pending]

/-! ### emit changes the output only -/

@[simp] theorem State.emit_now (s : State) (o : Out) : (s.emit o).now = s.now := rfl
@[simp] theorem State.emit_itime (s : State) (o : Out) : (s.emit o).itime = s.itime := rfl
@[simp] theorem State.emit_regs (s : State) (o : Out) : (s.emit o).regs = s.regs := rfl
@[simp] theorem State.emit_latches (s : State) (o : Out) : (s.emit o).latches = s.latches := rfl
@[simp] theorem State.emit_staged (s : State) (o : Out) : (s.emit o).staged = s.staged := rfl
@[simp] theorem State.emit_wosDone (s : State) (o : Out) : (s.emit o).wosDone = s.wosDone := rfl
@[simp] theorem State.emit_mem (s : State) (o : Out) : (s.emit o).mem = s.mem := rfl
@[simp] theorem State.emit_fills (s : State) (o : Out) : (s.emit o).fills = s.fills := rfl
@[simp] theorem State.emit_freeCnt (s : State) (o : Out) : (s.emit o).freeCnt = s.freeCnt := rfl
@[simp] theorem State.emit_waitIn (s : State) (o : Out) : (s.emit o).waitIn = s.waitIn := rfl
@[simp] theorem State.emit_msix (s : State) (o : Out) : (s.emit o).msix = s.msix := rfl
@[simp] theorem State.emit_tow (s : State) (o : Out) : (s.emit o).tow = s.tow := rfl
@[simp] theorem State.emit_req (s : State) (o : Out) : (s.emit o).req = s.req := rfl
@[simp] theorem State.emit_pass (s : State) (o : Out) : (s.emit o).pass = s.pass := rfl
@[simp] theorem State.emit_sol (s : State) (o : Out) : (s.emit o).sol = s.sol := rfl
@[simp] theorem State.emit_chg (s : State) (o : Out) : (s.emit o).chg = s.chg := rfl
@[simp] theorem State.emit_hst (s : State) (o : Out) : (s.emit o).hst = s.hst := rfl
@[simp] theorem State.emit_dsp (s : State) (o : Out) : (s.emit o).dsp = s.dsp := rfl
@[simp] theorem State.emit_ing (s : State) (o : Out) : (s.emit o).ing = s.ing := rfl
@[simp] theorem State.emit_wld (s : State) (o : Out) : (s.emit o).wld = s.wld := rfl
@[simp] theorem State.emit_spd (s : State) (o : Out) : (s.emit o).spd = s.spd := rfl
@[simp] theorem State.emit_fio (s : State) (o : Out) : (s.emit o).fio = s.fio := rfl
@[simp] theorem State.emit_sec (s : State) (o : Out) : (s.emit o).sec = s.sec := rfl
@[simp] theorem State.emit_saf (s : State) (o : Out) : (s.emit o).saf = s.saf := rfl
@[simp] theorem State.emit_cal (s : State) (o : Out) : (s.emit o).cal = s.cal := rfl
@[simp] theorem State.emit_aqd (s : State) (o : Out) : (s.emit o).aqd = s.aqd := rfl
@[simp] theorem State.emit_thm (s : State) (o : Out) : (s.emit o).thm = s.thm := rfl
@[simp] theorem State.emit_pwr (s : State) (o : Out) : (s.emit o).pwr = s.pwr := rfl
@[simp] theorem State.emit_pending (s : State) (o : Out) : (s.emit o).pending = s.pending := rfl

/-! ### sendMsix and raise change registers, messages and their output only -/

@[simp] theorem State.sendMsix_now (s : State) (v : Nat) : (s.sendMsix v).now = s.now := by unfold State.sendMsix; split <;> rfl
@[simp] theorem State.sendMsix_itime (s : State) (v : Nat) : (s.sendMsix v).itime = s.itime := by unfold State.sendMsix; split <;> rfl
@[simp] theorem State.sendMsix_regs (s : State) (v : Nat) : (s.sendMsix v).regs = s.regs := by unfold State.sendMsix; split <;> rfl
@[simp] theorem State.sendMsix_latches (s : State) (v : Nat) : (s.sendMsix v).latches = s.latches := by unfold State.sendMsix; split <;> rfl
@[simp] theorem State.sendMsix_staged (s : State) (v : Nat) : (s.sendMsix v).staged = s.staged := by unfold State.sendMsix; split <;> rfl
@[simp] theorem State.sendMsix_wosDone (s : State) (v : Nat) : (s.sendMsix v).wosDone = s.wosDone := by unfold State.sendMsix; split <;> rfl
@[simp] theorem State.sendMsix_mem (s : State) (v : Nat) : (s.sendMsix v).mem = s.mem := by unfold State.sendMsix; split <;> rfl
@[simp] theorem State.sendMsix_fills (s : State) (v : Nat) : (s.sendMsix v).fills = s.fills := by unfold State.sendMsix; split <;> rfl
@[simp] theorem State.sendMsix_freeCnt (s : State) (v : Nat) : (s.sendMsix v).freeCnt = s.freeCnt := by unfold State.sendMsix; split <;> rfl
@[simp] theorem State.sendMsix_waitIn (s : State) (v : Nat) : (s.sendMsix v).waitIn = s.waitIn := by unfold State.sendMsix; split <;> rfl
@[simp] theorem State.sendMsix_tow (s : State) (v : Nat) : (s.sendMsix v).tow = s.tow := by unfold State.sendMsix; split <;> rfl
@[simp] theorem State.sendMsix_req (s : State) (v : Nat) : (s.sendMsix v).req = s.req := by unfold State.sendMsix; split <;> rfl
@[simp] theorem State.sendMsix_pass (s : State) (v : Nat) : (s.sendMsix v).pass = s.pass := by unfold State.sendMsix; split <;> rfl
@[simp] theorem State.sendMsix_sol (s : State) (v : Nat) : (s.sendMsix v).sol = s.sol := by unfold State.sendMsix; split <;> rfl
@[simp] theorem State.sendMsix_chg (s : State) (v : Nat) : (s.sendMsix v).chg = s.chg := by unfold State.sendMsix; split <;> rfl
@[simp] theorem State.sendMsix_hst (s : State) (v : Nat) : (s.sendMsix v).hst = s.hst := by unfold State.sendMsix; split <;> rfl
@[simp] theorem State.sendMsix_dsp (s : State) (v : Nat) : (s.sendMsix v).dsp = s.dsp := by unfold State.sendMsix; split <;> rfl
@[simp] theorem State.sendMsix_ing (s : State) (v : Nat) : (s.sendMsix v).ing = s.ing := by unfold State.sendMsix; split <;> rfl
@[simp] theorem State.sendMsix_wld (s : State) (v : Nat) : (s.sendMsix v).wld = s.wld := by unfold State.sendMsix; split <;> rfl
@[simp] theorem State.sendMsix_spd (s : State) (v : Nat) : (s.sendMsix v).spd = s.spd := by unfold State.sendMsix; split <;> rfl
@[simp] theorem State.sendMsix_fio (s : State) (v : Nat) : (s.sendMsix v).fio = s.fio := by unfold State.sendMsix; split <;> rfl
@[simp] theorem State.sendMsix_sec (s : State) (v : Nat) : (s.sendMsix v).sec = s.sec := by unfold State.sendMsix; split <;> rfl
@[simp] theorem State.sendMsix_saf (s : State) (v : Nat) : (s.sendMsix v).saf = s.saf := by unfold State.sendMsix; split <;> rfl
@[simp] theorem State.sendMsix_cal (s : State) (v : Nat) : (s.sendMsix v).cal = s.cal := by unfold State.sendMsix; split <;> rfl
@[simp] theorem State.sendMsix_aqd (s : State) (v : Nat) : (s.sendMsix v).aqd = s.aqd := by unfold State.sendMsix; split <;> rfl
@[simp] theorem State.sendMsix_thm (s : State) (v : Nat) : (s.sendMsix v).thm = s.thm := by unfold State.sendMsix; split <;> rfl
@[simp] theorem State.sendMsix_pwr (s : State) (v : Nat) : (s.sendMsix v).pwr = s.pwr := by unfold State.sendMsix; split <;> rfl
@[simp] theorem State.sendMsix_pending (s : State) (v : Nat) : (s.sendMsix v).pending = s.pending := by unfold State.sendMsix; split <;> rfl
@[simp] theorem State.irqEdge_now (s : State) (p b : Nat) : (s.irqEdge p b).now = s.now := by unfold State.irqEdge; split <;> simp only [State.sendMsix_now]
@[simp] theorem State.irqEdge_itime (s : State) (p b : Nat) : (s.irqEdge p b).itime = s.itime := by unfold State.irqEdge; split <;> simp only [State.sendMsix_itime]
@[simp] theorem State.irqEdge_regs (s : State) (p b : Nat) : (s.irqEdge p b).regs = s.regs := by unfold State.irqEdge; split <;> simp only [State.sendMsix_regs]
@[simp] theorem State.irqEdge_latches (s : State) (p b : Nat) : (s.irqEdge p b).latches = s.latches := by unfold State.irqEdge; split <;> simp only [State.sendMsix_latches]
@[simp] theorem State.irqEdge_staged (s : State) (p b : Nat) : (s.irqEdge p b).staged = s.staged := by unfold State.irqEdge; split <;> simp only [State.sendMsix_staged]
@[simp] theorem State.irqEdge_wosDone (s : State) (p b : Nat) : (s.irqEdge p b).wosDone = s.wosDone := by unfold State.irqEdge; split <;> simp only [State.sendMsix_wosDone]
@[simp] theorem State.irqEdge_mem (s : State) (p b : Nat) : (s.irqEdge p b).mem = s.mem := by unfold State.irqEdge; split <;> simp only [State.sendMsix_mem]
@[simp] theorem State.irqEdge_fills (s : State) (p b : Nat) : (s.irqEdge p b).fills = s.fills := by unfold State.irqEdge; split <;> simp only [State.sendMsix_fills]
@[simp] theorem State.irqEdge_freeCnt (s : State) (p b : Nat) : (s.irqEdge p b).freeCnt = s.freeCnt := by unfold State.irqEdge; split <;> simp only [State.sendMsix_freeCnt]
@[simp] theorem State.irqEdge_waitIn (s : State) (p b : Nat) : (s.irqEdge p b).waitIn = s.waitIn := by unfold State.irqEdge; split <;> simp only [State.sendMsix_waitIn]
@[simp] theorem State.irqEdge_tow (s : State) (p b : Nat) : (s.irqEdge p b).tow = s.tow := by unfold State.irqEdge; split <;> simp only [State.sendMsix_tow]
@[simp] theorem State.irqEdge_req (s : State) (p b : Nat) : (s.irqEdge p b).req = s.req := by unfold State.irqEdge; split <;> simp only [State.sendMsix_req]
@[simp] theorem State.irqEdge_pass (s : State) (p b : Nat) : (s.irqEdge p b).pass = s.pass := by unfold State.irqEdge; split <;> simp only [State.sendMsix_pass]
@[simp] theorem State.irqEdge_sol (s : State) (p b : Nat) : (s.irqEdge p b).sol = s.sol := by unfold State.irqEdge; split <;> simp only [State.sendMsix_sol]
@[simp] theorem State.irqEdge_chg (s : State) (p b : Nat) : (s.irqEdge p b).chg = s.chg := by unfold State.irqEdge; split <;> simp only [State.sendMsix_chg]
@[simp] theorem State.irqEdge_hst (s : State) (p b : Nat) : (s.irqEdge p b).hst = s.hst := by unfold State.irqEdge; split <;> simp only [State.sendMsix_hst]
@[simp] theorem State.irqEdge_dsp (s : State) (p b : Nat) : (s.irqEdge p b).dsp = s.dsp := by unfold State.irqEdge; split <;> simp only [State.sendMsix_dsp]
@[simp] theorem State.irqEdge_ing (s : State) (p b : Nat) : (s.irqEdge p b).ing = s.ing := by unfold State.irqEdge; split <;> simp only [State.sendMsix_ing]
@[simp] theorem State.irqEdge_wld (s : State) (p b : Nat) : (s.irqEdge p b).wld = s.wld := by unfold State.irqEdge; split <;> simp only [State.sendMsix_wld]
@[simp] theorem State.irqEdge_spd (s : State) (p b : Nat) : (s.irqEdge p b).spd = s.spd := by unfold State.irqEdge; split <;> simp only [State.sendMsix_spd]
@[simp] theorem State.irqEdge_fio (s : State) (p b : Nat) : (s.irqEdge p b).fio = s.fio := by unfold State.irqEdge; split <;> simp only [State.sendMsix_fio]
@[simp] theorem State.irqEdge_sec (s : State) (p b : Nat) : (s.irqEdge p b).sec = s.sec := by unfold State.irqEdge; split <;> simp only [State.sendMsix_sec]
@[simp] theorem State.irqEdge_saf (s : State) (p b : Nat) : (s.irqEdge p b).saf = s.saf := by unfold State.irqEdge; split <;> simp only [State.sendMsix_saf]
@[simp] theorem State.irqEdge_cal (s : State) (p b : Nat) : (s.irqEdge p b).cal = s.cal := by unfold State.irqEdge; split <;> simp only [State.sendMsix_cal]
@[simp] theorem State.irqEdge_aqd (s : State) (p b : Nat) : (s.irqEdge p b).aqd = s.aqd := by unfold State.irqEdge; split <;> simp only [State.sendMsix_aqd]
@[simp] theorem State.irqEdge_thm (s : State) (p b : Nat) : (s.irqEdge p b).thm = s.thm := by unfold State.irqEdge; split <;> simp only [State.sendMsix_thm]
@[simp] theorem State.irqEdge_pwr (s : State) (p b : Nat) : (s.irqEdge p b).pwr = s.pwr := by unfold State.irqEdge; split <;> simp only [State.sendMsix_pwr]
@[simp] theorem State.irqEdge_pending (s : State) (p b : Nat) : (s.irqEdge p b).pending = s.pending := by unfold State.irqEdge; split <;> simp only [State.sendMsix_pending]
@[simp] theorem State.raiseMask_now (s : State) (p m : Nat) : (s.raiseMask p m).now = s.now := by simp only [State.raiseMask, State.irqEdge_now, State.wr_now]
@[simp] theorem State.raiseMask_itime (s : State) (p m : Nat) : (s.raiseMask p m).itime = s.itime := by simp only [State.raiseMask, State.irqEdge_itime, State.wr_itime]
@[simp] theorem State.raiseMask_latches (s : State) (p m : Nat) : (s.raiseMask p m).latches = s.latches := by simp only [State.raiseMask, State.irqEdge_latches, State.wr_latches]
@[simp] theorem State.raiseMask_staged (s : State) (p m : Nat) : (s.raiseMask p m).staged = s.staged := by simp only [State.raiseMask, State.irqEdge_staged, State.wr_staged]
@[simp] theorem State.raiseMask_wosDone (s : State) (p m : Nat) : (s.raiseMask p m).wosDone = s.wosDone := by simp only [State.raiseMask, State.irqEdge_wosDone, State.wr_wosDone]
@[simp] theorem State.raiseMask_mem (s : State) (p m : Nat) : (s.raiseMask p m).mem = s.mem := by simp only [State.raiseMask, State.irqEdge_mem, State.wr_mem]
@[simp] theorem State.raiseMask_fills (s : State) (p m : Nat) : (s.raiseMask p m).fills = s.fills := by simp only [State.raiseMask, State.irqEdge_fills, State.wr_fills]
@[simp] theorem State.raiseMask_freeCnt (s : State) (p m : Nat) : (s.raiseMask p m).freeCnt = s.freeCnt := by simp only [State.raiseMask, State.irqEdge_freeCnt, State.wr_freeCnt]
@[simp] theorem State.raiseMask_waitIn (s : State) (p m : Nat) : (s.raiseMask p m).waitIn = s.waitIn := by simp only [State.raiseMask, State.irqEdge_waitIn, State.wr_waitIn]
@[simp] theorem State.raiseMask_tow (s : State) (p m : Nat) : (s.raiseMask p m).tow = s.tow := by simp only [State.raiseMask, State.irqEdge_tow, State.wr_tow]
@[simp] theorem State.raiseMask_req (s : State) (p m : Nat) : (s.raiseMask p m).req = s.req := by simp only [State.raiseMask, State.irqEdge_req, State.wr_req]
@[simp] theorem State.raiseMask_pass (s : State) (p m : Nat) : (s.raiseMask p m).pass = s.pass := by simp only [State.raiseMask, State.irqEdge_pass, State.wr_pass]
@[simp] theorem State.raiseMask_sol (s : State) (p m : Nat) : (s.raiseMask p m).sol = s.sol := by simp only [State.raiseMask, State.irqEdge_sol, State.wr_sol]
@[simp] theorem State.raiseMask_chg (s : State) (p m : Nat) : (s.raiseMask p m).chg = s.chg := by simp only [State.raiseMask, State.irqEdge_chg, State.wr_chg]
@[simp] theorem State.raiseMask_hst (s : State) (p m : Nat) : (s.raiseMask p m).hst = s.hst := by simp only [State.raiseMask, State.irqEdge_hst, State.wr_hst]
@[simp] theorem State.raiseMask_dsp (s : State) (p m : Nat) : (s.raiseMask p m).dsp = s.dsp := by simp only [State.raiseMask, State.irqEdge_dsp, State.wr_dsp]
@[simp] theorem State.raiseMask_ing (s : State) (p m : Nat) : (s.raiseMask p m).ing = s.ing := by simp only [State.raiseMask, State.irqEdge_ing, State.wr_ing]
@[simp] theorem State.raiseMask_wld (s : State) (p m : Nat) : (s.raiseMask p m).wld = s.wld := by simp only [State.raiseMask, State.irqEdge_wld, State.wr_wld]
@[simp] theorem State.raiseMask_spd (s : State) (p m : Nat) : (s.raiseMask p m).spd = s.spd := by simp only [State.raiseMask, State.irqEdge_spd, State.wr_spd]
@[simp] theorem State.raiseMask_fio (s : State) (p m : Nat) : (s.raiseMask p m).fio = s.fio := by simp only [State.raiseMask, State.irqEdge_fio, State.wr_fio]
@[simp] theorem State.raiseMask_sec (s : State) (p m : Nat) : (s.raiseMask p m).sec = s.sec := by simp only [State.raiseMask, State.irqEdge_sec, State.wr_sec]
@[simp] theorem State.raiseMask_saf (s : State) (p m : Nat) : (s.raiseMask p m).saf = s.saf := by simp only [State.raiseMask, State.irqEdge_saf, State.wr_saf]
@[simp] theorem State.raiseMask_cal (s : State) (p m : Nat) : (s.raiseMask p m).cal = s.cal := by simp only [State.raiseMask, State.irqEdge_cal, State.wr_cal]
@[simp] theorem State.raiseMask_aqd (s : State) (p m : Nat) : (s.raiseMask p m).aqd = s.aqd := by simp only [State.raiseMask, State.irqEdge_aqd, State.wr_aqd]
@[simp] theorem State.raiseMask_thm (s : State) (p m : Nat) : (s.raiseMask p m).thm = s.thm := by simp only [State.raiseMask, State.irqEdge_thm, State.wr_thm]
@[simp] theorem State.raiseMask_pwr (s : State) (p m : Nat) : (s.raiseMask p m).pwr = s.pwr := by simp only [State.raiseMask, State.irqEdge_pwr, State.wr_pwr]
@[simp] theorem State.raiseMask_pending (s : State) (p m : Nat) : (s.raiseMask p m).pending = s.pending := by simp only [State.raiseMask, State.irqEdge_pending, State.wr_pending]
@[simp] theorem State.raise_now (s : State) (p i : Nat) : (s.raise p i).now = s.now := by simp only [State.raise, State.raiseMask_now]
@[simp] theorem State.raise_itime (s : State) (p i : Nat) : (s.raise p i).itime = s.itime := by simp only [State.raise, State.raiseMask_itime]
@[simp] theorem State.raise_latches (s : State) (p i : Nat) : (s.raise p i).latches = s.latches := by simp only [State.raise, State.raiseMask_latches]
@[simp] theorem State.raise_staged (s : State) (p i : Nat) : (s.raise p i).staged = s.staged := by simp only [State.raise, State.raiseMask_staged]
@[simp] theorem State.raise_wosDone (s : State) (p i : Nat) : (s.raise p i).wosDone = s.wosDone := by simp only [State.raise, State.raiseMask_wosDone]
@[simp] theorem State.raise_mem (s : State) (p i : Nat) : (s.raise p i).mem = s.mem := by simp only [State.raise, State.raiseMask_mem]
@[simp] theorem State.raise_fills (s : State) (p i : Nat) : (s.raise p i).fills = s.fills := by simp only [State.raise, State.raiseMask_fills]
@[simp] theorem State.raise_freeCnt (s : State) (p i : Nat) : (s.raise p i).freeCnt = s.freeCnt := by simp only [State.raise, State.raiseMask_freeCnt]
@[simp] theorem State.raise_waitIn (s : State) (p i : Nat) : (s.raise p i).waitIn = s.waitIn := by simp only [State.raise, State.raiseMask_waitIn]
@[simp] theorem State.raise_tow (s : State) (p i : Nat) : (s.raise p i).tow = s.tow := by simp only [State.raise, State.raiseMask_tow]
@[simp] theorem State.raise_req (s : State) (p i : Nat) : (s.raise p i).req = s.req := by simp only [State.raise, State.raiseMask_req]
@[simp] theorem State.raise_pass (s : State) (p i : Nat) : (s.raise p i).pass = s.pass := by simp only [State.raise, State.raiseMask_pass]
@[simp] theorem State.raise_sol (s : State) (p i : Nat) : (s.raise p i).sol = s.sol := by simp only [State.raise, State.raiseMask_sol]
@[simp] theorem State.raise_chg (s : State) (p i : Nat) : (s.raise p i).chg = s.chg := by simp only [State.raise, State.raiseMask_chg]
@[simp] theorem State.raise_hst (s : State) (p i : Nat) : (s.raise p i).hst = s.hst := by simp only [State.raise, State.raiseMask_hst]
@[simp] theorem State.raise_dsp (s : State) (p i : Nat) : (s.raise p i).dsp = s.dsp := by simp only [State.raise, State.raiseMask_dsp]
@[simp] theorem State.raise_ing (s : State) (p i : Nat) : (s.raise p i).ing = s.ing := by simp only [State.raise, State.raiseMask_ing]
@[simp] theorem State.raise_wld (s : State) (p i : Nat) : (s.raise p i).wld = s.wld := by simp only [State.raise, State.raiseMask_wld]
@[simp] theorem State.raise_spd (s : State) (p i : Nat) : (s.raise p i).spd = s.spd := by simp only [State.raise, State.raiseMask_spd]
@[simp] theorem State.raise_fio (s : State) (p i : Nat) : (s.raise p i).fio = s.fio := by simp only [State.raise, State.raiseMask_fio]
@[simp] theorem State.raise_sec (s : State) (p i : Nat) : (s.raise p i).sec = s.sec := by simp only [State.raise, State.raiseMask_sec]
@[simp] theorem State.raise_saf (s : State) (p i : Nat) : (s.raise p i).saf = s.saf := by simp only [State.raise, State.raiseMask_saf]
@[simp] theorem State.raise_cal (s : State) (p i : Nat) : (s.raise p i).cal = s.cal := by simp only [State.raise, State.raiseMask_cal]
@[simp] theorem State.raise_aqd (s : State) (p i : Nat) : (s.raise p i).aqd = s.aqd := by simp only [State.raise, State.raiseMask_aqd]
@[simp] theorem State.raise_thm (s : State) (p i : Nat) : (s.raise p i).thm = s.thm := by simp only [State.raise, State.raiseMask_thm]
@[simp] theorem State.raise_pwr (s : State) (p i : Nat) : (s.raise p i).pwr = s.pwr := by simp only [State.raise, State.raiseMask_pwr]
@[simp] theorem State.raise_pending (s : State) (p i : Nat) : (s.raise p i).pending = s.pending := by simp only [State.raise, State.raiseMask_pending]

/-! ### pageErr changes registers, messages and their output only -/

@[simp] theorem State.pageErr_now (s : State) (p c i : Nat) : (s.pageErr p c i).now = s.now := by simp only [State.pageErr, State.raise_now]; split <;> simp only [State.wrb_now, State.wr_now]
@[simp] theorem State.pageErr_itime (s : State) (p c i : Nat) : (s.pageErr p c i).itime = s.itime := by simp only [State.pageErr, State.raise_itime]; split <;> simp only [State.wrb_itime, State.wr_itime]
@[simp] theorem State.pageErr_latches (s : State) (p c i : Nat) : (s.pageErr p c i).latches = s.latches := by simp only [State.pageErr, State.raise_latches]; split <;> simp only [State.wrb_latches, State.wr_latches]
@[simp] theorem State.pageErr_staged (s : State) (p c i : Nat) : (s.pageErr p c i).staged = s.staged := by simp only [State.pageErr, State.raise_staged]; split <;> simp only [State.wrb_staged, State.wr_staged]
@[simp] theorem State.pageErr_wosDone (s : State) (p c i : Nat) : (s.pageErr p c i).wosDone = s.wosDone := by simp only [State.pageErr, State.raise_wosDone]; split <;> simp only [State.wrb_wosDone, State.wr_wosDone]
@[simp] theorem State.pageErr_mem (s : State) (p c i : Nat) : (s.pageErr p c i).mem = s.mem := by simp only [State.pageErr, State.raise_mem]; split <;> simp only [State.wrb_mem, State.wr_mem]
@[simp] theorem State.pageErr_fills (s : State) (p c i : Nat) : (s.pageErr p c i).fills = s.fills := by simp only [State.pageErr, State.raise_fills]; split <;> simp only [State.wrb_fills, State.wr_fills]
@[simp] theorem State.pageErr_freeCnt (s : State) (p c i : Nat) : (s.pageErr p c i).freeCnt = s.freeCnt := by simp only [State.pageErr, State.raise_freeCnt]; split <;> simp only [State.wrb_freeCnt, State.wr_freeCnt]
@[simp] theorem State.pageErr_waitIn (s : State) (p c i : Nat) : (s.pageErr p c i).waitIn = s.waitIn := by simp only [State.pageErr, State.raise_waitIn]; split <;> simp only [State.wrb_waitIn, State.wr_waitIn]
@[simp] theorem State.pageErr_tow (s : State) (p c i : Nat) : (s.pageErr p c i).tow = s.tow := by simp only [State.pageErr, State.raise_tow]; split <;> simp only [State.wrb_tow, State.wr_tow]
@[simp] theorem State.pageErr_req (s : State) (p c i : Nat) : (s.pageErr p c i).req = s.req := by simp only [State.pageErr, State.raise_req]; split <;> simp only [State.wrb_req, State.wr_req]
@[simp] theorem State.pageErr_pass (s : State) (p c i : Nat) : (s.pageErr p c i).pass = s.pass := by simp only [State.pageErr, State.raise_pass]; split <;> simp only [State.wrb_pass, State.wr_pass]
@[simp] theorem State.pageErr_sol (s : State) (p c i : Nat) : (s.pageErr p c i).sol = s.sol := by simp only [State.pageErr, State.raise_sol]; split <;> simp only [State.wrb_sol, State.wr_sol]
@[simp] theorem State.pageErr_chg (s : State) (p c i : Nat) : (s.pageErr p c i).chg = s.chg := by simp only [State.pageErr, State.raise_chg]; split <;> simp only [State.wrb_chg, State.wr_chg]
@[simp] theorem State.pageErr_hst (s : State) (p c i : Nat) : (s.pageErr p c i).hst = s.hst := by simp only [State.pageErr, State.raise_hst]; split <;> simp only [State.wrb_hst, State.wr_hst]
@[simp] theorem State.pageErr_dsp (s : State) (p c i : Nat) : (s.pageErr p c i).dsp = s.dsp := by simp only [State.pageErr, State.raise_dsp]; split <;> simp only [State.wrb_dsp, State.wr_dsp]
@[simp] theorem State.pageErr_ing (s : State) (p c i : Nat) : (s.pageErr p c i).ing = s.ing := by simp only [State.pageErr, State.raise_ing]; split <;> simp only [State.wrb_ing, State.wr_ing]
@[simp] theorem State.pageErr_wld (s : State) (p c i : Nat) : (s.pageErr p c i).wld = s.wld := by simp only [State.pageErr, State.raise_wld]; split <;> simp only [State.wrb_wld, State.wr_wld]
@[simp] theorem State.pageErr_spd (s : State) (p c i : Nat) : (s.pageErr p c i).spd = s.spd := by simp only [State.pageErr, State.raise_spd]; split <;> simp only [State.wrb_spd, State.wr_spd]
@[simp] theorem State.pageErr_fio (s : State) (p c i : Nat) : (s.pageErr p c i).fio = s.fio := by simp only [State.pageErr, State.raise_fio]; split <;> simp only [State.wrb_fio, State.wr_fio]
@[simp] theorem State.pageErr_sec (s : State) (p c i : Nat) : (s.pageErr p c i).sec = s.sec := by simp only [State.pageErr, State.raise_sec]; split <;> simp only [State.wrb_sec, State.wr_sec]
@[simp] theorem State.pageErr_saf (s : State) (p c i : Nat) : (s.pageErr p c i).saf = s.saf := by simp only [State.pageErr, State.raise_saf]; split <;> simp only [State.wrb_saf, State.wr_saf]
@[simp] theorem State.pageErr_cal (s : State) (p c i : Nat) : (s.pageErr p c i).cal = s.cal := by simp only [State.pageErr, State.raise_cal]; split <;> simp only [State.wrb_cal, State.wr_cal]
@[simp] theorem State.pageErr_aqd (s : State) (p c i : Nat) : (s.pageErr p c i).aqd = s.aqd := by simp only [State.pageErr, State.raise_aqd]; split <;> simp only [State.wrb_aqd, State.wr_aqd]
@[simp] theorem State.pageErr_thm (s : State) (p c i : Nat) : (s.pageErr p c i).thm = s.thm := by simp only [State.pageErr, State.raise_thm]; split <;> simp only [State.wrb_thm, State.wr_thm]
@[simp] theorem State.pageErr_pwr (s : State) (p c i : Nat) : (s.pageErr p c i).pwr = s.pwr := by simp only [State.pageErr, State.raise_pwr]; split <;> simp only [State.wrb_pwr, State.wr_pwr]
@[simp] theorem State.pageErr_pending (s : State) (p c i : Nat) : (s.pageErr p c i).pending = s.pending := by simp only [State.pageErr, State.raise_pending]; split <;> simp only [State.wrb_pending, State.wr_pending]

/-! ## Registers -/

theorem State.rd_lt (s : State) (a : Nat) : s.rd a < 2 ^ 32 := BitVec.isLt _

/-- A register word reads as it was stored, every other one as before. -/
theorem State.rd_wr (s : State) (a v b : Nat) : (s.wr a v).rd b = if b = a then v % 2 ^ 32 else s.rd b := by
  unfold State.rd State.wr
  by_cases h : b = a
  · subst h
    simp [Sparse.get_set_same]
  · simp [h, Sparse.get_set_other _ _ h]

@[simp] theorem State.rd_wr_same (s : State) (a v : Nat) : (s.wr a v).rd a = v % 2 ^ 32 := by simp [State.rd_wr]

theorem State.rd_wr_ne (s : State) {a b : Nat} (v : Nat) (h : b ≠ a) : (s.wr a v).rd b = s.rd b := by simp [State.rd_wr, h]

theorem State.rd_of_regs (s t : State) (h : s.regs = t.regs) (a : Nat) : s.rd a = t.rd a := by unfold State.rd; rw [h]

@[simp] theorem State.rd_emit (s : State) (o : Out) (a : Nat) : (s.emit o).rd a = s.rd a := rfl

@[simp] theorem State.rd_sendMsix (s : State) (v a : Nat) : (s.sendMsix v).rd a = s.rd a :=
  State.rd_of_regs _ _ (State.sendMsix_regs s v) a

@[simp] theorem State.rd_irqEdge (s : State) (p b a : Nat) : (s.irqEdge p b).rd a = s.rd a :=
  State.rd_of_regs _ _ (State.irqEdge_regs s p b) a

theorem State.rd_raiseMask (s : State) (p m a : Nat) :
    (s.raiseMask p m).rd a = if a = p + 0x01C then (s.rd (p + 0x01C) ||| m) % 2 ^ 32 else s.rd a := by
  unfold State.raiseMask
  rw [State.rd_irqEdge, State.rd_wr]

/-- Raising a bit of PAGE_IRQ_RAW changes no other register. -/
theorem State.rd_raise (s : State) (p i a : Nat) :
    (s.raise p i).rd a = if a = p + 0x01C then (s.rd (p + 0x01C) ||| 2 ^ i) % 2 ^ 32 else s.rd a := State.rd_raiseMask s p _ a

theorem State.rd_raise_ne (s : State) {p i a : Nat} (h : a ≠ p + 0x01C) : (s.raise p i).rd a = s.rd a := by
  simp [State.rd_raise, h]

/-- The bit that was raised stands. -/
theorem State.raise_bit (s : State) (p i : Nat) (h : i < 32) : tbit ((s.raise p i).rd (p + 0x01C)) i = true := by
  rw [State.rd_raise, if_pos rfl, tbit_mod _ _ h, tbit_or_pow]
  simp

theorem State.rd_wrf (s : State) (a lo len v b : Nat) :
    (s.wrf a lo len v).rd b = if b = a then putFld (s.rd a) lo len v % 2 ^ 32 else s.rd b := State.rd_wr s a _ b

theorem State.rd_wrb (s : State) (a i : Nat) (v : Bool) (b : Nat) :
    (s.wrb a i v).rd b = if b = a then putBit (s.rd a) i v % 2 ^ 32 else s.rd b := State.rd_wr s a _ b

/-- A bit reads as it was stored, every other bit of the register as before. -/
theorem State.rdb_wrb (s : State) (a i j : Nat) (v : Bool) (h : j < 32) :
    (s.wrb a i v).rdb a j = if j = i then v else s.rdb a j := by
  rw [State.rdb, State.rd_wrb, if_pos rfl, tbit_mod _ _ h, tbit_putBit]
  rfl

theorem State.rdb_wrb_ne (s : State) {a b : Nat} (i j : Nat) (v : Bool) (h : b ≠ a) : (s.wrb a i v).rdb b j = s.rdb b j := by
  rw [State.rdb, State.rd_wrb, if_neg h]
  rfl

theorem State.rd_bump (s : State) (a b : Nat) :
    (s.bump a).rd b = if b = a then satAdd 0xFFFF (s.rd a) 1 % 2 ^ 32 else s.rd b := State.rd_wr s a _ b

theorem State.rd_bumpBy (s : State) (a n b : Nat) :
    (s.bumpBy a n).rd b = if b = a then satAdd 0xFFFF (s.rd a) n % 2 ^ 32 else s.rd b := State.rd_wr s a _ b

theorem State.rd_bump32 (s : State) (a n b : Nat) :
    (s.bump32 a n).rd b = if b = a then (s.rd a + n) % 2 ^ 32 else s.rd b := by
  unfold State.bump32
  rw [State.rd_wr, Nat.mod_mod]

theorem State.rd_bumpF (s : State) (a lo b : Nat) (h : b ≠ a) : (s.bumpF a lo).rd b = s.rd b := State.rd_wr_ne _ _ h

theorem State.rd_wr64 (s : State) (a v b : Nat) :
    (s.wr64 a v).rd b = if b = a + 4 then v / 2 ^ 32 % 2 ^ 32 else if b = a then v % 2 ^ 32 else s.rd b := by
  unfold State.wr64
  rw [State.rd_wr, State.rd_wr]

/-- A 64-bit register reads as it was stored. -/
theorem State.rd64_wr64 (s : State) (a v : Nat) : (s.wr64 a v).rd64 a = v % 2 ^ 64 := by
  unfold State.rd64
  rw [State.rd_wr64, State.rd_wr64, if_neg (by omega), if_pos rfl, if_pos rfl]
  omega

/-- Recording an error changes only the header registers that show it. -/
theorem State.rd_pageErr (s : State) (p c i a : Nat) (h1 : a ≠ p + 0x00C) (h2 : a ≠ p + 0x02C) (h3 : a ≠ p + 0x030)
    (h4 : a ≠ p + 0x01C) : (s.pageErr p c i).rd a = s.rd a := by
  unfold State.pageErr
  rw [State.rd_raise, if_neg h4]
  split
  · rw [State.rd_wrb, if_neg h2]
  · rw [State.rd_wr, if_neg h3, State.rd_wr, if_neg h2, State.rd_wrb, if_neg h1]

/-- Every write keeps the register store canonical. -/
theorem State.wr_canonical (s : State) (a v : Nat) (h : Sparse.wf resetWord s.regs = true) :
    Sparse.wf resetWord (s.wr a v).regs = true := Sparse.wf_set _ _ _ _ h

end Sys2Proof.Machine
end

