-- ==== Sys2Proof/Laws/Frame.lean ====
section
/-!
SUPPORT. What only changes what: the frame of the shared operations, and how frames compose.
-/
namespace Sys2Proof.Machine

theorem State.samePart_refl (s : State) (p : Part) : s.samePart s p := by
  cases p <;> simp [State.samePart]

theorem State.samePart_trans {s t u : State} {p : Part} (h1 : s.samePart t p) (h2 : t.samePart u p) : s.samePart u p := by
  cases p <;> simp_all [State.samePart]

theorem OnlyChanges.refl (s : State) (ps : List Part) (rs : List Nat) : OnlyChanges s s ps rs :=
  ⟨fun p _ => s.samePart_refl p, fun _ _ => rfl⟩

/-- Two changes in a row change what either changes. -/
theorem OnlyChanges.trans {s t u : State} {ps ps' : List Part} {rs rs' : List Nat} (h1 : OnlyChanges s t ps rs)
    (h2 : OnlyChanges t u ps' rs') : OnlyChanges s u (ps ++ ps') (rs ++ rs') :=
  ⟨fun p hp => State.samePart_trans (h1.1 p (fun h => hp (List.mem_append_left _ h))) (h2.1 p (fun h => hp (List.mem_append_right _ h))),
   fun a ha => (h2.2 a (fun h => ha (List.mem_append_right _ h))).trans (h1.2 a (fun h => ha (List.mem_append_left _ h)))⟩

theorem OnlyChanges.mono {s t : State} {ps ps' : List Part} {rs rs' : List Nat} (h : OnlyChanges s t ps rs) (hp : ps ⊆ ps')
    (hr : rs ⊆ rs') : OnlyChanges s t ps' rs' :=
  ⟨fun p n => h.1 p (fun m => n (hp m)), fun a n => h.2 a (fun m => n (hr m))⟩

/-- Two changes under one list. -/
theorem OnlyChanges.step {s t u : State} {ps : List Part} {rs : List Nat} (h1 : OnlyChanges s t ps rs) (h2 : OnlyChanges t u ps rs) :
    OnlyChanges s u ps rs :=
  ⟨fun p hp => State.samePart_trans (h1.1 p hp) (h2.1 p hp), fun a ha => (h2.2 a ha).trans (h1.2 a ha)⟩

theorem OnlyChanges.wr (s : State) (a v : Nat) (ps : List Part) {rs : List Nat} (h : a ∈ rs) : OnlyChanges s (s.wr a v) ps rs :=
  ⟨fun p _ => by cases p <;> first | rfl | exact fun _ => rfl,
   fun b hb => State.rd_wr_ne s v (fun e => hb (e ▸ h))⟩

theorem OnlyChanges.wrf (s : State) (a lo len v : Nat) (ps : List Part) {rs : List Nat} (h : a ∈ rs) :
    OnlyChanges s (s.wrf a lo len v) ps rs := OnlyChanges.wr s a _ ps h

theorem OnlyChanges.wrb (s : State) (a i : Nat) (b : Bool) (ps : List Part) {rs : List Nat} (h : a ∈ rs) :
    OnlyChanges s (s.wrb a i b) ps rs := OnlyChanges.wr s a _ ps h

theorem OnlyChanges.bump (s : State) (a : Nat) (ps : List Part) {rs : List Nat} (h : a ∈ rs) : OnlyChanges s (s.bump a) ps rs :=
  OnlyChanges.wr s a _ ps h

theorem OnlyChanges.wr64 (s : State) (a v : Nat) (ps : List Part) {rs : List Nat} (h : a ∈ rs) (h' : a + 4 ∈ rs) :
    OnlyChanges s (s.wr64 a v) ps rs := (OnlyChanges.wr s a v ps h).step (OnlyChanges.wr _ (a + 4) _ ps h')

theorem OnlyChanges.emit (s : State) (o : Out) {ps : List Part} (rs : List Nat) (h : Part.out ∈ ps) : OnlyChanges s (s.emit o) ps rs :=
  ⟨fun p hp => by cases p <;> first | exact absurd h hp | rfl | exact fun _ => rfl,
   fun b _ => State.rd_emit s o b⟩

theorem OnlyChanges.sendMsix (s : State) (v : Nat) {ps : List Part} (rs : List Nat) (h : Part.out ∈ ps) (h' : Part.msix ∈ ps) :
    OnlyChanges s (s.sendMsix v) ps rs := by
  refine ⟨fun p hp => ?_, fun b _ => State.rd_sendMsix s v b⟩
  unfold State.sendMsix
  split
  · cases p <;> first | exact absurd h' hp | rfl | exact fun _ => rfl
  · exact (OnlyChanges.emit s (s.msix.msg v) rs h).1 p hp

theorem OnlyChanges.irqEdge (s : State) (p b : Nat) {ps : List Part} (rs : List Nat) (h : Part.out ∈ ps) (h' : Part.msix ∈ ps) :
    OnlyChanges s (s.irqEdge p b) ps rs := by
  unfold State.irqEdge
  split
  · exact OnlyChanges.sendMsix s _ rs h h'
  · exact OnlyChanges.refl s ps rs

/-- Raising a cause changes PAGE_IRQ_RAW of the page, and may send a message. -/
theorem OnlyChanges.raiseMask (s : State) (p m : Nat) {ps : List Part} {rs : List Nat} (h : Part.out ∈ ps) (h' : Part.msix ∈ ps)
    (hr : p + 0x01C ∈ rs) : OnlyChanges s (s.raiseMask p m) ps rs :=
  (OnlyChanges.wr s _ _ ps hr).step (OnlyChanges.irqEdge _ _ _ rs h h')

theorem OnlyChanges.raise (s : State) (p i : Nat) {ps : List Part} {rs : List Nat} (h : Part.out ∈ ps) (h' : Part.msix ∈ ps)
    (hr : p + 0x01C ∈ rs) : OnlyChanges s (s.raise p i) ps rs := OnlyChanges.raiseMask s p _ h h' hr

theorem Raised.of_raise (s : State) (p i : Nat) (h : i < 32) : Raised s (s.raise p i) p i := by
  unfold Raised
  rw [State.rd_raise, if_pos rfl]
  exact Nat.mod_eq_of_lt (Nat.or_lt_two_pow (State.rd_lt _ _) (Nat.pow_lt_pow_right (by omega) h))

/-- Recording an error changes PAGE_STAT, PAGE_ERR_CODE, PAGE_ERR_INFO and PAGE_IRQ_RAW of the page, and may send a message. -/
theorem OnlyChanges.pageErr (s : State) (p code info : Nat) {ps : List Part} {rs : List Nat} (h : Part.out ∈ ps) (h' : Part.msix ∈ ps)
    (hr : [p + 0x00C, p + 0x01C, p + 0x02C, p + 0x030] ⊆ rs) : OnlyChanges s (s.pageErr p code info) ps rs := by
  have m1 : p + 0x00C ∈ rs := hr (by simp)
  have m2 : p + 0x01C ∈ rs := hr (by simp)
  have m3 : p + 0x02C ∈ rs := hr (by simp)
  have m4 : p + 0x030 ∈ rs := hr (by simp)
  unfold State.pageErr
  refine OnlyChanges.step ?_ (OnlyChanges.raise _ _ _ h h' m2)
  split
  · exact OnlyChanges.wrb s _ _ _ ps m3
  · exact ((OnlyChanges.wrb s _ _ _ ps m1).step (OnlyChanges.wr _ _ _ ps m3)).step (OnlyChanges.wr _ _ _ ps m4)

/-- Work that starts on a datapath unit changes the heaters and what shows them. -/
theorem OnlyChanges.heatCut (s : State) {ps : List Part} {rs : List Nat} (h : Part.thm ∈ ps) (hp : A.thmKwPower ∈ rs) (hs : A.thmStat ∈ rs) :
    OnlyChanges s s.heatCut ps rs := by
  have set (u : State) (f : ThmState → ThmState) : OnlyChanges u (u.setThm f) ps rs :=
    ⟨fun p hp => by cases p <;> first | exact absurd h hp | rfl | exact fun _ => rfl, fun _ _ => rfl⟩
  unfold State.heatCut
  split
  · exact ((set _ _).step (OnlyChanges.wr _ _ _ ps hp)).step (OnlyChanges.wrb _ _ _ _ ps hs)
  · exact OnlyChanges.refl s ps rs

/-- Taking a free value changes their count. -/
theorem OnlyChanges.draw (s : State) (w : Nat) {ps : List Part} (rs : List Nat) (h : Part.freeCnt ∈ ps) : OnlyChanges s (s.draw w).2 ps rs :=
  ⟨fun p hp => by cases p <;> first | exact absurd h hp | rfl | exact fun _ => rfl, fun _ _ => rfl⟩

/-- A store changes memory and the words with errors. -/
theorem OnlyChanges.store (s : State) (a : Nat) (bs : List Byte) {ps : List Part} (rs : List Nat) (h : Part.mem ∈ ps) (h' : Part.spd ∈ ps) :
    OnlyChanges s (s.store a bs) ps rs :=
  ⟨fun p hp => by cases p <;> first | exact absurd h hp | exact absurd h' hp | rfl, fun _ _ => rfl⟩

/-- A line that enters the brick cache changes the cache, the bytes of its place and the count of free values, and no register. -/
theorem OnlyChanges.cachePut (s : State) (x : CacheLine) (bs : List Byte) (rs : List Nat) :
    OnlyChanges s (s.cachePut x bs) [.wld, .mem, .spd, .freeCnt] rs := by
  have wld (u : State) (w : WldState) : OnlyChanges u { u with wld := w } [.wld, .mem, .spd, .freeCnt] rs :=
    ⟨fun p hp => by cases p <;> first | exact absurd (by decide) hp | rfl, fun _ _ => rfl⟩
  have put (u : State) (w : WldState) (c : Bool) (a : Nat) :
      OnlyChanges u (if c then ({ u with wld := w } : State).store a bs else { u with wld := w }) [.wld, .mem, .spd, .freeCnt] rs := by
    cases c
    · exact wld u w
    · exact (wld u w).step (OnlyChanges.store _ a bs rs (by decide) (by decide))
  exact (OnlyChanges.draw s 32 rs (by decide)).step (put _ _ _ _)

end Sys2Proof.Machine
end

