-- ==== Sys2Proof/Laws/Memory.lean ====
section
/-!
SUPPORT. Device memory: what a byte reads after a store, that a store touches no other byte, and that it keeps the canonical form.
-/
namespace Sys2Proof.Machine

theorem get_storeByte (d : Nat → Byte) (ue : List Nat) (lo hi : Nat) (m : List Host.Cell) (a : Nat) (x : Byte) (b : Nat) :
    Sparse.get d (if (ue.contains (wordAddr a) && !(decide (lo ≤ wordAddr a) && decide (wordAddr a + 8 ≤ hi))) = true then m
        else Sparse.set d m a x) b =
      if b = a ∧ (wordAddr b ∈ ue → lo ≤ wordAddr b ∧ wordAddr b + 8 ≤ hi) then x else Sparse.get d m b := by
  by_cases e : b = a
  · subst e
    by_cases c : wordAddr b ∈ ue
    · by_cases c2 : lo ≤ wordAddr b ∧ wordAddr b + 8 ≤ hi
      · simp [c, c2, Sparse.get_set_same]
      · have : ¬lo ≤ wordAddr b ∨ ¬wordAddr b + 8 ≤ hi := by omega
        rcases this with g | g <;> simp [c, g]
    · simp [c, Sparse.get_set_same]
  · simp only [e, false_and, if_false]
    split
    · rfl
    · exact Sparse.get_set_other d m e x

theorem get_storeBytes (d : Nat → Byte) (ue : List Nat) (lo hi : Nat) (m : List Host.Cell) (a : Nat) (bs : List Byte) (b : Nat) :
    Sparse.get d (storeBytes d ue lo hi m a bs) b =
      if a ≤ b ∧ b < a + bs.length ∧ (wordAddr b ∈ ue → lo ≤ wordAddr b ∧ wordAddr b + 8 ≤ hi) then bs.getD (b - a) 0
      else Sparse.get d m b := by
  induction bs generalizing m a with
  | nil => rw [if_neg (by simp; omega)]; rfl
  | cons x t ih =>
    have h0 := get_storeByte d ue lo hi m a x b
    rw [storeBytes, ih, h0]
    by_cases p : wordAddr b ∈ ue → lo ≤ wordAddr b ∧ wordAddr b + 8 ≤ hi
    · simp only [eq_true p, and_true]
      by_cases e : b = a
      · subst e
        simp
      · by_cases c : a + 1 ≤ b ∧ b < a + 1 + t.length
        · have : b - a = (b - (a + 1)) + 1 := by omega
          rw [if_pos c, if_pos ⟨by omega, by simp; omega⟩, this]
          rfl
        · rw [if_neg c, if_neg e, if_neg (fun h => c ⟨by omega, by have := h.2; simp at this; omega⟩)]
    · simp only [eq_false p, and_false, if_false]

/-- A byte after a store: the stored byte where the store reaches and does not cut an uncorrectable word, else as before. -/
theorem State.memGet_store (s : State) (a : Nat) (bs : List Byte) (b : Nat) :
    (s.store a bs).memGet b =
      if a ≤ b ∧ b < a + bs.length ∧ (wordAddr b ∈ s.spd.ue → a ≤ wordAddr b ∧ wordAddr b + 8 ≤ a + bs.length) then bs.getD (b - a) 0
      else s.memGet b := get_storeBytes s.unlisted s.spd.ue a (a + bs.length) s.mem a bs b

/-- A store leaves every byte outside its range alone. -/
theorem State.memGet_store_out (s : State) (a : Nat) (bs : List Byte) (b : Nat) (h : b < a ∨ a + bs.length ≤ b) :
    (s.store a bs).memGet b = s.memGet b := by
  rw [State.memGet_store, if_neg (by omega)]

theorem wf_storeBytes (d : Nat → Byte) (ue : List Nat) (lo hi : Nat) (m : List Host.Cell) (a : Nat) (bs : List Byte)
    (h : Sparse.wf d m = true) : Sparse.wf d (storeBytes d ue lo hi m a bs) = true := by
  induction bs generalizing m a with
  | nil => exact h
  | cons x t ih =>
    rw [storeBytes]
    apply ih
    split
    · exact h
    · exact Sparse.wf_set d m a x h

/-- A store keeps the canonical form of device memory. -/
theorem State.memWf_store (s : State) (a : Nat) (bs : List Byte) (h : s.memWf = true) : (s.store a bs).memWf = true :=
  wf_storeBytes s.unlisted s.spd.ue a (a + bs.length) s.mem a bs h

theorem leBytes_length (n v : Nat) : (leBytes n v).length = n := by
  induction n generalizing v with
  | zero => rfl
  | succ n ih => simp [leBytes, ih]

theorem State.readMem_congr (s t : State) (a n : Nat) (h : ∀ b, a ≤ b → b < a + n → s.memGet b = t.memGet b) :
    s.readMem a n = t.readMem a n := by
  induction n generalizing a with
  | zero => rfl
  | succ n ih =>
    rw [State.readMem, State.readMem, h a (Nat.le_refl _) (by omega), ih (a + 1) (fun b h1 h2 => h b (by omega) (by omega))]

theorem State.readMem_eq (s : State) (a : Nat) (bs : List Byte) (h : ∀ i, i < bs.length → s.memGet (a + i) = bs.getD i 0) :
    s.readMem a bs.length = bs := by
  induction bs generalizing a with
  | nil => rfl
  | cons x t ih =>
    have h0 := h 0 (by simp)
    simp only [List.length_cons, State.readMem]
    rw [ih (a + 1) (fun i hi => by have := h (i + 1) (by simp; omega); simpa [Nat.add_assoc, Nat.add_comm 1] using this)]
    simp at h0
    rw [h0]

theorem leNat_leBytes (n v : Nat) : leNat (leBytes n v) = v % 256 ^ n := by
  induction n generalizing v with
  | zero => simp [leBytes, leNat, Nat.mod_one]
  | succ n ih =>
    have e : (2 : Nat) ^ 8 = 256 := rfl
    simp only [leBytes, leNat, ih, BitVec.toNat_ofNat, e]
    have := Nat.mod_mul (x := v) (a := 256) (b := 256 ^ n)
    rw [Nat.pow_succ, Nat.mul_comm (256 ^ n) 256, this]

/-- Stored bytes read back where no uncorrectable word is cut. -/
theorem State.readMem_store (s : State) (a : Nat) (bs : List Byte)
    (h : ∀ b, a ≤ b → b < a + bs.length → wordAddr b ∈ s.spd.ue → a ≤ wordAddr b ∧ wordAddr b + 8 ≤ a + bs.length) :
    (s.store a bs).readMem a bs.length = bs := by
  apply State.readMem_eq
  intro i hi
  rw [State.memGet_store, if_pos ⟨by omega, by omega, h _ (by omega) (by omega)⟩]
  congr 1
  omega

/-- A whole aligned 64-bit word reads back as it was stored. -/
theorem State.peek64_poke64 (s : State) (a v : Nat) (ha : a % 8 = 0) : (s.poke64 a v).peek64 a = v % 2 ^ 64 := by
  have hl : (leBytes 8 v).length = 8 := leBytes_length 8 v
  have hr := State.readMem_store s a (leBytes 8 v) (fun b h1 h2 _ => by
    rw [hl] at h2 ⊢
    unfold wordAddr
    omega)
  rw [hl] at hr
  unfold State.peek64 State.poke64
  rw [hr, leNat_leBytes]
  norm_num

/-- Storing a word changes no byte outside it. -/
theorem State.memGet_poke64 (s : State) (a v b : Nat) (h : b < a ∨ a + 8 ≤ b) : (s.poke64 a v).memGet b = s.memGet b :=
  State.memGet_store_out s a _ b (by rw [leBytes_length]; exact h)

theorem wordAddr_mod (a : Nat) : wordAddr a % 8 = 0 := by
  unfold wordAddr
  omega

end Sys2Proof.Machine
end

