-- ==== Sys2Proof/Laws/Put.lean ====
section
/-!
SUPPORT. What a register write comes to when the register takes it: the value by its access codes is stored, and then what the
write sets going happens.
-/
namespace Sys2Proof.Machine

theorem State.mdioFree_of (s : State) (h : s.rdb A.mgtMdio 31 = false) : s.mdioFree = s := by
  unfold State.mdioFree
  simp [h]

/-- Where no request of another node is held, none is released. -/
theorem State.remoteFreed_of (s : State) (h : ∀ x ∈ s.waitIn, x.2.remote = false) : s.remoteFreed = s := by
  unfold State.remoteFreed
  cases hn : s.waitIn.length with
  | zero => rfl
  | succ n =>
    unfold State.freeRemote
    rw [List.find?_eq_none.mpr (fun x hx => by simp [h x hx])]

/-- A whole write of a 32-bit block register that takes it, where no field refuses. -/
theorem State.put_narrow (s : State) (src : Source) (a v : Nat) (r : PageRow) (row : RegRow)
    (h1 : pageRow a = some r) (h2 : 0x40 ≤ a % 0x1000) (h3 : findRow (rowsOf r.kind) (a % 0x1000) = some (row, 0))
    (h4 : s.takes src a) (h8 : row.wide = false) (h9 : maskWhere (fun x => x = .wos) 0 row.masks = 0)
    (e : WordEffect) (he : e = applyMasks (s.rd (pageBase a + 0x010)) (s.gateBits a) (v % 2 ^ 32) 0 row.masks ⟨s.rd a, 0, 0⟩)
    (h10 : rejects (s.rd a) (v % 2 ^ 32) e = false) (h11 : e.accept ≠ 0) :
    s.put src a v = (State.regHook src a (s.rd a) (v % 2 ^ 32) (s.wr a e.value)).mdioFree.remoteFreed := by
  obtain ⟨g1, g2, g3, g4, -⟩ := h4
  have h2' : ¬ a % 0x1000 < 0x40 := by omega
  have hd : s.dropStage src a (a % 0x1000 - 0) = s := by
    unfold State.dropStage
    simp only [g4]
  simp only [State.put, State.writeWord, State.writeAt, h1, g1, Bus.write, h2', if_false, h3, g2, hd]
  simp only [bus, Nat.sub_zero, g3, Bus.writeBlock, h8]
  simp only [show (0 : Nat) < 4 from by decide, if_true, h9, ← he, h10, h11]
  simp

/-- A whole write of a header word that the source may make, with nothing staged on the page. -/
theorem State.put_header (s : State) (src : Source) (a v : Nat) (r : PageRow) (h1 : pageRow a = some r) (h2 : a % 0x1000 < 0x34)
    (h3 : s.takesHeader src (pageBase a)) :
    s.put src a v = (bus.writeHeader src r a (v % 2 ^ 32) s).mdioFree.remoteFreed := by
  obtain ⟨g1, g2, -⟩ := h3
  have hd : s.headerDrop src a (bus.writeHeader src r a (v % 2 ^ 32)) = bus.writeHeader src r a (v % 2 ^ 32) s := by
    unfold State.headerDrop
    simp only [g2]
  have h3 : a % 0x1000 < 0x40 := by omega
  have h4 : ¬ 0x34 ≤ a % 0x1000 := by omega
  simp only [State.put, State.writeWord, State.writeAt, h1, g1, Bus.write, h3, h4, if_true, hd]
  simp

end Sys2Proof.Machine
end

