-- ==== Sys2Proof/WellFormed.lean ====
section
/-!
DEFINITION. Commands whose operands the outside can present: every number fits its field, and every list has its length.  A step
has a meaning for every command, well-formed or not.
-/
namespace Sys2Proof

/-- A number fits `n` bits. -/
def lt (v n : Nat) : Bool := decide (v < 2 ^ n)

/-- An access source that the device has (Table PAG-4). -/
def Source.ok : Source → Bool
  | .host => true
  | .engine n => decide (n < 64)
  | .remote n => decide (n < 128)
  | .smbus => true
  | .island => true
  | .jtag => true

/-- A request that a bank port can carry (Tables SPD-6 and SPD-7). -/
def BankReq.ok (q : BankReq) : Bool :=
  lt q.addr 48 && decide (q.cls < 7) && lt q.id 8 && lt q.tag 16 && decide (q.found < 3) &&
    (match q.met with | some m => decide (m.kind < 3) && lt m.data 64 | none => true)

/-- How a request of an engine can meet its bank. -/
def BankAt.ok (q : BankAt) : Bool :=
  lt q.tag 16 && decide (q.found < 3) && (match q.met with | some m => decide (m.kind < 3) && lt m.data 64 | none => true)

/-- A tag and an address that a frame can carry. -/
def Rx.ok (r : Rx) : Bool := lt r.mac 48 && (match r.tag with | some v => lt v 12 | none => true)

/-- A read of 1, 2, 4 or 8 bytes, aligned on its width, of the register space, or of 4 bytes of configuration space by the host. -/
def readFits (src : Source) (addr n : Nat) : Bool :=
  if lt addr 26 then [1, 2, 4, 8].contains n && addr % n == 0 else src == .host && lt addr 27 && n == 4 && addr % 4 == 0

/-- The command is well-formed. -/
def Instr.wellFormed (i : Instr) : Bool :=
  match i with
  | .registerWrite src addr be data wide => src.ok && (lt addr 26 || src == .host && lt addr 27 && !wide) && (if wide then lt be 8 && lt data 64 && addr % 8 == 0 else lt be 4 && lt data 32 && addr % 4 == 0)
  | .lowWordRead src addr n _ => src.ok && readFits src addr n && addr % 8 < 4
  | .rcRead src addr n _ => src.ok && readFits src addr n
  | .pageLockWrite src page v => src.ok && lt page 26 && page % 4096 == 0 && lt v 32
  | .pageRejectCntWrite src page v => src.ok && lt page 26 && page % 4096 == 0 && lt v 32
  | .pageEnableWrite src page v => src.ok && lt page 26 && page % 4096 == 0 && lt v 32
  | .quiesceReqWrite src page v => src.ok && lt page 26 && page % 4096 == 0 && lt v 32
  | .blockReady block => lt block 8
  | .vectorUnmask _ => true
  | .passOpenRequest => true
  | .gateOpen => true
  | .passDeadline => true
  | .closeGateRequest => true
  | .passAbort src => src.ok
  | .passCommit => true
  | .quadTransition _ _ _ _ => true
  | .encLoss _ _ => true
  | .encLossEnd _ _ _ _ => true
  | .ssiPoll _ => true
  | .ssiReadDone _ word _ _ => lt word 32
  | .indexPulse _ _ => true
  | .setPosWrite src _ v => src.ok && lt v 48
  | .tpCfgWrite src _ v => src.ok && lt v 32
  | .entryArm src _ w1 => src.ok && lt w1 32
  | .entryDisarm src _ w1 => src.ok && lt w1 32
  | .entryFire _ => true
  | .entryBackstop _ => true
  | .pendingPulseStart _ => true
  | .pulseSequenceEnd _ => true
  | .passTimer => true
  | .timerEnWrite src v => src.ok && lt v 32
  | .csiLongPacket _ hdr vc dt _ _ phy => decide (hdr < 3) && lt vc 4 && lt dt 6 && lt phy 9
  | .frameStart _ hdr vc num phy => decide (hdr < 3) && lt vc 4 && lt num 16 && lt phy 9
  | .frameEnd _ hdr vc phy => decide (hdr < 3) && lt vc 4 && lt phy 9
  | .frameTimeout _ => true
  | .slotEnable src _ => src.ok
  | .slotDisable src _ => src.ok
  | .slotRel src _ => src.ok
  | .deskewBurst _ _ phy => lt phy 9
  | .fusionFrameStart => true
  | .fusionFrameDone => true
  | .loadGo src => src.ok
  | .loadPacket => true
  | .cutRequest src => src.ok
  | .propagationDone => true
  | .epochPublish => true
  | .cutDone => true
  | .pinWrite src _ v => src.ok && lt v 32
  | .poolInit src => src.ok
  | .poolInitDone => true
  | .attCapture src _ => src.ok
  | .attRelease src _ => src.ok
  | .attDone _ => true
  | .brickFetchDone node _ slot _ _ crc data bad _ =>
    lt crc 32 && (match node with | some n => lt n 7 | none => true) && lt slot 22 && (bad || data.length == 1024)
  | .loadDesc src _ => src.ok
  | .loadTool src _ _ => src.ok
  | .descDone _ => true
  | .toolDone _ => true
  | .rsPutWrite src _ v => src.ok && lt v 32
  | .robotEnWrite src v => src.ok && lt v 32
  | .hbPub src _ count => src.ok && lt count 32
  | .candidateComplete index => lt index 32
  | .candidateSwept _ => true
  | .reductionFinal => true
  | .secondReductionFinal => true
  | .knownAnswerTest _ _ => true
  | .pathDrop src _ => src.ok
  | .solInstall src _ => src.ok
  | .solUninstall src _ => src.ok
  | .solAbort src _ => src.ok
  | .updGo src => src.ok
  | .updDone => true
  | .solLaunch src _ _ => src.ok
  | .problemStart _ _ => true
  | .runEnd _ _ _ => true
  | .solDeadline _ => true
  | .resultWritten _ => true
  | .solInit src => src.ok
  | .solInitDone => true
  | .chgRegister src _ => src.ok
  | .chgRetire src _ => src.ok
  | .chgScan src _ => src.ok
  | .refNow src _ => src.ok
  | .chgRequest => true
  | .arraySlot _ => true
  | .rowOperationDone _ _ => true
  | .evaluationComplete req idx _ => lt req 32 && lt idx 20
  | .chgRequestDeadline req => lt req 32
  | .refIdleDue _ => true
  | .refreshDeferEnd _ => true
  | .vppFail => true
  | .vppRestored => true
  | .tableEcc _ => true
  | .calWrite src => src.ok
  | .calExport src => src.ok
  | .calRestore src => src.ok
  | .calCommandDone _ => true
  | .forcedApply _ => true
  | .calJobTrig src _ => src.ok
  | .calJobStepStart _ => true
  | .calJobDone src _ v => src.ok && lt v 32
  | .calJobTimeout _ => true
  | .bargeOffer _ orig words _ => decide (words.length = 16) && words.all (fun w => lt w 32) && lt orig 7
  | .bargeStart => true
  | .queueHeadExpiry _ => true
  | .engineWatchdog _ => true
  | .basinFlush src _ => src.ok
  | .takeTimeout _ => true
  | .programLoad src => src.ok
  | .programLoadDone => true
  | .opNop _ _ => true
  | .opAdd _ _ => true
  | .opSub _ _ => true
  | .opAnd _ _ => true
  | .opOr _ _ => true
  | .opXor _ _ => true
  | .opShl _ _ => true
  | .opShr _ _ => true
  | .opSar _ _ => true
  | .opAddi _ _ => true
  | .opAndi _ _ => true
  | .opLi _ _ => true
  | .opLih _ _ => true
  | .opLd _ _ q => q.ok
  | .opSt _ _ q => q.ok
  | .opRegr _ _ => true
  | .opRegw _ _ => true
  | .opAadd _ _ q => q.ok
  | .opAadd2 _ _ q => q.ok
  | .opAswap _ _ q => q.ok
  | .opFadd _ _ q => q.ok
  | .opFadd2 _ _ q => q.ok
  | .opFswap _ _ q => q.ok
  | .opBeq _ _ => true
  | .opBne _ _ => true
  | .opBlt _ _ => true
  | .opBge _ _ => true
  | .opJmp _ _ => true
  | .opBstat _ _ => true
  | .opSetupSwp _ _ => true
  | .opSetupSol _ _ => true
  | .opSetupChg _ _ => true
  | .opSetupFus _ _ => true
  | .opSetupDma _ _ => true
  | .opLaunch _ _ => true
  | .opWait _ _ => true
  | .opWaitany _ _ => true
  | .opEnq _ _ => true
  | .opTake _ _ => true
  | .opYield _ _ => true
  | .opPost _ _ => true
  | .opPostt _ _ => true
  | .opTime _ _ => true
  | .opSelf _ _ => true
  | .handleComplete _ _ => true
  | .bankRead q => q.ok
  | .bankWrite q be data => q.ok && lt be 8 && lt data 64
  | .bankAdd q data _ => q.ok && lt data 64
  | .bankAdd2 q data _ => q.ok && lt data 64
  | .bankSwap q data _ => q.ok && lt data 64
  | .eccWriteback addr _ => lt addr 48
  | .scrubRead q => q.ok && decide (q.cls = 6) && decide (q.id = 0)
  | .sealOpen src => src.ok
  | .sealLock src => src.ok
  | .sealUnlock src => src.ok
  | .sealWipe src => src.ok
  | .wipeDone failed => (match failed with | some o => lt o 22 && o % 8 == 0 | none => true)
  | .inletDoorbell src _ v => src.ok && lt v 32
  | .inletEntryFetched _ entries _ => entries.all (fun e => e.length == 16 && e.all (fun w => lt w 32))
  | .inletEnWrite src _ v => src.ok && lt v 32
  | .cqCiWrite src _ v => src.ok && lt v 32
  | .cqCoalesceTimer _ => true
  | .dmaDoorbell src _ v => src.ok && lt v 32
  | .dmaDescriptorDone _ words _ failed _ => failed || (words.length == 8 && words.all (fun w => lt w 32))
  | .poisonedTlp _ => true
  | .hotReset _ => true
  | .pcieLinkUp speed width => decide (1 ≤ speed && speed ≤ 5) && [1, 2, 4, 8, 16].contains width
  | .linkEnable src _ v => src.ok && lt v 32
  | .linkTrainingDone _ lanes => lt lanes 8
  | .linkTestDone _ _ => true
  | .linkDown _ => true
  | .remoteRead _ _ tag addr len => lt tag 16 && lt addr 40 && decide (len ≤ 32)
  | .remoteWrite _ _ tag addr data => lt tag 16 && lt addr 40 && decide (data.length ≤ 256) && data.length % 8 == 0
  | .remoteOffer _ _ tag words => lt tag 16 && words.length == 16 && words.all (fun w => lt w 32)
  | .readResponse _ _ tag status data => lt tag 16 && decide (status < 6) && decide (data.length ≤ 256)
  | .writeResponse _ _ tag status code => lt tag 16 && decide (status < 6) && decide (code < 5)
  | .requestTimeout tag => lt tag 16
  | .helloMsg _ _ _ ox oy oz corr => lt ox 32 && lt oy 32 && lt oz 32 && lt corr 32
  | .lstate _ _ links _ => lt links 8
  | .pinset _ _ epochs => decide (epochs.length ≤ 6) && epochs.all (fun e => lt e 32)
  | .cutReq _ _ => true
  | .prepareMsg _ _ epoch _ => lt epoch 32
  | .readyMsg _ _ epoch => lt epoch 32
  | .waitingMsg _ _ epoch => lt epoch 32
  | .cutCommitMsg _ _ epoch => lt epoch 32
  | .committedMsg _ _ epoch => lt epoch 32
  | .deltaMsg _ _ pairs => decide (pairs.length ≤ 31) && pairs.all (fun p => decide (p.1 < 2) && lt p.2.1 57 && lt p.2.2 32)
  | .deltaEnd _ _ epoch => lt epoch 32
  | .nodeLostMsg _ _ _ => true
  | .syncReq _ _ regions => regions.all (fun r => lt r 48)
  | .shadowQ _ _ epoch pts res => lt epoch 32 && (decide (pts.length = res.length))
  | .nodeTimeout _ => true
  | .helloTimer => true
  | .pinsetTimer => true
  | .cutTimeout _ => true
  | .rehomeCopyDone _ bricks => bricks.all (fun b => decide (b.layer < 2) && lt b.value 16)
  | .nodeTestTimeout => true
  | .svcRequest src _ v => src.ok && lt v 32
  | .unitTestDone _ _ => true
  | .shadowItem _ (.slot codes) => codes.length = 16 && codes.all (fun c => lt c 11)
  | .shadowItem _ (.block dst pts) => lt dst 7 && pts.length = 256
  | .shadowItem _ _ => true
  | .safArm src => src.ok
  | .telegramSubmit src _ v => src.ok && lt v 32
  | .telegramCheck _ => true
  | .robotStale _ => true
  | .verifyTick => true
  | .mooringLaneGo src => src.ok
  | .mooringLaneDone _ => true
  | .safAck src v => src.ok && lt v 32
  | .testPulseStart _ => true
  | .testPulseEnd _ => true
  | .readbackCheck _ _ => true
  | .mlKat _ => true
  | .redKat _ => true
  | .engWd => true
  | .islWd => true
  | .safLockstep => true
  | .sramUe _ => true
  | .safXtal => true
  | .safVolt => true
  | .safClkmon => true
  | .safTemp _ => true
  | .conversionCycle raw _ => raw.length == 64
  | .throttleFall => true
  | .ntcConversion rin rout => (match rin with | some x => lt x 32 | none => true) && (match rout with | some x => lt x 32 | none => true)
  | .keepWarmAdjust => true
  | .kwShort _ => true
  | .rthUpdate => true
  | .coolingDegraded => true
  | .degradedClear => true
  | .loopUpdate _ sense volts _ => decide (sense.length = 10) && sense.all (fun v => lt v 32) && lt volts 20
  | .loopFault _ => true
  | .clrFault src _ => src.ok
  | .gpioSet src v => src.ok && lt v 32
  | .gpioClr src v => src.ok && lt v 32
  | .gpioEdge _ _ _ => true
  | .arpRequest r from_ ip => r.ok && lt from_ 32 && lt ip 32
  | .icmpEcho r from_ ip _ => r.ok && lt from_ 32 && lt ip 32
  | .heartbeat => true
  | .messageSend => true
  | .retransmit seq => lt seq 32
  | .fleetAck r from_ _ => r.ok && lt from_ 32
  | .keyReload src => src.ok
  | .arpRetry => true
  | .sgmiiLinkChange _ speed => decide (speed < 3)
  | .mdioGo src v answer => src.ok && lt v 32 && lt answer 16
  | .setAddr code addr count _ => lt code 8 && lt addr 32 && lt count 8
  | .smbusRead count _ => lt count 8
  | .smbusWrite v count _ => lt v 32 && lt count 8
  | .smbusStatus _ => true
  | .alertResponse => true
  | .smbusTimeout => true
  | .bootDone _ _ mooring => decide (mooring < 0x40000) && mooring % 8 == 0
  | .lcAdvance src key => src.ok && lt key 32
  | .secImport src => src.ok
  | .secSeal src => src.ok
  | .secUnseal src => src.ok
  | .otpWrite src key => src.ok && lt key 32
  | .svnCommit src => src.ok
  | .huTest src => src.ok
  | .secCommandDone _ => true
  | .tamperEvent _ _ _ => true
  | .holdupJudgement v _ => lt v 16
  | .testDischargeDecision before after => lt before 32 && lt after 32
  | .powerLoss => true
  | .powerOn node smb _ _ _ _ => lt node 7 && decide (smb < 4)
  | .brownout _ => true
  | .railOutOfTolerance _ _ => true
  | .railTelemetry v cur => v.length == 13 && cur.length == 13
  | .fullRstN => true
  | .sysReset src v => src.ok && lt v 32
  | .fullResetRelease node smb _ _ => lt node 7 && decide (smb < 4)
  | .pllLost _ => true
  | .refLost => true
  | .wedgeReport t => lt t 8
  | .synTick => true
  | .sotErr _ phy => lt phy 9
  | .packetResend _ _ _ corr => lt corr 32
  | .syncAnswer _ _ epoch entries => lt epoch 32 && entries.all (fun p => decide (p.1 < 2) && lt p.2.1 57 && lt p.2.2 32)
  | .feedbackDisagree _ _ => true
  | .refclkReturn => true
  | .railReturn _ => true
  | .arpReply r ip => r.ok && lt ip 32
  | .unsupportedFrame => true
  | .bar4Access _ _ n _ => decide (0 < n)
  | .bar2Unmapped off wr n qs =>
    decide (0 < n) && (match wr with | some bs => decide (bs.length = n) | none => true) && decide (off + n ≤ 2 ^ 27) && qs.all BankAt.ok
  | .slotRelease n => decide (n < 4)
  | .testDischargeStart => true

end Sys2Proof
end

