-- ==== Sys2Proof/Tests/Slice0.lean ====
section
/-!
SUPPORT. Tests: ill-formed commands are refused, and for every statement with hypotheses a state and operands that meet them, clause by
clause.
-/
namespace Sys2Proof.Tests
open Sys2Proof.Machine

-- One theorem at a time: each is a long kernel evaluation.
set_option Elab.async false

/-! ## Helpers -/

/-- Reset, with register words set. -/
def on (l : List (Nat × Nat)) : State := l.foldl (fun s x => s.wr x.1 x.2) State.reset

/-- The same out of reset. -/
def up (l : List (Nat × Nat)) : State := { on l with pwr := { held := none } }

/-- Every clock domain runs. -/
def clk : List (Nat × Nat) := [(A.clkDomRun, 2 ^ 32 - 1), (A.clkDomRun + 4, 2 ^ 28 - 1)]

/-- The state a command answers. -/
def after (c : Instr) (s : State) : State := match exec c s with | .next t => t | _ => s


abbrev w16 : List Nat := List.replicate 16 0
abbrev bq : BankReq := { addr := 0, cls := 0, id := 0, tag := 0, cyc := 0, age := 0, secure := false, found := 0, met := none }
abbrev fr0 : Rx := { tag := none, mac := 0 }
abbrev ba : BankAt := { tag := 0, cyc := 0, age := 0, found := 0, met := none }

/-- A well-formed command of every constructor that has a check (part 1). -/
theorem test_wellFormed_1 : ∀ i ∈ ([.registerWrite .host 0 0 0 false,
    .lowWordRead .host 0 4 false,
    .rcRead .host 0 4 false,
    .pageLockWrite .host 0 0,
    .pageRejectCntWrite .host 0 0,
    .pageEnableWrite .host 0 0,
    .quiesceReqWrite .host 0 0,
    .blockReady 0,
    .passAbort .host,
    .ssiReadDone 0 0 false false,
    .setPosWrite .host 0 0,
    .tpCfgWrite .host 0 0,
    .entryArm .host 0 0,
    .entryDisarm .host 0 0,
    .timerEnWrite .host 0,
    .csiLongPacket 0 0 0 0 [] false 0,
    .frameStart 0 0 0 0 0,
    .frameEnd 0 0 0 0,
    .slotEnable .host 0,
    .slotDisable .host 0,
    .slotRel .host 0,
    .deskewBurst 0 false 0,
    .loadGo .host,
    .cutRequest .host,
    .pinWrite .host 0 0,
    .poolInit .host,
    .attCapture .host 0,
    .attRelease .host 0,
    .brickFetchDone none false 0 0 0 0 [] true false,
    .loadDesc .host 0,
    .loadTool .host 0 0,
    .rsPutWrite .host 0 0,
    .robotEnWrite .host 0,
    .hbPub .host 0 0,
    .candidateComplete 0,
    .pathDrop .host 0,
    .solInstall .host 0,
    .solUninstall .host 0,
    .solAbort .host 0,
    .updGo .host,
    .solLaunch .host 0 false,
    .solInit .host,
    .chgRegister .host 0,
    .chgRetire .host 0,
    .chgScan .host 0,
    .refNow .host 0,
    .evaluationComplete 0 0 false,
    .chgRequestDeadline 0,
    .calWrite .host,
    .calExport .host,
    .calRestore .host,
    .calJobTrig .host 0,
    .calJobDone .host 0 0,
    .bargeOffer 0 0 w16 false,
    .basinFlush .host 0,
    .programLoad .host,
    .opLd 0 false ba,
    .opSt 0 false ba,
    .opAadd 0 false ba,
    .opAadd2 0 false ba] : List Instr), i.wellFormed = true := by decide +kernel

/-- A well-formed command of every constructor that has a check (part 2). -/
theorem test_wellFormed_2 : ∀ i ∈ ([.opAswap 0 false ba,
    .opFadd 0 false ba,
    .opFadd2 0 false ba,
    .opFswap 0 false ba,
    .bankRead bq,
    .bankWrite bq 0 0,
    .bankAdd bq 0 false,
    .bankAdd2 bq 0 false,
    .bankSwap bq 0 false,
    .eccWriteback 0 0,
    .scrubRead { bq with cls := 6 },
    .sealOpen .host,
    .sealLock .host,
    .sealUnlock .host,
    .sealWipe .host,
    .wipeDone none,
    .inletDoorbell .host 0 0,
    .inletEntryFetched 0 [] false,
    .inletEnWrite .host 0 0,
    .cqCiWrite .host 0 0,
    .dmaDoorbell .host 0 0,
    .dmaDescriptorDone 0 [] [] true false,
    .pcieLinkUp 1 1,
    .linkEnable .host 0 0,
    .linkTrainingDone 0 0,
    .remoteRead 0 0 0 0 0,
    .remoteWrite 0 0 0 0 [],
    .remoteOffer 0 0 0 w16,
    .readResponse 0 0 0 0 [],
    .writeResponse 0 0 0 0 0,
    .requestTimeout 0,
    .helloMsg 0 0 0 0 0 0 0,
    .lstate 0 0 0 false,
    .pinset 0 0 [],
    .prepareMsg 0 0 0 false,
    .readyMsg 0 0 0,
    .waitingMsg 0 0 0,
    .cutCommitMsg 0 0 0,
    .committedMsg 0 0 0,
    .deltaMsg 0 0 [],
    .deltaEnd 0 0 0,
    .syncReq 0 0 [],
    .shadowQ 0 0 0 [(0, 0, 0)] [0],
    .rehomeCopyDone 0 [⟨1, 0, 65535, [], []⟩],
    .svcRequest .host .node 0,
    .safArm .host,
    .telegramSubmit .host 0 0,
    .mooringLaneGo .host,
    .safAck .host 0,
    .conversionCycle (List.replicate 64 0) [],
    .ntcConversion none none,
    .loopUpdate 0 (List.replicate 10 0) 0 false,
    .clrFault .host 0,
    .gpioSet .host 0,
    .gpioClr .host 0,
    .arpRequest fr0 0 0,
    .icmpEcho fr0 0 0 [],
    .retransmit 0,
    .fleetAck fr0 0 [],
    .keyReload .host] : List Instr), i.wellFormed = true := by decide +kernel

/-- A well-formed command of every constructor that has a check (part 3). -/
theorem test_wellFormed_3 : ∀ i ∈ ([.sgmiiLinkChange false 0,
    .mdioGo .host 0 0,
    .setAddr 0 0 0 false,
    .smbusRead 0 false,
    .smbusWrite 0 0 false,
    .bootDone none none 0,
    .lcAdvance .host 0,
    .secImport .host,
    .secSeal .host,
    .secUnseal .host,
    .otpWrite .host 0,
    .svnCommit .host,
    .huTest .host,
    .holdupJudgement 0 0,
    .testDischargeDecision 0 0,
    .powerOn 0 0 [] 0 none false,
    .railTelemetry (List.replicate 13 0) (List.replicate 13 0),
    .sysReset .host 0,
    .fullResetRelease 0 0 [] 0,
    .wedgeReport 0,
    .sotErr 0 0,
    .packetResend 0 false 0 0,
    .syncAnswer 0 0 0 [],
    .arpReply fr0 0,
    .bar4Access 0 none 1 [],
    .bar2Unmapped 0 none 1 [ba],
    .slotRelease 0,
    .shadowItem .node (.slot w16),
    .registerWrite .host (2 ^ 26) 0 0 false,
    .rcRead .host (2 ^ 26) 4 false] : List Instr), i.wellFormed = true := by decide +kernel

/-- For every check of WellFormed a command that breaks it alone, which it refuses (part 1). -/
theorem test_illFormed_1 : ∀ i ∈ ([.registerWrite (.engine 64) 0 0 0 false,
    .registerWrite .host (2 ^ 27) 0 0 false,
    .registerWrite .jtag (2 ^ 26) 0 0 false,
    .registerWrite .host (2 ^ 26) 0 0 true,
    .registerWrite .host 0 16 0 false,
    .registerWrite .host 0 0 (2 ^ 32) false,
    .registerWrite .host 2 0 0 false,
    .registerWrite .host 0 256 0 true,
    .registerWrite .host 0 0 (2 ^ 64) true,
    .registerWrite .host 4 0 0 true,
    .lowWordRead (.engine 64) 0 4 false,
    .lowWordRead .host 4 4 false,
    .lowWordRead .host 0 3 false,
    .lowWordRead .host 1 2 false,
    .lowWordRead .host (2 ^ 27) 4 false,
    .rcRead (.engine 64) 0 4 false,
    .rcRead .host 2 4 false,
    .rcRead .host 0 0 false,
    .rcRead .smbus (2 ^ 26) 4 false,
    .pageLockWrite (.engine 64) 0 0,
    .pageLockWrite .host (2 ^ 26) 0,
    .pageLockWrite .host 0 (2 ^ 32),
    .pageLockWrite .host 4 0,
    .pageRejectCntWrite (.engine 64) 0 0,
    .pageRejectCntWrite .host (2 ^ 26) 0,
    .pageRejectCntWrite .host 0 (2 ^ 32),
    .pageRejectCntWrite .host 4 0,
    .pageEnableWrite (.engine 64) 0 0,
    .pageEnableWrite .host (2 ^ 26) 0,
    .pageEnableWrite .host 0 (2 ^ 32),
    .pageEnableWrite .host 4 0,
    .quiesceReqWrite (.engine 64) 0 0,
    .quiesceReqWrite .host (2 ^ 26) 0,
    .quiesceReqWrite .host 0 (2 ^ 32),
    .quiesceReqWrite .host 4 0,
    .blockReady 256,
    .passAbort (.engine 64),
    .ssiReadDone 0 (2 ^ 32) false false,
    .setPosWrite (.engine 64) 0 0,
    .setPosWrite .host 0 (2 ^ 48),
    .tpCfgWrite (.engine 64) 0 0,
    .tpCfgWrite .host 0 (2 ^ 32),
    .entryArm (.engine 64) 0 0,
    .entryArm .host 0 (2 ^ 32),
    .entryDisarm (.engine 64) 0 0,
    .entryDisarm .host 0 (2 ^ 32),
    .timerEnWrite (.engine 64) 0,
    .timerEnWrite .host (2 ^ 32),
    .csiLongPacket 0 0 16 0 [] false 0,
    .csiLongPacket 0 0 0 64 [] false 0,
    .csiLongPacket 0 0 0 0 [] false 512,
    .csiLongPacket 0 3 0 0 [] false 0,
    .frameStart 0 0 16 0 0,
    .frameStart 0 0 0 (2 ^ 16) 0,
    .frameStart 0 0 0 0 512,
    .frameStart 0 3 0 0 0,
    .frameEnd 0 0 16 0,
    .frameEnd 0 0 0 512,
    .frameEnd 0 3 0 0,
    .slotEnable (.engine 64) 0] : List Instr), i.wellFormed = false := by decide +kernel

/-- For every check of WellFormed a command that breaks it alone, which it refuses (part 2). -/
theorem test_illFormed_2 : ∀ i ∈ ([.slotDisable (.engine 64) 0,
    .slotRel (.engine 64) 0,
    .deskewBurst 0 false 512,
    .loadGo (.engine 64),
    .cutRequest (.engine 64),
    .pinWrite (.engine 64) 0 0,
    .pinWrite .host 0 (2 ^ 32),
    .poolInit (.engine 64),
    .attCapture (.engine 64) 0,
    .attRelease (.engine 64) 0,
    .brickFetchDone none false (2 ^ 22) 0 0 0 [] true false,
    .brickFetchDone none false 0 0 0 (2 ^ 32) [] true false,
    .brickFetchDone (some 128) false 0 0 0 0 [] true false,
    .brickFetchDone none false 0 0 0 0 [0] false false,
    .loadDesc (.engine 64) 0,
    .loadTool (.engine 64) 0 0,
    .rsPutWrite (.engine 64) 0 0,
    .rsPutWrite .host 0 (2 ^ 32),
    .robotEnWrite (.engine 64) 0,
    .robotEnWrite .host (2 ^ 32),
    .hbPub (.engine 64) 0 0,
    .hbPub .host 0 (2 ^ 32),
    .candidateComplete (2 ^ 32),
    .pathDrop (.engine 64) 0,
    .solInstall (.engine 64) 0,
    .solUninstall (.engine 64) 0,
    .solAbort (.engine 64) 0,
    .updGo (.engine 64),
    .solLaunch (.engine 64) 0 false,
    .solInit (.engine 64),
    .chgRegister (.engine 64) 0,
    .chgRetire (.engine 64) 0,
    .chgScan (.engine 64) 0,
    .refNow (.engine 64) 0,
    .evaluationComplete (2 ^ 32) 0 false,
    .evaluationComplete 0 (2 ^ 20) false,
    .chgRequestDeadline (2 ^ 32),
    .calWrite (.engine 64),
    .calExport (.engine 64),
    .calRestore (.engine 64),
    .calJobTrig (.engine 64) 0,
    .calJobDone (.engine 64) 0 0,
    .calJobDone .host 0 (2 ^ 32),
    .bargeOffer 0 128 w16 false,
    .bargeOffer 0 0 [] false,
    .bargeOffer 0 0 (2 ^ 32 :: List.replicate 15 0) false,
    .basinFlush (.engine 64) 0,
    .programLoad (.engine 64),
    .opLd 0 false { ba with found := 3 },
    .opLd 0 false { ba with tag := 2 ^ 16 },
    .opLd 0 false { ba with met := some ⟨3, 0, 0⟩ },
    .opLd 0 false { ba with met := some ⟨1, 0, 2 ^ 64⟩ },
    .opSt 0 false { ba with found := 3 },
    .opAadd 0 false { ba with found := 3 },
    .opAadd2 0 false { ba with found := 3 },
    .opAswap 0 false { ba with found := 3 },
    .opFadd 0 false { ba with found := 3 },
    .opFadd2 0 false { ba with found := 3 },
    .opFswap 0 false { ba with found := 3 },
    .bankRead { bq with found := 3 },
    .bankRead { bq with tag := 2 ^ 16 }] : List Instr), i.wellFormed = false := by decide +kernel

/-- For every check of WellFormed a command that breaks it alone, which it refuses (part 3). -/
theorem test_illFormed_3 : ∀ i ∈ ([.bankRead { bq with met := some ⟨3, 0, 0⟩ },
    .bankRead { bq with met := some ⟨1, 0, 2 ^ 64⟩ },
    .bankRead { bq with addr := 2 ^ 48 },
    .bankRead { bq with cls := 7 },
    .bankRead { bq with id := 256 },
    .bankWrite bq 256 0,
    .bankWrite bq 0 (2 ^ 64),
    .bankWrite { bq with found := 3 } 0 0,
    .bankAdd bq (2 ^ 64) false,
    .bankAdd { bq with found := 3 } 0 false,
    .bankAdd2 bq (2 ^ 64) false,
    .bankAdd2 { bq with found := 3 } 0 false,
    .bankSwap bq (2 ^ 64) false,
    .bankSwap { bq with found := 3 } 0 false,
    .eccWriteback (2 ^ 48) 0,
    .scrubRead { bq with cls := 6, addr := 2 ^ 48 },
    .scrubRead { bq with cls := 6, found := 3 },
    .scrubRead { bq with cls := 5 },
    .scrubRead { bq with cls := 6, id := 1 },
    .sealOpen (.engine 64),
    .sealLock (.engine 64),
    .sealUnlock (.engine 64),
    .sealWipe (.engine 64),
    .wipeDone (some (2 ^ 22)),
    .wipeDone (some 4),
    .inletDoorbell (.engine 64) 0 0,
    .inletDoorbell .host 0 (2 ^ 32),
    .inletEntryFetched 0 [[]] false,
    .inletEntryFetched 0 [2 ^ 32 :: List.replicate 15 0] false,
    .inletEnWrite (.engine 64) 0 0,
    .inletEnWrite .host 0 (2 ^ 32),
    .cqCiWrite (.engine 64) 0 0,
    .cqCiWrite .host 0 (2 ^ 32),
    .dmaDoorbell (.engine 64) 0 0,
    .dmaDoorbell .host 0 (2 ^ 32),
    .dmaDescriptorDone 0 [] [] false false,
    .dmaDescriptorDone 0 (2 ^ 32 :: List.replicate 7 0) [] false false,
    .pcieLinkUp 0 1,
    .pcieLinkUp 6 1,
    .pcieLinkUp 1 3,
    .linkEnable (.engine 64) 0 0,
    .linkEnable .host 0 (2 ^ 32),
    .linkTrainingDone 0 256,
    .remoteRead 0 0 (2 ^ 16) 0 0,
    .remoteRead 0 0 0 (2 ^ 40) 0,
    .remoteRead 0 0 0 0 33,
    .remoteWrite 0 0 (2 ^ 16) 0 [],
    .remoteWrite 0 0 0 (2 ^ 40) [],
    .remoteWrite 0 0 0 0 (List.replicate 264 0),
    .remoteWrite 0 0 0 0 [0],
    .remoteOffer 0 0 (2 ^ 16) w16,
    .remoteOffer 0 0 0 [],
    .remoteOffer 0 0 0 (2 ^ 32 :: List.replicate 15 0),
    .readResponse 0 0 (2 ^ 16) 0 [],
    .readResponse 0 0 0 6 [],
    .readResponse 0 0 0 0 (List.replicate 257 0),
    .writeResponse 0 0 (2 ^ 16) 0 0,
    .writeResponse 0 0 0 6 0,
    .writeResponse 0 0 0 0 5,
    .requestTimeout (2 ^ 16),
    .helloMsg 0 0 0 (2 ^ 32) 0 0 0,
    .helloMsg 0 0 0 0 (2 ^ 32) 0 0] : List Instr), i.wellFormed = false := by decide +kernel

/-- For every check of WellFormed a command that breaks it alone, which it refuses (part 4). -/
theorem test_illFormed_4 : ∀ i ∈ ([.helloMsg 0 0 0 0 0 (2 ^ 32) 0,
    .helloMsg 0 0 0 0 0 0 (2 ^ 32),
    .lstate 0 0 256 false,
    .pinset 0 0 (List.replicate 7 0),
    .pinset 0 0 [2 ^ 32],
    .prepareMsg 0 0 (2 ^ 32) false,
    .readyMsg 0 0 (2 ^ 32),
    .waitingMsg 0 0 (2 ^ 32),
    .cutCommitMsg 0 0 (2 ^ 32),
    .committedMsg 0 0 (2 ^ 32),
    .deltaMsg 0 0 (List.replicate 32 (0, 0, 0)),
    .deltaMsg 0 0 [(2, 0, 0)],
    .deltaMsg 0 0 [(0, 2 ^ 57, 0)],
    .deltaMsg 0 0 [(0, 0, 2 ^ 32)],
    .deltaEnd 0 0 (2 ^ 32),
    .syncReq 0 0 [2 ^ 48],
    .shadowQ 0 0 (2 ^ 32) [] [],
    .shadowQ 0 0 0 [] [0],
    .rehomeCopyDone 0 [⟨2, 0, 0, [], []⟩],
    .rehomeCopyDone 0 [⟨0, 0, 65536, [], []⟩],
    .svcRequest (.engine 64) .node 0,
    .svcRequest .host .node (2 ^ 32),
    .safArm (.engine 64),
    .telegramSubmit (.engine 64) 0 0,
    .telegramSubmit .host 0 (2 ^ 32),
    .mooringLaneGo (.engine 64),
    .safAck (.engine 64) 0,
    .safAck .host (2 ^ 32),
    .conversionCycle [] [],
    .ntcConversion (some (2 ^ 32)) none,
    .ntcConversion none (some (2 ^ 32)),
    .loopUpdate 0 (List.replicate 9 0) 0 false,
    .loopUpdate 0 (2 ^ 32 :: List.replicate 9 0) 0 false,
    .loopUpdate 0 (List.replicate 10 0) (2 ^ 20) false,
    .clrFault (.engine 64) 0,
    .gpioSet (.engine 64) 0,
    .gpioSet .host (2 ^ 32),
    .gpioClr (.engine 64) 0,
    .gpioClr .host (2 ^ 32),
    .arpRequest { fr0 with tag := some 4096 } 0 0,
    .arpRequest { fr0 with mac := 2 ^ 48 } 0 0,
    .arpRequest fr0 (2 ^ 32) 0,
    .arpRequest fr0 0 (2 ^ 32),
    .icmpEcho { fr0 with mac := 2 ^ 48 } 0 0 [],
    .icmpEcho fr0 (2 ^ 32) 0 [],
    .icmpEcho fr0 0 (2 ^ 32) [],
    .retransmit (2 ^ 32),
    .fleetAck { fr0 with mac := 2 ^ 48 } 0 [],
    .fleetAck fr0 (2 ^ 32) [],
    .keyReload (.engine 64),
    .sgmiiLinkChange false 3,
    .mdioGo (.engine 64) 0 0,
    .mdioGo .host (2 ^ 32) 0,
    .mdioGo .host 0 (2 ^ 16),
    .setAddr 256 0 0 false,
    .setAddr 0 (2 ^ 32) 0 false,
    .setAddr 0 0 256 false,
    .smbusRead 256 false,
    .smbusWrite (2 ^ 32) 0 false,
    .smbusWrite 0 256 false,
    .bootDone none none 4,
    .bootDone none none 0x40000,
    .lcAdvance (.engine 64) 0,
    .lcAdvance .host (2 ^ 32),
    .secImport (.engine 64),
    .secSeal (.engine 64),
    .secUnseal (.engine 64),
    .otpWrite (.engine 64) 0,
    .otpWrite .host (2 ^ 32)] : List Instr), i.wellFormed = false := by decide +kernel

/-- For every check of WellFormed a command that breaks it alone, which it refuses (part 5). -/
theorem test_illFormed_5 : ∀ i ∈ ([.svnCommit (.engine 64),
    .huTest (.engine 64),
    .holdupJudgement (2 ^ 16) 0,
    .testDischargeDecision (2 ^ 32) 0,
    .testDischargeDecision 0 (2 ^ 32),
    .powerOn 128 0 [] 0 none false,
    .powerOn 0 4 [] 0 none false,
    .railTelemetry [] (List.replicate 13 0),
    .railTelemetry (List.replicate 13 0) [],
    .sysReset (.engine 64) 0,
    .sysReset .host (2 ^ 32),
    .fullResetRelease 128 0 [] 0,
    .fullResetRelease 0 4 [] 0,
    .wedgeReport 256,
    .sotErr 0 512,
    .packetResend 0 false 0 (2 ^ 32),
    .syncAnswer 0 0 (2 ^ 32) [],
    .syncAnswer 0 0 0 [(2, 0, 0)],
    .syncAnswer 0 0 0 [(0, 2 ^ 57, 0)],
    .syncAnswer 0 0 0 [(0, 0, 2 ^ 32)],
    .arpReply { fr0 with mac := 2 ^ 48 } 0,
    .arpReply fr0 (2 ^ 32),
    .bar4Access 0 none 0 [],
    .bar2Unmapped 0 none 0 [],
    .bar2Unmapped 0 (some [0]) 2 [],
    .bar2Unmapped (2 ^ 27) none 1 [],
    .bar2Unmapped 0 none 1 [{ ba with found := 3 }],
    .slotRelease 4,
    .shadowItem .node (.slot []),
    .shadowItem .node (.slot (List.replicate 16 2048)),
    .shadowItem .node (.block 128 (List.replicate 256 (0, 0, 0))),
    .shadowItem .node (.block 0 []),
    .safArm (.remote 128)] : List Instr), i.wellFormed = false := by decide +kernel

/-! ## Registers (chapter 2) -/

theorem test_meets_idle : State.reset.pending = [] ∧ (step State.reset matches .next _) := by decide +kernel

theorem test_meets_invariant : State.reset.Inv ∧ step State.reset = .next State.reset.idle := ⟨by unfold State.Inv; decide +kernel, rfl⟩

theorem test_meets_headers : (pageRow 0x360000).isSome ∧ 0x360000 % 0x1000 = 0 ∧ (pageRow 0x201000).isSome := by decide +kernel

theorem test_meets_accessCodes : tbit 4 2 = true ∧ tbit 4 3 = false ∧ tbit 4 1 = false := by decide +kernel

/-- FIO_GPIO_OUT (RW), SYS_QUIESCE_TO (RWL), PAGE_LOCK of the FIO page set, and a register that JTAG may not reach. -/
theorem test_meets_registerWrite :
    pageRow 0x5000 = none ∧ (pageRow 0x350044).isSome ∧ 0x350044 % 4 = 0 ∧ (on []).rdb A.mgtMdio 31 = false ∧
    findRow (rowsOf .fio) 0x60 = none ∧
    (findRow (rowsOf .fio) 0x44).any (fun x => x.1.wide = false ∧ maskWhere (fun y => y = .wos) 0 x.1.masks = 0) ∧
    (on []).sourceShut .host = false ∧ (on []).ready 0x350000 = false ∧ (on [(0x35000C, 1)]).ready 0x350000 = true ∧
    (on []).sourceShut .smbus = true ∧ (on []).allowed .host 0x350044 = true ∧ (on []).allowed .island 0x60 = false ∧
    findStage 0x350000 .host (on []).staged = none ∧
    (applyMasks 0 0 5 0 [(.rw, 0xFFFF)] ⟨0, 0, 0⟩).accept ≠ 0 ∧
    (applyMasks 1 0 5 0 [(.rwl 0, 0xFFFF)] ⟨0, 0, 0⟩).accept = 0 ∧
    rejects 0 5 (applyMasks 1 0 5 0 [(.rwl 0, 0xFFFF)] ⟨0, 0, 0⟩) = true ∧
    (after (.registerWrite .host 0x350044 15 5 false) (on [(0x35000C, 1)])).rd 0x350044 = 5 ∧
    (after (.registerWrite .host 0x350054 15 5 false) (on [(0x35000C, 1), (0x350010, 1)])).rd 0x350054 = 0 := by decide +kernel

/-- SEC_XFER_ADDR, a 64-bit RW register: its low word, then its high word, and another write of the page in between. -/
theorem test_meets_wideWrite :
    (findRow (rowsOf .sec) 0x58).any (fun x => x.2 = 0 ∧ x.1.wide ∧ maskWhere (fun y => y = .wos) 0 x.1.masks = 0 ∧
      maskWhere (fun y => y = .wos) 1 x.1.masks = 0) ∧
    (findRow (rowsOf .sec) 0x5C).any (fun x => x.2 = 4 ∧ x.1.wide) ∧
    (on [(0x36000C, 1)]).sourceShut .host = false ∧ (on [(0x36000C, 1)]).ready (pageBase 0x36005C) = true ∧
    (on [(0x36000C, 1)]).allowed .host 0x360058 = true ∧ (on [(0x36000C, 1)]).rdb A.mgtMdio 31 = false ∧
    findStage 0x360000 .host (after (.registerWrite .host 0x360058 15 7 false) (on [(0x36000C, 1)])).staged =
      some ⟨0x360000, .host, 0x58, 7⟩ ∧
    (after (.registerWrite .host 0x36005C 15 1 false) (after (.registerWrite .host 0x360058 15 7 false) (on [(0x36000C, 1)]))).rd64 0x360058 =
      2 ^ 32 + 7 ∧
    (after (.registerWrite .host 0x360050 15 1 false) (after (.registerWrite .host 0x360058 15 7 false) (on [(0x36000C, 1)]))).rd 0x36002C = 4 ∧
    (after (.registerWrite .host 0x360058 0xFF (2 ^ 33 + 8) true) (on [(0x36000C, 1)])).rd64 0x360058 = 2 ^ 33 + 8 := by decide +kernel

/-- A 32-bit RC register, and the two words of SEC_NONCE with and without a latch. -/
theorem test_meets_reads :
    let s := on [(0x36000C, 1), (0x360068, 5), (0x36006C, 6), (0x360088, 3)]
    let t := after (.lowWordRead .host 0x360068 4 false) s
    s.ready 0x360000 = true ∧ (on []).ready 0x360000 = false ∧
    (findRow (rowsOf .sec) 0x68).any (fun x => x.2 = 0 ∧ x.1.wide) ∧ (findRow (rowsOf .sec) 0x6C).any (fun x => x.2 = 4) ∧
    (findRow (rowsOf .sec) 0x88).any (fun x => x.1.wide = false) ∧ findRow (rowsOf .sec) 0xA0 = none ∧
    findLatch 0x360000 .host t.latches = some ⟨0x360000, .host, 0x68, 6⟩ ∧ findLatch 0x360000 .host s.latches = none ∧
    (after (.rcRead .host 0x36006C 4 false) (t.wr 0x36006C 9)).out = t.out ++ [.readData .host 0x36006C 6] ∧
    (after (.rcRead .host 0x360088 4 false) s).rd 0x360088 = 0 := by decide +kernel

/-- Every register that a statement writes takes the write of some source in some state. -/
theorem test_meets_takes :
    ∀ x ∈ [(Source.host, A.hstPassAbort), (.host, A.towTpSetPos 0), (.host, A.towTpSetPos 8), (.host, A.towTpCfg 7), (.host, entryWord 0 1),
      (.host, entryWord 511 1), (.host, A.towCtrl), (.host, slotReg 0 0x3C), (.host, slotReg 23 0x3C), (.host, A.wldCtrl), (.host, A.wldPin 3),
      (.host, A.wldAttCmd 15), (.host, A.cndRCmd 3), (.host, A.cndRRsPut 0), (.host, A.cndCtrl), (.host, A.cndRHbPub 3), (.host, A.swpRPath 3),
      (.host, A.solCmd), (.host, A.solLaunch), (.host, A.solCtrl), (.host, A.chgCmd), (.host, A.calCmd), (.engine 0, A.calJobTrig 7),
      (.host, A.calJobDone 0), (.host, A.dspBCtrl 31), (.host, A.bpgLoadCmd), (.island, A.spdSealCtrl), (.host, A.hstInDb 63),
      (.host, A.hstInCfg 0), (.host, A.hstCqCi 63), (.host, A.hstDmaDb 7), (.host, A.aqdLCfg 0), (.host, A.aqdLCfg 7), (.host, A.safCtrl),
      (.host, A.safInbox 23), (.engine 63, A.safMlCmd), (.host, A.safAck), (.host, A.fioLCtrl 1), (.host, A.fioGpioSet), (.host, A.fioGpioClr),
      (.host, A.mgtCtrl), (.host, A.mgtMdio), (.host, A.secCmd), (.island, A.secCmd), (.jtag, A.secCmd), (.host, A.sysReset)],
      (on [(pageBase x.2 + 0xC, 1)]).takes x.1 x.2 := by unfold State.takes; decide +kernel

theorem test_meets_header :
    (on []).takesHeader .host 0x350000 ∧ (pageRow 0x350000).isSome ∧ 1 &&& (on []).rd 0x350010 ≠ 1 ∧
    1 &&& (on [(0x350010, 1)]).rd 0x350010 = 1 ∧ (on []).rdb 0x35000C 1 = false ∧ (pageRow 0x340000).any (fun r => r.kind = .thm) ∧
    (on [(0x30008, 1)]).enabled 0x30000 = true ∧ (on [(0x30008, 1)]).quiesced 0x30000 = false ∧ (on [(0x3000C, 2)]).rdb 0x3000C 1 = true ∧
    (on [(0x30008, 3)]).quiesced 0x30000 = true ∧ (after (.pageLockWrite .host 0x350000 1) (on [])).rd 0x350010 = 1 ∧
    (after (.pageLockWrite .host 0x350000 1) (on [(0x350010, 1)])).rd 0x350014 = 1 := by unfold State.takesHeader; decide +kernel

theorem test_meets_errors :
    (on []).rdb 0x35000C 9 = false ∧ (on [(0x35000C, 0x200)]).rdb 0x35000C 9 = true ∧ (on []).irqStat 0x350000 = 0 ∧
    tbit ((on [(0x350020, 2)]).rd 0x350020) 1 = true ∧ 0 ∉ (on []).msix.unmasked ∧ 0 ∈ (after (.vectorUnmask 0) (on [])).msix.unmasked ∧
    (on []).irqStat 0x350000 = 0 ∧ (on [(0x35001C, 1), (0x350020, 1)]).irqStat 0x350000 ≠ 0 ∧ (on []).readyMay 1 = false ∧
    (up []).readyMay 1 = true ∧
    (after (.blockReady 1) (up [])).ready 0 = true := by decide +kernel

/-! ## Passes and towpath time (chapters 1 and 3) -/

/-- A pass with nothing in it. -/
def run0 : PassRun := { num := 1, seq := 0, epoch := none, gate := 0, len := 5, swp := [], att := [], groups := [], robots := [] }
def desc0 : Desc := { base := [], joints := [], spheres := [] }
def rob0 (r : Nat) : PassRobot :=
  { robot := r, desc := desc0, state := none, set := [], tool := false, cfg := [], batch := none, first := 0, total := 0, ranges := (0, 0, 0)
    seeds := false, lpOk := false }
def cand0 : Cand := { index := 0, robot := 0, src := 0, form := 0, anchor := false, bias := 0, tag := 0, cps := [], smp := [] }
def res0 : Res := { cand := cand0, status := 0, minclr := 0, sample := 0, sphere := 0, kind := 0, cost := 0 }

/-- A pass with its gate open. -/
def gate (p : PassRun) (s : State) : State := { s with pass := { s.pass with isOpen := true, num := p.num, cur := some p } }
/-- Pass opens and gate closes that were asked for. -/
def asks (o c : List Nat) (s : State) : State := { s with req := { s.req with opens := o, closes := c } }

theorem test_meets_passOpen :
    (asks [0] [] (on [])).req.opens = 0 :: [] ∧ 0 ∉ (asks [0] [] (on [])).req.closes ∧ (on []).tripped = false ∧ (on [(A.thmStat, 8)]).tripped = true ∧
    (on []).pass.waiting = false ∧ (on []).pass.isOpen = false ∧ (gate run0 (on [])).pass.isOpen = true ∧
    (asks [0] [0] (on [])).req.opens.head? = some 0 ∧ (asks [] [0] (on [])).req.opens.head? ≠ some 0 ∧
    (gate run0 (on [])).pass.cur = some run0 ∧ (on []).now < run0.gate + run0.len * 1000 ∧
    run0.gate + run0.len * 1000 ≤ ({ on [] with now := 5000 } : State).now ∧ (asks [4980] [] { on [] with now := 5000 }).req.opens.head? = some 4980 ∧
    (after .passOpenRequest (asks [0] [] (on [(A.thmStat, 8)]))).rd A.thmTripOpens = 1 ∧
    (after .passOpenRequest (asks [0] [] (on []))).pass.waiting = true ∧
    (after .passOpenRequest (asks [0] [] { on [] with pass := { waiting := true } })).rd A.towPassOvr = 1 ∧
    (after .passOpenRequest (asks [0] [] (gate run0 (on [])))).rd A.towSupersedeCnt = 1 ∧
    (after .closeGateRequest (asks [] [0] (on []))).rd A.towCloseIdleCnt = 1 ∧
    (after .passDeadline { gate run0 (on []) with now := 5000 }).pass.isOpen = false := by decide +kernel

theorem test_meets_gateOpen :
    let w : State := { on [] with pass := { waiting := true } }
    w.pass.waiting = true ∧ w.pass.cur = none ∧ w.tripped = false ∧ ({ on [(A.thmStat, 8)] with pass := { waiting := true } } : State).tripped = true ∧
    (after .gateOpen w).pass.isOpen = true ∧ (after .gateOpen w).rd A.cndPassSeq = 1 ∧
    (after (.passAbort .host) (gate run0 (on [(A.hstPassAbort / 0x1000 * 0x1000 + 0xC, 1)]))).pass.cur = none := by decide +kernel

/-- Two robots still to decide, no robot left, and choices over an empty and a refused commit list. -/
theorem test_meets_commit :
    let p : PassRun := { run0 with running := some ⟨.commit, none⟩, robots := [rob0 0, rob0 1] }
    let s := gate p (on [(A.clkDomRun, 1)])
    s.datapath = true ∧ s.pass.cur = some p ∧ p.robots.filter (fun z => !p.decided.any (fun d => d.1 = z.robot)) = rob0 0 :: rob0 1 :: [] ∧
    (after .passCommit s).pass.cur.any (fun q => q.decided = [(0, none)]) = true ∧
    s.commitChoice p (rob0 0) = none ∧
    s.commitChoice { p with epoch := some { num := 1, set := 0, regions := [] } } { rob0 0 with state := some ([], [], 0) } = none := by decide +kernel

theorem test_meets_quad :
    (on [(A.towTpCfg 0, 1)]).tpMode 0 = 1 ∧ (on [(A.towTpCfg 7, 1)]).rdb (A.towTpStat 7) 2 = false ∧ ((on []).path 0).refAB = (false, false) ∧
    (on ((A.towTpCfg 7, 0x201) :: clk)).filtPass 7 2 = true ∧ (on ((A.towTpCfg 7, 0x201) :: clk)).filtPass 7 1 = false ∧
    (on ((A.towTpCfg 0, 1) :: clk)).filtPass 0 0 = false ∧ (on []).runs 51 = false ∧ (on clk).runs 51 = true ∧
    (after (.quadTransition 0 true false 1) (on ((A.towTpCfg 0, 1) :: clk))).tpPos 0 = 1 ∧
    (after (.quadTransition 0 false true 1) (on ((A.towTpCfg 0, 1) :: clk))).tpPos 0 = 2 ^ 48 - 1 ∧
    (after (.quadTransition 7 true true 1) (on ((A.towTpCfg 7, 1) :: clk))).rd (A.towTpQerrCnt 7) = 1 ∧
    (on [(A.towTpStat 0, 4)]).rdb (A.towTpStat 0) 2 = true ∧
    (after (.encLoss 0 1) (on ((A.towTpCfg 0, 1) :: clk))).rdb (A.towTpStat 0) 2 = true ∧
    (on clk).filtPass 7 1 = false ∧
    (after (.encLossEnd 0 true true 2) (on ((A.towTpStat 0, 4) :: clk))).rdb (A.towTpStat 0) 2 = false ∧
    (on [(A.towTpCfg 0, 1 + 8)]).rdf (A.towTpCfg 0) 3 2 = 1 ∧ (on [(A.towTpCfg 0, 1 + 16)]).rdf (A.towTpCfg 0) 3 2 = 2 ∧
    (after (.indexPulse 0 1) (on ((A.towTpCfg 0, 9) :: (A.towTpPos 0, 7) :: clk))).rd64 (A.towTpZlatch 0) = 7 ∧
    (after (.setPosWrite .host 8 (2 ^ 48 - 1)) (on [(0x1F00C, 1)])).tpPos 8 = 2 ^ 48 - 1 ∧
    (after (.setPosWrite .host 0 5) (on [(0x1700C, 1), (A.towTpCfg 0, 16)])).tpPos 0 = 0 ∧
    (on [(A.towCtrl, 2)]).rdb A.towCtrl 1 = true ∧ 8 < (on []).tow.paths.length ∧
    (after .synTick (on [(A.towCtrl, 2), (A.towSynStep, 2 ^ 24 + 1)])).tpPos 8 = 1 := by decide +kernel

/-- Towpath 0 in SSI mode with BITS 8; a first read, a later one, and a bad one. -/
theorem test_meets_ssi :
    let s := on ((A.towTpCfg 0, 2) :: (A.towTpSsiCfg 0, 8 + 10 * 2 ^ 16) :: clk)
    let d : State := { s with now := 25850 }
    let b : State := { d with tow := { s.tow with paths := upd (fun q => { q with ssiBusy := true }) s.tow.paths 0 } }
    let p : State := { b with tow := { b.tow with paths := upd (fun q => { q with ssiPrev := some 255 }) b.tow.paths 0 } }
    s.tpMode 0 = 2 ∧ s.ssiOk 0 = true ∧ (s.path 0).ssiBusy = false ∧ (d.path 0).ssiPoll + d.rdf (A.towTpSsiCfg 0) 16 16 * 1000 ≤ d.now ∧
    s.now < (s.path 0).ssiPoll + s.rdf (A.towTpSsiCfg 0) 16 16 * 1000 ∧ (b.path 0).ssiPoll + b.ssiTime 0 ≤ b.now ∧
    s.now < (s.path 0).ssiPoll + s.ssiTime 0 ∧ (b.path 0).ssiBusy = true ∧ (b.path 0).ssiPrev = none ∧
    (p.path 0).ssiPrev = some 255 ∧ (after (.ssiPoll 0) d).tow ≠ d.tow ∧
    (after (.ssiReadDone 0 9 false true) b).rd (A.towTpSsiErrCnt 0) = 1 ∧ (after (.ssiReadDone 0 9 false false) b).tpPos 0 = 9 ∧
    (after (.ssiReadDone 0 1 false false) p).tpPos 0 = 2 := by decide +kernel

theorem test_meets_tpCfg :
    fld 3 0 2 = 3 ∧ fld 24 3 2 = 3 ∧ tbit ((on []).rd (0x17000 + 0x010)) 0 = false ∧
    (after (.tpCfgWrite .host 0 3) (on [(0x1700C, 1)])).rd 0x1702C = 0x0102 ∧ (after (.tpCfgWrite .host 0 2) (on [(0x1700C, 1)])).tpMode 0 = 2 ∧
    (after (.tpCfgWrite .host 8 1) (on [(0x1F00C, 1)])).tpMode 8 = 0 := by decide +kernel

/-- An entry at position 5 with a backstop of 1 µs, and one without a backstop. -/
theorem test_meets_entries :
    let s := on [(0x1200C, 1), (entryWord 0 0, 5), (entryWord 0 2, 1)]
    ((after (.entryArm .host 0 0) s).entry 0).armed = true ∧ ((after (.entryArm .host 0 0) s).entry 0).pos = 5 ∧
    (after (.entryArm .host 0 0) (on [(0x1200C, 1)])).rd 0x1202C = 0x0100 ∧
    ((after (.entryDisarm .host 511 0) (on [(0x1500C, 1)])).entry 511).armed = false ∧
    entryBad { tp := 8, dir := 2, action := 6, backstop := 1 } = false ∧ entryBad { tp := 9, backstop := 1 } = true := by decide +kernel

/-- Entry 0 armed on an enabled page, with a crossing of the tick before, and without one at its backstop. -/
theorem test_meets_fire :
    let x : TowEntry := { armed := true, backstop := 1, action := 2, log := true }
    let s (c : Option Nat) (n : Nat) (x : TowEntry) : State := { on [(0x12008, 1), (0x10008, 1)] with
      now := n, tow := { entries := [(0, { x with crossed := c })] } }
    ((s (some 0) 10 x).entry 0).armed = true ∧ (s (some 0) 10 x).enabled (entryPage 0) = true ∧ ((s (some 0) 10 x).entry 0).crossed = some 0 ∧
    0 / 10 < (s (some 0) 10 x).now / 10 ∧ (((s none 1010 x).entry 0).armedAt + ((s none 1010 x).entry 0).backstop * 1000) / 10 < (s none 1010 x).now / 10 ∧
    (s none 1009 x).now / 10 ≤ (((s none 1009 x).entry 0).armedAt + ((s none 1009 x).entry 0).backstop * 1000) / 10 ∧ (s (some 0) 10 x).entryDue 0 = true ∧
    (s none 10 x).entryDue 0 = false ∧ (s none 10 x).pageOpen (entryPage 0) = true ∧ (s none 10 x).req.event ≠ some 10 ∧
    ({ s none 10 x with req := { event := some 10 } } : State).req.event = some 10 ∧ (on []).enabled (entryPage 0) = false ∧
    10 ∉ (s none 10 x).req.opens ∧ 10 ∉ (s none 10 x).req.closes ∧
    ((after (.entryFire 0) (s (some 0) 10 x)).entry 0).armed = false ∧ (after (.entryFire 0) (s (some 0) 10 x)).req.opens = [10] ∧
    (after (.entryBackstop 0) (s none 1010 x)).rd A.towBackstopCnt = 1 ∧
    (((s (some 0) 10 x).afterFire 0 { x with step := 3, pos := 2 ^ 48 - 4 } false).entry 0).pos = 2 ∧
    t48Diff ((on []).tpPos 0) 2 < 0 ∧ 0 ≤ t48Diff ((on []).tpPos 0) (2 ^ 48 - 1) := by decide +kernel

theorem test_meets_pulses :
    let s := on [(0x11008, 1)]
    let r : State := { s with tow := { s.tow with trg := upd (fun _ => { running := some ⟨0, 0, 4⟩ }) s.tow.trg 0 } }
    let p : State := { s with tow := { s.tow with trg := upd (fun _ => { pending := some 4 }) s.tow.trg 0 } }
    let q : State := { on [] with tow := p.tow }
    let h := on [(0x11008, 3)]
    let w : State := { s with tow := { s.tow with trg := upd (fun _ => { running := some ⟨10, 0, 4⟩ }) s.tow.trg 0 } }
    s.enabled 0x11000 = true ∧ q.enabled 0x11000 = false ∧ (s.trg 0).running = none ∧ (s.trg 0).pending = none ∧ (r.trg 0).running = some ⟨0, 0, 4⟩ ∧
    (p.trg 0).pending = some 4 ∧ 15 < s.tow.trg.length ∧ h.quiesced 0x11000 = true ∧ h.enabled 0x11000 = true ∧ s.pageOpen 0x11000 = true ∧
    (w.trg 0).running = some ⟨10, 0, 4⟩ ∧ w.now < 10 ∧ ((w.trgDisabled 0).trg 0).running = none ∧
    (h.trigger 0 4).waitIn = [(0x11000, .pulse 0 4)] ∧ r.now < 0 + (0 + 4 + 2) * 10 ∧
    ((s.trigger 0 4).trg 0).running.isSome ∧ ((r.trigger 0 4).trg 0).pending = some 4 ∧ (p.trigger 0 4).rd (A.towTrgOvr 0) = 1 ∧
    ((after (.pendingPulseStart 0) p).trg 0).running.isSome ∧ (after (.pendingPulseStart 0) q).rd (A.towTrgOvr 0) = 1 ∧
    ((after (.pulseSequenceEnd 0) { r with now := 60 }).trg 0).running = none := by decide +kernel

theorem test_meets_passTimer :
    (on [(A.towCtrl, 1)]).rdb A.towCtrl 0 = true ∧ (on []).tow.timerAt ≤ (on []).now ∧ (on []).rdb A.towCtrl 0 = false ∧
    (after .passTimer (on [(A.towCtrl, 1), (0x10008, 1)])).req.opens = [0] ∧
    (after (.timerEnWrite .host 1) (on [(0x1000C, 1)])).rd A.towCtrl % 4 = 1 := by decide +kernel

/-! ## Sensor ingress (chapter 4) -/

/-- A slot descriptor that passes its checks: depth, RAW16, 64 by 64, buffers in HBM. -/
def slot0 : List Nat := [1 + 0x2E * 64 + 0x2E * 4096, 64 + 64 * 2 ^ 16, 0, 0, 1 + 100 * 2 ^ 16, 0, 0, 0, 0, 0, 0, 1000, 0, 1, 64 + 64 * 64 * 4]
/-- Slot 0 enabled with that descriptor, on a receiver with lanes. -/
def rx0 (f : Option RxFrame) (b : List RxBuf) : State :=
  let s := on ((A.ingRxCfg 0, 1) :: (0x20008, 1) :: (slotReg 0 0x3C, 1) :: (rangeFrom 0 15).map (fun i => (slotReg 0 (4 * i), nth 0 slot0 i)))
  { s with ing := { s.ing with slots := upd (fun x => { x with desc := s.slotWords 0, frame := f, bufs := b }) s.ing.slots 0 } }
def frame0 : RxFrame :=
  { buf := 0, desc := (rx0 none [{}, {}]).slotWords 0, time := 0, pos := 0, fb := false, corr := false, num := 1, start := 0, ext := some (0, []) }

theorem test_meets_packets :
    let s := rx0 none [{}, {}]
    (on []).rxLanes 0 = 0 ∧ s.rxLanes 0 ≠ 0 ∧ s.slotFor 0 1 = none ∧ s.slotFor 0 0 = some 0 ∧ s.ing.slots.length = 24 ∧
    ((rx0 (some frame0) [{}, {}]).slot 0).frame = some frame0 ∧ slotOk frame0.desc = true ∧ dKind frame0.desc ≠ 0 ∧ 0x2E = dPri frame0.desc ∧
    (on [(A.ingRxCfg 0, 1 + 2 ^ 20)]).rdb (A.ingRxCfg 0) 20 = true ∧ s.rdb (A.ingRxCfg 0) 20 = false ∧
    s.waitIn = [] ∧ ignoredType 0x08 = true ∧ ignoredType 0x2E = false ∧
    (after (.frameStart 0 2 0 1 0) s).rd (A.ingRxHdrUncorr 0) = 1 ∧ (after (.frameStart 0 1 1 1 0) s).rd (A.ingRxUnmatched 0) = 1 ∧
    ((after (.csiLongPacket 0 0 0 0x2E (List.replicate 128 0) true 0) (rx0 (some frame0) [{}, {}])).slot 0).frame.any (fun g => g.priN = 1 ∧ g.badShape = false) ∧
    (after (.sotErr 0 0) s).rd (A.ingRxSotErr 0) = 1 := by decide +kernel

theorem test_meets_frames :
    let s := rx0 none [{}, {}]
    let h := s.wr 0x20008 3
    let g : RxFrame := { frame0 with priN := 64 }
    let e := rx0 (some g) [{ st := 1 }, {}]
    (s.slot 0).frame = none ∧ s.enabled (ingPage 0) = true ∧ s.quiesced (ingPage 0) = false ∧ s.slotWords 0 = (s.slot 0).desc ∧
    (s.slot 0).bufs.length = 2 ∧ (nth {} ((rx0 none [{ st := 2 }, {}]).slot 0).bufs 0).st = 2 ∧
    (nth {} ((rx0 none [{ st := 3 }, { st := 1 }]).slot 0).bufs 1).st ≠ 0 ∧
    ({ e with now := 1000000 } : State).now ≥ g.start + max 1 (fld (nth 0 g.desc 11) 0 16) * 1000 ∧
    e.now < g.start + max 1 (fld (nth 0 g.desc 11) 0 16) * 1000 ∧ g.priN = dHeight g.desc ∧ frame0.priN ≠ dHeight frame0.desc ∧ g.ext.isSome ∧
    dKind g.desc ≠ 3 ∧ h.quiesced (ingPage 0) = true ∧ h.slotFor 0 0 = some 0 ∧ (after (.frameStart 0 0 0 7 0) h).waitIn.length = 1 ∧
    g.ext ≠ none ∧ ({ g with ext := none } : RxFrame).ext = none ∧ e.slotHolds 0 = false ∧ e.quiesced (ingPage 0) = false ∧
    (nth {} ((rx0 (some g) [{ st := 1 }, { st := 3 }]).slot 0).bufs (1 - g.buf)).st = 3 ∧
    ((after (.frameStart 0 0 0 7 0) s).slot 0).frame.any (fun f => f.num = 7) ∧
    (after (.frameStart 0 0 0 7 0) (rx0 none [{ st := 2 }, {}])).rd (slotReg 0 0x44) = 1 ∧
    (after (.frameTimeout 0) { e with now := 1000000 }).rd (slotReg 0 0x54) = 1 ∧ (after (.frameEnd 0 0 0 0) e).rd (slotReg 0 0x60) = 1 ∧
    (after (.frameEnd 0 0 0 0) e).ing.handover = [(0, 0)] ∧ (after (.frameEnd 0 0 0 0) (rx0 (some frame0) [{ st := 1 }, {}])).rd (slotReg 0 0x50) = 1 := by
  decide +kernel

/-- Slot 0 with its descriptor, enabled and not, and with an intensity buffer to release. -/
theorem test_meets_slots :
    let s := on ((0x2000C, 1) :: (rangeFrom 0 15).map (fun i => (slotReg 0 (4 * i), nth 0 slot0 i)))
    let r : State := { on [(0x2000C, 1), (slotReg 0 0x3C, 1)] with ing := { slots := upd (fun x => { x with bufs := [{ st := 3, desc := [3] }, {}] }) (List.replicate 24 {}) 0 } }
    s.slotEn 0 = false ∧ slotOk (s.slotWords 0) = true ∧ s.vcTaken 0 (s.slotWords 0) = false ∧ slotOk ((on []).slotWords 0) = false ∧
    (after (.slotEnable .host 0) s).slotEn 0 = true ∧ (after (.slotEnable .host 0) (on [(0x2000C, 1)])).rd 0x2002C = 0x0101 ∧
    r.slotEn 0 = true ∧ (r.slot 0).oldest = some 0 ∧ dKind (nth {} (r.slot 0).bufs 0).desc = 3 ∧
    (nth {} ((after (.slotRel .host 0) r).slot 0).bufs 0).st = 0 ∧ (after (.slotDisable .host 0) r).slotEn 0 = false := by decide +kernel

/-! ## The world map (chapter 5) -/

/-- The world page ready and enabled, every clock running, with extra words, over given device memory. -/
def wld (l : List (Nat × Nat)) (m : List Host.Cell) (w : WldState) : State :=
  { on (clk ++ (0x3000C, 1) :: (0x30008, 1) :: l) with mem := m, wld := w }
/-- INIT_DONE. -/
def inited : Nat × Nat := (A.wldStat, 1)
/-- WLD_MEM_BASE at the start of HBM and pools of one slot. -/
def cfg0 : List (Nat × Nat) := [(A.wldMemBase + 4, 0x10), (A.wldCpoolCnt, 1), (A.wldFpoolCnt, 1)]
def epoch (n : Nat) : Epoch := { num := n, set := 0, regions := [] }
def load0 : LoadRun := { addr := 0x1000000000, cnt := 2 }

theorem test_meets_worldMap :
    (on [(0x3000C, 1)]).takes .host A.wldCtrl ∧ (on [(0x3000C, 1)]).pageOpen 0x30000 = false ∧ (wld [] [] {}).takes .host A.wldCtrl ∧
    (wld [] [] {}).pageOpen 0x30000 = true ∧ (wld [] [] { initRun := true }).wld.initRun = true ∧ (wld [inited] [] {}).wldReady = true ∧
    (wld [] [] {}).wldReady = false ∧ (wld [] [] {}).badMemCfg = true ∧ (wld cfg0 [] {}).badMemCfg = false ∧
    (wld [inited] [] { load := some load0 }).hostLoads = true ∧ (wld [inited] [] {}).hostLoads = false ∧ (wld [] [] {}).wld.loadQ = [] ∧
    (wld [inited] [] { cut := some ⟨.drain, 0, none⟩ }).wld.cut.isSome ∧ (wld [] [] {}).inFabric = false ∧
    (wld [] [] { initRun := true, base := 0x1000000000, cCnt := 4194304, fCnt := 8388608 }).wld.fCnt ≤ 8388608 ∧
    (after (.poolInit .host) (wld [] [] {})).rd 0x3002C = 0x0100 ∧ (after (.poolInit .host) (wld [inited] [] {})).rd 0x3002C = 0x0107 ∧
    (wld [(A.clkDomRun, 0xEF)] [] { initRun := true }).hbmRuns = false ∧ (wld [] [] { initRun := true }).hbmRuns = true ∧
    (after .poolInitDone (wld [] [] { initRun := true, base := 0x1000000000, cCnt := 4194304, fCnt := 8388608 })).wldReady = true ∧
    (after (.loadGo .host) (wld [inited] [] {})).wld.load.isSome ∧ (after (.loadGo .host) (wld [inited] [] { load := some load0 })).rd A.wldLoadBusy = 1 ∧
    (after (.cutRequest .host) (wld [inited] [] {})).wld.cut.isSome ∧
    (after (.cutRequest .host) (wld [inited] [] { cut := some ⟨.drain, 0, none⟩ })).rd A.wldCutMerged = 1 := by unfold State.takes; decide +kernel

set_option maxRecDepth 100000 in
/-- A load of two packets at the start of HBM: with a reserved OP, UNIFORM of the dynamic layer, a predicted write, a write with no
slot free. -/
theorem test_meets_load :
    let h := 0x1000000000
    let crc : List Host.Cell := [(h + 12, 0x2E), (h + 13, 0xAF), (h + 14, 0xB5), (h + 15, 0xEF)]
    let s (m : List Host.Cell) : State := wld [inited] m { load := some load0 }
    let does (m : List Host.Cell) : Option Packet := let r := (s m).fetch 5 5 h 1088; r.1.map (fun bs => (r.2.applyPacket bs).1)
    let uni (a b c : Byte) : List Byte := [0, 0, 0, 0, a, 0, b, c] ++ List.replicate 56 0
    load0.fus = none ∧ (s []).loadpath = true ∧ (wld [inited, (A.clkDomRun, 0)] [] { load := some load0 }).loadpath = false ∧ inLocal h 1088 = true ∧ load0.idx + 1 < load0.cnt ∧ ({ load0 with idx := 1 } : LoadRun).idx + 1 = load0.cnt ∧
    load0.cnt ≤ ({ load0 with idx := 2 } : LoadRun).idx ∧ load0.noted = false ∧ does [(h + 4, 3)] = some .skipped ∧ packetOk (uni 3 0 0) = false ∧
    does [(h + 4, 5)] = some .applied ∧ packetOk (uni 5 1 0) = true ∧ packetOk (uni 1 0 0x80) = true ∧ fld (pktW (uni 5 1 0) 1) 2 2 = 1 ∧
    (s []).foreign 0 = false ∧ does ((h + 3, 0x80) :: (h + 4, 0x14) :: crc) = some .noPredict ∧ does ((h + 4, 4) :: crc) = some .poolEmpty ∧
    (wld [(A.wldCtrl, 2), (A.aqdNode, 5)] [] {}).foreign 0 = true := by decide +kernel

theorem test_meets_cuts :
    let c : CutRun := { step := .drain, asked := 0 }
    let s := wld [inited] [] { cut := some c }
    let p := wld [inited] [] { cut := some { c with step := .propagated }, working := some (epoch 2) }
    let full : WldState := { cut := some c, alive := [epoch 1, epoch 2, epoch 3, epoch 4] }
    let pins := [inited, (A.wldPin 0, 1), (A.wldPin 1, 2), (A.wldPin 2, 3), (A.wldPin 3, 4)]
    let k := wld [inited] [] { cut := some { c with step := .copying }, alive := [epoch 1] }
    s.aqd.cut = none ∧ s.wld.fusing = none ∧ s.wld.load = none ∧ s.propWaits = false ∧ s.propagate.canPublish = true ∧ s.propagate.aqd.cut = none ∧
    (wld pins [] full).propagate.canPublish = false ∧ (wld pins [] { full with cut := some { c with step := .propagated } }).canPublish = false ∧
    p.inFabric = false ∧ p.canPublish = true ∧ (epoch 2).num < 2 ^ 32 ∧ k.aqd.prepAt = none ∧ k.wld.alive.getLast? = some (epoch 1) ∧
    k.wld.loadQ = [] ∧ (k.now - c.asked) / 10 < 2 ^ 24 ∧ (wld [] [(0x500001, 0x80)] {}).propSource 0 0 0 = (some 0, false) ∧
    (wld [] [] {}).takes .host (A.wldPin 3) ∧ k.epoch 1 = some (epoch 1) ∧ k.epoch 2 = none ∧
    (after .propagationDone (wld pins [] full)).rd A.wldCutWaitCnt = 1 ∧ (after .epochPublish p).rd A.wldEpochNewest = 2 ∧
    (after (.pinWrite .host 3 2) k).rd (A.wldPin 3) = 0 ∧ (after (.slotRelease 65) (wld [] [] { relC := [0, 1], relF := [2] })).wld.relC = [] := by
  unfold State.takes; decide +kernel

theorem test_meets_fusion :
    let on_ := [inited, (A.wldCtrl, 1), (A.clkDomRun + 4, 2 ^ 25), (A.wldFuseReserve, 0)]
    let s (l : List (Nat × Nat)) (w : WldState) : State := { wld l [] w with ing := { handover := [(0, 0)] } }
    let a (c : Nat) : WldState := { att := upd (fun x => { x with cmd := c }) (List.replicate 16 {}) 15, working := some (epoch 1) }
    (s on_ {}).fusionOn = true ∧ (s [inited] {}).fusionOn = false ∧ (s on_ {}).pageOpen 0x30000 = true ∧ (s on_ {}).tripped = false ∧
    (s on_ {}).loadpath = true ∧ (s [(A.clkDomRun, 0)] {}).loadpath = false ∧ (s on_ { fusing := some (0, 0) }).loadpath = true ∧
    ((wld [] [] (a 1)).captureWaits 15) = false ∧ (s [(A.wldCtrl, 1), (A.clkDomRun + 4, 2 ^ 25)] {}).wldReady = false ∧ (s ((A.wldFuseReserve, 1) :: on_.take 3) {}).slotsFree false < 1 ∧
    (s ((A.wldFuseReserve, 1) :: on_.take 3) {}).reserveOf false = 1 ∧ (s on_ {}).reserveOf true ≤ (s on_ {}).slotsFree true ∧
    (s on_ { fusing := some (0, 0) }).wld.fusing = some (0, 0) ∧ (on [(A.thmStat, 8)]).tripped = true ∧
    (on [(0x3100C, 1)]).takes .host (A.wldAttCmd 15) ∧ (on [(0x3100C, 1)]).pageOpen 0x31000 = false ∧
    (wld [inited, (0x3100C, 1), (0x31008, 1)] [] {}).pageOpen 0x31000 = true ∧ 15 < (wld [] [] {}).wld.att.length ∧
    ((wld [] [] (a 1)).att 15).cmd = 1 ∧ ((wld [] [] (a 2)).att 15).cmd ≠ 1 ∧ (wld [] [] (a 1)).wld.working.isSome ∧
    64 < (boxOf 0 (2 ^ 32 - 1)).2.1 ∧
    (after .fusionFrameStart (s on_ {})).wld.fusing = some (0, 0) ∧ (after .fusionFrameStart (s [(A.wldCtrl, 1), (A.clkDomRun + 4, 2 ^ 25)] {})).rd 0x3002C = 0x0104 ∧
    (after (.attDone 15) (wld [] [] (a 2))).rdb (A.wldAttStat 15) 17 = true := by unfold State.takes; decide +kernel

/-- A line of this node, and one of another node that cannot be read. -/
theorem test_meets_brickFetch :
    (after (.brickFetchDone none true 1 0 0 0 [] false false) (wld [] [] {})).rd A.wldCacheMiss = 1 ∧
    (wld [] [] {}).route 3 = [] ∧ (wld [] [] {}).holdsLines = false ∧ (wld [] [] {}).aqd.reqs.length + 4 ≤ 768 ∧
    (after (.brickFetchDone (some 3) true 1 0 0 0 [] true true) (wld [] [] {})).rd A.aqdReqFail = 1 := by
  have h : (wld [] [] {}).hbmRuns = true := by decide +kernel
  have g : ¬768 < (wld [] [] {}).aqd.reqs.length + 4 := by decide +kernel
  have e (s : State) (x : CacheLine) (a : Nat) : (s.lineHeld x).rd a = s.rd a := by unfold State.lineHeld; split <;> rfl
  simp only [after, exec, execBrickFetchDone, State.brickFetched, State.farFetched, h, if_neg g, e, Bool.or_true, if_true,
    (OnlyChanges.cachePut _ _ _ []).2 _ List.not_mem_nil]
  decide +kernel

/-! ## Robots and candidates (chapter 6) -/

/-- Robot 3 with its load command, on its page ready, enabled or not, with extra words. -/
def cnd (en : Bool) (l : List (Nat × Nat)) (c : Option LoadCmd) : State :=
  { on ((cndPage 3 + 0xC, 1) :: (if en then [(cndPage 3 + 8, 1)] else []) ++ l) with
    pass := { robots := upd (fun x => { x with load := c }) (List.replicate 4 {}) 3 } }
def lcD (g : Option Desc) (k : Option Nat) : LoadCmd := { desc := true, tool := k, started := true, gotD := g }
def lcT (g : Option ToolSet) : LoadCmd := { desc := false, tool := some 7, started := true, gotT := g }
def hbm (r : Nat) (a : Nat → Nat) : List (Nat × Nat) := [(a r + 4, 0x10)]

theorem test_meets_robots :
    let s := cnd true (hbm 3 A.cndRDescAddr ++ hbm 3 A.cndRToolAddr) none
    let x : ToolSet := { spheres := [], crc := 0 }
    s.takes .host (A.cndRCmd 3) ∧ 3 < s.pass.robots.length ∧ ((cnd true [] (some (lcT none))).cnd 3).load.isSome ∧ (s.cnd 3).load = none ∧
    (cnd false [] none).pageOpen (cndPage 3) = false ∧ s.pageOpen (cndPage 3) = true ∧
    inLocal (s.rd64 (A.cndRDescAddr 3) % 2 ^ 48) 3648 = true ∧ wordsIn s.spd.ue 0x1000000000 3648 = [] ∧ wordsIn s.spd.ce 0x1000000000 3648 = [] ∧
    inLocal (s.rd64 (A.cndRToolAddr 3) % 2 ^ 48) 1600 = true ∧
    ((cnd true [] (some (lcD (some desc0) none))).cnd 3).load = some (lcD (some desc0) none) ∧ (lcD (some desc0) none).gotD = some desc0 ∧
    ((cnd true [] (some (lcD none (some 7)))).cnd 3).load = some (lcD none (some 7)) ∧ (lcD none (some 7)).tool = some 7 ∧
    ((cnd true [] (some (lcT (some x)))).cnd 3).load = some (lcT (some x)) ∧ ((cnd true [] (some (lcT none))).cnd 3).load = some (lcT none) ∧
    s.rdb (cndPage 3 + 0xC) 9 = false ∧
    (after (.descDone 3) (cnd true [] (some (lcD none (some 7))))).rd (cndPage 3 + 0x2C) = 0x0100 ∧
    ((after (.descDone 3) (cnd true [] (some (lcD (some desc0) none)))).cnd 3).descNew = some desc0 ∧
    ((after (.toolDone 3) (cnd true [] (some (lcT (some x))))).cnd 3).toolNew = List.replicate 7 none ++ [some x] ∧
    ((after (.loadTool .host 3 7) (cnd false [] none)).cnd 3).load = some { desc := false, tool := some 7, started := false } ∧
    (after (.loadTool .host 3 7) (cnd false [] (some (lcT none)))).rd (cndPage 3 + 0x2C) = 0x0105 := by unfold State.takes; decide +kernel

theorem test_meets_robotWrites :
    let c := on [(0x4000C, 1), (A.cndRStat 0, 1)]
    let h := cnd true [(A.cndRHbAddr 3 + 4, 0x10), (A.cndRHbStride 3, 64)] none
    h.takes .host (A.cndRRsPut 3) ∧ c.takes .host A.cndCtrl ∧ tbit 3 1 = true ∧ c.rdb (A.cndRStat 1) 0 = false ∧ h.takes .host (A.cndRHbPub 3) ∧
    0x1000000000 % 64 = 0 ∧ h.rd64 (A.cndRHbAddr 3) % 2 ^ 48 = 0x1000000000 ∧ h.rdf (A.cndRHbStride 3) 0 13 = 64 ∧
    inLocal 0x1000000000 ((2 ^ 18 - 1) * 64) = true ∧ ¬64 ≤ (cnd true [] none).rdf (A.cndRHbStride 3) 0 13 ∧
    ((after (.rsPutWrite .host 3 (2 ^ 32 - 1)) h).cnd 3).rsPut = true ∧ (after (.robotEnWrite .host 3) c).rd A.cndCtrl % 16 = 1 ∧
    (after (.robotEnWrite .host 3) c).rd (cndPage 1 + 0x2C) = 0x0102 ∧ (after (.hbPub .host 3 (2 ^ 18 - 1)) h).rd (A.cndRHbSeq 3) = 1 ∧
    (after (.hbPub .host 3 1) (cnd true [] none)).rd (cndPage 3 + 0x2C) = 0x0103 := by unfold State.takes; decide +kernel

/-! ## Sweep and selection (chapter 7) -/

/-- A robot that sweeps one host candidate, which is at the start of HBM, and a pass that sweeps it. -/
def rob1 : PassRobot := { rob0 3 with state := some ([], [], 0), batch := some ⟨0x1000000000, 64, 1, 1⟩, ranges := (1, 0, 0), seeds := true, total := 1 }
def run1 : PassRun := { run0 with epoch := some (epoch 1), robots := [rob1], running := some ⟨.sweep, some (1, 2)⟩ }
/-- The pass on a device whose datapath runs. -/
def sweeping (p : PassRun) (m : List Host.Cell) (l : List (Nat × Nat)) : State := gate p { on ((A.clkDomRun, 0xF1) :: l) with mem := m }

theorem test_meets_candidates :
    let s := sweeping run1 [(0x1000000001, 8)] []
    let b := sweeping run1 [] []
    let j (n : Nat) : PassRun := { run1 with jobs := upd (fun _ => some { cand0 with robot := 3 }) run1.jobs n }
    s.datapath = true ∧ s.pass.cur = some run1 ∧ run1.robots.find? (fun y => (y.slotOf 0).isSome && !y.seeded.contains 0) = some rob1 ∧
    run1.running = some ⟨.sweep, some (1, 2)⟩ ∧ run1.closed = none ∧ rob1.sweeps true = true ∧ rob1.slotOf 0 = some (0, 0) ∧
    (s.hostCand rob1 0 0).1.isSome ∧ (b.hostCand rob1 0 0).1 = none ∧ (∀ x ∈ run1.robots, x.slotOf 1 = none) ∧
    nth none (j 7).jobs 7 = some { cand0 with robot := 3 } ∧ (j 7).robotOf 3 = some rob1 ∧ nth none run1.jobs 7 = none ∧
    s.svc (lgPage 7) ≠ 1 ∧ (on []).datapath = false ∧
    (after (.candidateComplete 0) s).pass.cur.any (fun q => q.queue.length + (q.jobs.filter (·.isSome)).length = 1) = true ∧
    (after (.candidateComplete 0) b).rd A.cndBadCand = 1 ∧ (after (.candidateSwept 7) (sweeping (j 7) [] [])).rd (A.swpGCand 7) = 1 := by
  decide +kernel

theorem test_meets_reductions :
    let p : PassRun := { run1 with robots := [{ rob1 with seeded := [0], ranked := [res0] }] }
    let q : PassRun := { p with running := some ⟨.resweep 0 1, some (1, 2)⟩, reswept := 1 }
    let w : PassRun := { run0 with swp := [0, 0, 0, 0, 0, 0x10] }
    let s := sweeping p [] []
    s.datapath = true ∧ s.pass.cur = some p ∧ p.closed = none ∧ p.allSwept = true ∧ p.waiting = [] ∧ tbit (p.word 0x40) 1 = false ∧
    q.allSwept = true ∧ run1.allSwept = false ∧ (gate w (on [])).pass.cur = some w ∧ tbit (w.word 0x40) 0 = false ∧
    tbit ({ w with swp := 1 :: w.swp.tail } : PassRun).recBase 0 = false ∧ resAddrOk ({ w with swp := 1 :: w.swp.tail } : PassRun).recBase = true ∧
    tbit (({ w with swp := 1 :: w.swp.tail } : PassRun).word 0x40) 0 = true ∧ 16 * 0x200FF + 16 ≤ 0x201000 ∧
    res0.status = 0 ∧ res0.cand.src ≠ 3 ∧ ({ res0 with status := 4 } : Res).status ≠ 0 ∧
    ({ res0 with cand := { cand0 with src := 3, orig := 1 } } : Res).cost < 1 ∧ rob1.ranked.Pairwise (fun a b => rankLe a b = true) ∧
    (after .reductionFinal s).pass.cur.any (fun r => (r.robots.map (·.top)) = [[res0]]) = true ∧
    (after .secondReductionFinal (sweeping q [] [])).dsp.ended = [⟨1, 2, 0, 1⟩] ∧
    (after (.knownAnswerTest 7 true) (on [])).rd (A.swpGKat 7) = 1 ∧ (on [(pageBase (A.swpRPath 3) + 0xC, 1)]).takes .host (A.swpRPath 3) ∧
    (after (.pathDrop .host 3) (on [(pageBase (A.swpRPath 3) + 0xC, 1)])).pass.next = [none, none, none, some none] := by
  unfold State.takes; decide +kernel

/-! ## Solver arrays (chapter 8) -/

def item0 (g : SolPlace) : SolItem := { prob := 8191, bg := true, by_ := none, gate := none, dl := some 10, place := g }
/-- Slot area at the start of HBM with a problem in slot 0 that passes its checks (N, M, NNZ, cap and BLOW 1). -/
def slots0 : List Host.Cell :=
  [(0x00, 0x4F), (0x01, 0x53), (0x02, 0x01), (0x05, 1), (0x06, 1), (0x08, 1), (0x10, 1), (0x18, 1)].map (fun c => (0x1000000000 + c.1, c.2))
/-- SOL pages ready and open, INIT_DONE, the datapath running. -/
def sol (l : List (Nat × Nat)) (m : List Host.Cell) (x : SolState) : State :=
  { on ([(0x6000C, 1), (0x60008, 1), (A.solStat, 1), (A.clkDomRun, 0xF1), (solPage 15 + 8, 1), (solPage 15 + 12, 1)] ++ l) with
    mem := m, sol := { x with base := 0x1000000000, cnt := 8192 } }

theorem test_meets_solInstall :
    let s := sol [] slots0 {}
    let b := on [(0x6000C, 1)]
    let c := on [(0x6000C, 1), (A.solMemBase + 4, 0x10), (A.solProbCnt, 8192)]
    s.takes .host A.solCtrl ∧ (sol [] [] { initRun := some (0, 1) }).sol.initRun = some (0, 1) ∧ b.solMemBad = true ∧ c.solMemBad = false ∧
    c.sol.initRun = none ∧ b.solReady = false ∧ s.solReady = true ∧ ((sol [] [] { items := [item0 .queued] }).solItem 8191).isSome ∧
    s.solItem 0 = none ∧ 0 < s.sol.cnt ∧ wordsIn s.spd.ue (s.solSlot 0) 0x4000 = [] ∧ wordsIn s.spd.ce (s.solSlot 0) 0x4000 = [] ∧
    (probWords ((sol [] [] {}).readMem 0x1000000000 0x4000)).check = 1 ∧ (probWords (s.readMem 0x1000000000 0x4000)).check = 0 ∧
    (sol [] [] { lists := 1 }).sol.lists ≠ 0 ∧ (after (.solInit .host) c).sol.initRun = some (0x1000000000, 8192) ∧
    (after (.solInit .host) b).rd 0x6002C = 0x0103 ∧ (after .solInitDone (sol [] [] { initRun := some (0, 1) })).sol.cnt = 1 ∧
    (after (.solInstall .host 8191) (sol [] [] { items := [item0 .queued] })).sol.held = [(8191, .install)] ∧
    (after (.updGo .host) (sol [] [] { lists := 1 })).rd A.solUpdBusy = 1 ∧ (after .updDone (sol [] [] { lists := 1 })).sol.lists = 0 := by
  unfold State.takes; decide +kernel

theorem test_meets_solLaunch :
    let s := sol [] slots0 { resident := [0] }
    s.takes .host A.solLaunch ∧ ((sol [] [] { items := [item0 .queued] }).solItem 8191).isSome ∧ s.solItem 0 = none ∧ solTakesNew s = true ∧
    solTakesNew ({ s with regs := (rangeFrom 0 16).map (fun g => (solPage g + 12, 12#32)) }) = false ∧ s.sol.resident.contains 0 = true ∧
    s.sol.resident.contains 8191 = false ∧ s.pass.isOpen = false ∧ (gate run0 s).pass.isOpen = true ∧ s.spd.ue = [] ∧
    wordsIn s.spd.ue (s.solSlot 0) 0x40 = [] ∧ (probWords (s.readMem (s.solSlot 0) 0x40)).nnz ≤ 2048 ∧
    pairTarget (probWords (s.readMem (s.solSlot 0) 0x40)) (2 ^ 16) 0 = none ∧
    (pairTarget (probWords (s.readMem (s.solSlot 0) 0x40)) 0 7).isSome ∧ pairsOf (fullWords [0, 0, 0, 0, 7, 0, 0, 0]) = [(0, 7)] ∧
    (after (.solLaunch .host 8191 true) s).rd A.solDoneCnt = 1 ∧ (after (.solLaunch .host 0 false) s).rd A.solExpired = 1 ∧
    (after (.solLaunch .host 0 true) s).sol.items.map (·.place) = [.queued] := by unfold State.takes; decide +kernel

theorem test_meets_solRuns :
    let s (l : List SolPlace) : State := sol [] [] { items := l.map item0 }
    let r (l : SolLoad) : SolItem := { item0 (.running 15) with load := l }
    let w : SolItem := { item0 (.writing 15) with status := .sat }
    (s []).poolpath = true ∧ (s []).datapath = true ∧ (s []).solTakes 15 = true ∧ (on []).solTakes 15 = false ∧ (s []).solHead = none ∧
    (s [.preloaded 15]).sol.items.find? (fun x => x.waitsOn 15) = some (item0 (.preloaded 15)) ∧
    (s [.running 15]).sol.items.any (fun x => x.runsOn 15) = true ∧ (sol [(A.calBw, 1)] [] { items := [item0 .queued] }).solHead = some (item0 .queued) ∧
    ({ s [.queued] with sol := { items := [{ item0 .queued with bg := false }] } } : State).solHead.isSome ∧
    (sol [(A.calBw, 0)] [] { items := [item0 .queued] }).solHead = none ∧
    (s [.running 15]).sol.items.find? (fun x => x.runsOn 15) = some (item0 (.running 15)) ∧ (s [.writing 15]).solItem 8191 = some (item0 (.writing 15)) ∧
    (item0 .queued).dl = some 10 ∧ (s []).now < 10 ∧ 10 ≤ ({ s [] with now := 10 } : State).now ∧ (∀ y ∈ (s []).sol.held, y.1 ≠ 8191) ∧
    w.by_ = none ∧ (r .absent).load = .absent ∧ w.path = none ∧ A.solGRuns 15 ≠ A.solNoSource ∧
    (after (.problemStart 15 false) (s [.preloaded 15])).sol.items.map (·.place) = [.running 15] ∧
    (after (.runEnd 15 0 false) (s [.running 15])).sol.items.map (·.status) = [.dataFault] ∧
    (s [.queued]).unfit (item0 .queued) = true ∧ (s [.queued]).runs 0 = true ∧ (s [.queued]).hbmRuns = true ∧ (s [.preloaded 15, .running 15]).bgGroups = [15] ∧
    (after (.solDeadline 8191) { sol [] [] { items := [item0 .queued], resident := [8191] } with now := 10 }).rd A.solExpired = 1 ∧
    (after (.resultWritten 8191) (sol [] [] { items := [w] })).rd A.solSatCnt = 1 := by decide +kernel

/-! ## Charge arrays (chapter 9) -/

/-- A model of one layer and one tile, 1 by 1, at the start of HBM. -/
def model0 : List Host.Cell :=
  [(0, 0x44), (1, 0x4D), (2, 1), (4, 1), (5, 1), (8, 0x48), (9, 5), (12, 66), (13, 244), (14, 154), (15, 19), (0x40, 1), (0x42, 1), (0x4C, 0x40),
    (0x4D, 5), (0x145, 0x10), (0x149, 1), (0x14C, 0x44), (0x14D, 5), (0x544, 1)].map (fun c => (0x1000000000 + c.1, c.2))
/-- CHG pages ready and open, pass stopped, a state of the arrays. -/
def chg (l : List (Nat × Nat)) (x : ChgState) : State :=
  { on ([(0x8000C, 1), (0x80008, 1), (chgPage 0 + 8, 1), (chgPage 255 + 8, 1), (A.clkDomRun, 0xF1), (A.clkDomRun + 4, 0xFFFFFFFF), (A.calValid, 2 ^ 5 + 2 ^ 8), (A.chgModelAddr + 4, 0x10)] ++ l) with
    chg := x, mem := model0, cal := { store := [], inUse := [5, 8] } }
def tile0 : ChgTile := { array := 0, layer := 0, rt := 0, ct := 0, r0 := 0, rn := 1, c0 := 0, cn := 1, w := [[1]] }
def layer0 : ChgLayer := { inN := 1, outN := 1, gsel := 0, act := 0, sh := 0, osh := 0, clo := 0, chi := 0, sb := [(0, 0)] }
def mod0 (ready : Bool) : ChgModel := { layers := [layer0], tiles := [tile0], ready := ready }
def req0 : ChgReq :=
  { num := 0, by_ := .handle 1 2, bg := true, gate := none, model := 1023, count := 1, inA := 0x1000001000, inS := 0, outA := 0x1000000000, outS := 2, dl := some 10 }
def eval0 : ChgEval := { req := 0, idx := 0, layer := 0, x := [], todo := [], acc := [], fin := some [7] }
def prog0 (l : List (Nat × Nat × List (Nat × Nat))) : ChgProg := { model := 1023, rows := l }

set_option maxRecDepth 100000 in
theorem test_meets_register :
    let s := chg [] {}
    let a := 0x1000000000
    s.takes .host A.chgCmd ∧ (chg [] { prog := some (prog0 []) }).chg.prog.isSome ∧ s.rd64 A.chgModelAddr % 2 ^ 48 = a ∧ s.peek32 (a + 8) = 0x548 ∧
    inLocal a 64 = true ∧ inLocal a 0x548 = true ∧ wordsIn s.spd.ue a 0x548 = [] ∧ wordsIn s.spd.ce a 0x548 = [] ∧
    (s.modelCheck 1023 (some (s.readMem a 0x548))).1 = 0 ∧ (s.modelCheck 1023 (some (List.replicate 0x548 0))).1 = 1 ∧
    (∀ r ∈ s.chg.reqs, r.model = 1023 → r.taken = none) ∧ (chg [] { prog := some (prog0 []) }).chg.prog = some (prog0 []) ∧ (prog0 []).model = 1023 ∧
    (prog0 []).model ≠ 0 ∧ (after (.chgRegister .host 1023) (chg [] { prog := some (prog0 []) })).rd 0x8002C = 0x0103 ∧
    (after (.chgRetire .host 1023) (chg [] { prog := some (prog0 []) })).rd A.chgCmdStat = 8 ∧
    ((after (.chgScan .host 255) s).arr 255).scan = some 0 ∧ ((after (.refNow .host 255) s).arr 255).refDue = true ∧
    (after (.tableEcc 1023) (chg [] { models := [(1023, mod0 true)] })).chg.models.map (·.2.ready) = [false] := by unfold State.takes; decide +kernel

theorem test_meets_requests :
    let q (l : List (Nat × Nat)) (m : List (Nat × ChgModel)) (r : ChgReq) : State := chg l { models := m, reqs := [r] }
    let ms := [(1023, mod0 true)]
    let off := (chgPage 0 + 12, 12)
    let e (r : ChgReq) : State := chg [] { models := ms, reqs := [r], evals := [eval0] }
    (on []).pageOpen 0x80000 = false ∧ (chg [] {}).chg.reqs.find? (fun r => r.taken.isNone) = none ∧ (q [] ms req0).pageOpen 0x80000 = true ∧
    (q [] ms req0).chg.reqs.find? (fun r => r.taken.isNone) = some req0 ∧ (q [] [] req0).chgModel 1023 = none ∧
    (q [] ms req0).chgModel 1023 = some (mod0 true) ∧ (q [off] ms req0).arrOk 0 = false ∧ (q [] ms req0).arrOk 0 = true ∧ (mod0 false).ready = false ∧
    (q [(A.chgAStat 0, 16)] ms req0).rdb (A.chgAStat 0) 4 = true ∧ (q [] ms req0).rdb (A.chgAStat 0) 4 = false ∧
    req0.placed (mod0 true) = true ∧ ({ req0 with inA := 0 } : ChgReq).placed (mod0 true) = false ∧ (q [] ms req0).reqFault req0 = none ∧
    (q [off] ms req0).reqFault req0 = some .unitOut ∧ req0.next = 0 ∧
    10 ≤ ({ q [] ms req0 with now := 10 } : State).now ∧ (q [] ms req0).now < 10 ∧ ({ req0 with bg := false } : ChgReq).bg = false ∧
    (q [] ms req0).pass.isOpen = false ∧ req0.by_ = .handle 1 2 ∧ req0.taken = none ∧
    (e req0).chg.evals.find? (fun e => e.req = 0 && e.idx = 0) = some eval0 ∧ (e req0).chg.reqs.find? (fun r => r.num = 0) = some req0 ∧
    eval0.fin = some [7] ∧ (e req0).datapath = true ∧ (on []).datapath = false ∧ req0.next ≤ req0.done + 1 ∧
    ({ req0 with count := 5, next := 2 } : ChgReq).done + 1 < 2 ∧ ({ req0 with stop := some .unitOut } : ChgReq).stop = some .unitOut ∧ req0.done + 1 = req0.count ∧ ({ req0 with count := 2 } : ChgReq).done + 1 ≠ 2 ∧ req0.stop = none ∧ (e req0).spd.ue = [] ∧
    (q [] ms req0).chg.reqs.filter (fun r => r.num = 0) = [req0] ∧ req0.dl = some 10 ∧ (chg [] {}).chg.evals.find? (fun e => e.req = 0 && e.idx = 0) = none ∧
    (after .chgRequest (q [] ms req0)).chg.reqs.map (·.taken) = [some (mod0 true)] ∧ (after .chgRequest (q [] [] req0)).dsp.ended = [⟨1, 2, 9, 0⟩] ∧
    (after (.evaluationComplete 0 0 true) (e req0)).dsp.ended = [⟨1, 2, 0, 1⟩] ∧
    (after (.evaluationComplete 0 0 true) (e req0)).readMem 0x1000000000 2 = [7, 0] ∧
    (after (.evaluationComplete 0 0 false) (e req0)).rd A.chgNetErr = 1 ∧
    (after (.chgRequestDeadline 0) { q [] ms req0 with now := 10 }).rd A.chgExpired = 1 := by decide +kernel

theorem test_meets_slotsOfArrays :
    let s (l : List (Nat × Nat)) (x : ChgArray) (c : ChgState) : State := chg l { c with arrays := upd (fun _ => x) c.arrays 0 }
    let w : ChgState := { models := [(1023, mod0 true)], reqs := [{ req0 with taken := some (mod0 true) }] }
    let f : ChgState := { w with reqs := w.reqs.map (fun r => { r with bg := false }) }
    let p : ChgState := { prog := some (prog0 [(0, 511, [(0, 1)])]) }
    let o : RowOp := ⟨511, [(0, 1)], some 1023⟩
    (s [] { rowop := some o } {}).arr 0 = { rowop := some o } ∧ ((s [] {} {}).arr 0).rowop = none ∧ (s [] {} {}).runs 38 = true ∧
    ((s [] { refDue := true } {}).arr 0).refDue = true ∧ (s [(A.chgCtrl, 1)] {} {}).rdb A.chgCtrl 0 = true ∧ (s [] {} {}).trimmed 0 = true ∧ (s [(A.calValid, 0)] {} {}).trimmed 0 = false ∧
    (s [] {} {}).issues 1 = true ∧ (s [(A.thmStat, 1)] {} {}).issues 1 = false ∧ (s [] {} {}).ready 0x80000 = true ∧ (s [(0x8000C, 0)] {} {}).ready 0x80000 = false ∧
    (s [] {} {}).tripped = false ∧ svcTakes ((s [] {} {}).svc (chgPage 0)) = true ∧ ((s [] {} f).findWork 0 false).isSome ∧
    (s [] {} w).findWork 0 false = none ∧ ((s [] {} w).findWork 0 true).isSome ∧ (s [] {} {}).findWork 0 true = none ∧
    ((s [] { scan := some 511 } {}).arr 0).scan = some 511 ∧ (s [(A.chgCtrl, 2)] {} {}).rdb A.chgCtrl 1 = true ∧ (s [] {} {}).rowMay 0 = true ∧
    (s [] {} p).nextRow 0 = some o ∧ (s [] {} {}).nextRow 0 = none ∧ 255 < (s [] {} {}).chg.arrays.length ∧
    (s [] {} {}).cal.chgWait.any (fun w => w.1 = 0) = false ∧ (∀ v ∈ ((s [] { wear := [(0, 89998)] } {}).arr 0).wear, v.2 < 89999) ∧
    (after (.arraySlot 0) (s [] {} p)).chg.arrays.map (·.rowop) = some o :: List.replicate 255 none ∧
    ((after (.arraySlot 0) (s [(A.chgCtrl, 2)] { scan := some 511 } {})).arr 0).scan = none ∧
    ((after (.arraySlot 0) { s [] {} {} with now := 5 }).arr 0).empty = 5 := by decide +kernel

theorem test_meets_rowOperations :
    let s (o : RowOp) (p : Option ChgProg) : State := chg [] { arrays := upd (fun _ => { rowop := some o }) (List.replicate 256 {}) 255, prog := p }
    let r : RowOp := ⟨511, [(255, 7)], none⟩
    let m : RowOp := ⟨511, [(255, 7)], some 1023⟩
    ((s r none).arr 255).rowop = some r ∧ (s r none).svc (chgPage 255) ≠ 1 ∧ 255 < (s r none).chg.arrays.length ∧ r.model = none ∧ r.row < 512 ∧
    m.model = some 1023 ∧ (s m (some (prog0 []))).chg.prog = some (prog0 []) ∧ (prog0 [(0, 1, [])]).rows ≠ [] ∧ (prog0 []).rows = [] ∧
    (∀ b, b < 256 → b ≠ 255 → ((s m none).arr b).rowop = none) ∧ (∀ c ∈ m.cells, c.1 < 256 ∧ ∀ d ∈ m.cells, d.1 = c.1 → d.2 = c.2) ∧
    ((chg [] {}).arr 255).checked + 1000 * max 1 ((chg [] {}).rdf A.chgRefCfg 8 16) ≤ ({ chg [] {} with now := 2 ^ 40 } : State).now ∧
    ¬((chg [] {}).arr 255).checked + 1000 * max 1 ((chg [] {}).rdf A.chgRefCfg 8 16) ≤ (chg [] {}).now ∧
    nth none (chg [] {}).chg.within 3 = none ∧ nth none (chg [] { within := [none, none, none, some 0] }).chg.within 3 = some 0 ∧
    0 + 1000000000 * (chg [] {}).rdf A.chgRefreshCfg 16 8 ≤ ({ chg [] {} with now := 2 ^ 40 } : State).now ∧
    0 < 0 + 1000000000 * (chg [(A.chgRefreshCfg, 2 ^ 16)] {}).rdf A.chgRefreshCfg 16 8 ∧
    (after (.rowOperationDone 255 true) (s r none)).rd A.chgRefreshRows = 1 ∧
    (after (.rowOperationDone 255 false) (s r none)).rd 0x80030 = 255 + 511 * 2 ^ 16 ∧
    (after (.rowOperationDone 255 true) (s m (some (prog0 [(0, 1, [])])))).level 255 511 255 = 7 ∧
    (after (.rowOperationDone 255 true) (s m (some (prog0 [])))).chg.prog = none ∧
    (after (.rowOperationDone 255 false) (s m (some (prog0 [])))).rd A.chgCmdStat = 9 ∧
    ((after (.refIdleDue 255) { chg [] {} with now := 2 ^ 40 }).arr 255).refDue = true ∧
    (after (.refreshDeferEnd 3) { chg [] { within := [none, none, none, some 0] } with now := 2 ^ 40 }).chg.settled = [false, false, false, true] ∧
    ((after .vppFail (s m (some (prog0 [])))).chg.prog.any (fun p => (255, 511, [(255, 7)]) ∈ p.rows)) = true := by decide +kernel

/-! ## Calibration (chapter 10) -/

/-- A record of TYPE 7, and a store header, at the start of HBM. -/
def image7 : List Host.Cell := [(0, 7), (2, 32), (12, 168), (13, 115), (14, 87), (15, 187)].map (fun c => (0x1000000000 + c.1, c.2))
def storeImage : List Host.Cell := calHeader.map (fun c => (0x1000000000 + c.1, c.2))
/-- CAL page ready, CAL_CTRL 1, every TYPE open, the host's transfer address at the start of HBM. -/
def cal (l : List (Nat × Nat)) (m : List Host.Cell) (x : CalState) : State :=
  { on ([(0x37000C, 1), (A.calCtrl, 1), (A.calWmask, 0xFFFFFFFF)] ++ l) with mem := m, cal := { x with xfer := [(.host, 0x1000000000)] } }
def calRun0 : CalRun := { op := 1, src := .host, result := 0, check := 0, region := 4, written := [4] }

set_option maxRecDepth 100000 in
theorem test_meets_calStore :
    let s := cal [] image7 { store := calHeader }
    let h := cal [] storeImage { store := calHeader }
    let r := cal [] [] { store := [], run := some calRun0 }
    s.takes .host A.calCmd ∧ r.cal.run.isSome ∧ s.cal.run = none ∧ s.calCheck (s.calXfer .host) = .inr (4, 7, s.readMem 0x1000000000 48) ∧
    h.calCheck (h.calXfer .host) = .inl (3, 1) ∧ s.calXfer .host % 64 = 0 ∧ inLocal (s.calXfer .host) 0x8000 = true ∧
    inLocal ((on []).calXfer .host) 0x8000 = false ∧ s.rdb A.calCtrl 0 = true ∧ (on [(A.calCtrl, 0)]).rdb A.calCtrl 0 = false ∧ s.sec.lc ≠ 4 ∧
    leAt (h.readMem 0x1000000000 0x8000) 0 2 = 0x4353 ∧ leAt (h.readMem 0x1000000000 0x8000) 2 1 = 1 ∧
    leAt (h.readMem 0x1000000000 0x8000) 0x3C 4 = crc32 ((h.readMem 0x1000000000 0x8000).take 0x3C) ∧
    wordsIn h.spd.ue 0x1000000000 0x8000 = [] ∧ leAt (h.readMem 0x1000000000 0x8000) 8 8 = leNat (Memory.read h.cal.store 8 8) ∧
    leAt (h.readMem 0x1000000000 0x8000) 8 8 ≠ leNat (Memory.read [(8, 1)] 8 8) ∧ (∀ r, r < 64 → calValid (cellsOf []) r = false) ∧
    calRun0.result = 0 ∧ ({ calRun0 with result := 1 } : CalRun).result ≠ 0 ∧ (after (.calWrite .host) s).cal.run.any (fun x => x.written = [4]) = true ∧
    (after (.calWrite .host) h).cal.run.any (fun x => x.check = 3 ∧ x.result = 1) = true ∧ (after (.calWrite .host) r).rd 0x37002C = 0x0106 ∧
    (after (.calExport .host) { on [(0x37000C, 1)] with cal := { store := [] } }).cal.run.any (fun x => x.result = 6) = true ∧
    (after (.calCommandDone 0) r).rd A.mgtSeq = 1 ∧ (after (.calCommandDone 0) r).cal.run = none := by unfold State.takes; decide +kernel

theorem test_meets_calJobs :
    let s (st : Nat) (l : List (Nat × Nat)) : State := on ([(0x37100C, 1), (0x371008, 1), (A.calJobCfg 7, 1 + 2 ^ 16), (A.calJobStat 7, st)] ++ l)
    let g (st n : Nat) : State := { s st [(A.calJobGap 7, 1)] with now := n, cal := { store := [], jobs := List.replicate 8 { lastStart := some 0 } } }
    (s 0 []).takes .host (A.calJobTrig 7) ∧ (s 0 []).takes .host (A.calJobDone 7) ∧ (s 0 []).rdb (A.calJobCfg 6) 0 = false ∧
    (s 0 []).rdb (A.calJobCfg 7) 0 = true ∧ (s 2 []).jobPending 7 = true ∧ (s 0 []).jobPending 7 = false ∧ (s 1 []).jobRunning 7 = true ∧
    (s 0 []).jobRunning 7 = false ∧ (g 0 999).jobGapOver 7 = false ∧ (g 0 1000).jobGapOver 7 = true ∧ (s 0 []).quiesced 0x371000 = false ∧
    (on [(0x371008, 3)]).quiesced 0x371000 = true ∧ (s 1 []).rdf (A.calJobStat 7) 16 16 = 2 ^ 16 % 2 ^ 16 ∧
    (s 0 []).rdf (A.calJobStat 7) 16 16 ≠ 1 ∧ (g 1 1000000).rdf (A.calJobCfg 7) 16 16 ≠ 0 ∧ (g 1 1000000).jobStart 7 = some 0 ∧
    0 + (g 1 1000000).rdf (A.calJobCfg 7) 16 16 * 1000000 ≤ (g 1 1000000).now ∧ tbit ((s 0 []).rd (A.calJobTemplate (16 * 7))) 28 = false ∧
    tbit ((s 0 [(A.calJobTemplate (16 * 7), 2 ^ 28)]).rd (A.calJobTemplate (16 * 7))) 28 = true ∧
    ((s 0 []).offer 2 7 [] false false).1 ≠ 0 ∧ ((s 0 [(A.dspBCfg 0, 1)]).offer 2 7 [] false false).1 = 0 ∧
    (after (.calJobTrig .host 7) (s 2 [])).rd (A.calJobOvr 7) = 1 ∧ (after (.calJobTrig .host 7) (s 1 [])).jobPending 7 = true ∧
    (after (.calJobStepStart 7) (s 2 [(A.dspBCfg 0, 1)])).jobRunning 7 = true ∧ (after (.calJobDone .host 7 0) (s 1 [])).jobRunning 7 = false ∧
    (after (.calJobDone .host 7 1) (s 1 [])).rd (A.calJobStale 7) = 1 ∧ (after (.calJobTimeout 7) (g 1 1000000)).jobRunning 7 = false := by
  unfold State.takes; decide +kernel

theorem test_meets_forcedApply :
    let s (n : Nat) : State := { cal [(A.calBw, 2 ^ 16)] [] { store := [], chgWait := [(255, 0)] } with now := n }
    (on []).cal.chgWait.find? (fun x => x.1 = 255) = none ∧ (s 0).cal.chgWait.find? (fun x => x.1 = 255) = some (255, 0) ∧
    max 0 ((s 1000).arr 255).empty + 1000 * max 1 ((s 1000).rdf A.calBw 16 16) ≤ (s 1000).now ∧ ((s 1000).arr 255).rowop = none ∧
    (s 999).now < max 0 ((s 999).arr 255).empty + 1000 * max 1 ((s 999).rdf A.calBw 16 16) ∧ 255 < (s 0).chg.arrays.length ∧
    (after (.forcedApply 255) (s 1000)).rd A.calForced = 1 ∧ (after (.forcedApply 255) (s 1000)).cal.chgWait = [] := by decide +kernel

/-! ## The dispatcher (chapter 11) -/

/-- A descriptor from its first words, and a barge of it. -/
def words (l : List Nat) : List Nat := l ++ List.replicate (16 - l.length) 0
def barge (acc : Nat) (l : List Nat) : Barge := { words := words l, osrc := 0, orig := 0, acc := acc, gate := none }
def ctx (b : Barge) : Ctx := { barge := b, regs := List.replicate 16 0, since := 0 }
/-- Dispatcher page ready and open, basin 0 in service with credit `n`, engine 0 open and serving basin 0. -/
def dsp (n : Nat) (l : List (Nat × Nat)) (x : DspState) : State :=
  { on ([(0x20000C, 1), (0x200008, 1), (A.dspBCfg 0, 1 + n * 2 ^ 16), (A.clkDomRun, 3), (enginePage 0 + 8, 1), (A.dspEBasins 0, 1)] ++ l) with dsp := x }
/-- Engine e runs a context. -/
def runs (e : Nat) (c : Ctx) : DspState := { engines := upd (fun _ => { run := some c }) (List.replicate 64 {}) e }

theorem test_meets_offers :
    let s := dsp 1 [] {}
    let c (o : Fin 7) (l : List Nat) : Nat := s.offerCheck o (s.bargeOf o 0 (words l)) false false
    let b := barge 0 [7]
    let held : State := dsp 4 [] { ready := [b] }
    let full : State := dsp 1 [] { ready := [b] }
    c 0 [2 ^ 29] = 1 ∧ c 0 [2 ^ 16] = 2 ∧ c 0 [2 ^ 25] = 3 ∧ (dsp 0 [] {}).offerCheck 0 b false false = 4 ∧ c 0 [] = 0 ∧ c 6 [0, 8 * 2 ^ 20] = 0 ∧
    c 6 [0, 9 * 2 ^ 20] = 1 ∧ s.takers = [] ∧ (held.bargeOf 0 0 (words [7])).lock ≠ 0 ∧ held.lockHeld 7 = true ∧ s.lockHeld 7 = false ∧
    (s.accept (s.bargeOf 0 0 (words [])) false).held 0 < 2 ^ 32 ∧ s.credit 0 ≠ 0 ∧ (s.accept (s.bargeOf 0 0 (words [])) false).credit 0 = 0 ∧
    full.credit 0 = 0 ∧ min (min 4096 (fld (1 + 5 * 2 ^ 16) 16 13) - full.hostHeld 0) (4096 - full.held 0) = 4 ∧
    tbit ((full.dspHook 0x100 (1 + 5 * 2 ^ 16) (1 + 2 ^ 16)).rd 0x20001C) 12 = true ∧
    fld (b.w 0) 29 3 = 0 ∧ caddrOk b = true ∧ s.rdb (A.dspBCfg 0) 0 = true ∧ b.basin ≠ 31 ∧ b.secure = false ∧ s.held 0 < 4096 ∧
    (after (.bargeOffer 0 0 (words [2 ^ 29]) false) s).rd 0x20002C = 0x0100 ∧ (after (.bargeOffer 0 0 (words []) false) s).rd A.dspAccepted = 1 ∧
    (after (.bargeOffer 0 0 (words [7]) false) held).dsp.waiting.length = 1 := by decide +kernel

theorem test_meets_starts :
    let b := barge 0 [0, 0, 0, 0, 0, 0, 0, 9, 0, 0, 1, 2, 3, 4, 5, 6]
    let late := barge 0 [2 ^ 28]
    let hi := barge 1 [5 * 2 ^ 21]
    let lo := ctx (barge 0 [2 ^ 24])
    let q (l : List Barge) : State := dsp 4 [] { ready := l }
    let p (x : Barge) : State := dsp 4 [] { runs 0 lo with ready := [x] }
    let t := after .bargeStart (q [b])
    let shadow : State := dsp 4 [(enginePage 16 + 0xC, 17)] {}
    let wait_ := barge 1 [7 + 2 ^ 28]
    let w (l : List Barge) : State := dsp 4 [] { engines := upd (fun _ => { run := some (ctx (barge 0 [7])), wedged := true }) (List.replicate 64 {}) 3, waiting := l }
    (q []).idleChoice (q []).idleOrder = none ∧ (q []).preemptChoice (q []).pushHeads = none ∧ (q [b]).idleChoice (q [b]).idleOrder = some (0, b) ∧
    (q [b]).bargeLate b = false ∧ (q [late]).bargeLate late = true ∧ (q [late]).idleChoice (q [late]).idleOrder = some (0, late) ∧
    (p hi).idleChoice (p hi).idleOrder = none ∧ (p hi).preemptChoice (p hi).pushHeads = some (0, hi) ∧
    (p { hi with words := words [5 * 2 ^ 21 + 2 ^ 28] }).preemptChoice (p { hi with words := words [5 * 2 ^ 21 + 2 ^ 28] }).pushHeads =
      some (0, { hi with words := words [5 * 2 ^ 21 + 2 ^ 28] }) ∧
    pickPrio [b] (fun _ => true) 1 31 8 = some b ∧ 63 < (q []).dsp.engines.length ∧ ((p hi).eng 0).run = some lo ∧
    (q [late]).lateHead 0 8 = some late ∧ (q [b]).lateHead 0 8 = none ∧ b.lock = 0 ∧ fld (b.w 6) 0 3 = 0 ∧
    (t.eng 0).run.any (fun c => c.regs.map (·.toNat) = [0, 1, 2, 3, 4, 5, 6, 9, 0, 0, 0, 0, 0, 0, 0, 0]) = true ∧
    ((after .bargeStart (p hi)).eng 0).saved.length = 1 ∧ (after (.queueHeadExpiry 0) (q [late])).rd A.dspExpired = 1 ∧
    (q []).copiers 0 = [] ∧ shadow.copiers 0 = [.cluster 1] ∧ ((shadow.startOn 0 b).eng 0).run.any (fun c => c.trace = some []) = true ∧
    (w [wait_]).lateHead 0 8 = none ∧ (w [wait_]).lateWaiter 0 = some wait_ ∧ fld (wait_.w 6) 0 3 = 0 ∧ (w [{ wait_ with words := words [7] }]).lateWaiter 0 = none ∧
    (after (.queueHeadExpiry 0) (w [wait_])).dsp.waiting = [] ∧ (after (.queueHeadExpiry 0) (w [wait_])).rd A.dspExpired = 1 := by decide +kernel

theorem test_meets_flushes :
    let x := barge 1 [7]
    let rec2 := barge 0 [0, 0, 0, 0, 0, 0, 2, 0, 0x1000, 0x10]
    let tk : Ctx := { ctx (barge 0 []) with wait := .take 15 0 1 (some 5) 0 0 }
    let s (n e : Nat) (c : Ctx) (w : Bool) : State := { dsp 4 [] { engines := upd (fun _ => { run := some c, wedged := w }) (List.replicate 64 {}) e } with now := n }
    let d := s 1000000000000 62 (ctx (barge 0 [])) false
    let f : State := dsp 4 [] { waiting := [x], ready := [barge 0 [7]] }
    let sv (e : Nat) : DspState := { engines := upd (fun _ => { saved := [tk] }) (List.replicate 64 {}) e }
    let out : State := dsp 4 [] (sv 63)
    let drain : State := dsp 4 [(enginePage 0 + 0xC, 5)] (sv 15)
    x.lock ≠ 0 ∧ f.dsp.waiting.find? (fun y => y.lock = x.lock) = some x ∧ f.bargeLate x = false ∧ fld (rec2.w 6) 0 3 = 2 ∧
    regionOf rec2.caddr ≠ .pound ∧ f.spd.ue = [] ∧ d.watchdogDue 62 = true ∧ (d.eng 62).wedged = false ∧ d.rdb 0x20000C 9 = false ∧
    (s 0 62 (ctx (barge 0 [])) false).watchdogDue 62 = false ∧ ((s 0 0 tk true).eng 0).wedged = true ∧ f.takes .host (A.dspBCtrl 31) ∧
    (∀ y ∈ (dsp 4 [] { ready := [barge 0 []] }).dsp.ready, y.lock = 0 ∧ fld (y.w 6) 0 3 = 0) ∧ ((s 5 63 tk false).eng 63).run = some tk ∧
    tk.wait = .take 15 0 1 (some 5) 0 0 ∧ 0 + 5 ≤ (s 5 63 tk false).now ∧ (s 4 63 tk false).now < 0 + 5 ∧ (f.eng 63).run = none ∧
    (f.leave (barge 0 [7])).dsp.waiting = [] ∧ (after (.engineWatchdog 62) d).rd 0x200030 = 62 ∧
    (out.eng 63).run = none ∧ (out.eng 63).saved = [tk] ∧ out.engSvc 63 = 0 ∧ (drain.eng 15).saved = [tk] ∧ drain.engSvc 15 ≠ 0 ∧
    ((drain.freeEngine 15).eng 15).run.any (fun c => c.pc = 1 ∧ c.wait = .none) = true ∧
    (f.completionRecord { rec2 with ran := some 5 } 2 0 5 true ≠ f.completionRecord rec2 2 0 0 false) ∧
    ((after (.takeTimeout 63) (s 5 63 tk false)).eng 63).run.any (fun c => c.pc = 1) = true ∧
    (after (.basinFlush .host 0) f).dsp.ready = [] := by unfold State.takes; decide +kernel

/-! ## Barge programs (chapter 12) -/

/-- A context with registers g1, g2 ... -/
def gctx (l : List Nat) (c : Ctx) : Ctx := { c with regs := (words (0 :: l)).map (BitVec.ofNat 64) }
/-- The word `w` at the start of the store. -/
def prog (w : Nat) : List Host.Cell := (rangeFrom 0 8).map (fun i => (i, BitVec.ofNat 8 (w / 256 ^ i)))
/-- Engine 63 runs a context whose program is one word. -/
def at63 (w : Nat) (c : Ctx) (l : List (Nat × Nat)) : State :=
  { dsp 4 ([(A.clkDomRun, 7), (0x30000C, 1)] ++ l) { runs 63 c with store := prog w } with mem := [(0x0100000000, 1)] }
def c0 : Ctx := ctx (barge 0 [])
/-- RA 1, RB 2, RD 3, X, IMM of a word. -/
def op3 (op x imm : Nat) : Nat := op + 3 * 2 ^ 8 + 2 ^ 12 + 2 * 2 ^ 16 + x * 2 ^ 20 + imm * 2 ^ 32
/-- Register `r` of engine 63, and its program counter. -/
def g63 (c : Instr) (s : State) (r : Nat) : Option (Nat × Nat) := ((after c s).eng 63).run.map (fun c => (c.g r, c.pc))

/-- Whether an engine fetches, and whether a barge reaches an address, as something to evaluate. -/
def fetched (s : State) (e op : Nat) (c : Ctx) (w : Nat) : Bool := @decide (s.fetches e op c w) (by delta State.fetches; infer_instance)
def reached (s : State) (c : Ctx) (a n : Nat) : Bool := @decide (s.reaches c a n) (by delta State.reaches; infer_instance)
/-- Whether a bank takes a request of a kind, as something to evaluate. -/
def banked (s : State) (q : BankReq) (k : Nat) : Bool :=
  let w := wordAddr q.addr
  s.runs 2 && s.ready 0x300000 &&
    (regionOf w = .scratchpad || regionOf w = .pound && @decide (mayReachPound q.cls q.secure) (by delta mayReachPound; infer_instance) && s.sealState = 0) &&
    (s.portUse (bankOf w) (onPortB q.cls)).all (fun u => u.last ≠ q.cyc && !u.keeps q.cyc (some (w, q.cls, q.id))) &&
    s.spd.resv.all (fun r => !(r.addr = w && r.portB ≠ onPortB q.cls && q.cyc ≤ r.last)) &&
    q.met.all (fun m => (k ≠ 2 && m.kind ≠ 2) || !(q.age < m.age || q.age = m.age && onPortB q.cls))

theorem banked_takes (s : State) (q : BankReq) (k : Nat) (h : banked s q k = true) : s.bankTakes q k := by
  simp only [banked, Bool.and_eq_true, Bool.or_eq_true, decide_eq_true_eq, List.all_eq_true, Option.all_eq_true, Bool.not_eq_true'] at h
  obtain ⟨⟨⟨⟨⟨h1, h2⟩, h3⟩, h4⟩, h5⟩, h6⟩ := h
  refine ⟨h1, h2, ?_, fun u hu => h4 u hu, ?_, ?_⟩
  · simpa [and_assoc] using h3
  · intro r hr hx
    have := h5 r hr
    simp [hx.1, hx.2.1, hx.2.2] at this
  · intro m hm hr
    rcases h6 m hm with h | h
    · exact h
    · rcases hr with hr | hr <;> simp [hr] at h

theorem test_meets_compute :
    (∀ op ∈ [0x01, 0x02, 0x03, 0x04, 0x05, 0x06, 0x07, 0x08, 0x09, 0x0A, 0x0B, 0x0C, 0x0D, 0x20, 0x21, 0x22, 0x23, 0x24, 0x25, 0x48, 0x49],
      fetched (at63 op c0 []) 63 op c0 op) ∧
    fetched (at63 (op3 0x03 0 0) (gctx [5, 7] c0) []) 63 0x03 (gctx [5, 7] c0) (op3 0x03 0 0) ∧ 3 < (gctx [5, 7] c0).regs.length ∧
    (0 : Int) ≤ 1 + sgn 12 0xFFF ∧ (0 : Int) + sgn 12 0xFFF < 0 ∧ ((at63 0 c0 []).eng 63).run = some c0 ∧
    g63 (.opSub 63 false) (at63 (op3 0x03 0 0) (gctx [5, 7] c0) []) 3 = some (2 ^ 64 - 2, 1) ∧
    g63 (.opSar 63 false) (at63 (op3 0x09 0 0) (gctx [2 ^ 63, 67] c0) []) 3 = some (2 ^ 64 - 2 ^ 60, 1) ∧
    g63 (.opShl 63 false) (at63 (op3 0x07 0 0) (gctx [1, 65] c0) []) 3 = some (2, 1) ∧
    g63 (.opLi 63 false) (at63 (0x0C + 3 * 2 ^ 8 + 2 ^ 63) c0 []) 3 = some (2 ^ 64 - 2 ^ 31, 1) ∧
    g63 (.opLi 63 false) (at63 (0x0C + 2 ^ 32) c0 []) 0 = some (0, 1) ∧
    g63 (.opBlt 63 false) (at63 (0x22 + 2 ^ 12 + 2 * 2 ^ 16 + 5 * 2 ^ 20) (gctx [2 ^ 64 - 1, 0] c0) []) 1 = some (2 ^ 64 - 1, 5) ∧
    g63 (.opSelf 63 false) (at63 (0x49 + 3 * 2 ^ 8) c0 []) 3 = some (63, 1) := by decide +kernel

theorem test_meets_faults :
    let odd := ctx (barge 0 [0, 4])
    let far : Ctx := { c0 with pc := 1024 }
    let sec := ctx (barge 0 [2 ^ 25])
    let l : Ctx := { c0 with handles := [{ st := .launched }] }
    (at63 1 { c0 with wait := .handle 0 0 } []).active 63 = none ∧ (at63 1 odd []).active 63 = some odd ∧ odd.barge.prog % 8 ≠ 0 ∧
    (at63 1 far []).active 63 = some far ∧ 1023 < far.pc ∧ (at63 1 sec []).active 63 = some sec ∧ sec.barge.secure = true ∧ sec.barge.prog < 0xC0000 ∧
    (at63 1 c0 []).active 63 = some c0 ∧ c0.barge.prog % 8 = 0 ∧ c0.barge.secure = false ∧ c0.barge.prog + 8 * c0.pc < 0x100000 ∧ legalWord 0 = false ∧
    legalWord 1 = true ∧ 1 % 256 ≠ 0x02 ∧ (∃ h ∈ l.handles, h.st = .launched) ∧ (∀ h ∈ c0.handles, h.st ≠ .launched) ∧
    (after (.opNop 63 false) (at63 1 odd [])).rd A.bpgFaultInfo = 63 + 2 * 2 ^ 12 ∧
    (after (.opNop 63 false) (at63 1 sec [])).rd A.bpgFaultInfo = 63 + 9 * 2 ^ 12 ∧
    (after (.opNop 63 true) (at63 1 c0 [])).rd A.bpgFaultInfo = 63 + 10 * 2 ^ 12 ∧
    (after (.opNop 63 false) (at63 0 c0 [])).rd A.bpgFaultInfo = 63 + 2 ^ 12 ∧ ((after (.opNop 63 false) (at63 0 l [])).eng 63).run.isSome ∧
    ((after (.opNop 63 false) (at63 0 c0 [])).eng 63).run = none := by decide +kernel

theorem test_meets_memory :
    let a := 0x0100000000
    let c := gctx [a, 7] c0
    let p : Ctx := gctx [0x0108000000, 7] c0
    let b := barge 0 [2 ^ 25, 0xC0000]
    let q : Ctx := gctx [0x0108000000, 7] (ctx b)
    let sp (w seal_ : Nat) : State := { at63 0 q [(A.spdSealStat, seal_)] with dsp := { runs 63 q with store := (prog w).map (fun x => (0xC0000 + x.1, x.2)) } }
    let bad (w : Nat) : State := { at63 w c [] with spd := { ue := [a] } }
    let mt (mine other : Nat) : BankAt := { ba with age := mine, met := some ⟨1, other, 2 ^ 64 - 1⟩ }
    let stall : State := { at63 0x1010 c [] with spd := { resv := [⟨a, true, 0⟩] } }
    (∀ op ∈ [0x10, 0x12], fetched (at63 (op + 2 ^ 12) c []) 63 op c (op + 2 ^ 12)) ∧
    (∀ op ∈ [0x11, 0x18, 0x19, 0x1A, 0x1C, 0x1D, 0x1E, 0x13], fetched (at63 (op + 2 ^ 12 + 2 * 2 ^ 16) c []) 63 op c (op + 2 ^ 12 + 2 * 2 ^ 16)) ∧
    c.addr (insOf (0x10 + 2 ^ 12)) = a ∧ a % 8 = 0 ∧ reached (at63 0x10 c []) c a 8 ∧ fetched (sp 0x1010 0) 63 0x10 q 0x1010 ∧ reached (sp 0x1010 0) q 0x0108000000 8 ∧
    inPound 0x0108000000 8 = true ∧ p.barge.secure = false ∧ q.barge.secure = true ∧ (sp 0x1010 1).sealState ≠ 0 ∧ (sp 0x1010 0).sealState = 0 ∧
    inSpd 0x0106000000 8 = false ∧ inPound 0x0106000000 8 = false ∧ inSpd 0x0105FFFFF8 8 = true ∧ wordsIn (bad 0x1010).spd.ue a 8 ≠ [] ∧
    fetched (bad 0x1010) 63 0x10 c 0x1010 ∧ c0.addr (insOf 0x12) = 0 ∧ 0x03FFFFFC % 4 = 0 ∧ pageRow 0x5000 = none ∧ 2 % 4 ≠ 0 ∧
    g63 (.opLd 63 false ba) (at63 (0x1010 + 3 * 2 ^ 8) c []) 3 = some (1, 1) ∧
    (after (.opFadd 63 false ba) (at63 (op3 0x1C 0 0) c [])).peek64 a = 8 ∧ g63 (.opFadd 63 false ba) (at63 (op3 0x1C 0 0) c []) 3 = some (1, 1) ∧
    (after (.opSt 63 false ba) (at63 (0x11 + 2 ^ 12 + 2 * 2 ^ 16) c [])).peek64 a = 7 ∧
    (after (.opLd 63 false ba) (at63 0x1010 p [])).rd A.bpgFaultInfo = 63 + 4 * 2 ^ 12 ∧ (after (.opLd 63 false ba) (bad 0x1010)).rd A.spdUeCnt = 1 ∧
    (after (.opLd 63 false ba) (at63 0x1010 c0 [])).rd A.bpgFaultInfo = 63 + 3 * 2 ^ 12 ∧
    (after (.opRegr 63 false) (at63 (0x12 + 2 * 2 ^ 32) c0 [])).rd A.bpgFaultInfo = 63 + 8 * 2 ^ 12 ∧
    (∀ k ∈ [0, 1, 2], banked (at63 0x1010 c []) (c.bankReq 63 a ba) k ∧ banked (bad 0x1010) (c.bankReq 63 a ba) k) ∧
    (∀ k ∈ [0, 1], banked (at63 0x1010 c []) (c.bankReq 63 a (mt 1 0)) k) ∧ banked (at63 0x1010 c []) (c.bankReq 63 a (mt 0 1)) 0 ∧
    g63 (.opLd 63 false (mt 0 1)) (at63 (0x1010 + 3 * 2 ^ 8) c []) 3 = some (2 ^ 64 - 1, 1) ∧
    (after (.opLd 63 false (mt 0 1)) (at63 0x1010 c [])).rd A.spdCollFlag = 1 ∧ (after (.opLd 63 false (mt 1 0)) (at63 0x1010 c [])).rd A.spdCollSilent = 1 ∧
    (after (.opSt 63 false (mt 1 0)) (at63 (0x11 + 2 ^ 12 + 2 * 2 ^ 16) c [])).peek64 a = 2 ^ 64 - 1 ∧
    (after (.opSt 63 false (mt 0 1)) (at63 (0x11 + 2 ^ 12 + 2 * 2 ^ 16) c [])).peek64 a = 7 ∧
    (after (.opLd 63 false { ba with found := 2 }) (at63 0x1010 c [])).rd A.spdUeCnt = 1 ∧
    (after (.opAadd 63 false { ba with found := 2 }) (at63 (0x18 + 2 ^ 12 + 2 * 2 ^ 16) c [])).rd A.spdUeCnt = 1 ∧
    (∃ v ∈ stall.spd.resv, v.addr = a ∧ v.portB = true ∧ 0 ≤ v.last) ∧ stall.portUse (bankOf a) false = none ∧
    (after (.opLd 63 false ba) stall).rd A.spdStallCnt = 1 ∧ ((after (.opLd 63 false ba) stall).eng 63).run = some c := by
  decide +kernel

theorem test_meets_handles :
    let a := 0x0100000000
    let c := gctx [a] c0
    let h (st : HState) : Ctx := { c with handles := List.replicate 7 {} ++ [{ st := st, status := 9, result := 5 }] }
    let w (op : Nat) : Nat := op + 2 ^ 12 + 7 * 2 ^ 20
    let v (op : Nat) : Nat := op + 3 * 2 ^ 8 + 7 * 2 ^ 20
    let any := 0x3A + 3 * 2 ^ 8 + 2 ^ 39
    let u : UnitEnd := ⟨0, 7, 9, 5⟩
    let ended (s : State) : State := { s with dsp := { s.dsp with ended := [u] } }
    let saved : State := dsp 4 [] { ended := [u], engines := upd (fun _ => { saved := [h .launched] }) (List.replicate 64 {}) 63 }
    (∀ op ∈ [0x30, 0x31, 0x32, 0x33, 0x34], fetched (at63 (w op) c []) 63 op c (w op) ∧ fetched (at63 (w op) (h .set) []) 63 op (h .set) (w op)) ∧
    (c.handle 7).st = .free ∧ ((h .set).handle 7).st ≠ .free ∧ 1 % 64 ≠ 0 ∧ a % 64 = 0 ∧ inLocal a 64 = true ∧ inLocal 0x2000000000 64 = false ∧
    inPound 0x0108000000 64 = true ∧ wordsIn ({ at63 0 c [] with spd := { ue := [a] } } : State).spd.ue a 64 ≠ [] ∧
    (at63 0 c []).descOk 63 1 false ((at63 0 c []).descAt a) = true ∧ (at63 0 c []).descOk 63 2 false (words [2]) = true ∧
    (at63 0 c []).descOk 63 3 false (words [3, 0, 1, 0, 0, 1, 0, 0, 0, 1]) = true ∧ (at63 0 c []).descOk 63 4 false (words [4, 0, 0, 1, 1]) = true ∧
    (at63 0 c []).descOk 63 5 false (words [5, 0, 0, 1, 64, 1, 8]) = true ∧
    (∀ st ∈ [HState.free, .set, .launched, .done], fetched (at63 (0x38 + 7 * 2 ^ 20) (h st) []) 63 0x38 (h st) (0x38 + 7 * 2 ^ 20) ∧
      fetched (at63 (v 0x39) (h st) []) 63 0x39 (h st) (v 0x39) ∧ fetched (at63 any (h st) []) 63 0x3A (h st) any ∧ ((h st).handle 7).st = st) ∧
    tbit (insOf any).imm 7 = true ∧ (∀ k ∈ ((at63 0 c []).eng 63).ctxs, (at63 0 c []).endOf k 7 = none) ∧
    (ended (at63 0 (h .launched) [])).endOf (h .launched) 7 = some u ∧ ((at63 0 c []).eng 63).wedged = false ∧ ((at63 0 c []).eng 63).saved = [] ∧
    h .launched ∈ (saved.eng 63).saved ∧ (saved.eng 63).run = none ∧ saved.endOf (h .launched) 7 = some u ∧ 7 < (h .launched).handles.length ∧
    ((after (.opSetupSwp 63 false) (at63 (w 0x30) c [])).eng 63).run.any (fun k => (k.handle 7).st = .set) = true ∧
    ((after (.opSetupDma 63 false) (at63 (w 0x34) c [])).eng 63).run.any (fun k => k.handle 7 = badDesc) = true ∧
    g63 (.opWait 63 false) (at63 (v 0x39) (h .done) []) 3 = some (9 + 7 * 2 ^ 8 + 5 * 2 ^ 16, 1) ∧
    ((after (.handleComplete 63 7) saved).eng 63).saved.map (fun k => (k.handle 7).st) = [.done] := by decide +kernel

theorem test_meets_bargeOps :
    let a := 0x0100000000
    let c := gctx [a, 1] c0
    let given : Ctx := { c with given := some (barge 5 [], 0) }
    let p := gctx [0x0108000000] c0
    let enq := 0x40 + 3 * 2 ^ 8 + 2 ^ 12
    let take := 0x41 + 3 * 2 ^ 8 + 2 ^ 12 + 2 * 2 ^ 16
    fetched (at63 enq c []) 63 0x40 c enq ∧ reached (at63 enq c []) c a 64 ∧
    ({ at63 enq c [] with mem := [(a + 3, 0x80)] } : State).offerCheck 3 (barge 0 [2 ^ 31]) false false ≠ 0 ∧
    inSpd (c0.g 1) 64 = false ∧ inPound (c0.g 1) 64 = false ∧ fetched (at63 enq c0 []) 63 0x40 c0 enq ∧ fetched (at63 enq p []) 63 0x40 p enq ∧
    inPound (p.g 1) 64 = true ∧ p.barge.secure = false ∧ (at63 0 p [(A.spdSealStat, 1)]).sealState ≠ 0 ∧
    fetched (at63 take given []) 63 0x41 given take ∧ given.given ≠ none ∧ c.given = none ∧ fetched (at63 take c []) 63 0x41 c take ∧
    a % 64 = 0 ∧ inSpd a 64 = true ∧ (at63 take c []).engSvc 63 = 0 ∧ (at63 take c [(enginePage 0 + 12, 12)]).engSvc 0 ≠ 0 ∧ (at63 take c []).dsp.ready = [] ∧
    fetched (at63 0x342 c []) 63 0x42 c 0x342 ∧ fetched (at63 0x342 given []) 63 0x42 given 0x342 ∧ (∀ h ∈ c.handles, h.st = .free) ∧
    (at63 0x342 c []).entryFree c.barge = true ∧ (dsp 0 [] {}).entryFree c.barge = false ∧ fetched (at63 0x1043 c []) 63 0x43 c 0x1043 ∧
    (∀ h ∈ c.handles, h.st ≠ .launched) ∧ c.barge.lock = 0 ∧ fld (c.barge.w 6) 0 3 = 0 ∧ ((at63 0x1043 c []).eng 63).saved = [] ∧
    (at63 0x1043 c []).takers = [] ∧ (at63 0x1043 c []).svc (enginePage (clusterOf 63 * 16)) ≠ 1 ∧ fetched (at63 0x1044 c []) 63 0x44 c 0x1044 ∧
    fetched (at63 0x1044 given []) 63 0x44 given 0x1044 ∧ given.given = some (barge 5 [], 0) ∧
    g63 (.opEnq 63 false) { at63 enq c [] with mem := [(a + 3, 0x80)] } 3 = some (1, 1) ∧ (after (.opYield 63 false) (at63 0x342 c [])).rd A.bpgYields = 1 ∧
    (after (.opPost 63 false) (at63 0x1043 c [])).rd (A.dspEDone 63) = 1 ∧ (after (.opPostt 63 false) (at63 0x1044 given [])).rd (A.dspEDone 63) = 1 ∧
    (after (.opTake 63 false) (at63 take given [])).rd A.bpgFaultInfo = 63 + 6 * 2 ^ 12 := by
  decide +kernel

/-- A load of eight bytes of zero from the start of HBM, to offset 0. -/
theorem test_meets_programLoad :
    let l := [(A.bpgLoadSrc + 4, 0x10), (A.bpgLoadLen, 8), (A.bpgLoadCrc, 0x6522DF69)]
    let s := dsp 0 l {}
    let a := 0x1000000000
    let ld : ProgLoad := ⟨0, [7]⟩
    let r (k : Nat) : State := dsp 0 l { runs 63 (ctx (barge 0 [0, k])) with load := some ld }
    s.takes .host A.bpgLoadCmd ∧ (dsp 0 [(0x200010, 2)] {}).rdb 0x200010 1 = true ∧ s.rdb 0x200010 1 = false ∧ s.dsp.load = none ∧
    s.rd64 A.bpgLoadSrc % 2 ^ 48 = a ∧ s.rdf A.bpgLoadDst 0 20 = 0 ∧ s.rdf A.bpgLoadLen 0 17 = 8 ∧ inLocal a 8 = true ∧ wordsIn [a] a 8 ≠ [] ∧
    wordsIn s.spd.ue a 8 = [] ∧ crc32 (s.readMem a 8) = s.rd A.bpgLoadCrc ∧ crc32 (s.readMem a 8) ≠ (dsp 0 [] {}).rd A.bpgLoadCrc ∧
    ¬8 ≤ (dsp 0 [] {}).rdf A.bpgLoadLen 0 17 ∧ (r 0).dsp.load = some ld ∧ (∃ b ∈ (r 0).inService, b.prog < 1 ∧ 0 < b.prog + 8192) ∧
    (∀ b ∈ (r 8).inService, 1 ≤ b.prog) ∧ (r 8).takers = [] ∧
    (after (.programLoad .host) s).dsp.load = some ⟨0, [0, 0, 0, 0, 0, 0, 0, 0]⟩ ∧ (after (.programLoad .host) (dsp 0 [] {})).rd 0x200030 = 1 ∧
    (after (.programLoad .host) { s with spd := { ue := [a] } }).rd 0x200030 = 3 ∧ Memory.get (after .programLoadDone (r 8)).dsp.store 0 = 7 := by
  unfold State.takes; decide +kernel

/-! ## Scratchpad and sealed pound (chapter 13) -/

/-- Pages of the scratchpad and the pound ready and open, the seal in state `k`, and the state of the banks. -/
def spd (k : Nat) (l : List (Nat × Nat)) (x : SpdState) : State :=
  { on ([(0x30000C, 1), (0x300008, 1), (0x30100C, 1), (A.clkDomRun, 4), (A.spdSealStat, k)] ++ l) with spd := x, mem := [(0x0100000000, 5)] }

theorem test_meets_banks :
    let a := 0x0100000000
    let p := 0x0108000000
    let s := spd 0 [] {}
    let u := spd 0 [] { ue := [a] }
    let c := spd 0 [(A.spdCtrl, 1)] { ce := [a] }
    let d := spd 0 [] { resv := [⟨a, true, 5⟩] }
    let e : BankReq := { bq with addr := a, cls := 1 }
    let port (scrub : Bool) (run : Nat) : State := spd 0 [] { ports := [⟨0, scrub, a, 9, run, scrub, none⟩] }
    let mt (k mine other : Nat) : BankReq := { e with age := mine, met := some ⟨k, other, 9⟩ }
    (on []).runs 2 = false ∧ s.runs 2 = true ∧ s.ready 0x300000 = true ∧ (spd 0 [(0x30000C, 0)] {}).ready 0x300000 = false ∧
    regionOf p = .pound ∧ regionOf a = .scratchpad ∧ regionOf 0x1000000000 ≠ .scratchpad ∧
    regionOf 0x1000000000 ≠ .pound ∧ ¬(2 = 3 ∨ (2 = 1 ∨ 2 = 4) ∧ true = true) ∧ (spd 1 [] {}).sealState ≠ 0 ∧ s.sealState = 0 ∧
    (∃ r ∈ d.spd.resv, r.addr = a ∧ r.portB ≠ onPortB 1 ∧ 5 ≤ r.last) ∧
    [0, 1, 2].all (fun k => banked s e k && banked s { e with addr := p, cls := 3 } k && banked s { e with addr := p, cls := 4, secure := true } k &&
      banked d { e with cyc := 6 } k && !banked d { e with cyc := 5 } k && banked u e k && banked c e k) = true ∧
    (port true 64).portUse 0 true = some ⟨0, true, a, 9, 64, true, none⟩ ∧ (port false 0).portUse 0 false = some ⟨0, false, a, 9, 0, false, none⟩ ∧
    bankOf a = 0 ∧ onPortB 0 = true ∧ onPortB 1 = false ∧ after (.bankRead { e with cyc := 9 }) (port false 0) = port false 0 ∧
    (after (.bankRead { bq with addr := a, cyc := 9 }) (port true 64)).rd A.spdStallCnt = 1 ∧
    banked s (mt 1 1 0) 0 ∧ banked s (mt 1 0 1) 0 ∧ banked s (mt 1 1 0) 1 ∧ banked s (mt 1 0 1) 1 ∧ banked s (mt 2 1 0) 2 ∧ banked s (mt 2 0 1) 2 = false ∧
    wordAddr (a + 7) = a ∧ a ∉ s.spd.ue ∧ a ∉ s.spd.ce ∧ a ∈ u.spd.ue ∧ a ∈ c.spd.ce ∧ 511 % 256 = 255 ∧ c.rdb A.spdCtrl 0 = true ∧
    c.enabled 0x300000 = true ∧ c.quiesced 0x300000 = false ∧ (on []).enabled 0x300000 = false := by decide +kernel

theorem test_meets_bankData :
    let a := 0x0100000000
    let p := 0x0108000000
    let s := spd 0 [] {}
    let u := spd 0 [] { ue := [a] }
    let c := spd 0 [(A.spdCtrl, 1)] { ce := [a] }
    let d := spd 0 [] { resv := [⟨a, true, 5⟩] }
    let e : BankReq := { bq with addr := a, cls := 1 }
    let port (scrub : Bool) (run : Nat) : State := spd 0 [] { ports := [⟨0, scrub, a, 9, run, scrub, none⟩] }
    let mt (k mine other : Nat) : BankReq := { e with age := mine, met := some ⟨k, other, 9⟩ }
    let sc (t : Option Nat) : State := { spd 0 [(A.spdCtrl, 1), (A.spdScrubS, 1)] { scrubAt := t } with now := 1000000000 }
    (after (.bankRead { e with addr := a + 7 }) s).out = [e.answer false (some 5) false false false false] ∧
    (after (.bankRead { bq with addr := a }) u).out.getLast? = some (.barData 2 0 (List.replicate 8 0xFF)) ∧
    (after (.bankRead (mt 1 1 0)) s).rd A.spdCollSilent = 1 ∧ (after (.bankRead (mt 1 0 1)) s).rd A.spdCollFlag = 1 ∧
    (after (.bankRead (mt 1 0 1)) s).out.getLast? = some (e.answer false (some 9) false false false false) ∧ (after (.bankRead (mt 1 0 1)) s).out.length = 2 ∧
    (after (.bankRead { mt 1 0 1 with again := true }) s).rd A.spdCollSilent = 1 ∧ (after (.bankRead { mt 1 0 1 with found := 2 }) s).spd.ue = [a] ∧
    (after (.bankRead { e with found := 2 }) s).spd.ue = [a] ∧ (after (.bankRead { e with cyc := 5 }) d).rd A.spdStallCnt = 1 ∧
    (after (.bankRead (mt 2 0 1)) s).rd A.spdStallCnt = 1 ∧ (after (.bankRead { bq with addr := p, cls := 2, secure := true }) s).rd A.spdSealDenied = 1 ∧
    (after (.bankWrite e 511 7) s).peek64 a = 7 ∧ (after (.bankWrite e 2 0x700) s).peek64 a = 0x705 ∧ (after (.bankWrite e 2 0x700) u).rd A.spdUeCnt = 1 ∧
    (after (.bankWrite (mt 1 1 0) 255 7) s).peek64 a = 9 ∧ (after (.bankWrite (mt 1 0 1) 255 7) s).rd A.spdWwCnt = 1 ∧
    (after (.bankWrite (mt 0 0 1) 255 7) s).out = [e.answer false none true true false false] ∧
    (after (.bankAdd e (2 ^ 64 - 6) true) s).peek64 a = 2 ^ 64 - 1 ∧ (after (.bankAdd2 e (2 ^ 32 - 5) true) s).peek64 a = 0 ∧
    (after (.bankSwap { e with found := 2 } 9 true) s).spd.ue = [a] ∧ (after (.bankSwap e 9 true) s).spd.resv = [⟨a, false, 1⟩] ∧
    (∃ r ∈ d.spd.resv, r.addr = a ∧ 5 ≤ r.last) ∧ (∃ x ∈ (port false 0).spd.ports, x.addr = a ∧ x.last = 9) ∧
    after (.eccWriteback a 5) d = d ∧ (after (.eccWriteback a 0) c).spd.ce = [] ∧ (after (.scrubRead { bq with addr := a, cls := 6, found := 1 }) c).rd A.spdCeCnt = 1 ∧
    (sc none).rdf A.spdScrubS 0 16 = 1 ∧ (after (.scrubRead { bq with addr := a, cls := 6, found := 0 }) (sc none)).spd.scrubbed = [a] ∧ (after (.scrubRead { bq with addr := a, cls := 6, found := 0 }) (sc (some 0))).spd.scrubbed = [a] ∧
    after (.scrubRead { bq with addr := a, cls := 6, found := 0 }) (sc (some 1)) = sc (some 1) ∧ (after (.scrubRead { bq with addr := a, cls := 6, found := 2 }) (sc none)).rd A.spdUeInfo = 6 ∧
    (after (.scrubRead { bq with addr := a, cls := 6, cyc := 5, met := some ⟨2, 0, 0⟩ }) c).rd A.spdStallCnt = 1 ∧
    (after (.scrubRead { bq with addr := a, cls := 6, age := 1, met := some ⟨1, 0, 9⟩ }) c).rd A.spdCollSilent = 1 ∧
    (after (.scrubRead { bq with addr := a, cls := 6, met := some ⟨1, 1, 9⟩ }) c).rd A.spdCollFlag = 1 := by decide +kernel

/-- The words read in a pass while the pound is closed, however many they are. -/
theorem test_meets_scrubAll (n : Nat) :
    let s := spd 1 [] { scrubbed := List.replicate (n + 1) 0x0100000000 }
    s.sealState ≠ 0 ∧ n + 1 ≤ ((setIns 0x0100000000 s.spd.scrubbed).filter (fun x => regionOf x = .scratchpad)).length := by
  refine ⟨show (spd 1 [] {}).sealState ≠ 0 by decide +kernel, ?_⟩
  show n + 1 ≤ ((setIns 0x0100000000 (List.replicate (n + 1) 0x0100000000)).filter (fun x => regionOf x = .scratchpad)).length
  have r : regionOf 0x0100000000 = .scratchpad := by decide
  simp [setIns, List.replicate_succ, r]

/-- A key record of zeros at the start of the pound, and the seal in each state. -/
theorem test_meets_pound :
    let m : List Host.Cell := [(0x24, 0x4B), (0x25, 0x46), (0x3C, 97), (0x3D, 141), (0x3E, 221), (0x3F, 64)].map (fun c => (0x0108000000 + c.1, c.2))
    let s (k : Nat) : State := spd k [(A.secHuStat, 3)] {}
    let g : State := { s 3 with mem := m }
    let sec : State := { g with dsp := runs 63 (ctx (barge 0 [2 ^ 25])) }
    let w (r : Bool) : State := spd 2 [] { wipe := some ⟨0, 0, r⟩ }
    let ww (cause : Nat) : State := spd 2 [(A.spdSealCause, cause), (A.spdWipeCnt, 1)] { wipe := some ⟨0, 0, false⟩ }
    let o := 7 * 8 + 65535 * 64
    let key : State := { s 0 with fio := { key := some [] } }
    (s 0).takes .island A.spdSealCtrl ∧ sec.takes (.engine 63) A.spdSealCtrl ∧ g.takes .island A.spdSealCtrl ∧ (s 0).sealState = 0 ∧ (s 1).sealState ≠ 0 ∧ (s 2).sealState = 2 ∧ (s 3).sealState = 3 ∧
    key.fio.key ≠ none ∧ (s 0).now < 2 ^ 64 ∧ (on []).mayOpen = false ∧ g.mayOpen = true ∧ (s 0x41).lockStands = true ∧ (s 0x41).mayOpen = true ∧
    g.lockStands = false ∧ wordsIn g.spd.ue 0x0108000000 0x40 = [] ∧ keyRecordOk (g.readMem 0x0108000000 0x40) = true ∧
    keyRecordOk ((s 1).readMem 0x0108000000 0x40) = false ∧ (s 1).lockStands = false ∧ (w false).spd.wipe = some ⟨0, 0, false⟩ ∧
    (w true).spd.wipe = some ⟨0, 0, true⟩ ∧ fillByte (w true).fills 0x01083FFFFF = 0 ∧
    (after (.sealLock .island) key).sealState = 1 ∧ (after (.sealUnlock .island) (s 0x41)).rd A.spdSealStat = 1 ∧ (after (.sealWipe .island) (s 1)).sealState = 2 ∧
    (after (.sealWipe .island) (w true)).rd A.spdSealMerged = 1 ∧ (after (.sealOpen .island) g).sealState = 0 ∧ (after (.sealOpen .island) g).fio.key.isSome ∧
    (after (.sealOpen .island) (s 1)).rd 0x35802C = 0x0100 ∧ (after (.sealOpen (.engine 63)) sec).sealState = 3 ∧ (after (.wipeDone none) (w false)).sealState = 3 ∧
    (after (.wipeDone (some o)) (w false)).spd.wipe = some ⟨0, 0, true⟩ ∧
    (after (.wipeDone (some o)) (w true)).rd 0x301030 = 7 + 65535 * 2 ^ 16 ∧ (s 0).sourceShut .host = false ∧ (s 0).ready 0x301000 = true ∧
    findStage 0x301000 .host (s 0).staged = none ∧ (s 0).rdb A.mgtMdio 31 = false ∧ (s 0).allowed .host A.spdSealCtrl = false ∧
    (after (.sealLock .host) (s 0)).sec.logSeq = 1 ∧ (after (.sealLock .host) (s 0)).sealState = 0 ∧ (ww 10).rd A.spdSealCause = 10 ∧
    (ww 9).rd A.spdSealCause = 9 ∧ (after (.wipeDone none) (ww 10)).rd A.spdWipeCnt = 1 ∧ (after (.wipeDone none) (ww 9)).rd A.spdWipeCnt = 2 := by unfold State.takes; decide +kernel

/-! ## The host interface (chapter 14) -/

/-- Host pages ready, inlet ring 63 enabled on basin 0 in service with credit 2, with extra words. -/
def hst (l : List (Nat × Nat)) : State :=
  on (clk ++ [(0x31000C, 1), (0x31100C, 1), (0x31200C, 1), (A.hstInCfg 63, 0x41), (A.dspBCfg 0, 1 + 2 * 2 ^ 16)] ++ l)

theorem test_meets_inlets :
    let s := hst [(A.hstInBase 63, 0x4000)]
    let f := hst [(A.hstInStat 63, 8)]
    let p := hst [(A.hstInPi 63, 2)]
    let q := hst [(0x311008, 3)]
    s.takes .host (A.hstInDb 63) ∧ s.doorbellResult 63 2 = 0 ∧ s.doorbellResult 63 3 = 1 ∧ s.doorbellResult 63 17 = 2 ∧ s.inSize 63 = 16 ∧
    (hst [(A.hstInCfg 63, 0)]).doorbellResult 63 1 = 3 ∧ f.doorbellResult 63 1 = 4 ∧ s.rdb (A.hstInStat 63) 3 = false ∧ s.inBasin 63 ≠ 31 ∧
    s.credit 0 ≠ 0 ∧ p.credit 0 = 0 ∧ p.held 0 < 2 ^ 32 ∧ s.inletResv 63 = 0 ∧ p.inletResv 63 ≠ 0 ∧ p.rdb 0x31100C 9 = false ∧
    p.offerCheck 0 (p.bargeOf 0 63 (words [])) false true = 0 ∧ p.offerCheck 0 (p.bargeOf 0 63 (words [2 ^ 31])) false true ≠ 0 ∧
    (p.bargeOf 0 63 (words [2 ^ 16])).basin ≠ p.inBasin 63 ∧ [words [], words []].length ≤ 64 ∧ s.takes .host (A.hstInCfg 63) ∧
    s.rdb (A.hstInCfg 63) 0 = true ∧ (hst [(A.hstInCfg 63, 0)]).rdb (A.hstInCfg 63) 0 = false ∧ (s.rd (A.hstInCfg 63) ^^^ 0x40) &&& 0x1FF0 = 0 ∧
    (s.rd (A.hstInCfg 63) ^^^ 0x51) &&& 0x1FF0 ≠ 0 ∧
    (after (.inletDoorbell .host 63 2) s).rd (A.hstInPi 63) = 2 ∧ (after (.inletDoorbell .host 63 17) s).rd (A.hstInStat 63) = 2 ∧
    (after (.inletEntryFetched 63 [words []] false) p).rd A.dspAccepted = 1 ∧ (after (.inletEntryFetched 63 [words [2 ^ 16]] false) p).rd 0x31102C = 0x0101 ∧
    (after (.inletEntryFetched 63 [] true) p).rd 0x311030 = 63 ∧ (after (.inletEnWrite .host 63 0x1FF1) (hst [(A.hstInCfg 63, 0)])).rd (A.hstInCfg 63) = 0x1FF1 ∧
    (after (.inletEnWrite .host 63 0x51) s).rd (A.hstInCfg 63) = 0x41 ∧ s.pageOpen 0x311000 = true ∧ q.pageOpen 0x311000 = false ∧ q.takes .host (A.hstInDb 63) ∧
    s.rd (A.hstInPi 63) % s.inSize 63 + 2 ≤ s.inSize 63 ∧ s.quiesced 0x311000 = false ∧ (after (.inletDoorbell .host 63 2) q).waitIn = [(0x311000, .inlet 63 2)] ∧
    (after (.inletDoorbell .host 63 2) s).credit 0 = 0 ∧ tbit ((after (.inletDoorbell .host 63 2) s).rd 0x20001C) 12 = true ∧
    (after (.inletDoorbell .host 63 2) s).out.getLast? = some (.hostRead 0x4000 128) := by unfold State.takes; decide +kernel

theorem test_meets_rings :
    let s := hst [(A.hstCqCfg 63, 3), (A.hstCqCoal 63, 1), (A.hstDmaCfg 7, 1), (A.hstDmaBase 7, 0x40)]
    let c (r : CqRing) (n : Nat) : State := { s with now := n, hst := { cq := upd (fun _ => r) (List.replicate 64 {}) 63 } }
    let d : State := { s with hst := { dmaPi := [0, 0, 0, 0, 0, 0, 0, 1] } }
    let e := on [(0x31000C, 1)]
    s.takes .host (A.hstCqCi 63) ∧ (s.cq 63).held = [] ∧ s.rdb (A.hstCqCfg 63) 0 = true ∧ e.rdb (A.hstCqCfg 63) 0 = false ∧ 63 < s.hst.cq.length ∧
    s.cqUsed 63 < s.cqSize 63 ∧ s.cqSize 63 ≤ (s.rd (A.hstCqPi 63) + 2 ^ 32 - 1) % 2 ^ 32 ∧ ((c { unsig := 1 } 1000).cq 63).unsig ≠ 0 ∧
    ((c { unsig := 1 } 1000).cq 63).firstAt + s.rdf (A.hstCqCoal 63) 0 16 * 1000 ≤ 1000 ∧ s.rdb (A.hstCqCfg 63) 1 = true ∧ 0 ∉ s.msix.unmasked ∧
    s.takes .host (A.hstDmaDb 7) ∧ s.rdb (A.hstDmaCfg 7) 0 = true ∧ s.rdb (A.hstDmaStat 7) 8 = false ∧ 1 + s.dmaUsed 7 ≤ s.dmaSize 7 ∧
    e.rdb (A.hstDmaCfg 7) 0 = false ∧ d.dmaUsed 7 ≠ 0 ∧ inLocal 0x1000000000 8 = true ∧ wordsIn d.spd.ue 0x1000000000 8 = [] ∧
    wordsIn ({ d with spd := { ue := [0x1000000000] } } : State).spd.ue 0x1000000000 8 ≠ [] := by unfold State.takes; decide +kernel

theorem test_meets_dma :
    let s := hst [(A.hstCqCfg 63, 3), (A.hstCqCoal 63, 1), (A.hstDmaCfg 7, 1), (A.hstDmaBase 7, 0x40)]
    let c (r : CqRing) (n : Nat) : State := { s with now := n, hst := { cq := upd (fun _ => r) (List.replicate 64 {}) 63 } }
    let d : State := { s with hst := { dmaPi := [0, 0, 0, 0, 0, 0, 0, 1] } }
    let e := on [(0x31000C, 1)]
    let q := hst [(0x310008, 3), (A.hstDmaCfg 7, 1)]
    let mid (k : Nat) : State := { d with hst := { d.hst with dmaCur := List.replicate 7 none ++ [some (true, k)] } }
    let rec_ : List Byte := List.replicate 16 0
    let w (k len : Nat) : List Nat := [k, len, 0, 0, 0, 0x10]
    (after (.cqCiWrite .host 63 (2 ^ 32 - 1)) (c { held := [rec_, rec_] } 0)).rd (A.hstCqPi 63) = 2 ∧
    ((after (.cqCoalesceTimer 63) (c { unsig := 1 } 1000)).cq 63).unsig = 0 ∧ ((after (.cqCoalesceTimer 63) (c { unsig := 1 } 999)).cq 63).unsig = 1 ∧
    (after (.dmaDoorbell .host 7 1) s).dmaUsed 7 = 1 ∧ (after (.dmaDoorbell .host 7 1) e).dmaUsed 7 = 0 ∧
    (after (.dmaDescriptorDone 7 (w 0 8) [1, 2, 3, 4, 5, 6, 7, 8] false false) d).readMem 0x1000000000 8 = [1, 2, 3, 4, 5, 6, 7, 8] ∧
    (after (.dmaDescriptorDone 7 (w 1 8) [] false false) d).rdf (A.hstDmaStat 7) 0 8 = 0 ∧
    (after (.dmaDescriptorDone 7 (w 0 7) [] false false) d).rdf (A.hstDmaStat 7) 0 8 = 9 ∧
    (after (.dmaDescriptorDone 7 (w 1 8) [] true false) d).rdb (A.hstDmaStat 7) 8 = true ∧ s.pageOpen 0x310000 = true ∧ q.pageOpen 0x310000 = false ∧
    q.takes .host (A.hstDmaDb 7) ∧ (after (.dmaDoorbell .host 7 1) q).waitIn = [(0x310000, .dma 7 1)] ∧ s.msix.isOpen 0 = false ∧
    ({ s with msix := { unmasked := [0] } } : State).msix.isOpen 0 = true ∧ d.dmaMoved 7 = 0 ∧ (mid 8).dmaMoved 7 = 8 ∧ d.quiesced 0x310000 = false ∧
    (after (.dmaDescriptorDone 7 (w 2 16) [1, 2, 3, 4, 5, 6, 7, 8] false true) d).hst.dmaCur = (mid 8).hst.dmaCur ∧
    (after (.dmaDescriptorDone 7 (w 2 16) [1, 2, 3, 4, 5, 6, 7, 8] false true) d).readMem 0x1000000000 8 = [1, 2, 3, 4, 5, 6, 7, 8] ∧
    (after (.dmaDescriptorDone 7 (w 2 16) [9, 2, 3, 4, 5, 6, 7, 8] false false) (mid 8)).readMem 0x1000000008 8 = [9, 2, 3, 4, 5, 6, 7, 8] ∧
    (after (.dmaDescriptorDone 7 (w 3 16) [0] false true) { d with spd := { ue := [0x1000000000] } }).rdf (A.hstDmaStat 7) 0 8 = 9 ∧
    nth none (mid 8).hst.dmaCur 7 = some (true, 8) ∧ ((mid 8).dmaCfg 7 1 0).rdf (A.hstDmaStat 7) 0 8 = 8 ∧
    (after (.dmaDoorbell .host 7 1) s).out = [.hostRead 0x40 32] := by unfold State.takes; decide +kernel

/-- A SERDES record of zeros, region 2 of the store. -/
def serdes0 : List Host.Cell := [(0x1C0, 4), (0x1C2, 0x10), (0x1C3, 1), (0x1CC, 141), (0x1CD, 224), (0x1CE, 1), (0x1CF, 156)]

/-- The state `s` with that record in its store; the record is valid, its check sum taken in parts. -/
def serdes (s : State) : State := { s with cal := { s.cal with store := serdes0, bad := [] } }

theorem crcBytes_append (p : Nat) (a b : List Byte) (r : Nat) : crcBytes p (a ++ b) r = crcBytes p b (crcBytes p a r) := by
  induction a generalizing r with
  | nil => rfl
  | cons x t ih => exact ih _

set_option maxRecDepth 100000 in
theorem serdes_crc : recordCrc (calBytes serdes0 2) false = 0x9C01E08D := by
  have hb : calBytes serdes0 2 = [4, 0, 0x10, 1, 0, 0, 0, 0, 0, 0, 0, 0, 0x8D, 0xE0, 1, 0x9C] ++ List.replicate 272 0 := by decide +kernel
  have hz : (List.replicate 272 0 : List Byte) = List.replicate 64 0 ++ (List.replicate 64 0 ++ (List.replicate 64 0 ++ (List.replicate 64 0 ++ List.replicate 16 0))) := by
    simp only [List.replicate_append_replicate]
  rw [hb, recordCrc]
  have hm (x y : List Byte) (h : x = y) : crc32 x = crc32 y := by rw [h]
  refine (hm _ (([4, 0, 0x10, 1] ++ List.replicate 12 0) ++ List.replicate 272 0) ?_).trans ?_
  · decide +kernel
  · rw [crc32, crcBytes_append, hz, crcBytes_append, crcBytes_append, crcBytes_append, crcBytes_append]
    decide +kernel

theorem test_meets_presetRecord (s : State) : (serdes s).calGood 2 = true := by
  have h : calValid serdes0 2 = true := by
    simp only [calValid, calType, serdes_crc]
    decide +kernel
  simp [State.calGood, serdes, h]

theorem test_meets_link :
    let s := up (clk ++ [(0x31000C, 1), (0x30000C, 1)])
    let c := up [(0x37000C, 1)]
    let ue : State := { s with spd := { ue := [0x1000000000, 0x0100000000] } }
    let far := up (clk ++ [(A.hstBar4Win + 4, 8)])
    (on []).pwr.held ≠ none ∧ s.pwr.held = none ∧ s.rdb 0x310010 0 = false ∧ (up [(0x310010, 1)]).rdb 0x310010 0 = true ∧ c.ready 0x370000 = true ∧
    s.ready 0x370000 = false ∧ s.ready 0x310000 = true ∧ 2 ^ s.hst.bar4Log < 0 + (2 ^ 30 + 1) ∧ 2 ^ 30 - 8 + 8 ≤ 2 ^ s.hst.bar4Log ∧
    inHbm (0x1000000000 + far.rd64 A.hstBar4Win / 2 ^ 30 * 2 ^ 30 + 0) 8 = false ∧ inHbm (0x1000000000 + 2 ^ 30 - 8) 8 = true ∧
    wordsIn ue.spd.ue 0x1000000000 8 ≠ [] ∧ wordsIn s.spd.ue 0x1000000000 8 = [] ∧ wordAddr (0x1000000000 + 7) ∈ [0x1000000000] ∧
    partWords ue.spd.ue 0x1000000000 1 ≠ [] ∧ partWords ue.spd.ue 0x1000000000 8 = [] ∧ s.memRuns 0x1000000000 8 = true ∧ (up []).memRuns 0x1000000000 8 = false ∧ s.calGood 2 = false := by decide +kernel

theorem test_meets_linkEnds :
    let s := up (clk ++ [(0x31000C, 1), (0x30000C, 1)])
    let c := up [(0x37000C, 1)]
    (after (.poisonedTlp false) s).rd A.hstPoison = 1 ∧ (after (.poisonedTlp false) s).hst.aer = 2 ^ 12 ∧ (after (.poisonedTlp true) s).rd A.hstCplErr = 1 ∧
    tbit s.hst.aerMask 12 = false ∧ (after (.hotReset true) s).rd A.rstHotCnt = 1 ∧
    (after (.hotReset true) s).ready 0x310000 = false ∧ after (.pcieLinkUp 7 16) c = c ∧ after (.pcieLinkUp 4 3) c = c := by decide +kernel

theorem test_meets_presets :
    let c := up [(0x37000C, 1)]
    (after (.pcieLinkUp 4 16) c).ready 0x310000 = true ∧ (after (.pcieLinkUp 4 16) c).rd A.hstLink = 4 + 256 + 65536 := by decide +kernel

theorem test_meets_bar4 :
    let s := up (clk ++ [(0x31000C, 1), (0x30000C, 1)])
    let ue : State := { s with spd := { ue := [0x1000000000, 0x0100000000] } }
    let far := up (clk ++ [(A.hstBar4Win + 4, 8)])
    (after (.bar4Access (2 ^ 30 - 1) (some [7]) 0 []) s).readMem (0x1000000000 + 2 ^ 30 - 1) 1 = [7] ∧
    (after (.bar4Access 0 none 8 []) far).rd A.hstBar2Unmap = 1 ∧
    (after (.bar4Access 0 none 8 [(0, true)]) s).out = [.barData 4 0 (List.replicate 8 0xFF)] ∧
    (after (.bar4Access 0 (some [7]) 0 []) ue).rd A.spdUeCnt = 1 := by decide +kernel

set_option maxRecDepth 100000 in
theorem test_meets_windows :
    let s := up (clk ++ [(0x31000C, 1), (0x30000C, 1)])
    let ue : State := { s with spd := { ue := [0x0100000000] } }
    s.runs 2 = true ∧ s.ready 0x300000 = true ∧ (up [(0x31000C, 1)]).runs 2 = false ∧ wordsIn ue.spd.ue 0x0100000000 8 ≠ [] ∧ s.ready 0x310000 = true ∧ (up []).ready 0x310000 = false ∧
    (after (.bar2Unmapped 0x06008100 none 4 []) s).rd A.hstBar2Unmap = 1 ∧ after (.bar2Unmapped 0x08000000 none 4 []) s = s ∧
    after (.bar2Unmapped 0x05FFFFFE none 4 []) s = s ∧ (after (.bar2Unmapped 0x060080FC none 4 []) s).rd A.hstBar2Unmap = 0 ∧
    (after (.bar2Unmapped 0x05FFFFFF (some [7]) 0 []) s).readMem 0x0105FFFFFF 1 = [7] ∧ (after (.bar2Unmapped 0 (some [7]) 0 []) ue).rd A.spdUeCnt = 1 ∧
    (after (.bar2Unmapped 0 none 8 []) ue).out.getLast? = some (.barData 2 0 (List.replicate 8 0xFF)) ∧
    (after (.bar2Unmapped 0 none 8 []) (up [(0x31000C, 1)])).out.length = 1 ∧ after (.bar2Unmapped 0 (some [7]) 0 []) (up [(0x31000C, 1)]) = up [(0x31000C, 1)] ∧
    banked s { bq with addr := 0x0100000000 } 0 ∧ banked s { bq with addr := 0x0100000000 } 1 := by decide +kernel

set_option maxRecDepth 100000 in
theorem test_meets_msix :
    let s := up (clk ++ [(0x31000C, 1), (0x30000C, 1)])
    let m (fm : Bool) : State := { s with msix := { unmasked := [2047], pend := [2047, 5], funcMask := fm } }
    let tbl := 0x06000000 + 16 * 2047
    (after (.bar2Unmapped tbl (some (leBytes 4 7)) 0 []) s).msix.word 2047 0 = 4 ∧
    (after (.bar2Unmapped (tbl + 8) (some (leBytes 4 7)) 0 []) s).msix.word 2047 2 = 7 ∧ tbit 1 0 = true ∧
    (after (.bar2Unmapped (tbl + 12) (some (leBytes 4 1)) 0 []) (m false)).msix.unmasked = [] ∧
    (after (.bar2Unmapped (tbl + 12) (some (leBytes 4 0)) 0 []) s).msix.unmasked = [2047] ∧
    (after (.bar2Unmapped 0x060080FC none 4 []) (m false)).out = [.barData 2 0x060080FC (leBytes 4 (2 ^ 31))] := by decide +kernel

set_option maxRecDepth 100000 in
theorem test_meets_config :
    let s := up (clk ++ [(0x31000C, 1), (0x30000C, 1)])
    let m (fm : Bool) : State := { s with msix := { unmasked := [2047], pend := [2047, 5], funcMask := fm } }
    let cfg (o : Nat) : Instr := .rcRead .host (2 ^ 26 + o) 4 false
    let set (o v : Nat) : Instr := .registerWrite .host (2 ^ 26 + o) 15 v false
    (after (cfg 8) (up [])).out = [.cfgRetry 8] ∧ (after (cfg 8) s).out = [.readData .host (2 ^ 26 + 8) 0x120000A1] ∧
    (after (set 0x208 (15 * 2 ^ 8)) s).hst.bar4Log = 35 ∧ (after (set 0x0B0 (2 ^ 30)) s).msix.funcMask = true ∧
    (after (set 0x0B0 0) (m true)).msix.pend = [5] ∧ (after (set 0x0B0 0) (m true)).out.length = 1 ∧
    s.hst.bars.length = 3 ∧ 28 ≤ s.hst.bar4Log ∧ s.hst.bar4Log ≤ 35 ∧ (after (set 0x018 (2 ^ 32 - 1)) s).cfgRead 0x018 = 0xF8000004 ∧
    (after (set 0x078 (2 * 2 ^ 5 + 5 * 2 ^ 12)) s).hst.devCtl = 2 * 2 ^ 5 + 5 * 2 ^ 12 ∧ (after (set 0x078 (2 ^ 15)) s).rd A.rstHotCnt = 1 := by decide +kernel

/-! ## The aqueduct fabric (chapter 15) -/

/-- Node 0 of a full mesh of nine, whose link 7 leads to node 8; link 7 in service state `k` with AQD_L_STAT `st`. -/
def net (k st : Nat) (l : List (Nat × Nat)) : State :=
  on (clk ++ [(0x32000C, 1), (A.aqdNode, 0x100), (A.aqdTopo, 131), (A.aqdNodeStat, 0), (linkPage 7 + 12, 1 + 4 * k), (linkPage 7 + 8, 1), (A.aqdLStat 7, st)] ++ l)
/-- The same with link 7 in service, the fabric's state and memory. -/
def fab (l : List (Nat × Nat)) (x : AqdState) : State := { net 0 3 l with aqd := x, mem := [(0x1000000000, 7)] }

theorem test_meets_links :
    let e (v : Nat) : State := net v 0 [(A.aqdLCfg 7, 0)]
    let t (l : List (Nat × Nat)) : State := net 3 1 l
    let h (l : List (Nat × Nat)) : State := net 3 (1 + 255 * 2 ^ 24) l
    let d (n : Nat) : State := { net 3 2 [(A.aqdLTestUs 7, 1)] with now := n, aqd := { testFrom := [(7, 0)] } }
    (e 2).takes .host (A.aqdLCfg 7) ∧ (net 2 0 [(linkPage 7 + 16, 1)]).rdb (linkPage 7 + 16) 0 = true ∧ (e 2).rdb (linkPage 7 + 16) 0 = false ∧
    (e 2).rdb (A.aqdLCfg 7) 0 = false ∧ (e 2).rdb A.aqdNode 8 = true ∧ (e 0).svc (linkPage 7) ≠ 2 ∧ (e 2).svc (linkPage 7) = 2 ∧
    (net 2 0 [(A.aqdTopo, 3 + 9 * 16)]).badTopo = true ∧ (e 2).badTopo = false ∧ (t []).svc (linkPage 7) = 3 ∧ (t []).train 7 = 1 ∧
    (t []).rdf (A.aqdLStat 7) 24 8 = 0 ∧ (t [(A.aqdLCfg 7, 2)]).rdb (A.aqdLCfg 7) 1 = true ∧ fld 0xF7 4 4 = 15 ∧ (h []).rdf (A.aqdLStat 7) 24 8 ≠ 0 ∧
    (h []).ownNode = 0 ∧ (h []).linkPeer 0 7 = some (8, 0) ∧ (h []).viewFits (0, 0, 0) = true ∧ (h []).viewFits (0, 0, 1) = false ∧
    (d 1000).train 7 = 2 ∧ (d 1000).rdf (A.aqdLTestUs 7) 0 24 = 1 ∧ (t []).train 7 ≠ 0 ∧ (e 2).train 7 = 0 ∧ (net 0 3 []).linkUp 7 = true ∧ (t [(A.aqdNode, 0x009)]).linkPeer 9 7 = none ∧ (t [(A.aqdNode, 0x109)]).nodeCount ≤ 9 ∧
    (net 3 0 [(A.aqdLCfg 7, 1)]).train 7 = 0 ∧ acked 7 1 [(6, [], []), (7, [1], []), (7, [2], [])] = [(6, [], []), (7, [2], [])] ∧
    (after (.linkEnable .host 7 1) (e 2)).svc (linkPage 7) = 3 ∧
    (after (.linkEnable .host 7 1) (net 2 0 [(A.aqdTopo, 3 + 9 * 16)])).rd 0x32002C = 0x0110 := by
  unfold State.takes; decide +kernel

theorem test_meets_linkSteps :
    let e (v : Nat) : State := net v 0 [(A.aqdLCfg 7, 0)]
    let t (l : List (Nat × Nat)) : State := net 3 1 l
    let h (l : List (Nat × Nat)) : State := net 3 (1 + 255 * 2 ^ 24) l
    let again : State := { t [] with aqd := { resent := [(7, 8)] } }
    let shut := net 2 0 [(A.aqdLCfg 7, 0), (linkPage 7 + 8, 0)]
    let cfg := net 2 0 [(A.aqdLCfg 7, 1)]
    let d (n : Nat) : State := { net 3 2 [(A.aqdLTestUs 7, 1)] with now := n, aqd := { testFrom := [(7, 0)] } }
    (after (.linkTrainingDone 7 0xF7) (t [(A.aqdLCfg 7, 2)])).rdf (A.aqdLStat 7) 24 8 = 240 ∧
    (after (.linkTrainingDone 7 0xF7) (t [(A.aqdLCfg 7, 0)])).svc (linkPage 7) = 2 ∧ (after (.helloMsg 7 8 0 0 0 0 2) (h [])).train 7 = 2 ∧
    (after (.helloMsg 7 8 1 0 0 0 2) (h [])).rd (linkPage 7 + 0x2C) = 0x0100 ∧ (after (.helloMsg 7 8 0 0 0 1 2) (h [])).rd 0x32002C = 0x0111 ∧
    (after (.helloMsg 7 0 0 0 0 0 2) (h [])).rd 0x32002C = 0x0112 ∧ (after (.linkTestDone 7 true) (d 1000)).svc (linkPage 7) = 4 ∧
    (after (.linkTestDone 7 true) (d 999)).svc (linkPage 7) = 3 ∧ (after (.linkTestDone 7 false) (d 1000)).svc (linkPage 7) = 2 ∧
    (after (.linkDown 7) (t [])).rd (A.aqdLDownCnt 7) = 1 ∧ (after (.packetResend 7 true 1 3) (t [])).rd (A.aqdLFecUncorr 7) = 1 ∧
    (after (.packetResend 7 true 1 3) (t [])).rd (A.aqdLFecCorr 7) = 3 ∧ (t []).resends 7 = 0 ∧ again.resends 7 = 8 ∧
    (after (.packetResend 7 false 0 0) again).rd (A.aqdLDownCnt 7) = 1 ∧ (after (.packetResend 7 false 1 0) again).aqd.resent = [(7, 1)] ∧
    (e 2).pageOpen (linkPage 7) = true ∧ shut.pageOpen (linkPage 7) = false ∧ shut.takes .host (A.aqdLCfg 7) ∧
    (after (.linkEnable .host 7 1) shut).svc (linkPage 7) = 2 ∧ 7 ∉ cfg.aqd.fallen ∧ cfg.rdb (A.aqdLCfg 7) 0 = true ∧ cfg.svc (linkPage 7) = 2 ∧
    (cfg.linkSelf 7).svc (linkPage 7) = 3 ∧ (t []).calGood 2 = false ∧ (after .helloTimer (net 0 3 [])).rd (A.aqdLTx 7) = 1 := by
  unfold State.takes; decide +kernel

theorem test_meets_units :
    let p (u : SvcUnit) : Nat := pageBase (unitReq u)
    let s (u : SvcUnit) (k : Nat) (l : List (Nat × Nat)) : State := on ([(A.aqdSvcCfg, 2), (p u + 12, 1), (unitPage u + 12, 1 + 4 * k)] ++ l)
    let n (k : Nat) : State := { on [(0x32000C, 1), (A.aqdNodeStat, k)] with aqd := { shadowN := [(A.aqdSvcReq, 2)] } }
    let sh (c : Nat) : State := { s (.lane 7) 4 [(A.swpGShadowCnt 7, c)] with aqd := { shadowN := [(unitReq (.lane 7), 2)], copies := [(.lane 7, [1, 2])] } }
    (∀ u ∈ [SvcUnit.lane 7, .solver 15, .array 255, .link 7], (s u 0 []).takes .host (unitReq u) ∧ (s u 0 []).unitSvc u = 0 ∧ (s u 2 []).unitSvc u = 2 ∧ (s u 3 []).unitSvc u = 3) ∧
    (on [(p (.cluster 3) + 12, 1)]).takes .host (unitReq (.cluster 3)) ∧ (n 0).takes .host A.aqdSvcReq ∧ (n 3).unitSvc .node = 3 ∧
    (s (.lane 7) 5 []).unitSvc (.lane 7) = 5 ∧ (s (.lane 7) 4 []).unitSvc (.lane 7) = 4 ∧ (s (.array 255) 2 []).testRefused (.array 255) = true ∧
    (s (.lane 7) 2 []).testRefused (.lane 7) = false ∧ (s (.lane 7) 0 []).pass.cur = none ∧ lgPage 7 % 0x1000 = 0 ∧ lgPage 7 ≠ 0x358000 ∧
    (s (.lane 7) 0 []).svc (lgPage 7) ≠ 1 ∧ (s (.lane 7) 1 []).svc (lgPage 7) = 1 ∧ (n 0).fio.queue.length < 64 ∧ (n 0).nodeSvc ≠ 7 ∧
    (sh 0).hasPeer (.lane 7) = true ∧ 0 + 1 < (sh 0).shadowOf (.lane 7) ∧ (sh 1).shadowOf (.lane 7) ≤ 1 + 1 := by
  unfold State.takes; decide +kernel

theorem test_meets_shadow :
    let p (u : SvcUnit) : Nat := pageBase (unitReq u)
    let s (u : SvcUnit) (k : Nat) (l : List (Nat × Nat)) : State := on ([(A.aqdSvcCfg, 2), (p u + 12, 1), (unitPage u + 12, 1 + 4 * k)] ++ l)
    let n (k : Nat) : State := { on [(0x32000C, 1), (A.aqdNodeStat, k)] with aqd := { shadowN := [(A.aqdSvcReq, 2)] } }
    let sh (c : Nat) : State := { s (.lane 7) 4 [(A.swpGShadowCnt 7, c)] with aqd := { shadowN := [(unitReq (.lane 7), 2)], copies := [(.lane 7, [1, 2])] } }
    let ar : State := { s (.array 255) 4 [(A.chgShadowTol, 1), (chgPage 0 + 8, 1)] with aqd := { shadowN := [(unitReq (.array 255), 2)], copies := [(.array 255, [5]), (.array 255, [9])] } }
    ({ n 3 with now := 10000000 } : State).nodeSvc = 3 ∧ (∀ k, k < 8 → (n 3).rdb (A.aqdLCfg k) 0 = true → (n 3).linkUp k = false) ∧
    (after (.svcRequest .host (.lane 7) 1) (s (.lane 7) 0 [])).svc (lgPage 7) = 2 ∧
    (after (.svcRequest .host (.lane 7) 3) (s (.lane 7) 2 [])).svc (lgPage 7) = 3 ∧
    (after (.svcRequest .host (.array 255) 3) (s (.array 255) 2 [])).rd A.aqdSvcIgnored = 1 ∧
    (after (.unitTestDone (.lane 7) true) (s (.lane 7) 3 [])).svc (lgPage 7) = 4 ∧
    (after (.unitTestDone (.lane 7) false) (s (.lane 7) 3 [])).svc (lgPage 7) = 2 ∧
    (after (.shadowItem (.lane 7) (.copy [1, 2])) (sh 1)).svc (lgPage 7) = 0 ∧
    (after (.shadowItem (.lane 7) (.copy [2])) (sh 0)).rd (A.swpGShadowMm 7) = 1 ∧
    (after (.shadowItem (.lane 7) (.copy [1, 2])) (sh 0)).aqd.copies = [] ∧ takeCopy (.lane 7) (sh 0).aqd.copies = some ([1, 2], []) ∧
    takeCopy (.lane 6) (sh 0).aqd.copies = none ∧ ar.unitSvc (.array 255) = 4 ∧ ar.hasPeer (.array 255) = true ∧
    ar.copyAgrees (.array 255) [] [5, 6] = true ∧ ar.copyAgrees (.array 255) [] [5, 7] = false ∧ ar.copyAgrees (.lane 7) [6] [5] = false ∧
    ar.noneShared 255 = true ∧ (after (.shadowItem (.array 255) (.copy [6])) ar).aqd.copies = [(.array 255, [9])] ∧
    (after (.shadowItem (.array 255) (.copy [6])) ar).rd (A.chgAShadowCnt 255) = 1 ∧ (s (.link 7) 4 []).unitSvc (.link 7) = 4 ∧
    (after (.shadowItem (.link 7) (.generated true)) { s (.link 7) 4 [] with aqd := { shadowN := [(unitReq (.link 7), 2)] } }).rd (A.aqdLShadowCnt 7) = 1 ∧
    (sh 0).shadowers (.lane 0) = [.lane 7] ∧ ((sh 0).shadowCopy (.lane 0) [4]).aqd.copies = [(.lane 7, [1, 2]), (.lane 7, [4])] ∧
    ar.peerNamed (.array 255) = some (.array 0) ∧ ar.peerMay (.array 0) = true ∧ (after .nodeTestTimeout { n 3 with now := 10000000 }).nodeSvc = 2 ∧
    (after .nodeTestTimeout { n 3 with now := 9999999 }).nodeSvc = 3 := by decide +kernel

theorem test_meets_remote :
    let h := 0x1000000000
    let s := fab [] {}
    let w := fab [(A.aqdRacl, 7), (A.dspBCfg 0, 1)] {}
    let ue : State := { w with spd := { ue := [h] } }
    let r (k st : Nat) : FabReq := { tag := 9, dst := 8, kind := k, addr := h, len := 8, data := [], by_ := (0, 0), put := h, issued := st }
    let q (k n : Nat) : State := { fab [(A.aqdReqTo, 1)] { reqs := [r k 0] } with now := n }
    s.linkUp 7 = true ∧ s.pageOpen (linkPage 7) = true ∧ s.linkUp 6 = false ∧ (fab [(linkPage 7 + 8, 3)] {}).pageOpen (linkPage 7) = false ∧ s.memRuns h 8 = true ∧
    (fab [(A.clkDomRun, 0)] {}).memRuns h 8 = false ∧ tbit (2 ^ 47 + 8 * 2 ^ 40) 47 = true ∧ fld (2 ^ 47 + 8 * 2 ^ 40) 40 7 ≠ s.ownNode ∧
    (after (.remoteRead 6 8 1 h 1) s).out = [] ∧ (after (.remoteRead 7 8 1 h 1) (fab [(linkPage 7 + 8, 3)] {})).waitIn = [(linkPage 7, .remoteRead 8 1 h 1)] ∧
    inHbm h 256 = true ∧ wordsIn s.spd.ue h 256 = [] ∧ wordsIn ue.spd.ue h 256 ≠ [] ∧ inHbm 0x0108000000 8 = false ∧ inSpd 0x0108000000 8 = false ∧
    touchesPound 0x0108000000 8 = true ∧ touchesPound 0x03FFFFF8 8 = false ∧ touchesPound 0x04000000 8 = false ∧ inHbm 0x03FFFFF8 8 = false ∧
    (fab [(A.aqdRacl, 0)] {}).rdb A.aqdRacl 0 = false ∧ w.rdb A.aqdRacl 0 = true ∧ partWords w.spd.ue h 8 = [] ∧
    partWords ue.spd.ue (h + 4) 8 ≠ [] ∧ (fab [(A.aqdRacl, 0)] {}).rdb A.aqdRacl 2 = false ∧ w.nodeSvc ≠ 1 ∧ (fab [(A.aqdNodeStat, 1)] {}).nodeSvc = 1 ∧
    s.route 8 = [7] ∧ s.reqOf 9 = none ∧ (q 0 0).reqOf 9 = some (r 0 0) ∧ (q 0 999).now < 0 + max 1 ((q 0 999).rdf A.aqdReqTo 0 16) * 1000 ∧
    0 + max 1 ((q 0 1000).rdf A.aqdReqTo 0 16) * 1000 ≤ (q 0 1000).now ∧ (r 0 0).again = false ∧ tbit (r 0 0).put 47 = false ∧ regionOf (r 0 0).put ≠ .pound ∧
    (∀ j ∈ s.aqd.jobs, j.by_ ≠ (0, 0)) ∧ s.aqd.reqQ = [] ∧
    (after (.remoteRead 7 8 1 h 1) s).out = [.packet 7 [8 + 3 * 2 ^ 16 + 2 ^ 24, 1, 0, 0] [7, 0, 0, 0, 0, 0, 0, 0]] ∧
    (after (.remoteWrite 7 8 1 h [1, 2, 3, 4, 5, 6, 7, 8]) w).peek32 h = 0x04030201 ∧
    (after (.remoteWrite 7 8 1 h [1, 2, 3, 4, 5, 6, 7, 8]) (fab [(A.aqdRacl, 0)] {})).rd A.aqdRemoteDenied = 1 ∧
    (after (.remoteRead 7 8 1 0x0108000000 1) s).rd A.spdSealDenied = 1 ∧ (after (.remoteOffer 7 8 1 (words [])) w).rd A.dspAccepted = 1 ∧
    (after (.readResponse 7 8 9 0 [1, 2, 3, 4, 5, 6, 7, 8]) (q 0 0)).peek32 h = 0x04030201 ∧ (after (.writeResponse 7 8 9 0 1) (q 2 0)).rd A.aqdOfferRef = 1 ∧
    (after (.requestTimeout 9) (q 0 1000)).rd A.aqdRdRetry = 1 ∧ (after (.requestTimeout 9) (q 0 999)).aqd.reqs = [r 0 0] ∧
    (after (.requestTimeout 9) (q 1 1000)).rd A.aqdReqFail = 1 := by decide +kernel

/-- A node in a fabric, with node 8 in service: the parts of the cut's state that the messages look at. -/
def cutNode (l : List (Nat × Nat)) (x : AqdState) (w : WldState) : State :=
  { fab ([(A.wldCtrl, 2), inited, (A.aqdNodesUp 0, 0x101)] ++ l) x with wld := w }
def wep : WldState := { working := some (epoch 5) }

theorem test_meets_cutMessages :
    let s := cutNode [] {} wep
    let k (r c : Bool) : AqdState := { cut := some { epoch := 5, since := 0, ready := r, commit := c } }
    let co : AqdState := { coord := some { epoch := 5, ready := [], answer := [(8, 0)] } }
    let live : WldState := { alive := [epoch 5] }
    s.linkUp 7 = true ∧ (8 : Nat) ≠ s.ownNode ∧ (after (.prepareMsg 7 8 6 true) (cutNode [] { asked := some 0 } wep)).rd A.wldCutMerged = 1 ∧
    s.isCoord = true ∧ (cutNode [(A.aqdCutCfg, 8)] {} wep).isCoord = false ∧ s.inFabric = true ∧ s.aqd.coord = none ∧ s.wld.cut = none ∧
    s.wld.working = some (epoch 5) ∧ s.nodeSvc ≠ 3 ∧ s.wldReady = true ∧ (cutNode [] (k true true) wep).aqd.cut = some { epoch := 5, since := 0, ready := true, commit := true } ∧
    (cutNode [] {} live).wld.alive.getLast? = some (epoch 5) ∧ (cutNode [] {} {}).wld.working = none ∧ (cutNode [] co wep).aqd.coord.any (fun x => x.epoch = 5) = true ∧
    (∃ n ∈ (cutNode [] co wep).nodesUp, n ∉ [8]) ∧ (cutNode [(A.aqdNodesUp 0, 0x100)] co wep).nodesUp = [8] ∧ (cutNode [] (k true true) wep).homesWaited = [] ∧
    (cutNode [] (k true true) { working := some { epoch 5 with regions := [8 * 2 ^ 48] } }).homesWaited = [8] ∧ fld (5 + 2 ^ 30) 30 2 = 1 ∧ s.linksOfNode 8 ≠ 3 ∧
    (cutNode [] { reports := [(8, 3)] } wep).linksOfNode 8 = 3 ∧ s.nodeUp 8 = true ∧ s.nodeUp 7 = false ∧ s.ownNode = 0 ∧
    (after (.lstate 7 7 3 true) s).nodeUp 7 = true ∧ (after (.lstate 7 8 3 true) s).rd 0x32001C = 2 ^ 18 ∧ (after (.lstate 7 8 3 false) s).nodeUp 8 = false ∧
    (after (.pinset 7 8 [1, 2, 3, 4, 5, 6, 7]) s).wld.pinsets = [(8, [1, 2, 3, 4, 5, 6])] ∧ (after (.cutReq 7 8) s).aqd.coord.any (fun x => x.epoch = 5) = true ∧
    (after (.prepareMsg 7 8 6 false) s).aqd.cut.any (fun x => x.epoch = 6) = true ∧ (after (.readyMsg 7 8 5) (cutNode [] co wep)).aqd.coord.any (fun x => x.ready = [8]) = true ∧
    (after (.waitingMsg 7 8 5) (cutNode [] co wep)).aqd.coord.any (fun x => x.ready = []) = true ∧
    (after (.deltaMsg 7 8 [(0, 1, 5 + 2 ^ 30)]) (cutNode [] (k true false) wep)).aqd.cut.any (fun x => x.deltas = [(0, 1, 5 + 8 * 2 ^ 23 + 2 ^ 31)]) = true ∧
    (after (.deltaEnd 7 8 5) (cutNode [] (k true false) wep)).aqd.cut.any (fun x => x.ends = [8]) = true := by decide +kernel

theorem test_meets_nodeMessages :
    let s := cutNode [] {} wep
    let live : WldState := { alive := [{ epoch 5 with regions := [0, 8 * 2 ^ 48] }] }
    let y : AqdState := { sync := some [8] }
    let to_ (n : Nat) : State := { s with now := n }
    let co (r : List Nat) : AqdState := { coord := some { epoch := 5, ready := r, answer := [(8, 0)] } }
    s.aqd.cut = none ∧ s.aqd.coord = none ∧ s.aqd.asked = none ∧ s.nodeUp 8 = true ∧ (8 : Nat) ≠ s.ownNode ∧ s.nodeUp 7 = false ∧ s.wld.alive = [] ∧
    (cutNode [] {} live).wld.alive.getLast?.isSome ∧ s.rdb A.aqdNode 9 = false ∧ (cutNode [(A.aqdNode, 0x300)] {} live).rdb A.aqdNode 9 = true ∧
    (cutNode [(A.aqdNodeStat, 3)] y wep).nodeSvc = 3 ∧ s.nodeSvc ≠ 3 ∧ (cutNode [(A.aqdNodeStat, 4)] {} live).nodeSvc = 4 ∧
    ((cutNode [(A.aqdNodeStat, 4)] {} live).epoch 5).isSome ∧ s.epoch 5 = none ∧ s.lastHeard 8 + max 30 (s.rdf A.aqdNodeTo 0 16) * 1000 ≤ (to_ (2 ^ 20)).now ∧
    (to_ 0).now < s.lastHeard 8 + max 30 (s.rdf A.aqdNodeTo 0 16) * 1000 ∧ s.coordWithout 8 = s.ownNode ∧
    0 + s.rdf A.aqdCutCfg 16 16 * 1000 ≤ (to_ (2 ^ 20)).now ∧ s.inFabric = true ∧ (on []).inFabric = false ∧ s.route 8 = [7] ∧ s.route 2 = [] ∧
    (cutNode [(A.aqdNodeStat, 4)] { nodePeer := some 8 } live).nodePeerOf = some 8 ∧ ownBrick s.viewOff (fabBrick s.viewOff 5) = some 5 ∧
    (after (.nodeLostMsg 7 8 0) s).nodeSvc = 2 ∧ s.members = [8] ∧ (cutNode [(A.aqdNodesUp 0, 1)] {} wep).members = [] ∧ (∃ x ∈ (cutNode [] { rehome := [(2047, 8)] } wep).aqd.rehome, x.1 = 2047) ∧
    (∀ x ∈ s.aqd.rehome, x.1 ≠ 2047) ∧
    (after (.nodeLostMsg 7 8 8) s).nodeUp 8 = false ∧ (after (.syncReq 7 8 [0]) (cutNode [] {} live)).out = [.packet 7 [8 + 5 * 2 ^ 16 + 2 ^ 24, 0x0B * 2 ^ 24, 0, 0] [5, 0]] ∧
    (after (.syncAnswer 7 8 9 []) (cutNode [(A.aqdNodeStat, 3)] y wep)).rd A.aqdEpochFab = 9 ∧
    (after (.shadowQ 7 8 5 [] [1]) (cutNode [(A.aqdNodeStat, 4)] {} live)).rd A.aqdNodeShadowMm = 1 ∧ (after (.nodeTimeout 8) (to_ (2 ^ 20))).nodeUp 8 = false ∧
    (after (.nodeTimeout 8) (to_ 0)).nodeUp 8 = true ∧ (after (.cutTimeout 8) { cutNode [] (co []) wep with now := 2 ^ 20 }).nodeUp 8 = false ∧
    (after (.cutTimeout 8) { cutNode [] { coord := some { epoch := 5, ready := [], answer := [] } } wep with now := 2 ^ 20 }).nodeUp 8 = true ∧ (after .pinsetTimer s).out.length = 1 ∧
    (after (.rehomeCopyDone 2047 []) (cutNode [] { rehome := [(2047, 8)] } wep)).aqd.rehome = [] := by decide +kernel

/-! ## The safety island (chapter 16) -/

/-- Parameters locked and in range, robot 3 monitored, with extra words and the island's state. -/
def saf (l : List (Nat × Nat)) (x : SafState) : State :=
  { on ([(0x33000C, 1), (0x330010, 1), (A.safCfg, 8), (A.safPeriodUs, 250), (A.safLagUs, 0), (A.safTsamp, 1000), (A.safChCfg, 10),
      (A.safRCycleUs 0, 250), (A.safRCycleUs 1, 250), (A.safRCycleUs 2, 250), (A.safRCycleUs 3, 250)] ++ l) with
    saf := x, pass := { robots := upd (fun y => { y with desc := some desc0 }) (List.replicate 4 {}) 3 } }
def robot3 (x : SafRobot) : SafState := { robots := upd (fun _ => x) (List.replicate 4 {}) 3 }
/-- A telegram of robot 3 without joints. -/
def telegram : List Byte :=
  let h : List Byte := [0, 0, 0, 0, 0, 0, 3, 0] ++ List.replicate 84 0
  h ++ leBytes 4 (crc32c h)
def armed : Nat × Nat := (A.safStat, 1)

theorem test_meets_arm :
    let s := saf [] {}
    let full : State := saf [] (robot3 { inbox := List.replicate 4 ([], 0) })
    let t (l : List (Nat × Nat)) : State := saf l (robot3 { inbox := [(telegram, 7)], desc := some desc0 })
    let st (n : Nat) : State := { saf [armed, (A.safRStat 3, 0)] {} with itime := n }
    let shut (l : List (Nat × Nat)) : State := saf ((0x330008, 3) :: l) (robot3 { inbox := [(telegram, 7)], desc := some desc0 })
    (shut [armed]).pageOpen 0x330000 = false ∧ (t [armed]).pageOpen 0x330000 = true ∧ ((after (.telegramCheck 3) (shut [armed])).safRobot 3).newest = none ∧
    s.takes .host A.safCtrl ∧ s.armCheck = 0 ∧ (on []).armCheck = 1 ∧ (saf [armed] {}).armCheck = 7 ∧ s.rdb 0x33000C 9 = false ∧
    s.rdb A.safCfg 3 = true ∧ s.rdb A.safCfg 0 = false ∧ (s.cnd 3).desc = some desc0 ∧ 3 < s.saf.robots.length ∧ s.takes .host (A.safInbox (32 * 3 + 23)) ∧
    (s.safRobot 3).inbox.length < 4 ∧ 4 ≤ (full.safRobot 3).inbox.length ∧ (s.safRobot 3).inbox = [] ∧ ((t [armed]).safRobot 3).inbox = [(telegram, 7)] ∧
    (t [armed]).tgCheck 3 ((t [armed]).safRobot 3) telegram 7 = 0 ∧ (t []).tgCheck 3 ((t []).safRobot 3) telegram 7 = 2 ∧
    (st 750000).armed = true ∧ (st 0).rdb (A.safRStat 3) 0 = false ∧ ((st 0).safRobot 3).accAt + 3 * (st 0).rdf (A.safRCycleUs 3) 0 13 * 1000 = 750000 ∧
    s.takes .host A.safAck ∧ (saf [] { acked := true }).saf.acked = true ∧ s.saf.acked = false ∧ 0xFFFFA5C3 % 2 ^ 16 = 0xA5C3 ∧
    (after (.safArm .host) s).armed = true ∧ (after (.safArm .host) (saf [armed] {})).rd 0x330030 = 7 ∧
    ((after (.telegramSubmit .host 3 0) s).safRobot 3).inbox.length = 1 ∧ (after (.telegramSubmit .host 3 0) full).rdf (A.safRTgRej 3) 0 4 = 9 ∧
    ((after (.telegramCheck 3) (t [armed])).safRobot 3).newest.isSome ∧ (after (.telegramCheck 3) (t [])).rdf (A.safRTgRej 3) 0 4 = 2 ∧
    (after (.robotStale 3) (st 750001)).rdb A.safStat 2 = true ∧ (after (.robotStale 3) (st 750000)).rdb A.safStat 2 = false ∧
    (after (.safAck .host 0xFFFFA5C3) s).saf.acked = true ∧ (after (.safAck .host 0xA5C2) s).rd A.safWarnCnt = 1 := by unfold State.takes; decide +kernel

/-- A verification of robot 3 without a sphere. -/
theorem test_meets_corridors :
    let c (q : Option (List Int × List Int)) : Corridor := { robot := 3, tele := q, path := none, ja := 0, jb := 0 }
    let v (q : Option (List Int × List Int)) (l : Bool) : SafRun := { tick := 0, cors := [c q], epoch := some 1, lane := l }
    let s (l : List (Nat × Nat)) (q : Option (List Int × List Int)) (lane : Bool) : State :=
      { saf (armed :: l) { robot3 { desc := some desc0 } with run := some (v q lane) } with
        wld := { alive := [epoch 1] } }
    let q := some (([] : List Int), ([] : List Int))
    let ml := (A.safMlStat, 1)
    let i (l : List (Nat × Nat)) (n : Nat) (r : Option SafRun) : State := { saf (armed :: l) { run := r } with itime := n }
    let kept : State := { i [] 5 none with waitIn := [(0x330000, .verify)] }
    let told (l : List (Nat × Nat)) : State := { saf ((A.safRStat 3, 0) :: armed :: l) (robot3 { newest := some ([], []) }) with itime := 5 }
    (told [(0x330008, 3)]).pageOpen 0x330000 = false ∧ (told []).pageOpen 0x330000 = true ∧ (∃ x ∈ kept.waitIn, x.2 = Work.verify) ∧ (told []).waitIn = [] ∧
    (after .verifyTick (told [(0x330008, 3)])).waitIn = [(0x330000, .verify)] ∧ (after .verifyTick (told [(0x330008, 3)])).rdb A.safStat 2 = false ∧
    (after .verifyTick kept).waitIn = [] ∧ (after .verifyTick kept).rdb A.safStat 2 = true ∧
    (saf [] {}).armed = false ∧ (i [] 5 none).armed = true ∧ (i [] 5 none).saf.tickAt ≤ 5 ∧ (i [] 5 (some (v q false))).saf.run ≠ none ∧
    ((told []).takePaths.offer 5 0 ([31 * 2 ^ 16, 0] ++ List.replicate 14 0) false false).1 = 2 ∧
    ((told [(A.dspBCfg 31, 1)]).takePaths.offer 5 0 ([31 * 2 ^ 16, 0] ++ List.replicate 14 0) false false).1 = 0 ∧
    (i [] 5 none).takes (.engine 63) A.safMlCmd ∧ (s [] q true).rdb A.safMlStat 0 = false ∧ (s [ml] q true).rdb A.safMlStat 0 = true ∧
    (s [ml] q true).epoch 1 = some (epoch 1) ∧ (i [ml] 5 (some (v q true))).epoch 1 = none ∧ (c none).tele = none ∧ (c q).tele ≠ none ∧
    (s [] q true).wld.alive.getLast? = some (epoch 1) ∧
    (s [ml] q true).staticChecks (epoch 1) [(s [ml] q true).poses (c q)] = [] ∧
    (s [ml] q true).corridorClear [(c q, (s [ml] q true).poses (c q))] (c q) [] = true ∧
    (saf [] { acked := true }).permit = false ∧ (saf [(A.safStat, 2)] {}).permit = true ∧ (saf [] {}).rdb A.safStat 3 = false ∧
    max 1 ((saf [] {}).rdf A.safRestartN 0 4) ≤ (saf [(A.safStat, 0xF1)] {}).rdf A.safStat 4 4 ∧
    (after .verifyTick (told [(A.dspBCfg 31, 1)])).saf.run.isSome ∧ (∀ r ∈ (told []).takePaths.monitored, ((told []).takePaths.corridor r).tele ≠ none) ∧
    (∃ r ∈ (i [] 5 none).takePaths.monitored, ((i [] 5 none).takePaths.corridor r).tele = none) ∧ (s [ml] q true).laneWaits = false ∧
    (after .verifyTick (told [])).saf.run = none ∧ (after .verifyTick (i [] 5 none)).rdb A.safStat 2 = true ∧
    (after (.mooringLaneGo (.engine 63)) (s [] q false)).rd A.safMlStat = 1 ∧ (after (.mooringLaneDone true) (s [ml] q true)).rdb A.safStat 2 = false ∧
    (after (.mooringLaneDone true) (s [ml] q true)).rd A.safVerify = 2 ^ 16 ∧
    (after (.mooringLaneDone false) (s [ml] q true)).rd A.safDiag = 2 ^ 7 ∧ (after (.mooringLaneDone true) (s [ml] none true)).rdb A.safStat 2 = true ∧
    ({ saf [(A.safStat, 0xF1)] { acked := true } with itime := 7 } : State).energise.permit = true := by unfold State.takes; decide +kernel

/-- A robot so far out that the centre of its sphere stands at the end of the number range, whatever the device's arithmetic adds; the view
starts there. -/
def farDesc : Desc := { desc0 with base := [2 ^ 30, 0, 0, 0, 2 ^ 30, 0, 0, 0, 2 ^ 30, 2 ^ 40, 2 ^ 40, 2 ^ 40] }
def dot : Sphere := { centre := (0, 0, 0), radius := 1, link := 0, levers := [] }
def farPose : List (List PoseSphere) := [[{ num := 0, rad := dot.radius, at_ := (2 ^ 31 - 1, 2 ^ 31 - 1, 2 ^ 31 - 1), sub := fkAllow + stopDisp farDesc dot [] }]]
def farCor : Corridor := { robot := 3, tele := some ([], []), path := none, ja := 0, jb := 0 }
def farRun : SafRun := { tick := 0, cors := [farCor], epoch := some 1, lane := true }
def far (f : List Fill) (l : List CacheLine) : State :=
  { saf (armed :: (A.safMlStat, 1) :: (rangeFrom 0 3).map (fun i => (A.wldOrigin i, 0x7FFFFFFF)))
      { robot3 { desc := some farDesc, set := [(0, dot)] } with run := some farRun } with
    fills := f, wld := { alive := [epoch 1], lines := l } }

theorem far_clamps (k : List Int) : clampI (-(2 ^ 31)) (2 ^ 31 - 1) (divNear (2 ^ 72 + fkOff true k) (2 ^ 32)) = 2 ^ 31 - 1 := by
  have h : -(2 ^ 34) ≤ fkOff true k := by simp only [fkOff, if_true]; omega
  unfold clampI divNear; omega

theorem far_centres : farDesc.centres [(0, dot)] [] = [(0, dot, (2 ^ 31 - 1, 2 ^ 31 - 1, 2 ^ 31 - 1))] := by
  have hp : ((nth cellFrame (farDesc.frames []) dot.link).shift [dot.centre.1, dot.centre.2.1, dot.centre.2.2] 0).pos = [2 ^ 72, 2 ^ 72, 2 ^ 72] := by
    decide +kernel
  have hb : ith farDesc.base 9 = 2 ^ 40 ∧ ith farDesc.base 10 = 2 ^ 40 ∧ ith farDesc.base 11 = 2 ^ 40 := by decide +kernel
  have hi : ith [2 ^ 72, 2 ^ 72, 2 ^ 72] 0 = 2 ^ 72 ∧ ith [2 ^ 72, 2 ^ 72, 2 ^ 72] 1 = 2 ^ 72 ∧ ith [2 ^ 72, 2 ^ 72, 2 ^ 72] 2 = 2 ^ 72 := by decide +kernel
  have hn : (decide (((2 ^ 72 : Int) - 2 ^ 40 * 2 ^ 32) * (2 ^ 72 - 2 ^ 40 * 2 ^ 32) + (2 ^ 72 - 2 ^ 40 * 2 ^ 32) * (2 ^ 72 - 2 ^ 40 * 2 ^ 32) +
    (2 ^ 72 - 2 ^ 40 * 2 ^ 32) * (2 ^ 72 - 2 ^ 40 * 2 ^ 32) ≤ (2400 * 4096 * 2 ^ 32) ^ 2)) = true := by decide +kernel
  simp only [Desc.centres, List.map_cons, List.map_nil, sphereCentre, hp, hb, hi, hn, Nat.add_zero, Nat.reduceAdd, far_clamps]

theorem far_poses (f : List Fill) (l : List CacheLine) : (far f l).poses farCor = farPose := by
  have h : (far f l).safRobot 3 = { desc := some farDesc, set := [(0, dot)] } := by
    have h0 : (far [] []).safRobot 3 = { desc := some farDesc, set := [(0, dot)] } := by decide +kernel
    exact h0
  simp only [State.poses, farCor, h, far_centres, List.map_cons, List.map_nil, farPose]

/-- Its test on a map of nothing, on one whose directory names bricks of a node from which none was fetched, and on one from which they came
with uncorrectable data. -/
theorem test_meets_unreadable :
    let named : List Fill := [⟨0x100000, 0x900000, 0x80000000⟩]
    let bad : List CacheLine := (rangeFrom 0 4).map (fun k => { node := some 0, fine := false, slot := 0, line := k, place := k, bad := true })
    let came (crc : Nat) : List CacheLine :=
      (rangeFrom 0 4).map (fun k => { node := some 0, fine := false, slot := 0, line := k, place := k, crc := crc })
    (∀ t ∈ (far [] []).worldTests (epoch 1) ((far [] []).poses farCor), t.2.2.2.fault = false) ∧
    (∃ t ∈ (far named bad).worldTests (epoch 1) ((far named bad).poses farCor), t.2.2.2.fault = true) ∧
    (far [] []).staticChecks (epoch 1) [(far [] []).poses farCor] = [] ∧
    (∃ x ∈ (far named bad).staticChecks (epoch 1) [(far named bad).poses farCor], x.2.fault = true) ∧
    ((far named (came 1)).staticChecks (epoch 1) [(far named (came 1)).poses farCor]).map (fun x => (x.1, x.2.fault, x.2.miss)) = [(false, false, false)] ∧
    ((far named (came 0)).staticChecks (epoch 1) [(far named (came 0)).poses farCor]).map (fun x => (x.1, x.2.fault, x.2.miss)) = [(true, false, false)] ∧
    (∀ t ∈ (far named (came 0)).worldTests (epoch 1) ((far named (came 0)).poses farCor), t.2.2.2.fault = false) ∧
    (far [] []).corridorClear [(farCor, (far [] []).poses farCor)] farCor ((far [] []).worldTests (epoch 1) ((far [] []).poses farCor)) = false := by
  simp only [far_poses]; decide +kernel

theorem test_meets_laneWaits :
    let named : List Fill := [⟨0x100000, 0x900000, 0x80000000⟩]
    (far named []).rdb A.safMlStat 0 = true ∧ (far named []).laneWaits = true ∧ (far [] []).laneWaits = false ∧ (far [] []).epoch 1 = some (epoch 1) := by
  have h (f : List Fill) : (far f []).laneWaits = (((far f []).worldTests (epoch 1) farPose).any (fun t => t.2.2.2.miss) ||
      ((far f []).staticChecks (epoch 1) [farPose]).any (fun x => x.2.miss)) := by
    have e : (far f []).epoch 1 = some (epoch 1) := rfl
    have r : (far f []).saf.run = some farRun := rfl
    simp only [State.laneWaits, r, State.moorWaits, farRun, Option.bind_some, e, far_poses, List.map_cons, List.map_nil, List.any_cons, List.any_nil, Bool.or_false,
      Bool.true_and]
  simp only [h]; decide +kernel

theorem test_meets_stops :
    let p (d : List (Option Nat)) (n : Nat) : State := { saf [(A.safStat, 3), (A.safChStat, 3)] { pulse := d } with itime := n }
    let b (n : Nat) : State := { saf [] { barges := [(0, 0)] } with itime := n, dsp := { ready := [barge 0 []] } }
    let full := saf [(A.safLogWr, 63), (A.safLogRd, 0)] {}
    let lost : State := { b 0 with thm := { sens := List.replicate 64 { fresh := false } } }
    (p [none, none] 0).permit = true ∧ nth 0 (p [none, none] 0).saf.due 1 ≤ 0 ∧ (∀ x ∈ (p [none, none] 0).saf.pulse, x = none) ∧ (after (.testPulseStart 1) (p [some 0, none] 0)).saf.pulse = [some 0, none] ∧
    nth none (p [none, some 0] 300000).saf.pulse 1 = some 0 ∧ 0 + 300000 ≤ (p [none, some 0] 300000).itime ∧
    nth 0 (p [none, none] 0).saf.edge 1 + (p [none, none] 0).rdf A.safChCfg 0 16 * 1000 = 10000 ∧ (p [none, none] 0).rdb A.safChStat 1 = true ∧
    ((b 0).eng 63).wedged = false ∧ (0, 0) ∈ (b 0).saf.barges.filter (fun k => ((b 0).dsp.ready ++ (b 0).dsp.waiting ++ (b 0).inService).any (fun x => x.acc = k.1)) ∧
    0 + 900000 ≤ (b 900000).itime ∧ (63 + 1) % 64 = full.rdf A.safLogRd 0 6 ∧ (0 + 1) % 64 ≠ (saf [] {}).rdf A.safLogRd 0 6 ∧ (b 0).rdb 0x33000C 9 = false ∧
    (after (.testPulseStart 1) (p [none, none] 0)).rd A.safChStat = 1 ∧ (after (.testPulseEnd 1) (p [none, some 0] 300000)).rd A.safChStat = 3 ∧
    (after (.testPulseEnd 1) (p [none, some 0] 299999)).saf.pulse = [none, some 0] ∧ (after (.readbackCheck 1 false) (p [none, none] 9999)).rd A.safDiag = 0 ∧
    (after (.readbackCheck 1 false) (p [none, none] 10000)).rd A.safDiag = 2 ^ 14 ∧ (after (.feedbackDisagree 1 true) (p [none, none] 0)).rd A.safDiag = 0 ∧
    (after .engWd (b 900000)).rd A.safDiag = 2 ^ 10 ∧ (after .engWd (b 899999)).rd A.safDiag = 0 ∧ (after (.mlKat false) (b 0)).rd A.safDiag = 2 ^ 6 ∧
    (after (.safTemp 28161) (b 0)).rd 0x330030 = 12 ∧ (after (.safTemp 28160) (b 0)).rd A.safDiag = 0 ∧ (after (.safTemp 0) lost).rd 0x330030 = 12 ∧
    (after (.sramUe false) (b 0)).rd A.safDiag = 4 ∧ (after (.sramUe true) (b 0)).rd A.safDiag = 0 ∧ (after (.sramUe true) (b 0)).rd A.safWarnCnt = 1 ∧
    (full.safLog 0x10 3 true 0).rd A.safLogLost = 1 := by decide +kernel

/-! ## Thermal sensing and cooling (chapter 17) -/

/-- All 64 sensors valid at a reading, with extra words and the thermal block's state. -/
def warm (v : Nat) (l : List (Nat × Nat)) (x : ThmState) : State :=
  { on ((0x34000C, 1) :: clk ++ (rangeFrom 0 64).map (fun k => (A.thmS k, v + 2 ^ 16)) ++ l) with thm := { x with sens := List.replicate 64 { t := v } } }
/-- Level of the throttle, and the planner's sensors from the 23rd on invalid. -/
def level (n : Nat) : Nat × Nat := (A.thmStat, n)
def lost : List (Nat × Nat) := (rangeFrom 23 25).map (fun k => (A.thmS k, 0))

theorem test_meets_sensors :
    let w := warm 24000 [] {}
    let x (h : ThmSens) (l : List (Nat × Nat)) : State := { on l with thm := { sens := List.replicate 64 h } }
    let top : State := { w with thm := { w.thm with sens := upd (fun _ => { t := 24001 }) w.thm.sens 63 } }
    let held : ThmSens := { fresh := false, good := 9 }
    let few : ThmSens := { fresh := false, good := 8 }
    let c (v : Nat) : State := after (.conversionCycle (List.replicate 64 (v : Int)) []) (warm 0 [] {})
    let f (n : Nat) (b : Option Nat) : State := { warm 0 [level n] { below := List.replicate 4 b } with now := 1000000 }
    (on []).runs 52 = false ∧ w.runs 52 = true ∧ 63 < w.thm.sens.length ∧ w.thmValue 63 (-10240) = -10240 ∧ w.thmValue 63 38400 ≤ 38400 ∧ 38400 < w.thmValue 63 38401 ∧ w.sensOk 63 = true ∧
    (x {} []).sensOk 63 = false ∧ (nth {} (x {} []).thm.sens 63).fresh = true ∧ 10 ≤ (nth {} (x held []).thm.sens 63).good + 1 ∧
    ¬(10 ≤ (nth {} (x few []).thm.sens 63).good + 1) ∧ (x few []).sensOk 63 = false ∧ (nth {} (x few []).thm.sens 63).fresh = false ∧
    w.hottest (w.validIn 0 64) = some 0 ∧ top.hottest (top.validIn 0 64) = some 63 ∧
    tbit (w.rd64 A.calPend) 0 = false ∧ (∀ k, k < 64 → (c 27519).sensOk k = true → (c 27519).sensT k + (c 27519).thmAdd < 28160) ∧
    28160 ≤ (c 27520).sensT 0 + (c 27520).thmAdd ∧ (c 27520).hottest ((c 27520).validIn 0 64) = some 0 ∧ 24 ≤ ((c 27520).validIn 0 48).length ∧
    (warm 0 [level 1] {}).rdf A.thmStat 0 3 = 1 ∧ w.rdf A.thmStat 0 3 = 0 ∧ 24 ≤ ((f 4 none).validIn 0 48).length ∧
    ((warm 0 lost {}).validIn 0 48).length < 24 ∧ nth none (f 4 (some 0)).thm.below (4 - 1) = some 0 ∧ 0 + 1000000 ≤ (f 4 (some 0)).now ∧
    nth none (f 4 none).thm.below (4 - 1) = none ∧ (f 1 (some 0)).rdf A.thmStat 0 3 = 1 ∧ (f 4 (some 0)).fio.queue.length < 64 ∧
    (w.sensConvert 63 (-10240) false).rd (A.thmS 63) = 0xD800 + 2 ^ 16 ∧ ((x held []).sensConvert 63 32767 false).sensOk 63 = true ∧ ((x held []).sensConvert 63 32767 false).rd (A.thmS 63) = 0x17FFF ∧
    ((x held []).sensConvert 63 38400 false).sensT 63 = 38400 ∧
    ((x few []).sensConvert 63 38400 false).sensOk 63 = false ∧ (w.sensConvert 63 38401 false).rd 0x34002C = 0x0100 ∧ (w.sensConvert 63 38401 false).rd 0x340030 = 63 := by
  decide +kernel

theorem test_meets_cycle :
    let c (v : Nat) (bad : List Nat) : State := after (.conversionCycle (List.replicate 64 (v : Int)) bad) (warm 0 [level 1] { cycled := true })
    let hot (v : Nat) : State := after (.conversionCycle (List.replicate 64 (v : Int)) []) (warm 0 [(A.thmStat, 8)] { cycled := true, hold := true })
    let near (bad : List Nat) : State :=
      after (.conversionCycle (List.replicate 64 ((on []).kwSet - 640)) bad) (warm 0 [(A.chgRefreshCfg, 2 ^ 8)] { cycled := true })
    let f (n : Nat) (b : Option Nat) : State := { warm 0 [level n] { below := List.replicate 4 b, heat := List.replicate 5 9 } with now := 1000000 }
    (hot 27520).tripped = true ∧ (hot 27520).thm.hold = false ∧ (hot 26879).tripped = true ∧ (hot 26879).thm.hold = true ∧ (hot 26239).tripped = false ∧
    nth none (c 0 []).chg.within 3 = none ∧ nth (some 1) (near []).chg.within 3 = some 0 ∧ nth none (near [60]).chg.within 3 = some 0 ∧
    nth (some 1) (near (rangeFrom 60 4)).chg.within 3 = none ∧
    (c 27520 []).tripped = true ∧ (c 27519 []).tripped = false ∧ (c 0 (rangeFrom 0 25)).rdf A.thmStat 0 3 = 4 ∧ (c 0 (rangeFrom 0 24)).rdf A.thmStat 0 3 = 1 ∧
    (c 0 []).rd A.thmThrUs = 100 ∧ (c 24960 [0]).rdf A.thmStat 16 6 = 1 ∧ (c 24960 []).rd A.thmTmax = 24960 ∧ (c 25216 []).rdf A.thmStat 0 3 = 3 ∧
    (c 25215 []).rdf A.thmStat 0 3 = 2 ∧ levelFor (104 * 256) = 4 ∧ levelFor (104 * 256 - 1) = 3 ∧ levelFor (101 * 256) = 3 ∧ levelFor (98 * 256) = 2 ∧
    levelFor (95 * 256) = 1 ∧ levelFor (95 * 256 - 1) = 0 ∧ (after .throttleFall (f 4 (some 0))).rdf A.thmStat 0 3 = 3 ∧
    (after .throttleFall (f 4 (some 0))).thm.heat = List.replicate 5 0 ∧ (after .throttleFall (f 1 (some 0))).thm.heat = List.replicate 5 9 ∧
    (after .throttleFall (f 4 (some 1))).rdf A.thmStat 0 3 = 4 := by decide +kernel

theorem test_meets_cooling :
    let temp (r : Option Nat) : Option Int := (r.bind (ntcTemp ((on []).rdf A.thmNtcCfg 0 16) ((on []).rdf A.thmNtcCfg 16 16))).bind
      (fun v => if -5120 ≤ v && v ≤ 25600 then some v else none)
    let n (a b : Bool) : State := warm 0 [] { ntcBad := [a, b] }
    let total := 16 * 6080
    let k (v : Nat) (l : List (Nat × Nat)) : State := warm v l { heat := [0, 0, 0, 0, 6080] }
    let sh (b : Bool) (t : Option Nat) : State := { warm 0 [] { short := List.replicate 5 b, limitAt := List.replicate 5 t } with now := 10000000000 }
    let r (l : List (Nat × Nat)) (use : List Nat) (p : Int) : State :=
      let s := warm 0 ((A.thmStat, 2 ^ 10) :: l) { tSum := 12800, tN := 1, inSum := 6400, inN := 1, pSum := p, pN := 1, cnt := 5, clr := 5 }
      { s with cal := { s.cal with inUse := use } }
    let d (l : List (Nat × Nat)) (c : Nat) : State := warm 0 l { cnt := c, clr := c }
    let deg := (A.thmStat, 2 ^ 4)
    temp (some 10000) = some 6400 ∧ temp none = none ∧ temp (some 0) = none ∧ (temp (some 20000)).any (fun v => v < 15 * 256) = true ∧
    (temp (some 1)).isNone ∧ (n true false).rdb A.thmStat 9 = false ∧ nth false (n false false).thm.ntcBad 0 = false ∧ nth true (n true false).thm.ntcBad 1 = false ∧
    (n true true).rdb 0x34000C 9 = false ∧ (k 0 []).rdb A.thmCtrl 0 = true ∧ (k 0 []).rdf A.thmStat 0 3 = 0 ∧ (k 0 []).ready 0x340000 = true ∧
    (k 0 [(A.thmCtrl, 2)]).rdb A.thmCtrl 0 = false ∧ (k 0 [level 1]).rdf A.thmStat 0 3 ≠ 0 ∧ ((k 0 [(A.pwrTotal, total)]).rd A.pwrTotal + 15) / 16 - 6080 ≤ 6080 ∧
    (k 0 [(A.pwrTotal, total)]).thm.heat.sum ≤ ((k 0 [(A.pwrTotal, total)]).rd A.pwrTotal + 15) / 16 ∧ (k 0 []).dieHot 4 = some 640 ∧ 640 < (k 0 []).kwSet ∧
    (k 0 [(A.thmKwPmax, 0xFFF)]).heatMax 4 = 3200 ∧ (k 0 []).thm.heat.any (fun p => p ≠ 0) = true ∧ (k 0 []).heatCut.thm.heat = List.replicate 5 0 ∧
    nth false (sh false none).thm.short 4 = false ∧ nth none (sh false (some 0)).thm.limitAt 4 = some 0 ∧
    0 + 10000000000 ≤ (sh false (some 0)).now ∧ tbit ((r [] [] 25600).rd64 A.calPend) 4 = false ∧ (r [] [] 25600).rdb A.thmCtrl 1 = true ∧
    (r [] [] 25600).rdb A.thmStat 10 = true ∧ (r [] [] 25600).validIn 0 64 ≠ [] ∧ (((r [] [] 25600).rdf A.thmRthCfg 16 12 * 256 * 1 : Nat) : Int) ≤ 25600 ∧
    ¬((((r [] [] 25600).rdf A.thmRthCfg 16 12 * 256 * 1 : Nat) : Int) ≤ 25599) ∧ max 1 ((d [] 100).rdf A.thmRthCfg 8 8) * 10 = 100 ∧
    (d [deg] 100).rdb A.thmStat 4 = true ∧ (d [] 99).thm.cnt = 99 ∧ (d [] 100).fio.queue.length < 64 ∧
    (after (.ntcConversion (some 10000) none) (n false false)).rd A.thmTIn = 6400 ∧ (after (.ntcConversion (some 10000) none) (n false false)).rd 0x340030 = 1 ∧
    (after (.ntcConversion (some 10000) (some 20000)) (n false false)).rdf A.thmStat 9 3 = 6 ∧ (after .keepWarmAdjust (k 0 [level 1])).thm.heat = List.replicate 5 0 ∧
    (after (.kwShort 4) (sh false (some 0))).rdb A.thmStat 6 = true ∧ after (.kwShort 4) (sh true (some 0)) = sh true (some 0) ∧
    after (.kwShort 4) (sh false (some 1)) = sh false (some 1) ∧ (after .rthUpdate (r [] [] 25600)).rd A.thmRth = 2 ^ 31 + 250000 ∧
    (after .rthUpdate (r [] [4] 25600)).thm.cnt = 6 ∧ (after .rthUpdate (r [] [] 25600)).thm.cnt = 0 ∧ (after .rthUpdate (r [] [] 25599)).rd A.thmRth = 0 ∧
    (after .coolingDegraded (d [] 100)).rdb A.thmStat 4 = true ∧ after .coolingDegraded (d [] 99) = d [] 99 ∧
    (after .degradedClear (d [deg] 100)).rdb A.thmStat 4 = false ∧ after .degradedClear (d [deg] 99) = d [deg] 99 := by decide +kernel

theorem test_meets_heaters :
    let total := 16 * 6080
    let k (l : List (Nat × Nat)) : State := warm 0 l { heat := [0, 0, 0, 0, 6080] }
    let known : State := { on [] with cal := { (on []).cal with inUse := [4] } }
    let soon (n : Nat) : State := { warm 0 [level 1] { adjusted := some 0 } with now := n }
    (k [(A.pwrTotal, total)]).heatBudget = 6080 ∧
    (k [(A.pwrTotal, total + 1)]).heatBudget = 6079 ∧ (soon 999999).thm.adjusted = some 0 ∧ after .keepWarmAdjust (soon 999999) = soon 999999 ∧
    (after .keepWarmAdjust (soon 1000000)).thm.adjusted = some 1000000 ∧ ntcOpen 350001 = true ∧ ntcOpen 350000 = false ∧ ntcOpen 112 = true ∧ ntcOpen 113 = false ∧
    tbit ((on []).live .host A.thmStat) 8 = true ∧ tbit (known.live .host A.thmStat) 8 = false := by decide +kernel

/-! ## Field I/O and management (chapter 18) -/

/-- The FIO and MGT pages ready and enabled, with extra words and the block's state. -/
def fio (l : List (Nat × Nat)) (x : FioState) : State :=
  { on ([(0x350008, 1), (0x35000C, 1), (0x358008, 1), (0x35800C, 1)] ++ clk ++ l) with fio := x }
/-- A LOOP record is applied. -/
def looped (l : List (Nat × Nat)) : State := let s := fio l {}; { s with cal := { s.cal with inUse := [1] } }
def ctl (d h : Nat) : FioState := { loops := List.replicate 2 { devCnt := d, hiCnt := h } }

theorem test_meets_loops :
    let c := A.fioLCfg 1
    let st := A.fioLStat 1
    let s := fio [] {}
    let hi := fio [(A.fioLFail 1, 21000)] {}
    let r := A.fioLFail 1
    let u (na volts : Nat) (full : Bool) : Instr := .loopUpdate 1 [na * 9 * s.rdf c 8 8, na * s.rdf c 8 8] volts full
    let no := fio [(c, 10000 * 2 ^ 16)] {}
    s.rdf c 8 8 ≠ 0 ∧ no.rdf c 8 8 = 0 ∧ s.freeCnt = 0 ∧ (after (u 0 9999 true) s).freeCnt = 0 ∧ (after (u 0 60000 true) s).rd (A.fioLVloop 1) = 48000 ∧
    (looped []).loopTrim 16 5 = 0 ∧ s.loopTrim 16 5 = 5 ∧ (fio [] (ctl 50 0)).cal.inUse.contains 1 = false ∧ (after (.loopFault 1) (fio [] (ctl 50 0))).rdf st 0 2 = 0 ∧
    (after (.loopFault 1) { looped [(c, 1)] with fio := ctl 50 0 }).rdf st 0 2 = 2 ∧
    (on []).runs 58 = false ∧ s.runs 58 = true ∧ s.cal.inUse.contains 1 = false ∧ (looped []).cal.inUse.contains 1 = true ∧ (looped [(c, 1)]).rdb c 0 = true ∧ (looped []).rdb c 0 = false ∧
    (looped [(0x350008, 0)]).enabled 0x350000 = false ∧ (looped []).enabled 0x350000 = true ∧ (looped [(st, 8)]).rdb st 3 = true ∧ (looped []).rdb st 3 = false ∧
    (looped [(c, 3)]).rdb c 1 = true ∧ (looped [(A.thmStat, 8)]).rdb A.thmStat 3 = true ∧ (looped [(c, 5)]).rdb c 2 = true ∧ (looped [(A.safStat, 0)]).rdb A.safStat 1 = false ∧
    (looped [(c, 1), (st, 8)]).loopTarget 1 = (3500, 2) ∧ (looped [(c, 5), (A.safStat, 0)]).loopTarget 1 = (3500, 3) ∧
    (looped [(c, 11), (A.thmStat, 8)]).loopTarget 1 = (21500, 3) ∧ (looped [(c, 1), (A.fioLCmd 1, 23000)]).loopTarget 1 = (23000, 1) ∧
    (looped []).loopTarget 1 = (3500, 0) ∧ tbit (s.rd64 A.calPend) 1 = false ∧ (s.loopTarget 1).1 = 3500 ∧ s.loopAct 1 3449000 + 50 < 3500 ∧
    3500 ≤ s.loopAct 1 3450000 + 50 ∧ s.rdf c 16 16 = 10000 ∧ 3500 + 200 < s.loopAct 1 3701000 ∧ s.loopAct 1 3299000 + 200 < 3500 ∧ s.rdb st 2 = false ∧
    s.rdb st 5 = false ∧ (fio [] (ctl 50 0)).rdb st 3 = false ∧ 50 ≤ (nth {} (fio [] (ctl 50 0)).fio.loops 1).devCnt ∧ 50 ≤ (nth {} (fio [] (ctl 0 50)).fio.loops 1).hiCnt ∧
    (after (u 3449000 9999 true) s).rd st = 0x64 ∧ (after (u 3450000 10000 true) s).rd st = 0x40 ∧
    (after (u 3701000 10501 false) (fio [(st, 32)] {})).rd st = 0x40 ∧ (after (u 3701000 10500 true) s).fio.loops = [{}, { devCnt := 1, drive := 3500000 }] ∧
    (after (u 3700000 10500 true) s).fio.loops = [{}, { drive := 3500000 }] ∧ (after (u 20900000 10500 true) hi).fio.loops = [{}, { hiCnt := 1, drive := 21000000 }] ∧
    (after (u 20900000 10500 true) hi).rd 0x35001C = 2 ^ 27 ∧ (after (.loopFault 1) (fio [(r, 4000)] (ctl 50 0))).rdf st 8 2 = 1 ∧
    (after (.loopFault 1) (fio [] (ctl 50 50))).rdf st 8 2 = 2 ∧ (after (.loopFault 1) (fio [] (ctl 50 50))).rdb st 4 = true ∧
    (after (.loopFault 1) (fio [(A.fioLAct 1, 100)] (ctl 50 50))).rdb st 4 = false ∧ after (.loopFault 1) (fio [] (ctl 49 49)) = fio [] (ctl 49 49) := by
  decide +kernel

theorem test_meets_pins :
    let s := fio [(A.fioGpioOut, 0xF0)] {}
    let e := fio [(A.fioGpioIn, 2 ^ 15), (A.fioGpioEdge, 2 ^ 31)] {}
    let l := fio [(A.fioLStat 1, 0x31C)] (ctl 50 50)
    let slow := fio [(A.fioGpioIn, 2 ^ 15), (A.fioGpioFilt, 9)] {}
    s.takes .host (A.fioLCtrl 1) ∧ s.takes .host A.fioGpioSet ∧ s.takes .host A.mgtMdio ∧ e.rdb A.fioGpioIn 15 = true ∧ s.rdb A.fioGpioIn 15 = !true ∧
    e.rdb A.fioGpioEdge (16 + 15) = true ∧ e.rdb A.fioGpioEdge 15 = false ∧ s.enabled 0x350000 = true ∧ (on []).enabled 0x350000 = false ∧
    findRow (rowsOf .thm) 0x40 = some (⟨0x040, 1, 0, 0x3, false, [(.rwl 0, 0x3)]⟩, 0) ∧ (after (.gpioSet .host 0x8001) s).rd A.fioGpioOut = 0x80F1 ∧
    (after (.gpioClr .host 0x80) s).rd A.fioGpioOut = 0x70 ∧ (after (.gpioClr .host 0x80) s).out = [.gpio 0 0x70] ∧
    (after (.gpioEdge 15 false 15) e).rd 0x35001C = 2 ^ 23 ∧ (after (.gpioEdge 15 true 15) (fio [] {})).rd 0x35001C = 0 ∧
    after (.gpioEdge 15 true 15) e = e ∧ slow.rdf A.fioGpioFilt 0 4 = 9 ∧ (fio [] { drv := (2 ^ 15, 2 ^ 15) }).rdb A.fioGpioIn 15 = false ∧
    (after (.gpioEdge 15 false 15) (fio [] { drv := (2 ^ 15, 2 ^ 15) })).rdb A.fioGpioIn 15 = true ∧ (after (.gpioSet .host 1) s).fio.drv = (0, 0xF1) ∧
    (after (.gpioSet .host 1) (on [])).fio.drv = (0, 0) ∧ after (.gpioEdge 15 false 8) slow = slow ∧
    (after (.gpioEdge 15 false 9) slow).rd A.fioGpioIn = 0 ∧ (after (.clrFault .host 1) l).rd (A.fioLStat 1) = 4 ∧
    (after (.clrFault .host 1) l).fio.loops = [{ devCnt := 50, hiCnt := 50 }, {}] ∧
    (after (.mdioGo .host (2 ^ 31 + 2 ^ 26 + 7) 9) s).rdf A.mgtMdio 0 16 = 7 ∧ (after (.mdioGo .host (2 ^ 31 + 7) 9) s).rdf A.mgtMdio 0 16 = 9 ∧
    after (.setAddr 3 7 4 true) s = s := by unfold State.takes; decide +kernel

theorem test_meets_smbus :
    let s := fio [(A.fioGpioOut, 0xF0)] {}
    s.rdb A.mgtSmbCfg 1 = true ∧ pageRow 0x340040 = some ⟨.thm, 0x340000, 1, 0x10, 0⟩ ∧ (on [(0x34000C, 1)]).ready (pageBase 0x340040) = true ∧
    (fio [] { smbAddr := 2 ^ 26 - 1 }).fio.smbAddr < 2 ^ 26 ∧ registerAt ⟨.thm, 0x340000, 1, 0x10, 0⟩ 0x40 = true ∧ s.rdb A.mgtSmbCfg 0 = false ∧
    (fio [] { smbAlert := true }).fio.smbAlert = true ∧ s.fio.smbAlert = false ∧ s.smbAlerts = false ∧
    (fio [(A.mgtSmbCfg, 0x200), (A.thmStat, 8)] {}).smbAlerts = true ∧ (after (.setAddr 1 7 4 true) s).fio.smbAddr = 7 ∧
    (after (.setAddr 1 7 3 true) s).fio.smbAddr = 0 ∧ (after (.setAddr 1 7 3 true) s).out = [.smbusNack] ∧
    (after (.setAddr 4 7 4 true) s).out = [.smbusNack] ∧ (after (.smbusRead 3 true) s).out = [.smbusNack] ∧
    (after (.smbusWrite 7 3 true) s).out = [.smbusNack] ∧ (after (.setAddr 1 7 4 false) s).rd A.mgtSmbErr = 1 ∧
    (after .smbusTimeout s).rd A.mgtSmbErr = 1 ∧
    (after (.smbusRead 4 true) { on [(0x34000C, 1)] with fio := { smbAddr := 0x340043 } }).out = [.smbusData [4, 3, 0, 0, 0, BitVec.ofNat 8 (smbPec [0xB0, 2, 0xB1, 4, 3, 0, 0, 0])]] ∧
    (after (.smbusWrite 1 4 true) { on [(0x34000C, 1)] with fio := { smbAddr := 0x340043 } }).rd A.thmCtrl = 3 ∧
    (after .alertResponse (fio [(A.sysStraps, 0x300)] { smbAlert := true })).out = [.smbusData [0xB6, BitVec.ofNat 8 (smbPec [0x19, 0xB6])]] ∧
    (after .alertResponse (fio [(A.sysStraps, 0x300), (A.mgtSmbCfg, 0)] { smbAlert := true })).out = [.smbusData [0xB6]] ∧
    smbPec [0x31, 0x32, 0x33, 0x34, 0x35, 0x36, 0x37, 0x38, 0x39] = 0xF4 := by decide +kernel

/-- A key, a message, a state that may send, with its queue and extra words. -/
def key0 : List Byte := List.replicate 32 0
def msg (seq sends : Nat) : FleetMsg := { typ := 3, seq := seq, time := 0, payload := [1], sends := sends }
def talk (l : List (Nat × Nat)) (q : List FleetMsg) : State := { fio ((A.mgtStat, 0x11) :: l) { key := some key0, queue := q } with now := 1000000000 }
/-- An ACK of SEQ 9. -/
def ackBytes : List Byte :=
  let b : List Byte := [0x46, 0x52, 1, 0x80, 0, 8] ++ List.replicate 37 0 ++ [9, 0, 0, 0, 0]
  b ++ (hmac256 key0 b).take 16
/-- A key record in the pound. -/
def keyCells : List Host.Cell := [(0x24, 0x4B), (0x25, 0x46), (0x3C, 0x61), (0x3D, 0x8D), (0x3E, 0xDD), (0x3F, 0x40)].map (fun c => (0x0108000000 + c.1, c.2))

theorem test_meets_fleet :
    let s := talk [] [msg 8 1, msg 9 0]
    let n := fio [] { queue := [msg 9 0] }
    let late := (A.mgtCfg, 0x0A640001)
    let r (k : Nat) (q : List FleetMsg) : State := talk [(A.mgtCfg, 0x02640101)] (msg 9 k :: q)
    let w := { talk [] [msg 9 0] with fio := { (talk [] [msg 9 0]).fio with lastFirst := some 999990000 } }
    s.mgtSends = true ∧ n.mgtSends = false ∧ s.fio.key = some key0 ∧ s.rdf A.mgtCfg 0 8 = 1 ∧ s.fio.lastBeat + 1 * 1000000000 ≤ s.now ∧
    ¬(n.fio.lastBeat + n.rdf A.mgtCfg 0 8 * 1000000000 ≤ n.now) ∧ { n with now := 1000000000 }.mgtSends = false ∧ s.fio.lastFirst = none ∧
    w.fio.lastFirst = some 999990000 ∧ 999990000 + 10000 ≤ w.now ∧ s.fio.queue = [msg 8 1] ++ msg 9 0 :: [] ∧ (∀ x ∈ [msg 8 1], x.sends ≠ 0 ∨ x.held = true) ∧ (msg 9 0).held = false ∧ (msg 9 0).sends = 0 ∧
    s.rdb A.mgtCfg 8 = true ∧ (talk [late] []).rdb A.mgtCfg 8 = false ∧ (∀ x ∈ [msg 8 1] ++ [], x.seq ≠ (msg 9 0).seq) ∧
    s.fio.queue.find? (fun m => m.seq = 7) = none ∧ (r 2 []).fio.queue.find? (fun m => m.seq = 9) = some (msg 9 2) ∧
    (msg 9 2).lastSend + max 1 ((r 2 []).rdf A.mgtCfg 16 8) * 1000000 ≤ (r 2 []).now ∧ max 1 ((r 2 []).rdf A.mgtCfg 24 4) ≤ (msg 9 2).sends ∧
    (msg 9 1).sends < max 1 ((r 1 []).rdf A.mgtCfg 24 4) ∧ (∀ x ∈ (r 1 []).fio.queue, x.sends ≠ 0 ∨ x.held = true) ∧ ¬(∀ x ∈ (r 1 [msg 8 0]).fio.queue, x.sends ≠ 0 ∨ x.held = true) ∧
    n.ackSeq 0 ackBytes = none ∧ (talk [] [msg 9 1]).ackSeq 0 ackBytes = some 9 ∧ (after .heartbeat s).rd A.mgtSeq = 1 ∧ (after .heartbeat s).out.length = 1 ∧
    (after .heartbeat n).fio.lastBeat = 0 ∧ (after .messageSend s).fio.queue.map (·.sends) = [1, 1] ∧ (after .messageSend (talk [late] [msg 8 1, msg 9 0])).fio.queue.map (·.seq) = [8] ∧
    (after .messageSend w).rd A.mgtTx = 1 ∧ after .messageSend { w with now := 999999999 } = { w with now := 999999999 } ∧ after (.retransmit 7) s = s ∧
    (after (.retransmit 9) (r 2 [])).rd A.mgtUnacked = 1 ∧ (after (.retransmit 9) (r 1 [])).fio.queue.map (·.sends) = [2] ∧ after (.retransmit 9) (r 1 [msg 8 0]) = r 1 [msg 8 0] ∧
    after (.retransmit 9) (r 0 []) = r 0 [] ∧ (after (.fleetAck fr0 0 ackBytes) (talk [] [msg 9 1])).fio.queue = [] ∧ (after (.fleetAck fr0 1 ackBytes) (talk [] [msg 9 1])).rd A.mgtAuthFail = 1 := by
  decide +kernel

theorem test_meets_port :
    let open0 := (A.spdSealStat, 0)
    let k (m : List Host.Cell) : State := { fio [open0, (A.mgtStat, 8)] { key := some key0 } with mem := m }
    let s := fio [(A.mgtStat, 1), (A.mgtIp, 5), (A.mgtDstIp, 6)] {}
    let g := fio [(A.mgtStat, 1), (A.mgtIp, 5), (A.mgtDstIp, 6), (A.mgtGw, 7), (A.mgtMask, 0xFFFFFFFF)] {}
    let own := (s.rd64 A.mgtMac % 2 ^ 48, 5)
    let fr : Rx := { tag := none, mac := 3 }
    s.takes .host A.mgtCtrl ∧ s.sealState ≠ 0 ∧ (k []).sealState = 0 ∧ wordsIn (k []).spd.ue 0x0108000000 0x40 = [] ∧
    keyRecordOk ((k keyCells).readMem 0x0108000000 0x40) = true ∧ keyRecordOk ((k []).readMem 0x0108000000 0x40) = false ∧ s.rdb 0x358008 0 = true ∧
    s.rdb A.mgtStat 0 = true ∧ (on []).rdb A.mgtStat 0 = false ∧ s.rd A.mgtIp = 5 ∧ s.rdb A.mgtStat 4 = false ∧ s.rd A.mgtGw = 0 ∧ s.nextHop = 6 ∧ g.nextHop = 7 ∧
    (after (.keyReload .host) s).rd A.safWarnCnt = 1 ∧ (after (.keyReload .host) (k [])).fio.key = none ∧ (after (.keyReload .host) (k [])).rd 0x35802C = 0x0100 ∧
    (after (.keyReload .host) (k keyCells)).rd A.mgtStat = 0 ∧ (after (.keyReload .host) (k keyCells)).fio.key = some key0 ∧ (after (.arpRequest fr 9 5) s).out = [.arpAnswer none own (3, 9)] ∧
    (after (.arpRequest fr 9 6) s).out = [] ∧ (after (.icmpEcho fr 9 5 [1]) s).out = [.icmpReply none own (3, 9) [1]] ∧
    (after (.icmpEcho fr 9 5 [1]) (on [(A.mgtIp, 5)])).out = [] ∧ (after .arpRetry s).out = [.arpAsk none own 6] ∧ (after .arpRetry g).out = [.arpAsk none own 7] ∧
    46 + (List.replicate 1472 0#8).length ≤ 1518 ∧ ¬(46 + (List.replicate 1473 0#8).length ≤ 1518) ∧
    (after (.icmpEcho fr 9 5 (List.replicate 1473 0)) s).rd A.mgtRxDrop = 1 ∧ (after (.icmpEcho { fr with tag := some 5 } 9 5 []) s).rd A.mgtRxDrop = 1 ∧
    (after (.arpRequest { fr with tag := some 5 } 9 5) s).rd A.mgtRxDrop = 1 ∧ (after (.arpReply { fr with tag := some 5 } 6) s).rd A.mgtRxDrop = 1 ∧
    (after (.fleetAck { fr with tag := some 5 } 0 []) s).rd A.mgtRxDrop = 1 ∧ (after (.fleetAck fr 0 (List.replicate 1473 0)) s).rd A.mgtRxDrop = 1 ∧
    (after .arpRetry (fio [(A.mgtStat, 1), (A.mgtNetCfg, 2 ^ 12 + 5), (A.mgtDstIp, 6)] {})).out = [.arpAsk (some 5) (0, 0) 6] ∧ s.runs 49 = true ∧ (on []).runs 49 = false ∧ (after .arpRetry (fio [(A.mgtStat, 17)] {})).out = [] ∧
    (after (.arpReply fr 6) s).rd A.mgtStat = 17 ∧ (after (.arpReply fr 6) s).fio.peerMac = 3 ∧ (after (.arpReply fr 6) g).rd A.mgtStat = 1 ∧ (after (.sgmiiLinkChange true 2) (fio [] {})).rd A.mgtStat = 13 ∧
    (after .unsupportedFrame s).rd A.mgtRxDrop = 1 := by unfold State.takes; decide +kernel

/-! ## Security and life cycle (chapter 19) -/

/-- `powMod` four bits of the exponent at a time, which the kernel evaluates much faster. -/
def powBy4 (m b e : Nat) : Nat → Nat
  | 0 => 1
  | k + 1 => (powBy4 m b (e / 16) k) ^ 16 * b ^ (e % 16) % m

theorem powMod_mod (m b : Nat) (k e : Nat) : powMod m b e k % m = b ^ (e % 2 ^ k) % m := by
  induction k generalizing e with
  | zero => simp [powMod, Nat.mod_one]
  | succ k ih =>
    have h : e % 2 ^ (k + 1) = 2 * (e / 2 % 2 ^ k) + e % 2 := by rw [Nat.pow_succ', Nat.mod_mul, Nat.add_comm]
    have hr := ih (e / 2)
    simp only [powMod]
    rw [h, Nat.pow_add, Nat.pow_mul', Nat.pow_two]
    have sq : powMod m b (e / 2) k * powMod m b (e / 2) k % m = b ^ (e / 2 % 2 ^ k) * b ^ (e / 2 % 2 ^ k) % m := by
      rw [Nat.mul_mod, hr, ← Nat.mul_mod]
    split
    next h1 => rw [h1, Nat.pow_one, Nat.mod_mod, Nat.mul_mod, Nat.mod_mod, sq, ← Nat.mul_mod]
    next h1 => rw [show e % 2 = 0 by omega, Nat.pow_zero, Nat.mul_one, Nat.mod_mod, sq]

theorem powBy4_mod (m b : Nat) (k e : Nat) : powBy4 m b e k % m = b ^ (e % 16 ^ k) % m := by
  induction k generalizing e with
  | zero => simp [powBy4, Nat.mod_one]
  | succ k ih =>
    have h : e % 16 ^ (k + 1) = 16 * (e / 16 % 16 ^ k) + e % 16 := by rw [Nat.pow_succ', Nat.mod_mul, Nat.add_comm]
    simp only [powBy4]
    rw [h, Nat.pow_add, Nat.mod_mod, Nat.pow_mul', Nat.mul_mod, Nat.pow_mod, ih, ← Nat.pow_mod, ← Nat.mul_mod]

theorem powMod_lt (m b k e : Nat) : powMod m b e (k + 1) % m = powMod m b e (k + 1) := by
  simp only [powMod]; split <;> exact Nat.mod_mod _ _

theorem powBy4_lt (m b k e : Nat) : powBy4 m b e (k + 1) % m = powBy4 m b e (k + 1) := Nat.mod_mod _ _

theorem invMod_by4 : invMod = fun m a => powBy4 m a (m - 2) 96 := by
  funext m a
  have h : (2 : Nat) ^ (4 * 96) = 16 ^ 96 := Nat.pow_mul 2 4 96
  rw [invMod, ← powMod_lt m a 383, powMod_mod m a (4 * 96), h, ← powBy4_mod, powBy4_lt]

/-- The sum and the multiple of points, and a signature's check, by `powBy4`. -/
def addBy4 : EcPoint → EcPoint → EcPoint
  | none, q => q
  | p, none => p
  | some (x1, y1), some (x2, y2) =>
    if x1 = x2 then
      if (y1 + y2) % p384P = 0 then none
      else chord ((3 * x1 * x1 + p384P - 3) * powBy4 p384P (2 * y1 % p384P) (p384P - 2) 96 % p384P) x1 y1 x1
    else chord ((y2 + p384P - y1) * powBy4 p384P ((x2 + p384P - x1) % p384P) (p384P - 2) 96 % p384P) x1 y1 x2

theorem ecAdd_by4 : ecAdd = addBy4 := by
  funext a b
  rcases a with _ | ⟨x1, y1⟩ <;> rcases b with _ | ⟨x2, y2⟩ <;> simp only [ecAdd, addBy4, invMod_by4]

def mulBy4 (q : EcPoint) (e : Nat) : Nat → EcPoint
  | 0 => none
  | k + 1 => let r := mulBy4 q (e / 2) k; if e % 2 = 1 then addBy4 (addBy4 r r) q else addBy4 r r

theorem ecMul_by4 (q : EcPoint) (k e : Nat) : ecMul q e k = mulBy4 q e k := by
  induction k generalizing e with
  | zero => rfl
  | succ k ih => simp only [ecMul, mulBy4, ih, ecAdd_by4]

def sigBy4 (key msg sig : List Byte) : Bool :=
  let q := (beNat (key.take 48), beNat ((key.drop 48).take 48))
  let r := beNat (sig.take 48)
  let t := beNat ((sig.drop 48).take 48)
  if r = 0 || t = 0 || p384N ≤ r || p384N ≤ t || !onCurve q then false
  else
    let w := powBy4 p384N t (p384N - 2) 96
    let z := beNat (sha384 msg)
    match addBy4 (mulBy4 (some p384G) (z * w % p384N) 384) (mulBy4 (some q) (r * w % p384N) 384) with
    | none => false
    | some (x, _) => x % p384N = r

theorem ecdsaOk_by4 : ecdsaOk = sigBy4 := by
  funext a b c; simp only [ecdsaOk, sigBy4, ecMul_by4, ecAdd_by4, invMod_by4] <;> rfl

/-- Big-endian 48 bytes; a boot image of 16 bytes of code signed under the key of private number 1. -/
def be48 (n : Nat) : List Byte := (leBytes 48 n).reverse
def bootKey : List Byte := be48 p384G.1 ++ be48 p384G.2
def bootImage : List Byte :=
  [0x42, 0x49, 1, 2, 3, 0, 0, 0, 0, 0, 0, 8, 0, 0, 0, 8] ++ List.replicate 48 0 ++ bootKey ++
    be48 0x8d999057ba3d2d969260045c55b97f089025959a6f434d651d207d19fb96e9e4fe0e86ebe0e64f85b96a9c75295df61 ++
    be48 0xcfb10cf2688649b32c51eef7c9e661151adf506d9e2b1f75fd46959d2efca715ec2f1af2056df38ddc028610b2db92a8 ++ (rangeFrom 0 16).map (BitVec.ofNat 8 ·)

theorem boot_signed : sigBy4 bootKey (bootImage.take 0xA0 ++ (bootImage.drop 0x100).take 16) ((bootImage.drop 0xA0).take 96) = true := by decide +kernel

/-- The SEC page ready, the pound open, with extra words and the block's state. -/
def sec (l : List (Nat × Nat)) (x : SecState) : State := { on ([(0x36000C, 1), (A.spdSealStat, 0)] ++ clk ++ l) with sec := x }
def lcOf (n : Nat) : SecState := { lc := n, keyHash := [some [], none, none, none] }
def secRun (op r a0 a1 : Nat) (d : List Byte) : SecRun := { op := op, result := r, arg0 := a0, arg1 := a1, addr := 0x1000000000, data := d }
/-- Records at the start of HBM: a plain import of 8 bytes of zeros, and a wrapped one under a key of zeros. -/
def plainRec : List Host.Cell := [(0, 0x49), (1, 0x53), (2, 1), (8, 8)].map (fun c => (0x1000000000 + c.1, c.2))
def zeros (n : Nat) : List Byte := List.replicate n 0
def wrapHead : List Byte := [0x49, 0x53, 1, 1, 0, 0, 0, 0, 8, 0, 0, 0] ++ zeros 36
def wrapRec : List Host.Cell := Memory.write [] 0x1000000000 (wrapHead ++ gcmTag (zeros 32) (zeros 12) wrapHead (zeros 8))
def records (m : List Host.Cell) (x : SecState) : State := let s := sec [] x; { s with mem := m, cal := { s.cal with store := [] } }

theorem test_meets_secCommands :
    let x : Nat × Nat := (A.secXferAddr + 4, 0x10)
    let s (a0 a1 : Nat) (y : SecState) : State := sec [x, (A.secArg0, a0), (A.secArg1, a1)] y
    let k := 0x7A5E
    let busy := sec [] { run := some (secRun 1 0 0 0 []) }
    let shut := sec [(0x360008, 3)] {}
    let dis (n : Nat) : State := { sec [] { testEnd := some 0 } with now := n }
    (s 0 0 {}).takes .host A.secCmd ∧ (s 0 0 {}).regsWf = true ∧ busy.sec.run.isSome ∧ (s 0 0 {}).sec.run = none ∧ busy.rdb 0x36000C 9 = false ∧
    ((s 4 0 {}).secCheck 1 k).1.1 = 0 ∧ ((s 0 0 {}).secCheck 1 (k + 1)).1.1 = 2 ∧ ((s 0 0 {}).secCheck 5 (k + 1)).1.1 = 2 ∧ ((s 1 0 {}).secCheck 7 0).1.1 = 0 ∧
    (dis 9999999).sec.testEnd = some 0 ∧ (dis 9999999).now < 0 + 10000000 ∧ ¬((dis 10000000).now < 0 + 10000000) ∧
    (sec [] { test := some 0 }).sec.test.isSome ∧ (s 1 0 (lcOf 0)).lcMay 1 = true ∧ (s 1 0 {}).lcMay 1 = false ∧ (s 2 0 (lcOf 1)).lcMay 3 = true ∧
    (s 2 0 (lcOf 4)).lcMay 4 = false ∧ (s 3 0 (lcOf 1)).rd A.secArg0 = 3 ∧ (s 1 0 (lcOf 0)).rd A.secArg0 ≠ 3 ∧ (lcOf 3).lc ≠ 1 ∧ (lcOf 3).lc ≠ 2 ∧ (lcOf 4).lc = 4 ∧
    (lcOf 0).lc = 0 ∧ (sec [(A.spdSealStat, 1)] (lcOf 2)).sealState = 1 ∧ (s 0 0 (lcOf 1)).sealState = 0 ∧
    (after (.lcAdvance .host k) (s 1 0 (lcOf 0))).sec.run = some (secRun 1 0 1 0 []) ∧ (after (.lcAdvance .host 0) (s 1 0 (lcOf 0))).sec.run = some (secRun 1 2 1 0 []) ∧
    (after (.secSeal .host) (s 0 8 (lcOf 1))).sec.run = some (secRun 3 0 0 8 []) ∧ (after (.otpWrite .host k) (s 2 3 {})).sec.run = some (secRun 5 1 2 3 []) ∧
    (after (.svnCommit .host) (s 0 0 (lcOf 3))).sec.run = some (secRun 6 0 0 0 []) ∧ (after (.huTest .host) (dis 10000000)).sec.test = some 10000000 ∧
    (after (.huTest .host) (dis 9999999)).sec.deferred = true ∧ (after (.secUnseal .host) busy).rd A.secCmdStat = 6 ∧
    (after (.secImport .host) busy).rd 0x360030 = 6 + 2 * 2 ^ 8 ∧ (s 0 0 {}).pageOpen 0x360000 = true ∧ shut.pageOpen 0x360000 = false ∧
    shut.takes .host A.secCmd ∧ (after (.huTest .host) shut).waitIn = [(0x360000, .sec 7)] := by unfold State.takes; decide +kernel

theorem test_meets_secRecords :
    let p := records plainRec (lcOf 1)
    let w := records wrapRec { lc := 2, otk := some (zeros 32) }
    let got (s : State) : Nat × Nat × List Byte := (s.readRecord 0x1000000000 false).1
    got p = (0, 0, zeros 8) ∧ (got w).1 = 0 ∧ (got w).2.1 = 0 ∧ (got w).2.2 = gcmCrypt (zeros 32) (zeros 12) (zeros 8) ∧ w.sec.otk = some (zeros 32) ∧
    tbit (uWord (w.readMem 0x1000000000 64) 0) 24 = true ∧ tbit (uWord (p.readMem 0x1000000000 64) 0) 24 = false ∧
    (got (records plainRec (lcOf 2))).1 = 1 ∧ (got (records wrapRec { lc := 2, otk := some (zeros 31 ++ [1]) })).1 = 4 := by decide +kernel

theorem test_meets_secEffect :
    let s := sec [] (lcOf 1)
    let shut := sec [(A.spdSealStat, 1)] (lcOf 1)
    let burn (a0 a1 : Nat) (d : List Byte) : State := (s.secEffect (secRun 5 0 a0 a1 d) false).2
    let i : BootImage := { keySlot := 0, svn := 64, key := [], island := [] }
    let d (r : SecRun) : State := sec [] { lc := 1, run := some r }
    let dark : State := { on [] with sec := { run := some (secRun 7 0 0 0 []) } }
    s.sec.run = none ∧ s.sealState = 0 ∧ shut.sealState ≠ 0 ∧ s.spd.ue = [] ∧ (zeros 48).length = 48 ∧ (zeros 32).length = 32 ∧ (secRun 7 7 0 0 []).op < 8 ∧
    (secRun 7 7 0 0 []).result < 8 ∧ (sec [] { image := some i }).sec.image = some i ∧ (s.secEffect (secRun 1 0 2 0 []) true).1 = 8 ∧
    (s.secEffect (secRun 1 0 2 0 []) false).2.sec.lc = 2 ∧ (s.secEffect (secRun 1 0 2 0 []) false).2.rd A.spdSealCause = 5 ∧
    (s.secEffect (secRun 1 0 4 0 []) false).2.rdb A.spdSealStat 4 = true ∧ (shut.secEffect (secRun 2 0 0 0 [1]) false).1 = 5 ∧
    (s.secEffect (secRun 2 0 0 0 [1]) false).2.mem = [(0x0108000000, 1)] ∧ (s.secEffect (secRun 3 0 0 8 []) false).1 = 0 ∧
    (burn 1 3 (zeros 48)).sec.keyHash = [some [], none, none, some (zeros 48)] ∧ (burn 2 5 []).sec.revoke = 5 ∧ (burn 3 0 []).sec.strict = true ∧
    (burn 4 0 (zeros 32)).sec.otk = some (zeros 32) ∧ ((sec [] { image := some i }).secEffect (secRun 6 0 0 0 []) false).2.sec.svnMin = 64 ∧
    (after (.secCommandDone false) (d (secRun 7 0 0 0 []))).rd A.secCmdStat = 7 * 2 ^ 8 ∧ (after (.secCommandDone false) (d (secRun 7 7 0 0 []))).rd 0x36002C = 0x0100 ∧
    (d (secRun 7 0 0 0 [])).runs 59 = true ∧ (d (secRun 7 0 0 0 [])).memRuns 0x1000000000 64 = true ∧ dark.runs 59 = false ∧ after (.secCommandDone false) dark = dark ∧
    (after .powerLoss (d (secRun 2 0 0 0 []))).sec.run = some (secRun 2 5 0 0 []) ∧ (after .powerLoss (d (secRun 1 0 0 0 []))).sec.run = some (secRun 1 0 0 0 []) ∧
    (after (.secCommandDone true) (d (secRun 5 0 3 0 []))).rd 0x36002C = 0x0102 ∧ after (.secCommandDone true) s = s := by decide +kernel

/-- A return token of a device with UID 0 for nonce 0, under the key of slot 3. -/
def tokenKey : List Byte :=
  be48 0x3beb3674d9c33334b99dc64538a959441744954331016e15d9c5fea461945e896cd999a0605610c75ad201567afa3061 ++
    be48 0xfbd5d129f7fdff8886c20ba68255336743623ac00d2969780cf1f735761495c376f13fc288c5263861b0d6f6d26a6134
def tokenSig : List Byte := be48 0x61b27489ce0895ceb8e1c378c7cee259cf0b2eab204a185931bd785f129a23c6ca5038062f21cfe003de82bf2de9fdb5
def tokenMem : List Host.Cell :=
  Memory.write [] 0x1000000000 ([0x54, 0x52] ++ zeros 22 ++ [3] ++ zeros 55 ++ tokenSig ++ tokenSig)
def returned : State := records tokenMem
  { lc := 1, keyHash := [none, none, none, some (sha384 tokenKey)], image := some { keySlot := 3, svn := 0, key := tokenKey, island := [] } }

theorem test_meets_token : (returned.tokenCheck 0x1000000000).1 = 0 ∧ (returned.tokenCheck 0x1000000040).1 = 4 := by rw [State.tokenCheck, State.tokenCheck, ecdsaOk_by4]; decide +kernel

/-- A device with the key of the image in slot 3. -/
def booting (n : Nat) : State := sec [] { lc := n, svnMin := 2, keyHash := [none, none, none, some (sha384 bootKey)] }

theorem boot_passes : (booting 1).bootCheck (some bootImage) = 0 := by
  have h : ecdsaOk bootKey (bootImage.take 0xA0 ++ (bootImage.drop 0x100).take (8 + 8)) ((bootImage.drop 0xA0).take 96) = true := by
    rw [ecdsaOk_by4]; exact boot_signed
  have e : (bootImage.drop 0x40).take 96 = bootKey := by decide +kernel
  have i : imgField bootImage 8 4 = 8 ∧ imgField bootImage 12 4 = 8 := by decide +kernel
  rw [State.bootCheck, e, i.1, i.2, h]
  decide +kernel

theorem test_meets_boot :
    let s := booting 1
    s.bootCheck (some bootImage) = 0 ∧ s.bootCheck none ≠ 0 ∧ s.ready 0x360000 = true ∧ s.rdf A.secBoot 0 2 = 0 ∧ s.sec.lc ≠ 0 ∧
    (sec [(A.secBoot, 1)] {}).rdf A.secBoot 0 2 ≠ 0 ∧ 0 < imgField bootImage 3 1 ∧
    (after (.bootDone none none 0) s).rd A.secBoot = 2 + 2 * 2 ^ 8 + 2 * 2 ^ 12 ∧ (after (.bootDone none none 0) (sec [(A.secBoot, 1)] {})).rd A.secBoot = 1 :=
  ⟨boot_passes, by decide +kernel⟩

theorem test_meets_tamper :
    let s (n : Nat) (l : List (Nat × Nat)) : State := sec l { lc := n }
    let j (l : List (Nat × Nat)) (x : SecState) : State := sec ([(A.secHuCfg, 470), (A.secHuEmin, 1000)] ++ l) x
    let full : Nat := 470 * 5000000000
    let h (l : List (Nat × Nat)) (q n : Nat) (b : Bool) : State := { j l { charge := q, strict := b, testEnd := some 0 } with now := n }
    let d (n : Nat) : State := { sec [] { deferred := true, testEnd := some 0 } with now := n }
    let t (l : List (Nat × Nat)) : State := j l { test := some 0 }
    (s 0 []).sec.lc = 0 ∧ (s 1 []).sealState ≠ 2 ∧ (s 1 [(A.spdSealStat, 2)]).sealState = 2 ∧ (s 1 [(A.spdSealStat, 1)]).sealState = 1 ∧
    (h [] full 0 false).enough ((h [] full 0 false).eCC ((h [] full 0 false).chargeNow 0)) = true ∧ (h [] full 0 false).enough ((h [] full 0 false).eV 1600) = false ∧
    (h [] full 0 false).enough ((h [] full 0 false).eV 5000) = true ∧ (h [] 0 0 false).enough ((h [] 0 0 false).eCC ((h [] 0 0 false).chargeNow 0)) = false ∧
    (h [] full 0 false).sec.disNow = false ∧ (h [] 0 0 false).rdb A.secHuStat 4 = false ∧ (h [] 0 9999999 false).sec.testEnd = some 0 ∧
    (d 10000000).sec.deferred = true ∧ (d 10000000).sec.test = none ∧ 0 + 10000000 ≤ (d 10000000).now ∧ (t []).sec.test.isSome ∧ (d 0).sec.test = none ∧
    3 * 470 * 110 ≤ 200000 ∧ 200000 ≤ 5 * 470 * 110 ∧ ¬(200000 ≤ 5 * 470 * 85) ∧
    ((max 400 ((t []).rdf A.secHuEmin 0 16) * (4000 * 110) : Nat) : Int) ≤ (45000 : Int) * 45000 - 16000 * 16000 ∧
    (t [(A.spdSealStat, 1)]).sealState = 1 ∧ (t [(A.spdSealStat, 1)]).rdb A.spdSealStat 4 = false ∧ (t [(A.spdSealStat, 0x11)]).rdb A.spdSealStat 4 = true ∧
    (after (.tamperEvent 3 true true) (s 0 [])).rd A.secTamper = 0x88 ∧ (after (.tamperEvent 3 true true) (s 0 [])).sealState = 0 ∧
    (after (.tamperEvent 3 true false) (s 1 [])).rd A.spdSealCause = 4 ∧ (after (.tamperEvent 0 true false) (s 1 [(A.secTamperCnt, 0xFF)])).rd A.secTamperCnt = 0xFF ∧
    (after .powerLoss (s 0 [])).rd A.spdSealCause = 8 ∧ (after .powerLoss (s 1 [(A.spdSealStat, 2)])).rd A.spdSealMerged = 1 ∧
    (after (.holdupJudgement 5000 0) (h [] full 10000000 false)).rdf A.secHuStat 0 3 = 3 ∧ (after (.holdupJudgement 1600 0) (h [] full 0 true)).rd A.spdSealCause = 7 ∧
    (after (.holdupJudgement 1600 0) (h [] full 9999999 false)).sec.deferred = true ∧ (after (.holdupJudgement 1600 0) (h [] full 0 false)).sealState = 1 ∧
    (after (.holdupJudgement 1600 0) (h [] 0 10000000 false)).sec.test = some 10000000 ∧ (after (.holdupJudgement 1600 0) (h [] 0 0 false)).rdb A.secHuStat 4 = true ∧
    (after .testDischargeStart (d 10000000)).sec.test = some 10000000 ∧ after .testDischargeStart (d 9999999) = d 9999999 ∧
    (after (.testDischargeDecision 45110 45000) (t [])).rdb A.secHuStat 6 = true ∧ (after (.testDischargeDecision 45110 45000) (t [(A.spdSealStat, 0x31)])).sealState = 1 ∧
    (after (.testDischargeDecision 45085 45000) (t [])).rd A.spdSealCause = 6 ∧ (after (.testDischargeDecision 45000 45000) (t [])).rdf A.secHuTest 0 16 = 0xFFFF ∧
    after (.testDischargeDecision 1 0) (d 0) = d 0 ∧ ({ t [] with now := 100000 }).chargeNow 5 = 5 - 100000 * 20000 - ((t []).rdf A.secHuCfg 16 16 * 100000 : Nat) := by decide +kernel

/-! ## Power, clocks and reset (chapter 20) -/

/-- A device in the reset `h`, at a time of the island, with extra words. -/
def held (h : Option (Nat × Bool)) (n : Nat) (l : List (Nat × Nat)) : State := { on l with pwr := { held := h }, itime := n }
/-- The solver page quiesced and busy since 0, at a time. -/
def stuck (n : Nat) (l : List (Nat × Nat)) : State := { on ((A.sysQuiesceTo, 1) :: (0x6000C, 3) :: l) with pwr := { stuck := [(0x60000, 0)] }, now := n }
def ref : Nat × Nat := (A.clkRef, 1)

theorem test_meets_rails :
    let s := held none 0 []
    let m := held none 0 [(A.pwrRMin 12, 900), (A.pwrPeak, 1), (A.clkDomRun, 0xFFFFFFFF), (A.clkDomRun + 4, 0xFFFFFFFF), (A.clkPllLock, 2 ^ 19 - 1)]
    let v := List.replicate 13 1000
    (0 : Nat) < 13 ∧ s.rdb 0x100C 9 = false ∧ s.rdb 0x200C 9 = false ∧ m.runs 59 = true ∧
    (after (.railOutOfTolerance 12 true) s).rdf (A.pwrRFlags 12) 0 2 = 2 ∧ (after (.railOutOfTolerance 12 false) s).rdf (A.pwrRFlags 12) 0 2 = 1 ∧
    (after (.railOutOfTolerance 12 false) s).rd 0x1030 = 12 ∧ (after (.railReturn 12) (after (.railOutOfTolerance 12 true) s)).rdb A.pwrStat 0 = true ∧
    (after (.railTelemetry v v) m).rd A.pwrTotal = 3328 ∧ (after (.railTelemetry v v) m).rd A.pwrPeak = 3328 ∧ (after (.railTelemetry v v) m).rd (A.pwrRMin 12) = 900 ∧
    (after (.railTelemetry v v) m).rd64 A.pwrEnergy = 1 ∧ (after (.railTelemetry v v) m).pwr.energy = 3000000 ∧ (after (.pllLost 0) m).runs 59 = false ∧
    (after (.pllLost 0) m).runs 57 = true ∧ (after (.pllLost 0) m).rdb A.clkPllLost 0 = true ∧ (after (.pllLost 18) m).rd 0x2030 = 18 ∧
    (after (.pllLost 6) m).rd A.safDiag = 0xA ∧ (after (.refLost) m).rdb A.clkPllLock 6 = true ∧ (after (.refLost) m).rdb A.clkPllLock 5 = false ∧
    (after (.refLost) m).rdb A.secTamper 2 = true ∧ (after .refclkReturn (on [(A.secTamper, 0x44)])).rd A.secTamper = 4 ∧
    m.runs 49 = true ∧ m.enabled 0x358000 = false ∧ m.busy 0x358000 = false ∧ tbit m.domRunLive 49 = false ∧ tbit m.domRunLive 59 = true := by decide +kernel

set_option maxRecDepth 100000 in
theorem test_meets_resets :
    let s := held none 7 [(0xC, 1), (A.mgtSmbCfg, 3), (A.rstFullCnt, 3), (A.pwrRFlags 12, 5), (A.solStat, 1)]
    let h : State := { s with mem := [(0x1000000000, 1)], fills := [⟨0, 0x1000, 9⟩] }
    s.takes .host A.sysReset ∧ s.takes .smbus A.sysReset ∧ 0xFFFF5EA1 % 2 ^ 16 = 0x5EA1 ∧ s.regsWf = true ∧ (held (some (7, true)) 7 []).pwr.held = some (7, true) ∧
    (held (some (7, false)) 8 []).pwr.held = some (7, false) ∧ ¬(7 = (held (some (7, false)) 8 []).itime) ∧ (held (some (7, false)) 7 []).pwr.held = some ((held (some (7, false)) 7 []).itime, false) ∧
    s.cal.run = none ∧ s.sec.run = none ∧ resetKeeps false A.solStat = false ∧ resetKeeps true A.clkRef = true ∧ resetKeeps true A.solStat = false ∧
    A.solStat ∉ [A.rstCause, A.spdSealStat, A.spdSealCause, A.spdSealT, A.spdSealT + 4] ++ (rangeFrom 0 13).map A.pwrRFlags ++ secLogRegs ∧
    regionOf 0x1000000000 = .hbm ∧ regionOf 0 ≠ .hbm ∧ (∀ f ∈ h.fills, f.lo ≤ 0 → 0 < f.hi → regionOf f.lo = regionOf 0) ∧ (8 : Nat) < 13 ∧
    (after (.sysReset .host 0x5EA1) s).rd A.rstCause = 2 ∧ (after (.sysReset .smbus 0xFFFF5EA1) s).rd A.rstCause = 3 ∧ (after (.sysReset .host 0x5EA0) s).rd A.rstBadkey = 1 ∧
    (after .fullRstN s).rd A.rstCause = 1 ∧ (after .fullRstN s).rd A.rstFullCnt = 4 ∧ (after .fullRstN s).rd (A.pwrRFlags 12) = 1 ∧ (after .fullRstN s).rd A.solStat = 0 ∧
    (after .fullRstN h).memGet 0x1000000000 = 1 ∧ (after .fullRstN h).memGet 0 = 0 ∧ after .fullRstN (held (some (7, true)) 7 []) = held (some (7, true)) 7 [] ∧
    (after .fullRstN (held (some (7, false)) 7 [(A.rstCause, 2)])).rd A.rstCause = 1 ∧ (after .fullRstN (held (some (7, false)) 8 [(A.rstCause, 2)])).rd A.rstCause = 2 ∧
    after (.brownout 8) s = s ∧ (after (.brownout 12) s).rd A.rstCause = 5 + 12 * 2 ^ 8 ∧ (after (.brownout 12) h).memGet 0x1000000000 = 0 ∧
    (after (.brownout 12) s).pwr.held = some (7, true) ∧ s.rdb A.secTamper 5 = false ∧ (held none 7 [(A.secTamper, 32)]).rdb A.secTamper 5 = true ∧
    ¬(2 ≤ (held none 7 [(A.spdSealStat, 1)]).sealState) ∧ (held none 7 [(A.spdSealStat, 2), (A.spdSealCause, 8)]).rd A.spdSealCause = 8 ∧
    (after (.brownout 10) (held none 7 [(A.spdSealStat, 1)])).rd A.rstCause = 5 + 10 * 2 ^ 8 := by unfold State.takes; decide +kernel

set_option maxRecDepth 100000 in
theorem test_meets_release :
    let f (n : Nat) (l : List (Nat × Nat)) : State := held (some (0, false)) n l
    let p (l : List (Nat × Nat)) : State := held (some (0, true)) 0 l
    let w := stuck 1000000 []
    let told (n : Nat) : State := let x := stuck n []; { x with pwr := { x.pwr with told := [8] } }
    let u := held (some (0, true)) 2000000 [ref]
    (f 100000 [ref]).rdb A.clkRef 0 = true ∧ (f 100000 [ref]).pwr.held = some (0, false) ∧ 0 + 100000 ≤ (f 100000 [ref]).itime ∧ (p [ref]).pwr.held = some (0, true) ∧
    (p [(A.clkRef, 0)]).rdb A.clkRef 0 = false ∧ w.wedged 0x08 = true ∧ tbit w.sysWedgeLive 0x08 = false ∧ tbit (told 1000000).sysWedgeLive 0x08 = true ∧ tbit (told 999999).sysWedgeLive 0x08 = false ∧
    (∀ k, k < 13 → u.rdf (A.pwrRFlags k) 0 2 = 0) ∧ u.pwr.goodAt + 2000000 ≤ u.itime ∧ u.pwr.held = some (0, true) ∧ u.rdb A.clkRef 0 = true ∧
    after (.powerOn 0 0 [] 0 none true) u = u ∧ after (.powerOn 0 0 [] 0 none false) { u with itime := 1999999 } = { u with itime := 1999999 } ∧
    (u.ball (.safStop 0)) = .low ∧ (u.ball (.encSclk 7)) = .high ∧ (held none 0 []).ball .boot = .owner ∧ (held none 0 [(A.secBoot, 1)]).ball .boot = .released ∧
    (stuck 999999 []).wedged 0x08 = false ∧ w.busy 0x60000 = true ∧
    (after (.fullResetRelease 129 3 [] 0) (f 99999 [ref])).pwr.held = some (0, false) ∧
    (after (.powerOn 0 0 [] 0 none false) (p [(A.clkRef, 0)])).pwr.held = some (0, true) ∧ (after (.wedgeReport 0x08) w).pwr.told = [8] ∧
    after (.wedgeReport 0x08) (told 1000000) = told 1000000 ∧ after (.wedgeReport 0x08) (stuck 999999 []) = stuck 999999 [] ∧ (after (.wedgeReport 0x08) w).rd 0x1C = 2 ^ 8 := by decide +kernel

end Sys2Proof.Tests
end

section
/-!
SUPPORT. Reads of the register bus (R37 to R39, R42, R50): what the bus answers to the read of a word, what the read changes, and how reads
of other widths follow from it.
-/
namespace Sys2Proof.Machine

/-! ### Bits, rows and addresses -/

/-- A bit of what is left of a word without the bits of another. -/
theorem tbit_maskOut (m x i : Nat) : tbit (maskOut m x) i = (tbit m i && !tbit x i) := by
  simp only [tbit_eq, maskOut, Nat.testBit_xor, Nat.testBit_and]
  cases m.testBit i <;> cases x.testBit i <;> rfl

/-- A register row holds an offset within its size. -/
theorem findRow_lt {l : List RegRow} {o : Nat} {row : RegRow} {d : Nat} (h : findRow l o = some (row, d)) :
    d < if row.wide then 8 else 4 := by
  induction l with
  | nil => cases h
  | cons x t ih =>
    rcases ite_eq_iff.mp h with ⟨hc, hx⟩ | ⟨-, ht⟩
    · cases hx
      simp only [Bool.and_eq_true, decide_eq_true_eq] at hc
      exact hc.2
    · exact ih ht

theorem regAddr_of {a : Nat} (h4 : a % 4 = 0) (h26 : a < 2 ^ 26) : regAddr a = a := by
  unfold regAddr
  omega

/-! ### Reads as commands (R37) -/

/-- A read inside the register space is never one of configuration space. -/
theorem State.readReg_mapped (s : State) (src : Source) {a : Nat} (n : Nat) (parity : Bool) (h : a < 2 ^ 26) :
    s.readReg src a n parity =
      let s1 := if parity then s.parityFound src (regAddr a) else s
      if n = 8 then (s1.readWord src (regAddr a / 8 * 8)).readWord src (regAddr a / 8 * 8 + 4)
      else if n = 1 || n = 2 then s1.readBytes src (a % 2 ^ 26) n
      else s1.readWord src (regAddr a) := by
  have hn : ¬ 2 ^ 26 ≤ a := by omega
  unfold State.readReg
  rw [if_neg (by simp only [hn, decide_false, Bool.and_false]; decide)]

/-- LOW_WORD_READ and RC_READ are one read. -/
theorem exec_lowWordRead_eq_rcRead (src : Source) (a n : Nat) (parity : Bool) (s : State) :
    exec (.lowWordRead src a n parity) s = exec (.rcRead src a n parity) s := rfl

theorem exec_rcRead_word (src : Source) {a : Nat} (s : State) (h4 : a % 4 = 0) (h26 : a < 2 ^ 26) :
    exec (.rcRead src a 4 false) s = .next (s.readWord src a) := by
  change Host.Outcome.next (s.readReg src a 4 false) = _
  rw [State.readReg_mapped s src 4 false h26, regAddr_of h4 h26]
  rfl

/-- An aligned read of 8 bytes is the low word and at once the high word. -/
theorem exec_rcRead_dword (src : Source) {a : Nat} (s : State) (h8 : a % 8 = 0) (h26 : a < 2 ^ 26) :
    exec (.rcRead src a 8 false) s = .next ((s.readWord src a).readWord src (a + 4)) := by
  change Host.Outcome.next (s.readReg src a 8 false) = _
  rw [State.readReg_mapped s src 8 false h26, regAddr_of (by omega) h26, Nat.div_mul_cancel (Nat.dvd_of_mod_eq_zero h8)]
  rfl

theorem exec_rcRead_bytes (src : Source) {a : Nat} (n : Nat) (s : State) (hn : n = 1 ∨ n = 2) (h26 : a < 2 ^ 26) :
    exec (.rcRead src a n false) s = .next (s.readBytes src a n) := by
  change Host.Outcome.next (s.readReg src a n false) = _
  rw [State.readReg_mapped s src n false h26, Nat.mod_eq_of_lt h26]
  rcases hn with rfl | rfl <;> rfl

/-- A parity error is recorded on the page, and the read goes on as one without it (Table PAG-6). -/
theorem exec_rcRead_parity (src : Source) {a : Nat} (n : Nat) (s : State) {r : PageRow} (h4 : a % 4 = 0) (h26 : a < 2 ^ 26)
    (hr : pageRow a = some r) :
    exec (.rcRead src a n true) s = exec (.rcRead src a n false) (s.pageErr (pageBase a) 0x0005 (errInfo src a)) := by
  have hp : s.parityFound src a = s.pageErr (pageBase a) 0x0005 (errInfo src a) := by
    rw [State.parityFound, hr]
    rfl
  change Host.Outcome.next (s.readReg src a n true) = Host.Outcome.next ((s.pageErr _ _ _).readReg src a n false)
  rw [State.readReg_mapped _ src n true h26, State.readReg_mapped _ src n false h26, regAddr_of h4 h26, ← hp]
  rfl

/-! ### What the bus answers (R38, R39, R42, R50) -/

/-- What reading sets again is a write of the register read, or nothing. -/
theorem State.hwmRead_cases (a : Nat) (s : State) : State.hwmRead a s = s ∨ ∃ w, State.hwmRead a s = s.wr a w := by
  simp only [State.hwmRead]
  split
  · exact .inr ⟨_, rfl⟩
  · split
    · exact .inr ⟨_, rfl⟩
    · exact .inl rfl

/-- The state after a read of the word at `a` has cleared its bits `m` (R42). -/
def State.rcTaken (s : State) (a m : Nat) : State := if m = 0 then s else State.hwmRead a (s.wr a (maskOut (s.rd a) m))

@[simp] theorem State.rcTaken_zero (s : State) (a : Nat) : s.rcTaken a 0 = s := rfl

/-- Clearing on a read changes the register read. -/
theorem State.rcTaken_frame (s : State) (a m : Nat) : (s.rcTaken a m).out = s.out ∧ OnlyChanges s (s.rcTaken a m) [] [a] := by
  unfold State.rcTaken
  split
  · exact ⟨rfl, OnlyChanges.refl s _ _⟩
  · have hw := OnlyChanges.wr s a (maskOut (s.rd a) m) [] (List.mem_singleton_self a)
    rcases State.hwmRead_cases a (s.wr a (maskOut (s.rd a) m)) with h | ⟨w, h⟩ <;> rw [h]
    · exact ⟨rfl, hw⟩
    · exact ⟨rfl, hw.step (OnlyChanges.wr _ a w [] (List.mem_singleton_self a))⟩

/-- Keeping a latch changes the latches. -/
theorem OnlyChanges.latches (s : State) (l : List Latch) {ps : List Part} (rs : List Nat) (h : Part.latches ∈ ps) :
    OnlyChanges s { s with latches := l } ps rs :=
  ⟨fun p hp => by cases p <;> first | exact absurd h hp | rfl | exact fun _ => rfl, fun _ _ => rfl⟩

section
variable {src : Source} {a : Nat} {s : State} {r : PageRow} (hr : pageRow a = some r) (ho : 0x40 ≤ a % 0x1000)
include hr ho

theorem bus_read_absent (h : s.ready (pageBase a) = false ∨ findRow (rowsOf r.kind) (a % 0x1000) = none) :
    bus.read src a s = (0, s) := by
  have ho' : ¬ a % 0x1000 < 0x40 := by omega
  simp only [Bus.read, hr, ho', if_false]
  cases hready : s.ready (pageBase a) with
  | false => rfl
  | true =>
    have hrow := h.resolve_left (by simp [hready])
    simp only [hrow, Bool.not_true]
    rfl

end

/-- The high word that a source is shown: the latched one where the latch is of the register's low word, else the live one (R39). -/
def State.highShown (s : State) (src : Source) (a : Nat) (ls : List Latch) : Nat :=
  match findLatch (pageBase a) src ls with
  | some l => if l.off + 4 = a % 0x1000 then l.high.toNat else s.live src a
  | none => s.live src a

theorem State.highShown_latched (s : State) {src : Source} {a : Nat} {ls : List Latch} {l : Latch}
    (hl : findLatch (pageBase a) src ls = some l) (ho : l.off + 4 = a % 0x1000) : s.highShown src a ls = l.high.toNat := by
  rw [State.highShown, hl]
  exact if_pos ho

theorem State.highShown_live (s : State) {src : Source} {a : Nat} {ls : List Latch}
    (h : ∀ l, findLatch (pageBase a) src ls = some l → l.off + 4 ≠ a % 0x1000) : s.highShown src a ls = s.live src a := by
  rw [State.highShown]
  cases hl : findLatch (pageBase a) src ls with
  | none => rfl
  | some l => exact if_neg (h l hl)

/-- The latches after the low word at `a` has been read (R39). -/
def State.latchedHigh (s : State) (src : Source) (a : Nat) (ls : List Latch) : List Latch :=
  ⟨pageBase a, src, a % 0x1000, BitVec.ofNat 32 (s.live src (a + 4))⟩ :: ls.filter (fun x => !(x.page = pageBase a && x.src = src))

section
variable {src : Source} {a : Nat} {s : State} {r : PageRow} {row : RegRow} {d : Nat} (hr : pageRow a = some r)
  (ho : 0x40 ≤ a % 0x1000) (hready : s.ready (pageBase a) = true) (hrow : findRow (rowsOf r.kind) (a % 0x1000) = some (row, d))
include hr ho hready hrow

theorem bus_read_narrow (hw : row.wide = false) :
    bus.read src a s = (s.live src a, s.rcTaken a (maskWhere (fun x => x = .rc) 0 row.masks)) := by
  have ho' : ¬ a % 0x1000 < 0x40 := by omega
  have hd : d < 4 := by simpa [hw] using findRow_lt hrow
  simp only [Bus.read, hr, ho', if_false, hready, hrow, hw, hd, if_true]
  rfl

/-- The low word is returned, and the high word latched for the page and the source. -/
theorem bus_read_low (hw : row.wide = true) (hd : d < 4) :
    bus.read src a s = (s.live src a, { s.rcTaken a (maskWhere (fun x => x = .rc) 0 row.masks) with
      latches := s.latchedHigh src a (s.rcTaken a (maskWhere (fun x => x = .rc) 0 row.masks)).latches }) := by
  have ho' : ¬ a % 0x1000 < 0x40 := by omega
  simp only [Bus.read, hr, ho', if_false, hready, hrow, hw, hd, if_true]
  rfl

theorem bus_read_high (hw : row.wide = true) (hd : 4 ≤ d) :
    bus.read src a s = (s.highShown src a (s.rcTaken a (maskWhere (fun x => x = .rc) 1 row.masks)).latches,
      s.rcTaken a (maskWhere (fun x => x = .rc) 1 row.masks)) := by
  have ho' : ¬ a % 0x1000 < 0x40 := by omega
  have hd' : ¬ d < 4 := by omega
  generalize hu : s.rcTaken a (maskWhere (fun x => x = .rc) 1 row.masks) = u
  simp only [State.rcTaken] at hu
  simp only [Bus.read, hr, ho', if_false, hready, hrow, hw, hd', State.highShown]
  simp only [bus, hu]
  cases findLatch (pageBase a) src u.latches with
  | none => rfl
  | some l => by_cases hoff : l.off + 4 = a % 0x1000 <;> simp only [hoff] <;> rfl

end

/-- A read of a block register sends nothing out beside its answer. -/
theorem bus_read_out {src : Source} {a : Nat} {s : State} {r : PageRow} (hr : pageRow a = some r) (ho : 0x40 ≤ a % 0x1000) :
    (bus.read src a s).2.out = s.out := by
  cases hready : s.ready (pageBase a) with
  | false => rw [bus_read_absent hr ho (.inl hready)]
  | true =>
    cases hrow : findRow (rowsOf r.kind) (a % 0x1000) with
    | none => rw [bus_read_absent hr ho (.inr hrow)]
    | some x =>
      obtain ⟨row, d⟩ := x
      cases hw : row.wide with
      | false =>
        rw [bus_read_narrow hr ho hready hrow hw]
        exact (s.rcTaken_frame a _).1
      | true =>
        by_cases hd : d < 4
        · rw [bus_read_low hr ho hready hrow hw hd]
          exact (s.rcTaken_frame a _).1
        · rw [bus_read_high hr ho hready hrow hw (by omega)]
          exact (s.rcTaken_frame a _).1

/-! ### What goes back to the source -/

theorem State.readWord_of_read {src : Source} {a v : Nat} {s u : State} (h : bus.read src a s = (v, u)) :
    s.readWord src a = u.emit (.readData src a (BitVec.ofNat 32 v)) := by
  rw [State.readWord, h]

/-- The bytes `k` to `k + n` of a value lie in its low 32 bits. -/
theorem bytes_of_word (v : Nat) {k n : Nat} (h : k + n ≤ 4) : v % 2 ^ 32 / 256 ^ k % 256 ^ n = v / 256 ^ k % 256 ^ n := by
  have hdvd : 256 ^ k * 256 ^ n ∣ 2 ^ 32 := by
    rw [← Nat.pow_add]
    exact Nat.pow_dvd_pow 256 h
  rw [← Nat.mod_mul_right_div_self, ← Nat.mod_mul_right_div_self, Nat.mod_mod_of_dvd _ hdvd]

/-- A read of 1 or 2 bytes reads the word and returns the addressed bytes of it (R37). -/
theorem State.readBytes_of_read {src : Source} {a v k n : Nat} {s u : State} (h : bus.read src a s = (v, u)) (h4 : a % 4 = 0)
    (hk : k + n ≤ 4) (hn : 0 < n) :
    s.readBytes src (a + k) n =
      u.emit (.readData src (a + k) (BitVec.ofNat 32 ((BitVec.ofNat 32 v).toNat / 256 ^ k % 256 ^ n))) := by
  have hw : (a + k) / 4 * 4 = a := by omega
  have hb : (a + k) % 4 = k := by omega
  rw [State.readBytes, hw, h, hb, BitVec.toNat_ofNat, bytes_of_word v hk]

/-! ### The registers that start again on a read (Tables DSP-7 and PWR-9) -/

theorem dspBHwm_row : ∀ b < 32, pageRow (A.dspBHwm b) = some ⟨.dspG, 0x200000, 1, 0x0B, 0⟩ ∧
    findRow rowsDspG (A.dspBHwm b % 0x1000) = some (⟨0x118, 32, 32, 0, false, [(.rc, 0x1FFF)]⟩, 0) := by decide

theorem pwrRMin_row : ∀ k < 13, pageRow (A.pwrRMin k) = some ⟨.pwr, 0x1000, 1, 0x02, 0⟩ ∧
    findRow rowsPwr (A.pwrRMin k % 0x1000) = some (⟨0x10C, 13, 16, 0xFFFF, false, [(.rc, 0xFFFF)]⟩, 0) := by decide

theorem State.live_dspBHwm (s : State) (src : Source) {b : Nat} (hb : b < 32) : s.live src (A.dspBHwm b) = s.rd (A.dspBHwm b) := by
  have ho : A.dspBHwm b % 0x1000 = 0x118 + b * 0x20 := by show (0x200118 + b * 0x20) % 0x1000 = _; omega
  have hm : (0x118 + b * 0x20) % 0x20 = 0x18 := by omega
  have hin : (decide (0x100 ≤ 0x118 + b * 0x20) && decide (0x118 + b * 0x20 < 0x500)) = true := by simp; omega
  rw [State.live, (dspBHwm_row b hb).1]
  show s.dspLive (A.dspBHwm b % 0x1000) (A.dspBHwm b) = _
  rw [ho, State.dspLive, if_neg (by omega), if_neg (by omega), if_neg (by omega), if_neg (by omega), if_neg (by omega), if_pos hin, hm]
  rfl

/-- What the registers keep when a read has cleared bits of a word that does not start again by itself. -/
theorem State.hwmRead_other (s : State) {a : Nat} (hb : ∀ b, b < 32 → a ≠ A.dspBHwm b) (hk : ∀ k, k < 13 → a ≠ A.pwrRMin k) :
    State.hwmRead a s = s := by
  have hhwm : ¬(pageBase a = 0x200000 && 0x100 ≤ a % 0x1000 && a % 0x1000 < 0x500 && a % 0x1000 % 0x20 = 0x18) := by
    simp only [Bool.and_eq_true, decide_eq_true_eq]
    rintro ⟨⟨⟨hp, hlo⟩, hhi⟩, hm⟩
    unfold pageBase at hp
    exact hb ((a % 0x1000 - 0x100) / 0x20) (by omega) (show a = 0x200118 + (a % 0x1000 - 0x100) / 0x20 * 0x20 by omega)
  have hmin : ¬(pageBase a = 0x1000 && 0x100 ≤ a % 0x1000 && a % 0x1000 < 0x1D0 && a % 0x1000 % 0x10 = 0x0C) := by
    simp only [Bool.and_eq_true, decide_eq_true_eq]
    rintro ⟨⟨⟨hp, hlo⟩, hhi⟩, hm⟩
    unfold pageBase at hp
    exact hk ((a % 0x1000 - 0x100) / 0x10) (by omega) (show a = 0x110C + (a % 0x1000 - 0x100) / 0x10 * 0x10 by omega)
  rw [State.hwmRead]
  simp only [hhwm, hmin]
  rfl

theorem State.hwmRead_dspBHwm (s : State) {b : Nat} (hb : b < 32) :
    State.hwmRead (A.dspBHwm b) s = s.wr (A.dspBHwm b) (s.held b) := by
  have ho : (0x200118 + b * 0x20) % 0x1000 = 0x118 + b * 0x20 := by omega
  have hp : (0x200118 + b * 0x20) / 0x1000 * 0x1000 = 0x200000 := by omega
  have hi : (0x118 + b * 0x20 - 0x100) / 0x20 = b := by omega
  have hm : (0x118 + b * 0x20) % 0x20 = 0x18 := by omega
  have hlo : 0x100 ≤ 0x118 + b * 0x20 := by omega
  have hhi : 0x118 + b * 0x20 < 0x500 := by omega
  simp only [State.hwmRead, A.dspBHwm, pageBase, ho, hp, hi, hm, hlo, hhi]
  rfl

theorem State.hwmRead_pwrRMin (s : State) {k : Nat} (hk : k < 13) :
    State.hwmRead (A.pwrRMin k) s = s.wr (A.pwrRMin k) 0xFFFF := by
  have ho : (0x110C + k * 0x10) % 0x1000 = 0x10C + k * 0x10 := by omega
  have hp : (0x110C + k * 0x10) / 0x1000 * 0x1000 = 0x1000 := by omega
  have hm : (0x10C + k * 0x10) % 0x10 = 0x0C := by omega
  have hlo : 0x100 ≤ 0x10C + k * 0x10 := by omega
  have hhi : 0x10C + k * 0x10 < 0x1D0 := by omega
  simp only [State.hwmRead, A.pwrRMin, pageBase, ho, hp, hm, hlo, hhi]
  rfl

/-- A register below the inlet rings has no part in what a basin holds. -/
theorem State.held_wr (s : State) {a : Nat} (v b : Nat) (h : a < 0x311040) : (s.wr a v).held b = s.held b := by
  have hcfg (n : Nat) : (s.wr a v).rd (A.hstInCfg n) = s.rd (A.hstInCfg n) := State.rd_wr_ne s v (by show 0x311048 + _ ≠ _; omega)
  have hstat (n : Nat) : (s.wr a v).rd (A.hstInStat n) = s.rd (A.hstInStat n) := State.rd_wr_ne s v (by show 0x311050 + _ ≠ _; omega)
  have hci (n : Nat) : (s.wr a v).rd (A.hstInCi n) = s.rd (A.hstInCi n) := State.rd_wr_ne s v (by show 0x311054 + _ ≠ _; omega)
  have hpi (n : Nat) : (s.wr a v).rd (A.hstInPi n) = s.rd (A.hstInPi n) := State.rd_wr_ne s v (by show 0x311058 + _ ≠ _; omega)
  simp only [State.held, State.basinResv, State.inletResv, State.rdb, State.rdf, hcfg, hstat, hci, hpi, State.wr_dsp]
  rfl

/-- The bits that a read clears, of a register that does not start again by itself. -/
theorem State.rcTaken_bit (s : State) {a : Nat} (m i : Nat) (hb : ∀ b, b < 32 → a ≠ A.dspBHwm b) (hk : ∀ k, k < 13 → a ≠ A.pwrRMin k)
    (hi : i < 32) : tbit ((s.rcTaken a m).rd a) i = (tbit (s.rd a) i && !tbit m i) := by
  unfold State.rcTaken
  split
  · next h => simp [h, tbit]
  · rw [State.hwmRead_other _ hb hk, State.rd_wr_same, tbit_mod _ _ hi, tbit_maskOut]

/-! ### What a source is answered -/

/-- A word read goes back to its source; what else happens is what the bus does. -/
theorem State.readWord_answers {src : Source} {a v : Nat} {s u : State} (h : bus.read src a s = (v, u)) (hout : u.out = s.out)
    {ps : List Part} {rs : List Nat} (hu : OnlyChanges s u ps rs) (hps : Part.out ∈ ps) :
    (s.readWord src a).out = s.out ++ [.readData src a (BitVec.ofNat 32 v)] ∧ OnlyChanges s (s.readWord src a) ps rs := by
  rw [State.readWord_of_read h]
  exact ⟨congrArg (· ++ _) hout, hu.step (OnlyChanges.emit u _ rs hps)⟩

theorem State.readWord_regs {src : Source} {a v : Nat} {s u : State} (h : bus.read src a s = (v, u)) (b : Nat) :
    (s.readWord src a).rd b = u.rd b := by
  rw [State.readWord_of_read h]
  rfl

/-- A register whose bits clear on a read: its value goes back, and it alone changes. -/
theorem State.readWord_rcTaken {src : Source} {a v m : Nat} {s : State} (h : bus.read src a s = (v, s.rcTaken a m)) :
    (s.readWord src a).out = s.out ++ [.readData src a (BitVec.ofNat 32 v)] ∧ OnlyChanges s (s.readWord src a) [.out] [a] := by
  obtain ⟨hout, hframe⟩ := s.rcTaken_frame a m
  exact State.readWord_answers h hout (hframe.mono (List.nil_subset _) (List.Subset.refl _)) (by decide)

theorem State.readWord_dspBHwm (src : Source) (s : State) {b : Nat} (hb : b < 32) (hready : s.ready (pageBase (A.dspBHwm b)) = true) :
    (s.readWord src (A.dspBHwm b)).out = s.out ++ [.readData src (A.dspBHwm b) (BitVec.ofNat 32 (s.rd (A.dspBHwm b)))] ∧
      (s.readWord src (A.dspBHwm b)).rd (A.dspBHwm b) = s.held b % 2 ^ 32 ∧
      OnlyChanges s (s.readWord src (A.dspBHwm b)) [.out] [A.dspBHwm b] := by
  obtain ⟨hr, hrow⟩ := dspBHwm_row b hb
  have hread := bus_read_narrow (src := src) hr (by show 0x40 ≤ (0x200118 + b * 0x20) % 0x1000; omega) hready hrow rfl
  rw [s.live_dspBHwm src hb] at hread
  obtain ⟨hout, hframe⟩ := State.readWord_rcTaken hread
  refine ⟨hout, ?_, hframe⟩
  rw [State.readWord_regs hread, State.rcTaken, if_neg (by decide), State.hwmRead_dspBHwm _ hb, State.rd_wr_same,
    State.held_wr _ _ _ (show 0x200118 + b * 0x20 < 0x311040 by omega)]

theorem State.readWord_pwrRMin (src : Source) (s : State) {k : Nat} (hk : k < 13) (hready : s.ready (pageBase (A.pwrRMin k)) = true) :
    (s.readWord src (A.pwrRMin k)).out = s.out ++ [.readData src (A.pwrRMin k) (BitVec.ofNat 32 (s.rd (A.pwrRMin k)))] ∧
      (s.readWord src (A.pwrRMin k)).rd (A.pwrRMin k) = 0xFFFF ∧ OnlyChanges s (s.readWord src (A.pwrRMin k)) [.out] [A.pwrRMin k] := by
  obtain ⟨hr, hrow⟩ := pwrRMin_row k hk
  have hlive : s.live src (A.pwrRMin k) = s.rd (A.pwrRMin k) := by
    rw [State.live, hr]
  have hread := bus_read_narrow (src := src) hr (by show 0x40 ≤ (0x110C + k * 0x10) % 0x1000; omega) hready hrow rfl
  rw [hlive] at hread
  obtain ⟨hout, hframe⟩ := State.readWord_rcTaken hread
  refine ⟨hout, ?_, hframe⟩
  rw [State.readWord_regs hread, State.rcTaken, if_neg (by decide), State.hwmRead_pwrRMin _ hk, State.rd_wr_same]
  rfl

/-- The latch of a page and source is the one of the low word read last. -/
theorem findLatch_latchedHigh (s : State) (src : Source) (a : Nat) (ls : List Latch) :
    findLatch (pageBase a) src (s.latchedHigh src a ls) =
      some ⟨pageBase a, src, a % 0x1000, BitVec.ofNat 32 (s.live src (a + 4))⟩ := by
  simp [findLatch, State.latchedHigh]

/-- A read of 1 or 2 bytes as a command, beside the read of the word. -/
theorem exec_rcRead_bytes_of_word (src : Source) {a k n : Nat} (s : State) {r : PageRow} (hr : pageRow a = some r)
    (ho : 0x40 ≤ a % 0x1000) (h4 : a % 4 = 0) (h26 : a < 2 ^ 26) (hk : k + n ≤ 4) (hn : n = 1 ∨ n = 2) :
    (s.readWord src a).out = s.out ++ [.readData src a (BitVec.ofNat 32 (bus.read src a s).1)] ∧
      exec (.rcRead src (a + k) n false) s = .next { s.readWord src a with
        out := s.out ++ [.readData src (a + k) (BitVec.ofNat 32 ((BitVec.ofNat 32 (bus.read src a s).1).toNat / 256 ^ k % 256 ^ n))] } := by
  have hout := bus_read_out (src := src) (s := s) hr ho
  have hread : bus.read src a s = ((bus.read src a s).1, (bus.read src a s).2) := rfl
  have hpos : 0 < n := by omega
  rw [exec_rcRead_bytes src n s hn (by omega), State.readBytes_of_read hread h4 hk hpos, State.readWord_of_read hread, ← hout]
  exact ⟨rfl, rfl⟩

/-- Settles O10, clause by clause from what the bus answers to the read of one word (bus_read_absent, _narrow, _low and _high). -/
theorem readsReturnLatchAndClear : Obligations.ReadsReturnLatchAndClear := by
  unfold Obligations.ReadsReturnLatchAndClear
  intro src a s r h4 h26 hr ho c hc
  have hexec : exec c s = .next (s.readWord src a) := by
    rcases hc with rfl | rfl
    · exact exec_rcRead_word src s h4 h26
    · exact exec_rcRead_word src s h4 h26
  simp only [exec_lowWordRead_eq_rcRead, hexec]
  refine ⟨⟨_, rfl⟩, ?dword, ?bytes, ?parity, ?hwm, ?rmin, ?absent, ?row⟩
  case dword =>
    rintro h8 t ⟨⟩
    rw [exec_rcRead_dword src s h8 h26, exec_rcRead_word src _ (by omega) (by omega)]
    exact ⟨rfl, rfl⟩
  case bytes =>
    intro k n hk hn
    obtain ⟨hout, hbytes⟩ := exec_rcRead_bytes_of_word src s hr ho h4 h26 hk hn
    exact ⟨_, _, rfl, hout, hbytes, trivial⟩
  case parity => exact fun n _ => ⟨exec_rcRead_parity src n s h4 h26 hr, exec_rcRead_parity src n s h4 h26 hr⟩
  case hwm =>
    rintro b hb rfl hready
    exact ⟨_, rfl, State.readWord_dspBHwm src s hb hready⟩
  case rmin =>
    rintro k hk rfl hready
    exact ⟨_, rfl, State.readWord_pwrRMin src s hk hready⟩
  case absent =>
    exact fun h => ⟨_, rfl, State.readWord_answers (bus_read_absent hr ho h) rfl (OnlyChanges.refl s _ _) (by decide)⟩
  case row =>
    intro row d hready hrow
    refine ⟨fun hw hb hk => ?narrow, fun hw hm => ⟨fun hd => ?low, fun hd => ⟨fun l hl hoff => ?latched, fun h => ?live⟩⟩⟩
    case narrow =>
      have hread := bus_read_narrow (src := src) hr ho hready hrow hw
      obtain ⟨hout, hframe⟩ := State.readWord_rcTaken hread
      refine ⟨_, rfl, hout, fun i hi => ?_, hframe⟩
      rw [State.readWord_regs hread, s.rcTaken_bit _ i hb hk hi]
    case low =>
      have hread := bus_read_low (src := src) hr ho hready hrow hw hd
      rw [if_pos hd] at hm
      rw [hm, State.rcTaken_zero] at hread
      obtain ⟨hout, hframe⟩ := State.readWord_answers hread rfl (OnlyChanges.latches s _ [] (by decide)) (ps := [.out, .latches]) (by decide)
      refine ⟨_, rfl, hout, ?_, hframe⟩
      rw [State.readWord_of_read hread]
      exact findLatch_latchedHigh s src a _
    all_goals
      have hread := bus_read_high (src := src) hr ho hready hrow hw hd
      rw [if_neg (by omega)] at hm
      rw [hm, State.rcTaken_zero] at hread
    case latched =>
      rw [State.highShown_latched s hl hoff] at hread
      obtain ⟨hout, hframe⟩ := State.readWord_answers hread rfl (OnlyChanges.refl s [.out] []) (by decide)
      exact ⟨_, rfl, by rw [hout, BitVec.ofNat_toNat, BitVec.setWidth_eq], hframe⟩
    case live =>
      rw [State.highShown_live s h] at hread
      exact ⟨_, rfl, State.readWord_answers hread rfl (OnlyChanges.refl s _ _) (by decide)⟩

end Sys2Proof.Machine
end

section
/-!
SUPPORT. What a write of a page header sets going starts no MDIO access and holds no request of another node: one lemma for each operation
that PAGE_CTRL can reach.
-/
namespace Sys2Proof.Machine

/-! ### A calm state -/

/-- No MDIO access is under way, and no request of another node is held at an input: a register write ends with what it has set going
(`State.mdioFree`, `State.remoteFreed`). -/
structure State.Calm (s : State) : Prop where
  noAccess : s.rdb A.mgtMdio 31 = false
  noRemote : ∀ x ∈ s.waitIn, x.2.remote = false

theorem State.Calm.ends {s : State} (h : s.Calm) : s.mdioFree.remoteFreed = s := by
  rw [State.mdioFree_of s h.noAccess, State.remoteFreed_of s h.noRemote]

variable {s : State}

/-- Calm is a matter of the registers and the work held. -/
theorem State.Calm.of_eq {t : State} (h : s.Calm) (hr : t.regs = s.regs) (hw : t.waitIn = s.waitIn) : t.Calm := by
  refine ⟨?_, hw ▸ h.noRemote⟩
  rw [State.rdb, State.rd_of_regs t s hr]
  exact h.noAccess

/-- The state that an operation answers beside a value. -/
theorem State.Calm.of_snd {α : Type} {x : α × State} {v : α} {t : State} (h : x.2.Calm) (hx : x = (v, t)) : t.Calm := by
  subst hx
  exact h

theorem State.Calm.ite_snd {α : Type} {c : Prop} [Decidable c] {x y : α × State} (hx : x.2.Calm) (hy : y.2.Calm) :
    (if c then x else y).2.Calm := by
  split
  · exact hx
  · exact hy

/-! ### Parts beside the registers -/

theorem State.Calm.with_cal (h : s.Calm) (x : CalState) : ({ s with cal := x } : State).Calm := h.of_eq rfl rfl
theorem State.Calm.with_tow (h : s.Calm) (x : TowState) : ({ s with tow := x } : State).Calm := h.of_eq rfl rfl
theorem State.Calm.with_hst (h : s.Calm) (x : HstState) : ({ s with hst := x } : State).Calm := h.of_eq rfl rfl
theorem State.Calm.with_dsp (h : s.Calm) (x : DspState) : ({ s with dsp := x } : State).Calm := h.of_eq rfl rfl
theorem State.Calm.with_ing (h : s.Calm) (x : IngState) : ({ s with ing := x } : State).Calm := h.of_eq rfl rfl
theorem State.Calm.with_wld (h : s.Calm) (x : WldState) : ({ s with wld := x } : State).Calm := h.of_eq rfl rfl
theorem State.Calm.with_aqd (h : s.Calm) (x : AqdState) : ({ s with aqd := x } : State).Calm := h.of_eq rfl rfl
theorem State.Calm.with_pass (h : s.Calm) (x : PassState) : ({ s with pass := x } : State).Calm := h.of_eq rfl rfl
theorem State.Calm.with_saf (h : s.Calm) (x : SafState) : ({ s with saf := x } : State).Calm := h.of_eq rfl rfl
theorem State.Calm.with_sec (h : s.Calm) (x : SecState) : ({ s with sec := x } : State).Calm := h.of_eq rfl rfl
theorem State.Calm.with_fio (h : s.Calm) (x : FioState) : ({ s with fio := x } : State).Calm := h.of_eq rfl rfl

/-! ### Registers and the page header -/

theorem State.Calm.wr (h : s.Calm) (a v : Nat) (ha : a ≠ 0x358090) : (s.wr a v).Calm := by
  refine ⟨?_, h.noRemote⟩
  rw [State.rdb, State.rd_wr_ne s v (Ne.symm ha)]
  exact h.noAccess

/-- A value that leaves bit 31 as it is, or clears it, starts no access at any address. -/
theorem State.Calm.wr_low (h : s.Calm) (a v : Nat) (hv : tbit (s.rd a) 31 = false → tbit v 31 = false) : (s.wr a v).Calm := by
  refine ⟨?_, h.noRemote⟩
  rw [State.rdb, State.rd_wr]
  split
  · next e => exact (tbit_mod v 31 (by decide)).trans (hv (e ▸ h.noAccess))
  · exact h.noAccess

theorem State.Calm.wr64 (h : s.Calm) (a v : Nat) (ha : a ≠ 0x358090) (hb : a + 4 ≠ 0x358090) :
    (s.wr64 a v).Calm := (h.wr a v ha).wr (a + 4) _ hb

theorem State.Calm.wrf (h : s.Calm) (a lo len v : Nat) (hl : lo + len ≤ 31) : (s.wrf a lo len v).Calm :=
  h.wr_low a _ (fun e => (tbit_putFld _ _ _ _ _ (.inr hl)).trans e)

theorem State.Calm.wrb (h : s.Calm) (a i : Nat) (b : Bool) (hi : i ≠ 31) : (s.wrb a i b).Calm :=
  h.wr_low a _ (fun e => by rwa [tbit_putBit, if_neg (Ne.symm hi)])

theorem State.Calm.bump (h : s.Calm) (a : Nat) : (s.bump a).Calm := by
  refine h.wr_low a _ (fun _ => ?_)
  have hle : satAdd 0xFFFF (s.rd a) 1 ≤ 0xFFFF := by
    unfold satAdd
    split <;> omega
  have hz : satAdd 0xFFFF (s.rd a) 1 / 2 ^ 31 = 0 := by omega
  rw [tbit, hz]
  rfl

theorem State.Calm.bump32 (h : s.Calm) (a n : Nat) (ha : a ≠ 0x358090) : (s.bump32 a n).Calm := h.wr a _ ha

theorem State.Calm.bumpF (h : s.Calm) (a : Nat) : (s.bumpF a 0).Calm := h.wrf a 0 16 _ (by decide)

theorem State.Calm.emit (h : s.Calm) (o : Out) : (s.emit o).Calm := h.of_eq rfl rfl

theorem State.Calm.draw (h : s.Calm) (w : Nat) : (s.draw w).2.Calm := h.of_eq rfl rfl

theorem State.Calm.sendMsix (h : s.Calm) (v : Nat) : (s.sendMsix v).Calm :=
  h.of_eq (State.sendMsix_regs s v) (State.sendMsix_waitIn s v)

theorem State.Calm.irqEdge (h : s.Calm) (p b : Nat) : (s.irqEdge p b).Calm :=
  h.of_eq (State.irqEdge_regs s p b) (State.irqEdge_waitIn s p b)

theorem State.Calm.raise (h : s.Calm) (p i : Nat) (hp : p % 0x1000 = 0) : (s.raise p i).Calm :=
  (h.wr (p + 0x01C) _ (by omega)).irqEdge p _

theorem State.Calm.pageErr (h : s.Calm) (p code info : Nat) (hp : p % 0x1000 = 0) : (s.pageErr p code info).Calm := by
  unfold State.pageErr
  refine State.Calm.raise ?_ p 1 hp
  split
  · exact h.wr (p + 0x02C) _ (by omega)
  · exact ((h.wrb (p + 0x00C) 9 true (by decide)).wr (p + 0x02C) code (by omega)).wr (p + 0x030) info (by omega)

theorem State.Calm.stuckUpd (h : s.Calm) (p : Nat) : (s.stuckUpd p).Calm := h.of_eq rfl rfl

theorem State.Calm.starting (h : s.Calm) (p : Nat) {f : State → State} (hf : ∀ t : State, t.Calm → (f t).Calm) :
    (s.starting p f).Calm := (hf _ (h.stuckUpd p)).stuckUpd p

theorem State.Calm.quietEdge (h : s.Calm) (p : Nat) (b : Bool) (hp : p % 0x1000 = 0) : (s.quietEdge p b).Calm := by
  unfold State.quietEdge
  split
  · exact h
  · split
    · exact (h.stuckUpd p).raise p 3 hp
    · exact h.stuckUpd p

theorem State.Calm.setBusy (h : s.Calm) (p : Nat) (b : Bool) (hp : p % 0x1000 = 0) : (s.setBusy p b).Calm := by
  have h1 := (h.wrb (p + 0x00C) 1 b (by decide)).stuckUpd p
  simp only [State.setBusy]
  split
  · exact h1.raise p 3 hp
  · exact h1

theorem State.Calm.wrWords (h : s.Calm) (a : Nat) (l : List Nat) (ha : a + 4 * l.length ≤ 0x358090 ∨ 0x358090 < a) :
    (s.wrWords a l).Calm := by
  induction l generalizing s a with
  | nil => exact h
  | cons w t ih =>
    rw [List.length_cons] at ha
    exact ih (h.wr a w (by omega)) (a + 4) (by omega)

/-! ### Branches and lists of steps -/

theorem State.Calm.ite {c : Prop} [Decidable c] {t u : State} (ht : t.Calm) (hu : u.Calm) : (if c then t else u).Calm := by
  split
  · exact ht
  · exact hu

theorem State.Calm.foldl {α : Type} (h : s.Calm) {f : State → α → State} (l : List α)
    (hf : ∀ t x, x ∈ l → t.Calm → (f t x).Calm) : (l.foldl f s).Calm := by
  induction l generalizing s with
  | nil => exact h
  | cons x l ih => exact ih (hf s x List.mem_cons_self h) (fun t y hy => hf t y (List.mem_cons_of_mem x hy))

/-! ### Logs, reports and heaters -/

theorem State.Calm.fleetEvent (h : s.Calm) (typ : Nat) (payload : List Byte) : (s.fleetEvent typ payload).Calm := by
  simp only [State.fleetEvent]
  generalize fleetPut _ _ = q
  have h1 : (State.wr { s with fio := { s.fio with queue := q.1 } } A.mgtSeq ((s.rd A.mgtSeq + 1) % 2 ^ 32)).Calm :=
    (h.with_fio _).wr _ _ (by decide)
  have h2 := h1.wrf A.mgtStat 8 7 q.1.length (by decide)
  split
  · exact (h2.bump A.mgtLost).raise 0x358000 9 (by decide)
  · exact h2

theorem State.Calm.setSvc (h : s.Calm) (p new cause : Nat) (hp : p % 0x1000 = 0) : (s.setSvc p new cause).Calm := by
  simp only [State.setSvc]
  split
  · exact h
  · exact ((h.wrf (p + 0x00C) 2 3 new (by decide)).raise p 4 hp).fleetEvent 5 _

theorem ringSlot_lt {w r i : Nat} (hw : w < 64) (h : ringSlot w r = some i) : i < 64 := by
  unfold ringSlot at h
  split at h
  · cases h
  · cases h
    exact hw

theorem State.Calm.secLog (h : s.Calm) (code detail : Nat) : (s.secLog code detail).Calm := by
  have h1 : ({ s with sec := { s.sec with logSeq := (s.sec.logSeq + 1) % 2 ^ 32 } } : State).Calm := h.of_eq rfl rfl
  simp only [State.secLog]
  split
  · exact h1.bump A.secLogLost
  · exact ((h1.wrWords _ _ (.inr (by unfold A.secLogRec; omega))).wr A.secLogWr _ (by decide)).raise 0x360000 12 (by decide)

theorem State.Calm.safLog (h : s.Calm) (code robot : Nat) (stop : Bool) (detail : Nat) : (s.safLog code robot stop detail).Calm := by
  have h1 : ({ s with saf := { s.saf with logSeq := (s.saf.logSeq + 1) % 2 ^ 32 } } : State).Calm := h.of_eq rfl rfl
  simp only [State.safLog]
  refine .ite (.fleetEvent ?counted 4 _) ?counted
  refine .ite ?entered (.raise (.bump ?entered A.safWarnCnt) 0x330000 10 (by decide))
  split
  · exact h1.bump A.safLogLost
  · next i hi =>
    have hlt := ringSlot_lt (Nat.mod_lt _ (by decide)) hi
    exact ((h1.wrWords _ _ (.inl (by simp only [A.safLogRec, List.length_cons, List.length_nil]; omega))).wr A.safLogWr _
      (by decide)).raise 0x330000 11 (by decide)

theorem State.Calm.reject (h : s.Calm) (src : Source) (a : Nat) : (s.reject src a).Calm := by
  have hp : pageBase a % 0x1000 = 0 := Nat.mul_mod_left _ _
  have h2 := ((((h.wrb (pageBase a + 0x00C) 8 true (by decide)).bump (pageBase a + 0x014)).wr (pageBase a + 0x018)
    (a % 0x1000 + srcCode src * 2 ^ 16 + srcId src * 2 ^ 24) (by omega))).raise (pageBase a) 0 hp
  exact .ite (h2.safLog _ _ _ _) (.ite (h2.secLog _ _) h2)

theorem State.Calm.heatCut (h : s.Calm) : s.heatCut.Calm :=
  .ite (((State.Calm.of_eq (t := s.setThm _) h rfl rfl).wr A.thmKwPower _ (by decide)).wrb A.thmStat 5 _ (by decide)) h

/-! ### Memory (R304, R523) -/

theorem State.Calm.recordUe (h : s.Calm) (cls id w : Nat) : (s.recordUe cls id w).Calm :=
  ((((h.bump A.spdUeCnt).wr64 A.spdUeAddr w (by decide) (by decide)).wr A.spdUeInfo _ (by decide)).pageErr
    0x300000 0x0100 _ (by decide)).raise 0x300000 8 (by decide)

theorem State.Calm.corrected (h : s.Calm) (ws : List Nat) : (s.corrected ws).Calm :=
  (h.bump32 A.spdCeCnt ws.length (by decide)).of_eq rfl rfl

theorem State.Calm.fetch (h : s.Calm) (cls id a n : Nat) : (s.fetch cls id a n).2.Calm := by
  simp only [State.fetch]
  split
  · exact h.corrected _
  · exact (h.corrected _).recordUe cls id _

theorem State.Calm.readAll (h : s.Calm) (cls id a n : Nat) : (s.readAll cls id a n).Calm :=
  (h.corrected _).foldl _ (fun _ w _ ht => ht.recordUe cls id w)

theorem State.Calm.store (h : s.Calm) (a : Nat) (bs : List Byte) : (s.store a bs).Calm := h.of_eq rfl rfl

/-! ### The calibration store -/

theorem State.Calm.calMask (h : s.Calm) (a r : Nat) (b : Bool) (ha : a ≠ 0x358090) (hb : a + 4 ≠ 0x358090) :
    (s.calMask a r b).Calm := h.wr64 a _ ha hb

theorem State.Calm.calApply (h : s.Calm) (r : Nat) : (s.calApply r).Calm :=
  ((h.with_cal _).calMask A.calPend r false (by decide) (by decide)).raise 0x370000 9 (by decide)

theorem State.Calm.calCommitted (h : s.Calm) (r : Nat) : (s.calCommitted r).Calm := by
  have masked (c : CalState) (b : Bool) := (((h.with_cal c).calMask A.calValid r true (by decide) (by decide)).calMask A.calFactory r b
    (by decide) (by decide)).calMask A.calPend r true (by decide) (by decide)
  have counted (c : CalState) (b : Bool) := (masked c b).bump32 A.calWrites 1 (by decide)
  simp only [State.calCommitted]
  split
  · exact (counted _ _).calApply r
  · exact (counted _ _).with_cal _
  · exact .ite ((counted _ _).calApply r) (counted _ _)
  · exact (counted _ _).with_cal _
  · exact counted _ _

theorem State.Calm.calReads (h : s.Calm) (a : Nat) : (s.calReads a).Calm := .ite h (h.readAll _ _ _ _)

theorem State.Calm.calStart (h : s.Calm) (src : Source) (r : CalRun) : (s.calStart src r).Calm :=
  ((h.with_cal _).wrb A.calCmdStat 3 true (by decide)).wrf A.calCmdStat 24 3 _ (by decide)

theorem State.Calm.calWrite (h : s.Calm) (src : Source) : (s.calWrite src).Calm := by
  have hr := h.calReads (s.calXfer src)
  unfold State.calWrite
  split
  · exact hr.calStart src _
  · exact ((hr.with_cal _).calCommitted _).calStart src _

theorem State.Calm.calExport (h : s.Calm) (src : Source) : (s.calExport src).Calm :=
  .ite (h.calStart src _) ((h.store _ _).calStart src _)

theorem State.Calm.calRestoreRegions (h : s.Calm) (img : List Host.Cell) (ue l : List Nat) : (s.calRestoreRegions img ue l).1.Calm := by
  induction l generalizing s with
  | nil => exact h
  | cons r t ih =>
    simp only [State.calRestoreRegions]
    split
    · exact ih h
    · split
      · exact ih ((h.with_cal _).calCommitted r)
      · exact ih h

theorem State.Calm.calRestore (h : s.Calm) (src : Source) : (s.calRestore src).Calm := by
  have hr := h.readAll 5 0x14 (s.calXfer src) 0x8000
  unfold State.calRestore
  extract_lets a fail bs t done_
  refine .ite (h.calStart src _) (.ite (h.calStart src _) (.ite (hr.calStart src _) (.ite (hr.calStart src _) ?_)))
  rcases hx : t.calRestoreRegions (cellsOf bs) ((wordsIn s.spd.ue a 0x8000).map (fun w => w - a)) calRegions with ⟨u, l⟩
  have hu := hr.calRestoreRegions (cellsOf bs) ((wordsIn s.spd.ue a 0x8000).map (fun w => w - a)) calRegions
  rw [hx] at hu
  exact hu.calStart src _

theorem State.Calm.calCmd (h : s.Calm) (src : Source) (v : Nat) : (s.calCmd src v).Calm :=
  .ite h (.ite (h.pageErr 0x370000 0x0106 0 (by decide)) (.ite (h.calWrite src) (.ite (h.calExport src) (h.calRestore src))))

/-! ### Pins and reports -/

theorem State.Calm.driveGpio (h : s.Calm) : s.driveGpio.Calm := .ite (h.of_eq rfl rfl) h

theorem State.Calm.queueFreed (h : s.Calm) : s.queueFreed.Calm := .ite h (h.of_eq rfl rfl)

/-! ### Towpath and triggers -/

theorem State.Calm.setEntry (h : s.Calm) (e : Nat) (x : TowEntry) : (s.setEntry e x).Calm :=
  ((h.with_tow _).wrb (entryWord e 1) 23 x.armed (by decide)).wr A.towArmedCnt _ (by decide)

theorem State.Calm.forgetCrossings (h : s.Calm) (page : Nat) : (s.forgetCrossings page).Calm :=
  h.foldl _ (fun _ e _ ht => .ite (ht.setEntry e _) ht)

theorem State.Calm.setTrg (h : s.Calm) (n : Nat) (x : TrgOut) : (s.setTrg n x).Calm := by
  have h1 : ({ s with tow := { s.tow with trg := upd (fun _ => x) s.tow.trg n } } : State).Calm := h.of_eq rfl rfl
  exact (h1.wr A.towTrgStat _ (by decide)).wr A.towTrgStat _ (by decide)

theorem State.Calm.trgDrop (h : s.Calm) (n : Nat) : (s.trgDrop n).Calm := (h.bump _).raise 0x10000 11 (by decide)

/-- Work of this node that joins the work held. -/
theorem State.Calm.held (h : s.Calm) (p : Nat) (w : Work) (hw : w.remote = false) :
    ({ s with waitIn := s.waitIn ++ [(p, w)] } : State).Calm := by
  refine ⟨h.noAccess, fun x hx => ?_⟩
  rcases List.mem_append.mp hx with hx | hx
  · exact h.noRemote x hx
  · rw [List.mem_singleton.mp hx]
    exact hw

theorem State.Calm.trigger (h : s.Calm) (n width : Nat) : (s.trigger n width).Calm := by
  refine .ite (h.held _ _ rfl) (.ite (h.trgDrop n) ?_)
  split
  · exact h.setTrg n _
  · exact h.setTrg n _

theorem State.Calm.trgDisabled (h : s.Calm) (n : Nat) : (s.trgDisabled n).Calm := by
  refine .ite (.trgDrop (.setTrg ?running n _) n) ?running
  split
  · exact .ite ((h.setTrg n _).trgDrop n) h
  · exact h

theorem State.Calm.askOpen (h : s.Calm) : s.askOpen.Calm := .ite h (h.of_eq rfl rfl)

/-! ### Completion rings and the dispatcher -/

theorem State.Calm.setCq (h : s.Calm) (n : Nat) (r : CqRing) : (s.setCq n r).Calm :=
  (h.with_hst _).wr (A.hstCqHeld n) _ (by unfold A.hstCqHeld; omega)

theorem State.Calm.cqSignal (h : s.Calm) (n : Nat) : (s.cqSignal n).Calm := .ite h (.ite ((h.setCq n _).sendMsix _) h)

theorem State.Calm.cqWrite (h : s.Calm) (n : Nat) (rec : List Byte) : (s.cqWrite n rec).Calm :=
  ((((h.emit _).wr (A.hstCqPi n) _ (by unfold A.hstCqPi; omega)).emit _).setCq n _).cqSignal n

theorem State.Calm.cqPush (h : s.Calm) (n : Nat) (rec : List Byte) : (s.cqPush n rec).Calm := by
  have lost := (h.bump (A.hstCqLost n)).raise 0x312000 8 (by decide)
  exact .ite lost (.ite (h.cqWrite n rec) (.ite (h.starting 0x312000 (fun _ ht => ht.setCq n _)) lost))

theorem State.Calm.basinEdge (h : s.Calm) (b before : Nat) : (s.basinEdge b before).Calm := .ite (h.raise 0x200000 12 (by decide)) h

theorem State.Calm.basinGrown (h : s.Calm) (b before : Nat) : (s.basinGrown b before).Calm :=
  .basinEdge (.ite (h.wr (A.dspBHwm b) _ (by unfold A.dspBHwm; omega)) h) b before

theorem State.Calm.complete (h : s.Calm) (b : Barge) (status result engine : Nat) (started : Bool) :
    (s.complete b status result engine started).Calm := by
  have hf := h.fetch 5 0x0B b.caddr 8
  simp only [State.complete]
  split
  · exact h.cqPush _ _
  · exact .ite h (h.store _ _)
  · refine .ite h ?_
    split
    · next hx => exact (hf.of_snd hx).store _ _
    · next hx => exact hf.of_snd hx
  · exact h

theorem State.Calm.countExpired (h : s.Calm) (b : Barge) : (s.countExpired b).Calm :=
  ((h.bump32 A.dspExpired 1 (by decide)).bump _).raise 0x200000 8 (by decide)

theorem State.Calm.expired (h : s.Calm) (b : Barge) : ((s.countExpired b).retireBarge b 0x02).Calm :=
  (h.countExpired b).complete b _ _ _ _

theorem State.Calm.lockPass (h : s.Calm) (l : Nat) (bs : List Barge) : (s.lockPass l bs).Calm := by
  induction bs generalizing s with
  | nil => exact h
  | cons b t ih =>
    have h1 := h.with_dsp { s.dsp with waiting := s.dsp.waiting.filter (fun x => x.acc ≠ b.acc) }
    exact .ite (ih h) (.ite (ih (h1.expired b)) (h1.with_dsp _))

theorem State.Calm.expire (h : s.Calm) (b : Barge) : (s.expire b).Calm := ((h.with_dsp _).expired b).lockPass _ _

theorem State.Calm.give (h : s.Calm) (e rd buf : Nat) (b : Barge) : (s.give e rd buf b).Calm :=
  (((((h.with_dsp _).store buf _).bump32 (A.dspBStarted b.basin) 1 (by unfold A.dspBStarted; omega)).with_dsp _).with_dsp _)

theorem State.Calm.serveTakers (h : s.Calm) (n : Nat) : (s.serveTakers n).Calm := by
  induction n generalizing s with
  | zero => exact h
  | succ n ih =>
    unfold State.serveTakers
    split
    · exact h
    · exact .ite (ih (h.expire _)) (ih (h.give _ _ _ _))

theorem State.Calm.settle (h : s.Calm) : s.settle.Calm := h.serveTakers _

theorem State.Calm.refuse (h : s.Calm) (osrc : Nat) (b : Barge) (code : Nat) : (s.refuse osrc b code).Calm := by
  have h1 := (h.bump32 A.dspRefused 1 (by decide)).bump (A.dspBRefused b.basin)
  simp only [State.refuse]
  exact .ite (.pageErr (.ite (h1.pageErr 0x200000 0x0100 _ (by decide)) h1) 0x200000 0x0101 0 (by decide))
    (.ite (h1.pageErr 0x200000 0x0100 _ (by decide)) h1)

theorem State.Calm.accept (h : s.Calm) (b : Barge) (resv : Bool) : (s.accept b resv).Calm :=
  .settle (.basinGrown (.bump32 (.ite (h.with_dsp _) (h.with_dsp _)) A.dspAccepted 1 (by decide)) b.basin _)

theorem State.Calm.offer (h : s.Calm) (osrc orig : Nat) (words : List Nat) (sec resv : Bool) :
    (s.offer osrc orig words sec resv).2.Calm := by
  simp only [State.offer]
  split
  · exact h.accept _ resv
  · exact h.refuse osrc _ _

/-! ### Frames of the sensors -/

theorem ingPage_mod (k : Nat) : ingPage k % 0x1000 = 0 := by
  unfold ingPage
  omega

/-- The registers of a slot stand in the first 0x300 bytes of a page from 0x100 on. -/
theorem slotReg_ne (k off : Nat) (ho : off < 0x100) : slotReg k off ≠ 0x358090 := by
  unfold slotReg ingPage
  omega

theorem State.Calm.setSlot (h : s.Calm) (k : Nat) (x : RxSlot) : (s.setSlot k x).Calm :=
  (h.with_ing _).wr (slotReg k 0x40) _ (slotReg_ne k _ (by decide))

theorem State.Calm.slotBad (h : s.Calm) (k : Nat) : (s.slotBad k).Calm :=
  (h.wrb (slotReg k 0x3C) 0 false (by decide)).pageErr (ingPage k) 0x0101 _ (ingPage_mod k)

theorem State.Calm.slotIrq (h : s.Calm) (k i : Nat) : (s.slotIrq k i).Calm := h.raise (ingPage k) _ (ingPage_mod k)

theorem State.Calm.convert (h : s.Calm) (x : RxFrame) (n : Nat) : (s.convert x n).1.Calm := by
  induction n generalizing s x with
  | zero => exact h
  | succ n ih =>
    simp only [State.convert]
    split
    · split
      · exact ih (h.store _ _) _
      · exact ih h _
    · exact h

theorem State.Calm.frameAway (h : s.Calm) (k : Nat) : (s.frameAway k).Calm := by
  unfold State.frameAway
  split
  · exact h
  · exact h.setSlot k _

theorem State.Calm.frameDrop (h : s.Calm) (k last : Nat) : (s.frameDrop k last).Calm := by
  unfold State.frameDrop
  split
  · exact h
  · exact ((h.frameAway k).bump _).slotIrq k 3

theorem State.Calm.bufRuns (h : s.Calm) (k b : Nat) : (s.bufRuns k b).Calm := (h.setSlot k _).with_ing _

theorem State.Calm.handOver (h : s.Calm) (k b : Nat) : (s.handOver k b).Calm := by
  have h1 := (h.setSlot k ((s.slot k).setBuf b { nth {} (s.slot k).bufs b with handed := s.now })).with_ing
  exact .ite ((h1 _).bufRuns k b) (h1 _)

theorem State.Calm.frameOver (h : s.Calm) (k : Nat) : (s.frameOver k).Calm := (h.bump _).slotIrq k 2

theorem State.Calm.frameOpen (h : s.Calm) (k num : Nat) (corr : Bool) (at_ : Nat) (stamp : Nat × Nat × Bool) :
    (s.frameOpen k num corr at_ stamp).Calm :=
  .ite (h.frameOver k) (.setSlot (.ite (h.bump _) h) k _)

theorem State.Calm.frameBegin (h : s.Calm) (k num : Nat) (corr : Bool) (at_ : Nat) (stamp : Nat × Nat × Bool) :
    (s.frameBegin k num corr at_ stamp).Calm :=
  .ite (h.frameOpen k num corr at_ stamp) (.ite ((h.setSlot k _).frameOpen k num corr at_ stamp) (h.slotBad k))

theorem State.Calm.frameEnd (h : s.Calm) (k at_ : Nat) : (s.frameEnd k at_).Calm := by
  simp only [State.frameEnd]
  split
  · exact h
  · refine .ite (h.frameDrop k 0x50) (.ite (h.frameDrop k 0x54) (.ite (((h.frameAway k).bump _).slotIrq k 3) ?_))
    have stored (a bs x) : (((State.setSlot (s.store a bs) k x).bump32 (slotReg k 0x60) 1).slotIrq k 0).Calm :=
      (((h.store a bs).setSlot k x).bump32 _ 1 (slotReg_ne k _ (by decide))).slotIrq k 0
    exact .ite ((stored _ _ _).bufRuns k _) (.ite (stored _ _ _) ((stored _ _ _).handOver k _))

theorem State.Calm.frameLine (h : s.Calm) (k dt : Nat) (data : List Byte) (crcOk corr : Bool) :
    (s.frameLine k dt data crcOk corr).Calm := by
  simp only [State.frameLine]
  split
  · exact h
  · exact (h.convert _ _).setSlot k _

theorem State.Calm.hdrDamage (h : s.Calm) (k : Nat) : (s.hdrDamage k).Calm := by
  refine .ite (h.held _ _ rfl) ?_
  split
  · exact h
  · exact h.setSlot k _

theorem State.Calm.frameCorr (h : s.Calm) (k hdr : Nat) : (s.frameCorr k hdr).Calm := by
  unfold State.frameCorr
  split
  · exact h
  · exact .ite (h.setSlot k _) h

/-! ### Packets -/

theorem State.Calm.sendOn (h : s.Calm) (k : Nat) (hd : Header) (payload : List Nat) : (s.sendOn k hd payload).Calm :=
  (((h.bump32 (A.aqdLTx k) 1 (by unfold A.aqdLTx; omega)).emit _).with_aqd _)

theorem State.Calm.packet (h : s.Calm) (hd : Header) (payload : List Nat) : (s.packet hd payload).2.Calm := by
  simp only [State.packet]
  split
  · exact h
  · exact h.sendOn _ hd payload
  · exact (h.draw 1).sendOn _ hd payload

theorem State.Calm.broadcast (h : s.Calm) (op : Nat) (payload : List Nat) : (s.broadcast op payload).Calm :=
  h.foldl _ (fun _ _ _ ht => ht.packet _ payload)

theorem State.Calm.pinsetSend (h : s.Calm) : s.pinsetSend.Calm := .ite h ((h.with_aqd _).broadcast 0x03 _)

/-! ### The world map -/

theorem State.Calm.setRefs (h : s.Calm) (fine : Bool) (k n : Nat) : (s.setRefs fine k n).Calm := (h.with_wld _).store _ _

theorem State.Calm.dropFine (h : s.Calm) (f : Nat) : (s.dropFine f).Calm :=
  .ite ((h.setRefs true f _).with_wld _) (h.setRefs true f _)

theorem State.Calm.dropCoarse (h : s.Calm) (c : Nat) : (s.dropCoarse c).Calm :=
  .ite (((h.setRefs false c _).with_wld _).foldl _ (fun _ x _ ht => ht.dropFine x.2)) (h.setRefs false c _)

theorem State.Calm.wldBusy (h : s.Calm) : s.wldBusy.Calm := h.setBusy 0x30000 _ (by decide)

theorem State.Calm.copyRegions (h : s.Calm) (base : Nat) (prev : Nat → Nat) (r n : Nat) : (s.copyRegions base prev r n).2.Calm := by
  induction n generalizing s r with
  | zero => exact h
  | succ n ih =>
    have hf := h.fetch 5 5 (base + 8 * r) 8
    simp only [State.copyRegions]
    split
    · next hx => exact ih (hf.of_snd hx) _
    · next hx => exact ih ((hf.of_snd hx).pageErr 0x30000 0x0106 r (by decide)) _

theorem State.Calm.poolInit (h : s.Calm) : s.poolInit.Calm := by
  have hc (base prev n) := h.copyRegions base prev 0 n
  simp only [State.poolInit]
  exact .ite (h.pageErr 0x30000 0x0107 0 (by decide)) (.ite (h.pageErr 0x30000 0x0100 0 (by decide)) ((hc _ _ _).with_wld _).wldBusy)

theorem State.Calm.showEpochs (h : s.Calm) : s.showEpochs.Calm :=
  ((h.wrf A.wldStat 4 3 _ (by decide)).wr A.wldEpochNewest _ (by decide)).wr A.wldEpochOldest _ (by decide)

theorem State.Calm.retireSet (h : s.Calm) (set : Nat) : (s.retireSet set).Calm := h.foldl _ (fun _ c _ ht => ht.dropCoarse c)

theorem State.Calm.retire (h : s.Calm) : s.retire.Calm := by
  have hp := h.pinsetSend
  simp only [State.retire]
  refine .showEpochs (.foldl ?_ _ (fun _ e _ ht => ht.retireSet e.set))
  exact hp.with_wld _

theorem State.Calm.startLoad (h : s.Calm) : s.startLoad.Calm := by
  unfold State.startLoad
  split
  · exact .ite (((h.with_wld _).wr A.wldLoadDoneCnt 0 (by decide)).wrb A.wldStat 1 true (by decide)).wldBusy.heatCut h
  · exact h

theorem State.Calm.loadGo (h : s.Calm) : s.loadGo.Calm :=
  .ite (h.pageErr 0x30000 0x0104 0 (by decide)) (.ite (h.bump A.wldLoadBusy) (h.with_wld _).startLoad)

theorem State.Calm.fusLaunch (h : s.Calm) (addr cnt acc x : Nat) : (s.fusLaunch addr cnt acc x).Calm :=
  .ite ((h.with_dsp _).pageErr 0x30000 0x0104 0 (by decide)) (h.with_wld _).startLoad

theorem State.Calm.attCmd (h : s.Calm) (n v : Nat) : (s.attCmd n v).Calm :=
  .ite h (.ite (h.pageErr 0x30000 0x0104 0 (by decide)) ((h.with_wld _).wrb (A.wldAttStat n) 16 true (by decide)).wldBusy)

/-! ### Cuts -/

theorem State.Calm.cutStart (h : s.Calm) : s.cutStart.Calm :=
  .ite (h.pageErr 0x30000 0x0104 0 (by decide)) (.ite (h.bump A.wldCutMerged) ((h.with_wld _).wrb A.wldStat 2 true (by decide)).wldBusy)

theorem State.Calm.fabPrepare (h : s.Calm) (epoch : Nat) : (s.fabPrepare epoch).Calm := by
  unfold State.fabPrepare
  split
  · exact h
  · exact .ite h ((h.starting 0x320000 (fun _ ht => (ht.with_wld _).with_aqd _)).wrb A.wldStat 2 true (by decide)).wldBusy

theorem State.Calm.coordRequest (h : s.Calm) : s.coordRequest.Calm := by
  refine .ite h ?_
  split
  · exact h
  · exact ((h.with_aqd _).broadcast 0x05 _).fabPrepare _

theorem State.Calm.cutRequest (h : s.Calm) : s.cutRequest.Calm :=
  .ite (.ite (h.pageErr 0x30000 0x0104 0 (by decide)) (.ite (h.bump A.wldCutMerged)
    (.ite (h.with_aqd _).coordRequest ((h.with_aqd _).packet _ _))))
    h.cutStart

/-! ### Robots, sweep and paths -/

theorem cndPage_mod (r : Nat) : cndPage r % 0x1000 = 0 := by
  unfold cndPage
  omega

theorem lgPage_mod (g : Nat) : lgPage g % 0x1000 = 0 := by
  unfold lgPage
  omega

theorem State.Calm.cndBusy (h : s.Calm) (r : Nat) : (s.cndBusy r).Calm :=
  State.Calm.setBusy (h.wr (A.cndRStat r) _ (by unfold A.cndRStat; omega)) (cndPage r) _ (cndPage_mod r)

theorem State.Calm.fetchLocal (h : s.Calm) (id a n : Nat) : (s.fetchLocal id a n).2.Calm := by
  unfold State.fetchLocal
  split
  · exact h.fetch 5 id a n
  · exact h

theorem State.Calm.loadStart (h : s.Calm) (r : Nat) : (s.loadStart r).Calm := by
  rcases hd : s.fetchLocal 6 (s.rd64 (A.cndRDescAddr r) % 2 ^ 48) 3648 with ⟨bd, sd⟩
  rcases ht : s.fetchLocal 6 (s.rd64 (A.cndRToolAddr r) % 2 ^ 48) 1600 with ⟨bt, st⟩
  have hsd := (h.fetchLocal _ _ _).of_snd hd
  have hst := (h.fetchLocal _ _ _).of_snd ht
  unfold State.loadStart
  rw [hd, ht]
  dsimp only
  split
  · exact h
  · exact .ite h (.ite (hsd.with_pass _) (hst.with_pass _))

theorem State.Calm.groupFill (h : s.Calm) (g : Nat) : (s.groupFill g).Calm := by
  unfold State.groupFill
  split
  · exact h
  · refine .ite h ?_
    split
    · exact h
    · exact ((h.with_pass _).setBusy (lgPage g) true (lgPage_mod g)).heatCut

theorem State.Calm.groupsFill (h : s.Calm) : s.groupsFill.Calm := h.foldl _ (fun _ g _ ht => ht.groupFill g)

theorem State.Calm.showPath (h : s.Calm) (r : Nat) : (s.showPath r).Calm := by
  have shown (t v) : ((s.wr64 (A.swpRPathT0 r) t).wr (A.swpRPath r) v).Calm :=
    (h.wr64 _ t (by unfold A.swpRPathT0; omega) (by unfold A.swpRPathT0; omega)).wr _ v (by unfold A.swpRPath; omega)
  unfold State.showPath
  split
  · exact shown _ _
  · exact shown _ _

theorem State.Calm.dropPaths (h : s.Calm) : s.dropPaths.Calm :=
  (((h.with_pass _).with_pass _).with_pass _).foldl _ (fun _ r _ ht => ht.showPath r)

/-! ### Links and peers -/

theorem linkPage_mod (n : Nat) : linkPage n % 0x1000 = 0 := by
  unfold linkPage
  omega

theorem State.Calm.linkStart (h : s.Calm) (n cause : Nat) : (s.linkStart n cause).Calm :=
  .ite h (.ite (h.pageErr 0x320000 0x0110 0 (by decide))
    ((h.starting (linkPage n) (fun _ ht => ht.wr (A.aqdLStat n) _ (by unfold A.aqdLStat; omega))).setSvc _ 3 cause (linkPage_mod n)))

theorem State.Calm.linkSelf (h : s.Calm) (n : Nat) : (s.linkSelf n).Calm := .ite (h.linkStart n 1) h

theorem State.Calm.peerKeep (h : s.Calm) (u : SvcUnit) : (s.peerKeep u).Calm := by
  cases u <;> exact h.with_aqd _

theorem State.Calm.peersFollow (h : s.Calm) : s.peersFollow.Calm := by
  simp only [State.peersFollow]
  refine .ite (.peerKeep ?kept .node) ?kept
  exact (h.with_aqd _).foldl _ (fun _ u _ ht => ht.peerKeep u)

/-! ### Doorbells of the host -/

theorem State.Calm.inletDoorbell (h : s.Calm) (n v : Nat) : (s.inletDoorbell n v).Calm := by
  have h1 (r) := h.wrf (A.hstInStat n) 0 3 r (by decide)
  refine .ite (((h1 _).bumpF (A.hstInRef n)).raise inletPage 8 (by decide)) (State.Calm.foldl ?_ _ (fun _ x _ ht => ht.emit x))
  exact ((h1 _).wr (A.hstInPi n) v (by unfold A.hstInPi; omega)).basinGrown _ _

theorem State.Calm.dmaDoorbell (h : s.Calm) (c v : Nat) : (s.dmaDoorbell c v).Calm := by
  have h1 := h.starting hstPage (f := fun t => (t.setDmaPi c v).wrb (A.hstDmaStat c) 9 true)
    (fun _ ht => (ht.with_hst _).wrb _ 9 true (by decide))
  exact .ite h (.ite (h1.emit _) h1)

/-! ### The island -/

theorem State.Calm.safStop (h : s.Calm) (code robot detail : Nat) : (s.safStop code robot detail).Calm := by
  have hl := h.safLog code robot true detail
  simp only [State.safStop]
  exact .dropPaths (.with_pass (.with_saf (.raise (.wrf (.wr hl A.safStat _ (by decide)) A.safChStat 0 2 0
    (by decide)) safPage 8 (by decide)) _) _)

theorem State.Calm.verifyIncomplete (h : s.Calm) : s.verifyIncomplete.Calm :=
  .safStop (.quietEdge (.retire (.wr (.with_saf h _) A.wldPinMoor 0 (by decide))) safPage _ (by decide)) 0x11 0 0

theorem State.Calm.verifyStart (h : s.Calm) : s.verifyStart.Calm := by
  have ho := h.offer 5 0 s.mooringBarge false false
  exact .ite h.verifyIncomplete (.ite ho.verifyIncomplete (ho.with_saf _))

/-! ### Security commands -/

theorem State.Calm.readRecord (h : s.Calm) (a : Nat) (blob : Bool) : (s.readRecord a blob).2.Calm := by
  rcases hh : s.fetch 3 0 a 64 with ⟨o, s1⟩
  have h1 := (h.fetch _ _ _ _).of_snd hh
  unfold State.readRecord
  rw [hh]
  split
  · exact h
  · cases o with
    | none => exact h1
    | some hd =>
      dsimp only
      rcases hb : s1.fetch 3 0 (a + 64) (uWord hd 8) with ⟨o2, s2⟩
      have h2 := (h1.fetch _ _ _ _).of_snd hb
      refine .ite_snd h1 (.ite_snd h1 (.ite_snd h1 ?_))
      cases o2 with
      | none => exact h2
      | some d =>
        refine .ite_snd h2 ?_
        split
        · exact h2
        · exact .ite_snd h2 h2

theorem State.Calm.tokenCheck (h : s.Calm) (a : Nat) : (s.tokenCheck a).2.Calm := by
  rcases ht : s.fetch 3 0 a 176 with ⟨o, s1⟩
  have h1 := (h.fetch _ _ _ _).of_snd ht
  unfold State.tokenCheck
  rw [ht]
  refine .ite_snd h ?_
  cases o with
  | none => exact h1
  | some t => exact h1

theorem State.Calm.otpData (h : s.Calm) (a n : Nat) : (s.otpData a n).2.2.Calm := by
  rcases hd : s.fetch 3 0 a n with ⟨o, s1⟩
  have h1 := (h.fetch _ _ _ _).of_snd hd
  unfold State.otpData
  rw [hd]
  split
  · exact h
  · cases o with
    | none => exact h1
    | some d => exact h1

theorem State.Calm.secCheck (h : s.Calm) (op key : Nat) : (s.secCheck op key).2.Calm := by
  unfold State.secCheck
  extract_lets a arg0 arg1 lc
  clear_value a
  split
  · rcases ht : s.tokenCheck a with ⟨r, s1⟩
    exact .ite_snd h (.ite_snd h (.ite_snd ((h.tokenCheck a).of_snd ht) h))
  · exact .ite_snd h (.ite_snd h (h.readRecord a false))
  · exact .ite_snd h (.ite_snd h (.ite_snd h (.ite_snd h h)))
  · exact .ite_snd h (.ite_snd h (h.readRecord a true))
  · refine .ite_snd h ?_
    split
    · next n _ _ _ =>
      rcases hd : s.otpData a n with ⟨r, d, s1⟩
      have h1 := h.otpData a n
      rw [hd] at h1
      exact .ite_snd h h1
    · exact h
  · exact h
  · exact h

theorem State.Calm.testStart (h : s.Calm) : s.testStart.Calm :=
  .ite (h.with_sec _) (((h.with_sec _).wrb A.secHuStat 3 true (by decide)).wrb A.secHuStat 5 false (by decide))

theorem State.Calm.secCmd (h : s.Calm) (v : Nat) : (s.secCmd v).Calm := by
  unfold State.secCmd
  extract_lets op
  rcases hc : s.secCheck op (v / 2 ^ 16 % 2 ^ 16) with ⟨x, s1⟩
  have h1 := (h.secCheck _ _).of_snd hc
  refine .ite h (.ite ((((h.wrf A.secCmdStat 0 4 6 (by decide)).secLog 0x38 6).pageErr secPage 0x0100 _
    (by decide)).raise secPage 8 (by decide)) ?_)
  refine .ite (.testStart ?run) ?run
  exact (h1.starting secPage (fun _ ht => ht.with_sec _)).wr A.secCmdStat _ (by decide)

/-! ### Work held and PAGE_CTRL (R51, R52) -/

theorem State.Calm.runWork (h : s.Calm) (w : Work) : (s.runWork w).Calm := by
  cases w with
  | poolInit => exact h.poolInit
  | loadGo => exact h.loadGo
  | cut => exact h.cutRequest
  | fus addr cnt acc x => exact h.fusLaunch addr cnt acc x
  | att n v => exact h.attCmd n v
  | pulse n w => exact h.trigger n w
  | passOpen => exact h.askOpen
  | frameStart k num corr at_ stamp => exact (h.frameDrop k 0x50).frameBegin k num corr at_ stamp
  | frameLine k dt data crcOk corr => exact h.frameLine k dt data crcOk corr
  | frameEnd k hdr at_ => exact (h.frameCorr k hdr).frameEnd k at_
  | frameBad k => exact h.hdrDamage k
  | sec v => exact h.secCmd v
  | cal src v => exact h.calCmd src v
  | inlet n v => exact h.inletDoorbell n v
  | dma c v => exact h.dmaDoorbell c v
  | verify => exact h.verifyStart
  | remoteRead => exact h
  | remoteWrite => exact h
  | remoteOffer => exact h

theorem State.Calm.releaseWork (h : s.Calm) (p : Nat) : (s.releaseWork p).Calm := by
  refine .ite (State.Calm.foldl ?_ _ (fun _ x _ ht => ht.runWork x.2)) h
  exact ⟨h.noAccess, fun x hx => h.noRemote x (List.mem_of_mem_filter hx)⟩

/-- What a change of PAGE_CTRL sets going starts no MDIO access and holds no request of another node. -/
theorem State.Calm.ctrlHook (h : s.Calm) (p old : Nat) : (State.ctrlHook p old s).Calm := by
  have h1 := (h.stuckUpd p).releaseWork p
  unfold State.ctrlHook
  dsimp only
  cases pageRow p with
  | none => exact h1
  | some r =>
    dsimp only
    split
    · exact .ite h1 (h1.foldl _ (fun _ k _ ht => ht.trgDisabled k))
    · exact .ite h1 (h1.forgetCrossings _)
    · exact h1.startLoad
    · exact h1.peersFollow
    · exact (h1.loadStart _).cndBusy _
    · exact h1.groupsFill
    · exact h1.groupsFill
    · exact h1.settle
    · exact h1.settle
    · exact h1.driveGpio
    · exact h1.queueFreed
    · exact .ite (h1.linkSelf 0) h1
    · exact .ite (h1.linkSelf _) h1
    · exact h1

/-- So does the write of any header word (Table PAG-7). -/
theorem State.Calm.writeHeader (h : s.Calm) (src : Source) (r : PageRow) (a v : Nat) (ha : a % 0x1000 < 0x34) :
    (bus.writeHeader src r a v s).Calm := by
  have hn : a ≠ 0x358090 := by omega
  unfold Bus.writeHeader
  dsimp only
  split
  · exact (h.wr a _ hn).ctrlHook _ _
  · have hp : pageBase a % 0x1000 = 0 := Nat.mul_mod_left _ _
    exact .ite (((h.wr a _ hn).wr (pageBase a + 0x02C) 0 (by omega)).wr (pageBase a + 0x030) 0 (by omega)) (h.wr a _ hn)
  · exact .ite (h.reject src a) (h.wr a _ hn)
  · exact h.wr a _ hn
  · exact .ite ((h.wr a _ hn).sendMsix _) (h.wr a _ hn)
  · exact .ite ((h.wr a _ hn).sendMsix _) (h.wr a _ hn)
  · exact h.wr a _ hn
  · exact h

end Sys2Proof.Machine
end

section
/-!
SUPPORT. Writes of 64-bit registers and the staged low word (R37, R40).
-/
namespace Sys2Proof.Machine

/-! ### Writes as commands (R37) -/

/-- A register written whole takes the low 32 bits of the value. -/
theorem State.put_mod (s : State) (src : Source) (a v : Nat) : s.put src a (v % 2 ^ 32) = s.put src a v := by
  rw [State.put, Nat.mod_mod]
  rfl

/-- A write inside the register space is never one of configuration space. -/
theorem execRegisterWrite_mapped (src : Source) {a : Nat} (be v : Nat) (wide : Bool) (s : State) (h26 : a < 2 ^ 26) :
    exec (.registerWrite src a be v wide) s =
      if wide then .next (s.writeDWord src (regAddr a / 8 * 8) be v)
      else .next (s.writeWord src (regAddr a) (be % 16) (v % 2 ^ 32)) := by
  have hn : ¬ 2 ^ 26 ≤ a := by omega
  change execRegisterWrite src a be v wide s = _
  unfold execRegisterWrite
  rw [if_neg (by simp only [hn, decide_false, Bool.and_false]; decide)]

theorem exec_registerWrite_word (src : Source) {a : Nat} (v : Nat) (s : State) (h4 : a % 4 = 0) (h26 : a < 2 ^ 26) :
    exec (.registerWrite src a 15 v false) s = .next (s.put src a v) := by
  rw [execRegisterWrite_mapped src 15 v false s h26, regAddr_of h4 h26]
  rfl

/-- An aligned write of 8 bytes is the low word and at once the high word. -/
theorem exec_registerWrite_dword (src : Source) {a : Nat} (v : Nat) (s : State) (h8 : a % 8 = 0) (h26 : a < 2 ^ 26) :
    exec (.registerWrite src a 0xFF v true) s = .next ((s.put src a v).put src (a + 4) (v / 2 ^ 32)) := by
  rw [execRegisterWrite_mapped src 0xFF v true s h26, regAddr_of (by omega) h26, Nat.div_mul_cancel (Nat.dvd_of_mod_eq_zero h8)]
  rfl

/-! ### The staged word (R40) -/

/-- With its staged word removed, a source has none on the page. -/
@[simp] theorem findStage_unstage (s : State) (p : Nat) (src : Source) : findStage p src (s.unstage p src).staged = none := by
  unfold findStage State.unstage
  rw [List.find?_eq_none]
  intro x hx
  simpa [imp_iff_not_or] using (List.mem_filter.mp hx).2

theorem State.dropStage_none {s : State} {src : Source} {a o : Nat} (h : findStage (pageBase a) src s.staged = none) :
    s.dropStage src a o = s := by
  simp only [State.dropStage, h]

/-- A write of the register whose low word is staged keeps it. -/
theorem State.dropStage_same {s : State} {src : Source} {a o : Nat} {st : Stage}
    (h : findStage (pageBase a) src s.staged = some st) (ho : st.off = o) : s.dropStage src a o = s := by
  simp only [State.dropStage, h, ho, if_true]

theorem State.dropStage_other {s : State} {src : Source} {a o : Nat} {st : Stage}
    (h : findStage (pageBase a) src s.staged = some st) (ho : st.off ≠ o) :
    s.dropStage src a o = (s.unstage (pageBase a) src).pageErr (pageBase a) 0x0004 (errInfo src a) := by
  simp only [State.dropStage, h, ho, if_false]

theorem State.headerDrop_some {s : State} {src : Source} {a : Nat} {st : Stage} (f : State → State)
    (h : findStage (pageBase a) src s.staged = some st) :
    s.headerDrop src a f = (f (s.unstage (pageBase a) src)).pageErr (pageBase a) 0x0004 (errInfo src a) := by
  simp only [State.headerDrop, h]

theorem State.Calm.unstage {s : State} (h : s.Calm) (p : Nat) (src : Source) : (s.unstage p src).Calm := h.of_eq rfl rfl

/-- The staged words alone change. -/
theorem OnlyChanges.staged (s : State) (l : List Stage) : OnlyChanges s { s with staged := l } [.staged] [] :=
  ⟨fun p hp => by cases p <;> first | exact absurd (List.mem_singleton_self _) hp | rfl | exact fun _ => rfl, fun _ _ => rfl⟩

/-! ### Whether the device takes a write -/

/-- An error recorded on a page opens and shuts no source. -/
theorem State.sourceShut_pageErr (s : State) (src : Source) {p : Nat} (hp : p % 0x1000 = 0) (c i : Nat) :
    (s.pageErr p c i).sourceShut src = s.sourceShut src := by
  cases src with
  | jtag => simp only [State.sourceShut, State.jtagShut, State.pageErr_sec]
  | smbus =>
    have hr : (s.pageErr p c i).rd 0x358094 = s.rd 0x358094 := s.rd_pageErr p c i _ (by omega) (by omega) (by omega) (by omega)
    change (!tbit ((s.pageErr p c i).rd 0x358094) 0) = !tbit (s.rd 0x358094) 0
    rw [hr]
  | _ => rfl

/-- Nor does it take READY from the page. -/
theorem State.ready_pageErr (s : State) (p c i : Nat) : (s.pageErr p c i).ready p = s.ready p := by
  unfold State.ready State.pageErr
  rw [State.rdb, State.rd_raise, if_neg (by omega)]
  split
  · exact State.rdb_wrb_ne s _ _ _ (by omega)
  · rw [State.rd_wr_ne _ _ (by omega), State.rd_wr_ne _ _ (by omega)]
    exact State.rdb_wrb s _ 9 0 true (by decide)

/-! ### A whole write of one word -/

section
variable {src : Source} {a : Nat} {s : State} {r : PageRow} {row : RegRow} {d : Nat} (hr : pageRow a = some r)
  (ho : 0x40 ≤ a % 0x1000) (hrow : findRow (rowsOf r.kind) (a % 0x1000) = some (row, d))
include hr ho hrow

/-- A source that no register takes writes from drops its staged word and is rejected. -/
theorem State.put_shut (hs : s.sourceShut src = true) (v : Nat) :
    s.put src a v = ((s.dropStage src a (a % 0x1000 - d)).reject src a).remoteFreed := by
  have ho' : ¬ a % 0x1000 < 0x40 := by omega
  have hreg : registerAt r (a % 0x1000) = true := by simp only [registerAt, if_neg ho', hrow, Option.isSome_some]
  have hstart : regStart r (a % 0x1000) = a % 0x1000 - d := by simp only [regStart, if_neg ho', hrow]
  simp only [State.put, State.writeWord, State.writeAt, hr, hs, hreg, if_true, State.refuseWrite, hstart]

/-- What the device does with a write of a block register that is ready. -/
theorem State.put_block (hs : s.sourceShut src = false) (hready : s.ready (pageBase a) = true) (v : Nat) :
    s.put src a v =
      (if (s.dropStage src a (a % 0x1000 - d)).allowed src (a - d) then
        bus.writeBlock src row d a (v % 2 ^ 32) (s.dropStage src a (a % 0x1000 - d))
      else (s.dropStage src a (a % 0x1000 - d)).reject src a).mdioFree.remoteFreed := by
  have ho' : ¬ a % 0x1000 < 0x40 := by omega
  simp only [State.put, State.writeWord, State.writeAt, hr, hs, Bus.write, ho', hrow, hready]
  cases ha : (s.dropStage src a (a % 0x1000 - d)).allowed src (a - d) <;> simp [bus, ha]

/-- Of a write that drops a staged word nothing is left but the drop and a write with nothing staged. -/
theorem State.put_dropped {st : Stage} (hst : findStage (pageBase a) src s.staged = some st) (hoff : st.off ≠ a % 0x1000 - d)
    (h : s.sourceShut src = true ∨ s.ready (pageBase a) = true) (v : Nat) :
    s.put src a v = ((s.unstage (pageBase a) src).pageErr (pageBase a) 0x0004 (errInfo src a)).put src a v := by
  generalize ht : (s.unstage (pageBase a) src).pageErr (pageBase a) 0x0004 (errInfo src a) = t
  have hd : s.dropStage src a (a % 0x1000 - d) = t := by rw [← ht, State.dropStage_other hst hoff]
  have hd' : t.dropStage src a (a % 0x1000 - d) = t := by
    refine State.dropStage_none ?_
    rw [← ht, State.pageErr_staged, findStage_unstage]
  have hshut : t.sourceShut src = s.sourceShut src := by
    rw [← ht, State.sourceShut_pageErr _ _ (show pageBase a % 0x1000 = 0 from Nat.mul_mod_left _ _)]
    cases src <;> rfl
  have hready : t.ready (pageBase a) = s.ready (pageBase a) := by
    rw [← ht, State.ready_pageErr]
    rfl
  cases hs : s.sourceShut src with
  | true => rw [State.put_shut hr ho hrow hs, State.put_shut hr ho hrow (hshut.trans hs), hd, hd']
  | false =>
    have hg := h.resolve_left (by simp [hs])
    rw [State.put_block hr ho hrow hs hg, State.put_block hr ho hrow (hshut.trans hs) (hready.trans hg), hd, hd']

end

/-! ### The two words of a 64-bit register -/

/-- The low word that the write of the high word at `a` takes: the staged one, or the current one (R40). -/
def State.lowTaken (s : State) (src : Source) (a : Nat) : Nat :=
  match findStage (pageBase a) src s.staged with
  | some st => if st.off + 4 = a % 0x1000 then st.low.toNat else s.live src (a - 4)
  | none => s.live src (a - 4)

theorem State.lowTaken_staged {s : State} {src : Source} {a : Nat} {st : Stage}
    (h : findStage (pageBase a) src s.staged = some st) (ho : st.off + 4 = a % 0x1000) : s.lowTaken src a = st.low.toNat := by
  rw [State.lowTaken, h]
  exact if_pos ho

theorem State.lowTaken_none {s : State} {src : Source} {a : Nat} (h : findStage (pageBase a) src s.staged = none) :
    s.lowTaken src a = s.live src (a - 4) := by
  rw [State.lowTaken, h]

section
variable {src : Source} {a v : Nat} {s : State} {row : RegRow} {e : WordEffect} (hw : row.wide = true)
  (hrej : rejects (s.rd a) v e = false) (hacc : e.accept ≠ 0)
include hw hrej hacc

/-- The low word is staged. -/
theorem bus_writeBlock_low (hwos : maskWhere (fun x => x = .wos) 0 row.masks = 0)
    (he : e = applyMasks (s.rd (pageBase a + 0x010)) (s.gateBits a) v 0 row.masks ⟨s.rd a, 0, 0⟩) :
    bus.writeBlock src row 0 a v s =
      { s with staged := ⟨pageBase a, src, a % 0x1000, BitVec.ofNat 32 e.value⟩ :: (s.unstage (pageBase a) src).staged } := by
  simp only [Bus.writeBlock, show (0 : Nat) < 4 from by decide, if_true, hwos]
  simp only [bus, ← he, hrej, hacc, hw]
  rfl

/-- The high word takes effect with the low word taken. -/
theorem bus_writeBlock_high (hwos : maskWhere (fun x => x = .wos) 1 row.masks = 0)
    (he : e = applyMasks (s.rd (pageBase a + 0x010)) (s.gateBits a) v 1 row.masks ⟨s.rd a, 0, 0⟩) :
    bus.writeBlock src row 4 a v s =
      State.regHook src (a - 4) (s.rd64 (a - 4)) (s.lowTaken src a + e.value * 2 ^ 32)
        ((s.unstage (pageBase a) src).wr64 (a - 4) (s.lowTaken src a + e.value * 2 ^ 32)) := by
  simp only [Bus.writeBlock, show ¬ (4 : Nat) < 4 from by decide, if_false, hwos, State.lowTaken]
  simp only [bus, ← he, hrej, hacc, hw]
  rfl

end

section
variable {src : Source} {a : Nat} {s : State} {r : PageRow} {row : RegRow} {e : WordEffect} (hr : pageRow a = some r)
  (ho : 0x40 ≤ a % 0x1000) (hw : row.wide = true) (hs : s.sourceShut src = false) (hready : s.ready (pageBase a) = true) (v : Nat)
  (hrej : rejects (s.rd a) (v % 2 ^ 32) e = false) (hacc : e.accept ≠ 0)
include hr ho hw hs hready hrej hacc

/-- A write of the low word with nothing staged: it is staged, and nothing else changes. -/
theorem State.put_low (hrow : findRow (rowsOf r.kind) (a % 0x1000) = some (row, 0))
    (hwos : maskWhere (fun x => x = .wos) 0 row.masks = 0) (hall : s.allowed src a = true)
    (hst : findStage (pageBase a) src s.staged = none) (hc : s.Calm)
    (he : e = applyMasks (s.rd (pageBase a + 0x010)) (s.gateBits a) (v % 2 ^ 32) 0 row.masks ⟨s.rd a, 0, 0⟩) :
    s.put src a v =
      { s with staged := ⟨pageBase a, src, a % 0x1000, BitVec.ofNat 32 e.value⟩ :: (s.unstage (pageBase a) src).staged } := by
  rw [State.put_block hr ho hrow hs hready, State.dropStage_none hst, Nat.sub_zero, if_pos hall,
    bus_writeBlock_low hw hrej hacc hwos he]
  exact State.Calm.ends (hc.of_eq rfl rfl)

/-- A write of the high word that drops nothing: both words take effect. -/
theorem State.put_high (hrow : findRow (rowsOf r.kind) (a % 0x1000) = some (row, 4))
    (hwos : maskWhere (fun x => x = .wos) 1 row.masks = 0) (hall : s.allowed src (a - 4) = true)
    (hkeep : s.dropStage src a (a % 0x1000 - 4) = s)
    (he : e = applyMasks (s.rd (pageBase a + 0x010)) (s.gateBits a) (v % 2 ^ 32) 1 row.masks ⟨s.rd a, 0, 0⟩) :
    s.put src a v =
      (State.regHook src (a - 4) (s.rd64 (a - 4)) (s.lowTaken src a + e.value * 2 ^ 32)
        ((s.unstage (pageBase a) src).wr64 (a - 4) (s.lowTaken src a + e.value * 2 ^ 32))).mdioFree.remoteFreed := by
  rw [State.put_block hr ho hrow hs hready, hkeep, if_pos hall, bus_writeBlock_high hw hrej hacc hwos he]

end

/-- A write of a header word acts as it does with nothing staged, and then leaves the error of the staged word dropped. -/
theorem State.put_header_dropped {src : Source} {a : Nat} {s : State} {r : PageRow} {st : Stage} (hr : pageRow a = some r)
    (ho : a % 0x1000 < 0x34) (hst : findStage (pageBase a) src s.staged = some st) (hs : s.sourceShut src = false) (hc : s.Calm)
    (v : Nat) :
    s.put src a v = ((s.unstage (pageBase a) src).put src a v).pageErr (pageBase a) 0x0004 (errInfo src a) := by
  have hu := hc.unstage (pageBase a) src
  have hx := hu.writeHeader src r a (v % 2 ^ 32) ho
  have hs' : (s.unstage (pageBase a) src).sourceShut src = false := by
    rw [← hs]
    cases src <;> rfl
  rw [State.put_header _ src a v r hr ho ⟨hs', findStage_unstage s _ _, hu.noAccess, hu.noRemote⟩, hx.ends]
  have h1 : ¬ 0x34 ≤ a % 0x1000 := by omega
  have h2 : a % 0x1000 < 0x40 := by omega
  have hput : s.put src a v = (s.headerDrop src a (bus.writeHeader src r a (v % 2 ^ 32))).mdioFree.remoteFreed := by
    simp [State.put, State.writeWord, State.writeAt, hr, hs, Bus.write, h1, h2]
  rw [hput, State.headerDrop_some _ hst]
  exact (hx.pageErr (pageBase a) _ _ (Nat.mul_mod_left _ _)).ends

/-- Settles O9: the two words by the equations of a block write, the staged word dropped by that of its drop; a write of a header word
ends calm, so that the error stands after it. -/
theorem sixtyFourBitRegistersAreWrittenWhole : Obligations.SixtyFourBitRegistersAreWrittenWhole := by
  unfold Obligations.SixtyFourBitRegistersAreWrittenWhole
  refine ⟨fun src a v s r row h4 h26 hr ho hw hlo hhi hs hready hmdio hrem => ⟨?_, ?_, ?_⟩,
    fun src a v s r st h4 h26 hr hst hrem => ⟨?_, ?_⟩⟩
  · intro hrow hall hst e he hrej hacc
    refine ⟨_, (exec_registerWrite_word src v s h4 h26).trans
      (congrArg _ (State.put_low hr ho hw hs hready v hrej hacc hrow hlo hall hst ⟨hmdio, hrem⟩ he)), ?_, OnlyChanges.staged s _⟩
    simp [findStage]
  · intro hrow hall e he hrej hacc
    have hput hkeep := State.put_high hr ho hw hs hready v hrej hacc hrow hhi hall hkeep he
    rw [exec_registerWrite_word src v s h4 h26]
    constructor
    · intro st hst hoff
      rw [hput (State.dropStage_same hst (by omega)), State.lowTaken_staged hst hoff]
    · intro hst
      rw [hput (State.dropStage_none hst), State.lowTaken_none hst]
  · intro h8 t ht
    rw [exec_registerWrite_word src _ s h4 h26, State.put_mod] at ht
    cases ht
    have h26' : a + 4 < 2 ^ 26 := by omega
    rw [exec_registerWrite_dword src v s h8 h26, exec_registerWrite_word src _ _ (by omega) h26']
  · rintro hopen ⟨row, d, hrow, ho, hoff⟩
    refine ⟨_, rfl, ?_, ?_⟩
    · rw [State.pageErr_staged, findStage_unstage]
    · rw [exec_registerWrite_word src v _ h4 h26, exec_registerWrite_word src v _ h4 h26,
        State.put_dropped hr ho hrow hst hoff hopen]
  · intro hs ho u hu hmdio' hmdio
    rw [exec_registerWrite_word src v _ h4 h26] at hu
    cases hu
    rw [exec_registerWrite_word src v s h4 h26, State.put_header_dropped hr ho hst hs ⟨hmdio, hrem⟩]

end Sys2Proof.Machine
end

section
/-!
SUPPORT. PAGE_CTRL (R51, R52): a write that takes effect beyond the header on a page with no work at its input.
-/
namespace Sys2Proof.Machine

/-- A report that was queued while the management page was quiesced, and so is held (R52, R431). -/
def heldReport : FleetMsg := { typ := 1, seq := 0, time := 0, payload := [], held := true }

/-- The management page enabled and quiesced, with a report in its queue and no work held at the input of any page. -/
def quiescedPort : State := { State.reset with fio := { queue := [heldReport] } }.wr 0x358008 3

/-- The host's header writes reach the page. -/
theorem quiescedPort_takesHeader : quiescedPort.takesHeader .host 0x358000 := by
  unfold State.takesHeader
  decide +kernel

/-- The write that ends quiesce lets the queued report go. -/
theorem quiescedPort_released :
    exec (.pageEnableWrite .host 0x358000 1) quiescedPort = .next (quiescedPort.put .host 0x358008 1) ∧
      (quiescedPort.put .host 0x358008 1).fio ≠ quiescedPort.fio := by
  exact ⟨rfl, by decide +kernel⟩

/-- Refutes O11, by its clause that nothing but PAGE_CTRL and the wedge watch changes on a page that holds no work at its input.  On the
management page the write that takes QUIESCE_REQ away also releases the fleet reports that were queued during quiesce, which are held in
the queue and not at the input (State.queueFreed), so the queue changes. -/
theorem not_pageHeadersLockCountAndControl : ¬ Obligations.PageHeadersLockCountAndControl := by
  unfold Obligations.PageHeadersLockCountAndControl
  intro h
  obtain ⟨-, -, hctrl, -⟩ := h
  obtain ⟨-, hquiet⟩ := hctrl .host 0x358000 1 quiescedPort ⟨.mgt, 0x358000, 1, 0x12, 0⟩ (by decide) (by decide) (by decide)
    quiescedPort_takesHeader _ (.inl rfl) _ rfl
  obtain ⟨t, hexec, -, hparts, -⟩ := hquiet (by intro x hx; cases hx) (by decide)
  rw [quiescedPort_released.1] at hexec
  cases hexec
  exact quiescedPort_released.2 (hparts .fio (by decide))

end Sys2Proof.Machine
end
